-- ==== Sys2Proof/Word.lean ====
section
/-! DEFINITION. The data units of the manual (spec/00_scope.md, R1 to R3): the 10-bit word and
the wider units built from it. -/

namespace Sys2Proof

/-- R1: a word is 10 bits. -/
abbrev Word := BitVec 10

/-- R1: a halfword is 16 bits. -/
abbrev Half := BitVec 16

/-- R1: a dword is 32 bits. -/
abbrev Dword := BitVec 32

/-- A byte of the flash die, of the staging window or of a certificate. -/
abbrev Byte := BitVec 8

/-- One 80-bit flit of the Tulle network (R224). -/
abbrev Flit := BitVec 80

/-- One 12-bit symbol of a Utausin link (R159). -/
abbrev Symbol := BitVec 12

/-- Device time in ns (R308). -/
abbrev Time := Nat

end Sys2Proof
end

