-- ==== Sys2Proof/Syntax.lean ====
section
/-! DEFINITION. The commands of the block: one constructor of `Instr` per row of the table of
operations and events, with the row's operands, and the engine instructions (spec/05_engine_isa.md)
that thirty-three of the rows execute. -/

namespace Sys2Proof

/-! Index types. Each is the range that the manual gives (R9, R10). -/

/-- An engine, JE00 to JE31 (R90); also a context-store bank. -/
abbrev Engine := Fin 32
/-- A link port, UL000 to UL127. -/
abbrev Link := Fin 128
/-- A slot of a link. -/
abbrev Slot := Fin 384
/-- A context handle (R56). -/
abbrev Handle := Fin 49152
/-- A fabric region, RGN00 to RGN63. -/
abbrev Region := Fin 64
/-- A shaft angle unit, ANG0 to ANG7. -/
abbrev Unit8 := Fin 8
/-- An MDLL, MDLL0 to MDLL7. -/
abbrev Mdll := Fin 8
/-- A user I/O bank, IOB0 to IOB7. -/
abbrev IoBank := Fin 8
/-- A class of the class table. -/
abbrev Class := Fin 64

/-! Engine instructions (R113 to R116). -/

/-- A working register V0 to V15. -/
abbrev VReg := Fin 16
/-- An accumulator A0 to A3. -/
abbrev AReg := Fin 4

/-- R114: a source specifier. -/
inductive Src where
  | v (n : VReg)
  | w (n : Fin 64)
  | a (n : AReg) (lane : Fin 3)
  | smp
  | zero
  | angw (unit : Unit8) (word : Fin 8)
  deriving DecidableEq, Repr

/-- R115: a source that may be an immediate (the I column of R120). -/
inductive SrcI where
  | reg (s : Src)
  | imm (k : Word)
  deriving DecidableEq, Repr

/-- R120: an index position takes kinds V and ZERO only. -/
inductive Idx where
  | v (n : VReg)
  | zero
  deriving DecidableEq, Repr

/-- R120: an offset-base position takes kinds V, W, ZERO, ANGW, or A with lane 0. -/
inductive Base where
  | v (n : VReg)
  | w (n : Fin 64)
  | a (n : AReg)
  | zero
  | angw (unit : Unit8) (word : Fin 8)
  deriving DecidableEq, Repr

/-- R119: the condition codes, in the order of their numbers. -/
inductive Cond where
  | al | eq | ne | hs | lo | mi | pl | vs | vc | hi | ls | ge | lt | gt | le | sat
  deriving DecidableEq, Repr

/-- R124: the product modes of MUL and MAC. -/
inductive MulMode where
  | ss | uu | su
  deriving DecidableEq, Repr

/-- Operands of an operation with a destination Vd, a source a and a source b. -/
structure Alu where
  d : VReg
  a : Src
  b : SrcI
  deriving DecidableEq, Repr

/-- As `Alu`, with the modifier U (ADDS, SUBS, MIN, MAX). -/
structure AluU where
  u : Bool
  d : VReg
  a : Src
  b : SrcI
  deriving DecidableEq, Repr

/-- Operands of MUL and MAC. -/
structure MulOp where
  mode : MulMode
  d : AReg
  a : Src
  b : SrcI
  deriving DecidableEq, Repr

/-- Operands of EMIT's and SAFE's offset: base + u(addend) (R131). -/
structure Offs where
  base : Base
  add : Word
  deriving DecidableEq, Repr

/-- Operands of FCALL (R130): the target, the destination, the first request register, the function
code, whether two response words are taken (R2) and the number of request words. -/
structure FcallOp where
  target : Fin 16
  d : VReg
  first : VReg
  code : Word
  r2 : Bool
  count : Fin 4
  deriving DecidableEq, Repr

/-- R120: the 33 operations of an engine with their operands. -/
inductive EInstr where
  | nop
  | endv
  | ldw (d : VReg) (i : Idx) (base : Fin 64)
  | stw (src : Src) (i : Idx) (base : Fin 64)
  | ldi (d : AReg) (u : Bool) (hi lo : Word)
  | mov (d : VReg) (b : SrcI)
  | add (x : Alu)
  | sub (x : Alu)
  | adds (x : AluU)
  | subs (x : AluU)
  | and (x : Alu)
  | or (x : Alu)
  | xor (x : Alu)
  | shl (x : Alu)
  | shr (x : Alu)
  | asr (x : Alu)
  | cmp (a : Src) (b : SrcI)
  | min (x : AluU)
  | max (x : AluU)
  | sel (c : Cond) (x : Alu)
  | mul (x : MulOp)
  | mac (x : MulOp)
  | aclr (d : AReg)
  | ashr (d : AReg) (r : Bool) (n : SrcI)
  | ast (d : VReg) (u : Bool) (src : AReg)
  | br (c : Cond) (target : BitVec 12)
  | skip (c : Cond) (count : Word)
  | lut (x : Alu)
  | ang (d : AReg) (unit : Unit8) (fraction : SrcI)
  | emit (value : Src) (o : Offs)
  | hold
  | fcall (x : FcallOp)
  | safe (o : Offs)
  deriving DecidableEq, Repr

/-! Operands that come from outside the block. -/

/-- An error that has come about in one of the block's memories by the time of the command: in an
ECC group of a context-store slot (with the data bits it flips; `ue` when it cannot be corrected), in
an instruction of a microcode copy, in copies of a handle-table entry (bit 0 first, bit 1 second), in
the quarantine map, in a safe-table entry, or in a canary word of a bank in retention. -/
inductive Upset where
  | ecc (slot : Fin 51200) (group : Fin 16) (ue : Bool) (flip : BitVec 40)
  | mc (copy : Fin 8) (plane : Fin 2) (addr : Fin 4096)
  | hmap (h : Handle) (copies : Fin 4)
  | qmap (h : Handle)
  | safe (slot : Fin 49152)
  | canary (bank : Fin 32) (k : Fin 16) (flip : Word)
  deriving DecidableEq, Repr

/-- One halfword of a BAR2 write with its two byte enables (R57). -/
structure Hw where
  data : Half
  be : BitVec 2
  deriving DecidableEq, Repr

/-- R159 to R161: one upstream symbol as an aligned receiver reads it: its twelve bits, descrambled, and whether its
framing bits were 0 and 1. -/
structure RxSym where
  framed : Bool
  sym : BitVec 12
  deriving DecidableEq, Repr

/-- R175: one section of an upstream frame; `good` when its CRC checks. A sample of none is NOS. -/
structure Section where
  pos : Fin 8
  stat0 : Word
  stat1 : Word
  samples : List (Option Word)
  good : Bool
  deriving DecidableEq, Repr

/-- R174: an upstream frame; no tag where its second symbol is none. -/
structure UpFrame where
  hold : Bool
  utag : Option Word
  sections : List Section
  deriving DecidableEq, Repr

/-- R186: an ID record; `good` when its CRC checks. -/
structure IdRec where
  last : Bool
  pos : Fin 8
  count : Word
  typ : Word
  rev : Word
  good : Bool
  deriving DecidableEq, Repr

/-- What the flash cells answer during a routine, by physical sector (block × 512 + page × 4 + sector of
the page), page (block × 128 + page) and block: the sectors that are uncorrectable at the normal
reference, the most bits corrected in a sector, the worst count of a page at the margin, the pulses
that an erase needs (more than 40: it fails), and pages that do not read back as programmed. -/
structure FlashEnv where
  unc : List Nat
  corr : Nat
  margin : List (Nat × Nat)
  pulses : List (Nat × Nat)
  progBad : List Nat
  deriving DecidableEq, Repr

/-- R213: the operation of a RAM access. -/
inductive RamOp where
  | write | set | clear | read
  deriving DecidableEq, Repr

/-- One port's access to a fabric RAM block, with what the other port writes to the same word in the
same cycle, if anything (R214 to R216). -/
structure RamAcc where
  region : Region
  block : Fin 40
  portB : Bool
  addr : Fin 2048
  data : BitVec 20
  other : Option (RamOp × BitVec 20)
  deriving DecidableEq, Repr

/-- R219: one request on the fabric port of pattern RAM. -/
structure PatReq where
  addr : BitVec 20
  data : Word
  tag : BitVec 8
  deriving DecidableEq, Repr

/-- R221, R222: one operation of the arithmetic block or cascade whose top block is `top`. -/
structure ArOp where
  region : Region
  top : Fin 20
  a : BitVec 30
  b : BitVec 20
  d : BitVec 30
  deriving DecidableEq, Repr

/-- R321: what a wake input does: an edge to a level that it then keeps for `width` ns, or a level that it has
had at so many consecutive edges of the slow clock. -/
inductive Detect where
  | edge (level : Bool) (width : Nat)
  | level (level : Bool) (samples : Nat)
  deriving DecidableEq, Repr

/-- R330: the input of an ADC channel and the voltage on ADC_VREF, in the same unit. -/
structure AdcIn where
  vin : Nat
  vref : Nat
  deriving DecidableEq, Repr

/-- R330: the result of a conversion. -/
def AdcIn.result (x : AdcIn) : Word := BitVec.ofNat 10 (Nat.min 1023 (1024 * x.vin / x.vref))

/-- A pin that has been at a level for `ns` when the row's time comes (R364, R383). -/
structure PinFor where
  t : Time
  ns : Nat
  deriving DecidableEq, Repr

/-- R394, R395: what starts a POR: VCC_MUS rises through its threshold, or POR_B, low for so many ns, goes high. -/
structure PorIn where
  t : Time
  low : Option Nat
  deriving DecidableEq, Repr

/-- R391: a rail that has stayed below its undervoltage threshold for `ns`. -/
structure RailIn where
  rail : Fin 6
  ns : Nat
  deriving DecidableEq, Repr

/-- R383: PFW_B has been high for `ns`, and whether every rail has been within its limits. -/
structure PfwHigh where
  t : Time
  ns : Nat
  rails : Bool
  deriving DecidableEq, Repr

/-- R348, R365: a high level of `width` ns on partner LIVE, and the level of partner HLTH. -/
structure LiveIn where
  width : Nat
  hlth : Bool
  deriving DecidableEq, Repr

/-- R334, R341: VCC_MUS is lost in a step of a transition (PHASE 1 to 4, as 0 to 3), when so much of the step was done:
fuses of its group blown, or, in the wipe, its rounds of erases, then its units of the OTP row. -/
structure LostIn where
  step : Fin 4
  done : Nat
  deriving DecidableEq, Repr

/-- R346: what a JTAG access asks for. -/
inductive JtagOp where
  /-- An instruction code shifted in (R443). -/
  | ir (code : BitVec 8)
  /-- A data shift, the first bit first (R443). -/
  | shift (bits : List Bool)
  /-- Internal debug: read of a BAR0 dword. -/
  | debugRead (off : BitVec 21)
  /-- Internal debug: write of a BAR0 dword. -/
  | debugWrite (off : BitVec 21) (v : Dword)
  /-- Internal debug: read of a dword of BAR2. -/
  | windowRead (off : BitVec 26)
  /-- Internal debug: write of a dword of BAR2. -/
  | windowWrite (off : BitVec 26) (v : Dword)
  /-- Readback of one byte of a configuration plane. -/
  | plane (region : Region) (voile : Bool) (off : BitVec 18)
  /-- A maker test mode. -/
  | maker
  deriving DecidableEq, Repr

/-- R352: a parcel's change as the standby receives it. -/
inductive FwdOp where
  | reg (off : BitVec 21) (v : Dword)
  | bar2 (off : BitVec 26) (v : Half)
  | group (id : BitVec 16)
  | place (h : Handle) (slot : Fin 51200)
  | actSet
  | training (l : Link) (recs : List IdRec)
  deriving DecidableEq, Repr

/-- R353: a frame record as received; `lat` is how many ns before its arrival the primary registered its
frame start. -/
structure RecIn where
  lat : Nat
  fn : BitVec 48
  idle : Bool
  snap : List Word
  batch : Nat
  visits : List Nat
  digest : Dword
  sw : Bool
  /-- R264: the primary's activation set takes effect at this frame start. -/
  set : Bool
  deriving DecidableEq, Repr

/-- One entry of a waiting commit group in a state transfer: 0 a written word, 1 a set alias, 2 a clear alias,
3 a release. -/
structure XferEntry where
  kind : Fin 4
  h : Handle
  w : Fin 64
  v : Word
  deriving DecidableEq, Repr

/-- R359: the items of a full state transfer as the standby receives them: register values of the FRM, CTX,
PLC and JE00 pages (frame controller and placement state, group counter, FCALL targets), the handle table and
pins, the context store's words, waiting groups, the quarantine map with the first frame covered, the safe
table, the sample table, both class tables, the FCALL ports in force, microcode and pattern RAM. -/
structure XferIn where
  regs : List (BitVec 21 × Dword)
  home : List (Handle × Fin 51200)
  pins : List (Handle × Engine)
  /-- R151: the allocations in use, as ID, base and number of regions, and the ID given next. -/
  allocs : List (Fin 256 × Region × Fin 65)
  nextAlloc : Fin 256
  words : List (Fin 3276800 × Word)
  groups : List (BitVec 16 × List XferEntry)
  quar : List (Handle × BitVec 48)
  safe : List (Fin 49152 × Fin 4 × Word)
  smps : List (Fin 49152 × Word × Bool × BitVec 8)
  inf : List (Class × Bool × BitVec 12 × BitVec 12)
  pend : List (Class × Bool × BitVec 12 × BitVec 12)
  ports : List (Fin 16 × BitVec 10)
  mc : List (Fin 8192 × BitVec 40)
  pat : List (BitVec 20 × Word)
  /-- R360: the forwarded record of the frame N in which context records were read, when one was in force, and
  for the records read in it the point: 0 before its visit, 1 after its visit, 2 after the apply window. -/
  frame : Option RecIn
  tags : List (Handle × Fin 3)
  deriving DecidableEq, Repr

/-- R161: symbols as a receiver hears them on its line, for one uplink. -/
structure Heard where
  link : Link
  syms : List (BitVec 14)
  deriving DecidableEq, Repr

/-- R189: a rising edge of an angle unit's Z input and the time (ns) for which the level has been stable. -/
structure IndexEdge where
  unit : Unit8
  stable : Time
  deriving DecidableEq, Repr

/-- R236: the levels at a bank's pins and the time (ns) for which they have been stable. -/
structure PinsIn where
  levels : BitVec 48
  stable : Time
  deriving DecidableEq, Repr

/-- R421: the address of a service-port transaction, and the clocks of SVC_SCK that it has. -/
structure SpIn where
  addr : BitVec 24
  clocks : Nat
  deriving DecidableEq, Repr

/-- R421: a service-port transaction that is neither a WRITE nor a READ: its time, its command byte (0x05 is STATUS, any
byte but 0x02 and 0x0B is here) and the clocks of SVC_SCK that it has. -/
structure SpCmd where
  t : Time
  cmd : BitVec 8
  clocks : Nat
  deriving DecidableEq, Repr

/-- R292, R383: what bring-up finds outside the digital part: a fuse that reads bad, and for each check of the
reference inputs the edges counted on REFCLK and on the crystal. -/
structure ReadyIn where
  fuseBad : Bool
  refs : List (Nat × Nat)
  deriving DecidableEq, Repr

/-- The commands and events of the block. Host and outside events carry the device time `t` (in ns)
at which they happen; an event of the block's own timers happens at the time its timer gives. -/
inductive Instr where
  -- frame controller
  | frmCmdRun (t : Time)
  | frmCmdHold (t : Time)
  | frmCmdStop (t : Time)
  | sourceSwitch (t : Time) (v : Dword)
  | minperWrite (t : Time) (v : Dword)
  | fbperWrite (t : Time) (v : Dword)
  | admissionEvaluation (t : Time)
  | fixedTimerTick
  | tickInEdge (t : Time) (level : Bool) (stable : Time)
  | tickRegistration
  | heldTick
  | fallbackExpiry
  | tickOutEnd
  | computeEnd
  | applyDeadline
  | admrefRead (t : Time)
  | fnLoRead (t : Time)
  -- contexts
  | contextWindowWrite (t : Time) (off : BitVec 23) (data : List Hw)
  | contextSetAlias (t : Time) (off : BitVec 23) (data : List Hw)
  | contextClearAlias (t : Time) (off : BitVec 23) (data : List Hw)
  | contextWindowRead (t : Time) (off : BitVec 23) (count : Nat) (ups : List Upset)
  | qrelWrite (t : Time) (v : Dword)
  | commitGo (t : Time)
  | commitAbandon (t : Time)
  | groupApplyStop (t : Time)
  | safedataWrite (t : Time) (v : Dword)
  | safedataRead (t : Time)
  | scrubRead (t : Time) (bank : Engine) (ups : List Upset)
  | qmapParityCheck (t : Time) (ups : List Upset)
  -- engines
  | visit (e : Engine) (ups : List Upset)
  | nop (e : Engine)
  | endv (e : Engine)
  | ldw (e : Engine) (d : VReg) (i : Idx) (base : Fin 64)
  | stw (e : Engine) (src : Src) (i : Idx) (base : Fin 64)
  | ldi (e : Engine) (d : AReg) (u : Bool) (hi lo : Word)
  | mov (e : Engine) (d : VReg) (b : SrcI)
  | add (e : Engine) (x : Alu)
  | sub (e : Engine) (x : Alu)
  | adds (e : Engine) (x : AluU)
  | subs (e : Engine) (x : AluU)
  | and (e : Engine) (x : Alu)
  | or (e : Engine) (x : Alu)
  | xor (e : Engine) (x : Alu)
  | shl (e : Engine) (x : Alu)
  | shr (e : Engine) (x : Alu)
  | asr (e : Engine) (x : Alu)
  | cmp (e : Engine) (a : Src) (b : SrcI)
  | min (e : Engine) (x : AluU)
  | max (e : Engine) (x : AluU)
  | sel (e : Engine) (c : Cond) (x : Alu)
  | mul (e : Engine) (x : MulOp)
  | mac (e : Engine) (x : MulOp)
  | aclr (e : Engine) (d : AReg)
  | ashr (e : Engine) (d : AReg) (r : Bool) (n : SrcI)
  | ast (e : Engine) (d : VReg) (u : Bool) (src : AReg)
  | br (e : Engine) (c : Cond) (target : BitVec 12)
  | skip (e : Engine) (c : Cond) (count : Word)
  | lut (e : Engine) (x : Alu)
  | ang (e : Engine) (d : AReg) (unit : Unit8) (fraction : SrcI)
  | emit (e : Engine) (value : Src) (o : Offs)
  | hold (e : Engine)
  | fcall (e : Engine) (x : FcallOp)
  | safe (e : Engine) (o : Offs) (ups : List Upset)
  -- microcode and class table
  | mcdata0Write (t : Time) (v : Dword)
  | mcdata1Write (t : Time) (v : Dword)
  | ctdataWrite (t : Time) (v : Dword)
  | fctgtWrite (t : Time) (n : Fin 16) (v : Dword)
  | ctcmdVerify (t : Time)
  | ctcmdRevert (t : Time)
  | verifyComplete (t : Time)
  | mcParityCheck (t : Time) (ups : List Upset)
  -- placement
  | hmapParityCheck (t : Time) (ups : List Upset)
  | stopBalanceTimer (t : Time)
  | migrationCopy (ups : List Upset)
  | pin (t : Time) (bank : Engine)
  | unpin (t : Time)
  | exclude (t : Time) (bank : Engine)
  | include (t : Time)
  | btcmdStart (t : Time)
  | selftestEnd (fail : Option (Fin 6400 × Fin 188))
  | rreq (t : Time) (v : Dword)
  | rfree (t : Time) (v : Dword)
  -- links
  | ulCmdTrain (t : Time) (l : Link)
  | ulCmdDown (t : Time) (l : Link)
  | autotrainTimer (l : Link)
  | trainingAligned (t : Time) (x : Heard)
  | discRepeat (l : Link)
  | idRecord (t : Time) (l : Link) (xs : List RxSym)
  | cfgRepeat (l : Link)
  | ack (t : Time) (l : Link) (x : RxSym)
  | trainingTimeout (l : Link)
  | emissionStart (l : Link) (ups : List Upset)
  | nak (t : Time) (l : Link) (x : RxSym)
  | upstreamFrame (t : Time) (l : Link) (xs : List RxSym)
  | holdFrame (l : Link)
  | alignmentLoss (t : Time) (l : Link) (xs : List RxSym)
  | upstreamWatchdog (l : Link)
  -- angle units
  | encoderEdge (t : Time) (u : Unit8) (ab : Bool × Bool) (stable : Time)
  | indexEvent (t : Time) (x : IndexEdge)
  | stoptimeExpiry (u : Unit8)
  | angCoast (u : Unit8)
  | angCmdHome (t : Time) (u : Unit8)
  | angCmdRehome (t : Time) (u : Unit8)
  | cprWrite (t : Time) (u : Unit8) (v : Dword)
  | dprWrite (t : Time) (u : Unit8) (v : Dword)
  | angCtrlWrite (t : Time) (u : Unit8) (v : Dword)
  | tslastLoRead (t : Time) (u : Unit8)
  -- fabric
  | ramWrite (x : RamAcc)
  | ramSet (x : RamAcc)
  | ramClear (x : RamAcc)
  | ramRead (x : RamAcc) (flip : BitVec 20)
  | patternRamHostWrite (t : Time) (off : BitVec 21) (data : List Hw) (lost : List Nat)
  | patternSetAlias (t : Time) (off : BitVec 21) (data : List Hw) (lost : List Nat)
  | patternClearAlias (t : Time) (off : BitVec 21) (data : List Hw) (lost : List Nat)
  | patternFabricRead (x : PatReq)
  | patternFabricWrite (x : PatReq)
  | patternFabricSet (x : PatReq)
  | patternFabricClear (x : PatReq)
  | streamFlitAccept (t : Time) (src : BitVec 10) (flit : Flit)
  | streamFlitPresent
  | fcallResponse (t : Time) (e : Engine) (r : Region) (w0 w1 : Word)
  | fabricWindowAccess (t : Time) (write : Bool) (off : BitVec 24) (data : Half)
  | fabricWindowTimeout
  | iobInputChange (t : Time) (b : IoBank) (x : PinsIn)
  | vioMismatch (t : Time) (b : IoBank) (vdet : Fin 4)
  | pincfgWrite (t : Time) (b : IoBank) (v : Dword)
  -- configuration
  | planeCheck (t : Time) (bad : Bool)
  | stagingWrite (t : Time) (off : BitVec 18) (v : Dword) (be : BitVec 4)
  | stgctlDone (t : Time) (v : Dword)
  | stagingTimeout
  | asArm (t : Time) (mode : Bool)
  | asCancel (t : Time)
  | asClear (t : Time)
  | swapAck (t : Time) (r : Region)
  | quiesceTimeout (r : Region)
  | asInternalBoundary (t : Time)
  -- flash and routines
  | svcCmdWrite (t : Time) (v : Dword)
  | cplRead (t : Time)
  | flRead (t : Time) (env : FlashEnv)
  | flProg (t : Time) (env : FlashEnv)
  | flErase (t : Time) (env : FlashEnv)
  | flVerify (t : Time) (env : FlashEnv)
  | flScan (t : Time) (env : FlashEnv)
  | flRefresh (t : Time) (env : FlashEnv)
  | flInfo (t : Time)
  | otpRead (t : Time)
  | otpProg (t : Time) (env : FlashEnv)
  | zoneLock (t : Time)
  | zoneUnlock (t : Time)
  | zoneSetpw (t : Time)
  | imgInstall (t : Time) (env : FlashEnv)
  | imgSelect (t : Time) (env : FlashEnv)
  | imgLoad (t : Time) (env : FlashEnv)
  | logReadsave (t : Time) (env : FlashEnv)
  | routineTimeout (t : Time)
  | backgroundOperation (t : Time)
  | backgroundOperationEnd (t : Time) (env : FlashEnv)
  | bgSuspend (t : Time)
  | bgResume (t : Time)
  -- clocks
  | mdllEnable (t : Time) (n : Mdll)
  | mdllDisable (t : Time) (n : Mdll)
  | forcedPeriodEnd (t : Time) (n : Mdll)
  | mdllLock (t : Time) (n : Mdll)
  | lockTimeout (n : Mdll)
  | mdllUnlock (t : Time) (n : Mdll)
  | windowRestore (t : Time) (n : Mdll)
  | multWrite (t : Time) (n : Mdll) (v : Dword)
  | rampDone (t : Time) (n : Mdll)
  | spreadWrite (t : Time) (n : Mdll) (v : Dword)
  | divWrite (t : Time) (n : Mdll) (v : Dword)
  | phaseStepsWrite (t : Time) (n : Mdll) (v : Dword)
  | banddataWrite (t : Time) (n : Mdll) (v : Dword)
  | refLoss (t : Time)
  | refReturn (t : Time)
  | coastLimit
  | timeLoRead (t : Time)
  | stoppedClockAccess (t : Time) (addr : BitVec 21) (write : Bool)
  -- power
  | pwrCmdGauze (t : Time)
  | gauzePhaseB (t : Time)
  | wakeIn (t : Time) (d : Detect)
  | watchPin (t : Time) (i : Fin 16) (d : Detect)
  | samplingEvent (pins : BitVec 16) (adc : List AdcIn)
  | pwrCmdWake (t : Time)
  | ioholdRelease (t : Time)
  | adcConversion (t : Time) (v : AdcIn)
  -- reset
  | por (x : PorIn)
  | sysReset (t : Time) (v : Dword)
  | undervoltageReset (t : Time) (x : RailIn)
  | ready (t : Time) (env : FlashEnv) (ups : List Upset) (x : ReadyIn)
  | perst (t : Time)
  | pfwAssert (x : PinFor)
  | pfwRelease (x : PfwHigh)
  -- life cycle
  | lcsTransition (t : Time) (v : Dword) (env : FlashEnv) (bad : Bool × Bool) (lost : Option LostIn)
  | certcmdVerify (t : Time)
  | certVerifyDone (t : Time)
  | certcmdClear (t : Time)
  -- twin
  | joinpri (t : Time)
  | joinstby (t : Time) (sameImages : Bool)
  | leave (t : Time)
  | switch (t : Time) (eligible : Bool)
  | frameRecord (t : Time) (r : RecIn)
  | sampleBatch (t : Time) (n : Nat) (l : Link) (x : Section)
  | forwardedWrite (t : Time) (op : FwdOp)
  | mirrorAck (t : Time)
  | parcelResend (t : Time)
  | pairdown (t : Time) (lanes : BitVec 4)
  | stateTransfer (t : Time) (x : Option XferIn)
  | synced (t : Time)
  | heartbeatMiss (t : Time)
  | partnerHlthLow (x : PinFor)
  | promotion (t : Time) (pulse : Bool)
  | partnerLive (t : Time) (x : LiveIn)
  | livePulse (t : Time)
  -- environment and log
  | thermalRead (t : Time) (temps : List (Fin 1024))
  | marginCheck (t : Time) (mv : List Nat)
  | user (t : Time) (v : Dword)
  | unfreeze (t : Time)
  | ent0Read (t : Time)
  -- host interface
  | spWrite (t : Time) (x : SpIn) (v : Dword)
  | spRead (t : Time) (x : SpIn) (period : Nat)
  | spStatus (x : SpCmd)
  | pgIrqstWrite (t : Time) (page : Fin 512) (v : Dword)
  | msixUnmask (t : Time) (entry : Option (Fin 32))
  | pgCtrlEn (t : Time) (page : Fin 512) (en : Bool)
  | pgCtrlSrst (t : Time) (page : Fin 512)
  | pgCtrlFreeze (t : Time) (page : Fin 512) (on : Bool)
  | pgLockWrite (t : Time) (page : Fin 512) (v : Dword)
  | registerWrite (t : Time) (bar2 : Bool) (off : BitVec 26) (v : Dword) (be : BitVec 4)
  | registerRead (t : Time) (bar2 : Bool) (off : BitVec 26) (be : BitVec 4)
  | fabricWindowResponse (t : Time) (r : Region) (data : Half)
  | vioAgreement (t : Time) (b : IoBank)
  | arithmeticBlockOperation (x : ArOp)
  | receiverAligned (t : Time) (x : Heard)
  | pairLinkUp (t : Time) (hlth : Bool)
  | vccMusLoss (t : Time)
  | pcieLinkUp (t : Time) (width : Fin 3) (speed : Fin 3)
  | pcieLinkDown (t : Time)
  | perstRelease (t : Time)
  | d3hotTransition (t : Time) (into : Bool)
  | jtagInstruction (t : Time) (op : JtagOp)
  deriving DecidableEq, Repr

end Sys2Proof
end

