-- ==== Sys2Proof/WellFormed.lean ====
section
/-! DEFINITION. Which terms are commands that the manual admits: the ranges that the operand types do
not already enforce. -/

namespace Sys2Proof

/-- R130: neither the request registers nor the response registers of an FCALL pass V15. -/
def FcallOp.wf (x : FcallOp) : Bool :=
  decide (x.first.val + x.count.val ≤ 16) && decide (x.d.val + x.r2.toNat ≤ 15)

/-- R116: an engine instruction that its encoding admits. -/
def EInstr.wf : EInstr → Bool
  | .fcall x => x.wf
  | _ => true

/-- R175: a section reports at most one symbol for each slot of a link. -/
def Section.wf (s : Section) : Bool := decide (s.samples.length ≤ 384)

/-- R353: a record carries eight snapshots of eight words and a count for each engine. -/
def RecIn.wf (r : RecIn) : Bool := decide (r.snap.length = 64) && decide (r.visits.length = 32)

/-- R330: there is a voltage on ADC_VREF. -/
def AdcIn.wf (x : AdcIn) : Bool := decide (0 < x.vref)

/-- R410, R56: host accesses are aligned to the unit they move. -/
def aligned (off unit : Nat) : Bool := decide (off % unit = 0)

/-- The commands that the manual admits. -/
def Instr.wf : Instr → Bool
  | .contextWindowWrite _ off _ => aligned off.toNat 2
  | .contextSetAlias _ off _ => aligned off.toNat 2
  | .contextClearAlias _ off _ => aligned off.toNat 2
  | .contextWindowRead _ off n _ => aligned off.toNat 2 && decide (n ≤ 256)
  | .patternRamHostWrite _ off _ _ => aligned off.toNat 2
  | .patternSetAlias _ off _ _ => aligned off.toNat 2
  | .patternClearAlias _ off _ _ => aligned off.toNat 2
  | .fcall _ x => x.wf
  | .fabricWindowAccess _ _ off _ => aligned off.toNat 2
  | .stagingWrite _ off _ _ => aligned off.toNat 4
  | .sampleBatch _ _ _ s => s.wf
  | .frameRecord _ r => r.wf
  | .thermalRead _ temps => decide (temps.length = 64)
  | .marginCheck _ mv => decide (mv.length = 4)
  | .samplingEvent _ adc => decide (adc.length = 16) && adc.all AdcIn.wf
  | .adcConversion _ v => v.wf
  | .registerWrite _ _ off _ _ => aligned off.toNat 4
  | .registerRead _ _ off _ => aligned off.toNat 4
  | _ => true

end Sys2Proof
end

