-- ==== Sys2Proof/Decode.lean ====
section
/-! DEFINITION. Decoding. The table of operations and events gives its rows no bits, so no word
spells a command; what the manual does encode is the 40-bit engine instruction (spec/05_engine_isa.md),
decoded here and encoded after it. -/

namespace Sys2Proof

/-- The command that a word spells by the table's bits: the table gives no row any bits. -/
def decodeTableWord (_nbits _w : Nat) : Option Instr := none

/-- A 40-bit engine instruction as its four syllables, S0 in the low bits (R113). -/
abbrev Code := BitVec 40

/-- Syllable `k` of an instruction. -/
def syl (c : Code) (k : Nat) : Word := c.extractLsb' (10 * k) 10

/-- An instruction from its syllables. -/
def ofSyl (s0 s1 s2 s3 : Word) : Code := s3 ++ s2 ++ s1 ++ s0

/-- Bits `lo` up to `lo + n` of a word, as a number. -/
def bitsOf (w : Word) (lo n : Nat) : Nat := w.toNat / 2 ^ lo % 2 ^ n

/-- R114: a source specifier; `none` for an undefined kind, a nonzero must-be-0 bit or lane 3. -/
def decSrc (w : Word) : Option Src :=
  let f := bitsOf w 0 6
  match bitsOf w 6 4 with
  | 0 => if f < 16 then some (.v (Fin.ofNat 16 f)) else none
  | 1 => some (.w (Fin.ofNat 64 f))
  | 2 => if f < 16 ∧ f % 4 < 3 then some (.a (Fin.ofNat 4 (f / 4)) (Fin.ofNat 3 (f % 4))) else none
  | 3 => if f = 0 then some .smp else none
  | 4 => if f = 0 then some .zero else none
  | 5 => some (.angw (Fin.ofNat 8 (f / 8)) (Fin.ofNat 8 (f % 8)))
  | _ => none

/-- R114: a destination specifier of kind V. -/
def decV (w : Word) : Option VReg :=
  match decSrc w with
  | some (.v n) => some n
  | _ => none

/-- R114: a destination specifier that names a whole accumulator (kind A, lane 0). -/
def decA (w : Word) : Option AReg :=
  match decSrc w with
  | some (.a n l) => if l = 0 then some n else none
  | _ => none

/-- R115: S3 as a source, an immediate when I is 1. -/
def decSrcI (i : Bool) (w : Word) : Option SrcI :=
  if i then some (.imm w) else (decSrc w).map SrcI.reg

/-- R120: an index position. -/
def decIdx (w : Word) : Option Idx :=
  match decSrc w with
  | some (.v n) => some (.v n)
  | some .zero => some .zero
  | _ => none

/-- R120: an offset-base position. -/
def decBase (w : Word) : Option Base :=
  match decSrc w with
  | some (.v n) => some (.v n)
  | some (.w n) => some (.w n)
  | some (.a n l) => if l = 0 then some (.a n) else none
  | some .zero => some .zero
  | some (.angw u k) => some (.angw u k)
  | _ => none

/-- R119: the condition with a code. -/
def condOf (n : Nat) : Cond :=
  match n % 16 with
  | 0 => .al | 1 => .eq | 2 => .ne | 3 => .hs | 4 => .lo | 5 => .mi | 6 => .pl | 7 => .vs
  | 8 => .vc | 9 => .hi | 10 => .ls | 11 => .ge | 12 => .lt | 13 => .gt | 14 => .le | _ => .sat

/-- R119: the code of a condition. -/
def condNum : Cond → Nat
  | .al => 0 | .eq => 1 | .ne => 2 | .hs => 3 | .lo => 4 | .mi => 5 | .pl => 6 | .vs => 7
  | .vc => 8 | .hi => 9 | .ls => 10 | .ge => 11 | .lt => 12 | .gt => 13 | .le => 14 | .sat => 15

/-- R124: the product mode of M[1:0]; 0b11 is undefined. -/
def mulModeOf (m : Nat) : Option MulMode :=
  match m with
  | 0 => some .ss | 1 => some .uu | 2 => some .su | _ => none

/-- R124: M[1:0] of a product mode. -/
def mulModeNum : MulMode → Nat
  | .ss => 0 | .uu => 1 | .su => 2

/-- Vd, a and b of a three-operand operation. -/
def decAlu (i : Bool) (s1 s2 s3 : Word) : Option Alu :=
  match decV s1, decSrc s2, decSrcI i s3 with
  | some d, some a, some b => some ⟨d, a, b⟩
  | _, _, _ => none

/-- As `decAlu`, with M[0] as U; the other M bits must be 0. -/
def decAluU (i : Bool) (m : Nat) (s1 s2 s3 : Word) : Option AluU :=
  if m < 2 then (decAlu i s1 s2 s3).map (fun x => ⟨decide (m = 1), x.d, x.a, x.b⟩) else none

/-- Ad, a, b and the mode of MUL and MAC; M[2] must be 0. -/
def decMul (i : Bool) (m : Nat) (s1 s2 s3 : Word) : Option MulOp :=
  match mulModeOf m, decA s1, decSrc s2, decSrcI i s3 with
  | some mode, some d, some a, some b => some ⟨mode, d, a, b⟩
  | _, _, _, _ => none

/-- R116, R120: the operation that the four syllables spell; `none` is an undefined encoding (BADOP). -/
def decSyl (s0 s1 s2 s3 : Word) : Option EInstr :=
  let op := bitsOf s0 4 6
  let i : Bool := decide (bitsOf s0 3 1 = 1)
  let m := bitsOf s0 0 3
  let plain : Bool := decide (i = false ∧ m = 0)
  match op with
  | 0x00 => if plain ∧ s1 = 0 ∧ s2 = 0 ∧ s3 = 0 then some .nop else none
  | 0x01 => if plain ∧ s1 = 0 ∧ s2 = 0 ∧ s3 = 0 then some .endv else none
  | 0x02 =>
    if plain ∧ s3.toNat < 64 then
      match decV s1, decIdx s2 with
      | some d, some x => some (.ldw d x (Fin.ofNat 64 s3.toNat))
      | _, _ => none
    else none
  | 0x03 =>
    if plain ∧ s3.toNat < 64 then
      match decSrc s1, decIdx s2 with
      | some src, some x => some (.stw src x (Fin.ofNat 64 s3.toNat))
      | _, _ => none
    else none
  | 0x04 =>
    if i = false ∧ m < 2 then (decA s1).map (fun d => .ldi d (decide (m = 1)) s2 s3) else none
  | 0x05 =>
    if m = 0 ∧ s2 = 0 then
      match decV s1, decSrcI i s3 with
      | some d, some b => some (.mov d b)
      | _, _ => none
    else none
  | 0x06 => if m = 0 then (decAlu i s1 s2 s3).map .add else none
  | 0x07 => if m = 0 then (decAlu i s1 s2 s3).map .sub else none
  | 0x08 => (decAluU i m s1 s2 s3).map .adds
  | 0x09 => (decAluU i m s1 s2 s3).map .subs
  | 0x0A => if m = 0 then (decAlu i s1 s2 s3).map .and else none
  | 0x0B => if m = 0 then (decAlu i s1 s2 s3).map .or else none
  | 0x0C => if m = 0 then (decAlu i s1 s2 s3).map .xor else none
  | 0x0D => if m = 0 then (decAlu i s1 s2 s3).map .shl else none
  | 0x0E => if m = 0 then (decAlu i s1 s2 s3).map .shr else none
  | 0x0F => if m = 0 then (decAlu i s1 s2 s3).map .asr else none
  | 0x10 =>
    if m = 0 ∧ s1 = 0 then
      match decSrc s2, decSrcI i s3 with
      | some a, some b => some (.cmp a b)
      | _, _ => none
    else none
  | 0x11 => (decAluU i m s1 s2 s3).map .min
  | 0x12 => (decAluU i m s1 s2 s3).map .max
  | 0x13 =>
    if m = 0 ∧ bitsOf s1 4 2 = 0 then
      match decSrc s2, decSrcI i s3 with
      | some a, some b =>
        some (.sel (condOf (bitsOf s1 6 4)) ⟨Fin.ofNat 16 (bitsOf s1 0 4), a, b⟩)
      | _, _ => none
    else none
  | 0x14 => (decMul i m s1 s2 s3).map .mul
  | 0x15 => (decMul i m s1 s2 s3).map .mac
  | 0x16 => if plain ∧ s2 = 0 ∧ s3 = 0 then (decA s1).map .aclr else none
  | 0x17 =>
    if m < 2 ∧ s2 = 0 then
      match decA s1, decSrcI i s3 with
      | some d, some n => some (.ashr d (decide (m = 1)) n)
      | _, _ => none
    else none
  | 0x18 =>
    if i = false ∧ m < 2 ∧ s3 = 0 then
      match decV s1, decA s2 with
      | some d, some a => some (.ast d (decide (m = 1)) a)
      | _, _ => none
    else none
  | 0x19 =>
    if plain ∧ bitsOf s1 0 6 = 0 ∧ s2.toNat < 4 then
      some (.br (condOf (bitsOf s1 6 4)) (BitVec.ofNat 12 (s2.toNat * 1024 + s3.toNat)))
    else none
  | 0x1A =>
    if plain ∧ bitsOf s1 0 6 = 0 ∧ s2 = 0 then some (.skip (condOf (bitsOf s1 6 4)) s3) else none
  | 0x1B => if m = 0 then (decAlu i s1 s2 s3).map .lut else none
  | 0x1C =>
    if m = 0 ∧ s2.toNat < 8 then
      match decA s1, decSrcI i s3 with
      | some d, some f => some (.ang d (Fin.ofNat 8 s2.toNat) f)
      | _, _ => none
    else none
  | 0x1D =>
    if plain then
      match decSrc s1, decBase s2 with
      | some v, some b => some (.emit v ⟨b, s3⟩)
      | _, _ => none
    else none
  | 0x1E => if plain ∧ s1 = 0 ∧ s2 = 0 ∧ s3 = 0 then some .hold else none
  | 0x1F =>
    if i = false ∧ bitsOf s1 4 2 = 0 ∧ s2.toNat < 16 ∧
       s2.toNat + m % 4 ≤ 16 ∧ bitsOf s1 0 4 + m / 4 ≤ 15 then
      some (.fcall ⟨Fin.ofNat 16 (bitsOf s1 6 4), Fin.ofNat 16 (bitsOf s1 0 4),
        Fin.ofNat 16 s2.toNat, s3, decide (m / 4 = 1), Fin.ofNat 4 (m % 4)⟩)
    else none
  | 0x20 => if plain ∧ s1 = 0 then (decBase s2).map (fun b => .safe ⟨b, s3⟩) else none
  | _ => none

/-- The operation of a stored instruction (R113). -/
def decodeE (c : Code) : Option EInstr := decSyl (syl c 0) (syl c 1) (syl c 2) (syl c 3)

/-! The encoder, from the same tables. -/

/-- A word from a number. -/
def wd (n : Nat) : Word := BitVec.ofNat 10 n

/-- R114: the specifier of a source. -/
def encSrc : Src → Word
  | .v n => wd n.val
  | .w n => wd (0x40 + n.val)
  | .a n l => wd (0x80 + n.val * 4 + l.val)
  | .smp => wd 0xC0
  | .zero => wd 0x100
  | .angw u k => wd (0x140 + u.val * 8 + k.val)

/-- The specifier of a working register. -/
def encV (n : VReg) : Word := wd n.val

/-- The specifier of a whole accumulator. -/
def encA (n : AReg) : Word := wd (0x80 + n.val * 4)

/-- The I bit and S3 of a source that may be an immediate. -/
def encSrcI : SrcI → Bool × Word
  | .reg s => (false, encSrc s)
  | .imm k => (true, k)

/-- The specifier of an index. -/
def encIdx : Idx → Word
  | .v n => encV n
  | .zero => wd 0x100

/-- The specifier of an offset base. -/
def encBase : Base → Word
  | .v n => encV n
  | .w n => wd (0x40 + n.val)
  | .a n => encA n
  | .zero => wd 0x100
  | .angw u k => wd (0x140 + u.val * 8 + k.val)

/-- R120: S0 = OP × 16 + I × 8 + M. -/
def encS0 (op : Nat) (i : Bool) (m : Nat) : Word := wd (op * 16 + i.toNat * 8 + m)

/-- The syllables of a three-operand operation. -/
def encAlu (op m : Nat) (d : VReg) (a : Src) (b : SrcI) : Code :=
  ofSyl (encS0 op (encSrcI b).1 m) (encV d) (encSrc a) (encSrcI b).2

/-- R120: the 40 bits of an operation. -/
def encodeE : EInstr → Code
  | .nop => ofSyl (encS0 0x00 false 0) 0 0 0
  | .endv => ofSyl (encS0 0x01 false 0) 0 0 0
  | .ldw d i b => ofSyl (encS0 0x02 false 0) (encV d) (encIdx i) (wd b.val)
  | .stw s i b => ofSyl (encS0 0x03 false 0) (encSrc s) (encIdx i) (wd b.val)
  | .ldi d u hi lo => ofSyl (encS0 0x04 false u.toNat) (encA d) hi lo
  | .mov d b => ofSyl (encS0 0x05 (encSrcI b).1 0) (encV d) 0 (encSrcI b).2
  | .add x => encAlu 0x06 0 x.d x.a x.b
  | .sub x => encAlu 0x07 0 x.d x.a x.b
  | .adds x => encAlu 0x08 x.u.toNat x.d x.a x.b
  | .subs x => encAlu 0x09 x.u.toNat x.d x.a x.b
  | .and x => encAlu 0x0A 0 x.d x.a x.b
  | .or x => encAlu 0x0B 0 x.d x.a x.b
  | .xor x => encAlu 0x0C 0 x.d x.a x.b
  | .shl x => encAlu 0x0D 0 x.d x.a x.b
  | .shr x => encAlu 0x0E 0 x.d x.a x.b
  | .asr x => encAlu 0x0F 0 x.d x.a x.b
  | .cmp a b => ofSyl (encS0 0x10 (encSrcI b).1 0) 0 (encSrc a) (encSrcI b).2
  | .min x => encAlu 0x11 x.u.toNat x.d x.a x.b
  | .max x => encAlu 0x12 x.u.toNat x.d x.a x.b
  | .sel c x =>
    ofSyl (encS0 0x13 (encSrcI x.b).1 0) (wd (condNum c * 64 + x.d.val)) (encSrc x.a)
      (encSrcI x.b).2
  | .mul x =>
    ofSyl (encS0 0x14 (encSrcI x.b).1 (mulModeNum x.mode)) (encA x.d) (encSrc x.a) (encSrcI x.b).2
  | .mac x =>
    ofSyl (encS0 0x15 (encSrcI x.b).1 (mulModeNum x.mode)) (encA x.d) (encSrc x.a) (encSrcI x.b).2
  | .aclr d => ofSyl (encS0 0x16 false 0) (encA d) 0 0
  | .ashr d r n => ofSyl (encS0 0x17 (encSrcI n).1 r.toNat) (encA d) 0 (encSrcI n).2
  | .ast d u a => ofSyl (encS0 0x18 false u.toNat) (encV d) (encA a) 0
  | .br c t => ofSyl (encS0 0x19 false 0) (wd (condNum c * 64)) (wd (t.toNat / 1024)) (wd t.toNat)
  | .skip c k => ofSyl (encS0 0x1A false 0) (wd (condNum c * 64)) 0 k
  | .lut x => encAlu 0x1B 0 x.d x.a x.b
  | .ang d u f => ofSyl (encS0 0x1C (encSrcI f).1 0) (encA d) (wd u.val) (encSrcI f).2
  | .emit v o => ofSyl (encS0 0x1D false 0) (encSrc v) (encBase o.base) o.add
  | .hold => ofSyl (encS0 0x1E false 0) 0 0 0
  | .fcall x =>
    ofSyl (encS0 0x1F false (x.r2.toNat * 4 + x.count.val)) (wd (x.target.val * 64 + x.d.val))
      (wd x.first.val) x.code
  | .safe o => ofSyl (encS0 0x20 false 0) 0 (encBase o.base) o.add

end Sys2Proof
end

