-- ==== Sys2Proof/Config.lean ====
section
/-! DEFINITION. What a part or an implementation fixes and the manual does not state, and the values
that the manual leaves open: constants without a body, so no proof can rest on what they are. The
types of a region descriptor stand here too, because the bits of its bytes are one of them. -/

namespace Sys2Proof

/-- One Tulle port as a region descriptor declares it (PORTCFG). -/
structure Port where
  kind : Nat
  ph : Nat
  d : Nat
  turn : Nat
  peer : Nat
  deriving DecidableEq, Repr, Inhabited

/-- R212, R214, R217: the configuration of one RAM block, with the region clock line of each port. -/
structure RamCfg where
  wide : Bool
  rdNewA : Bool
  rdNewB : Bool
  parity : Bool
  clkA : Nat
  clkB : Nat
  deriving DecidableEq, Repr, Inhabited

/-- R221, R222: the configuration of one arithmetic block; `n` is the length of the cascade whose top block it is. -/
structure ArCfg where
  n : Nat
  sa : Bool
  sb : Bool
  sd : Bool
  pre : Bool
  minus : Bool
  accum : Bool
  clamp : Bool
  deriving DecidableEq, Repr, Inhabited

/-- R243: a region descriptor: port kinds, latencies and peers, clock selections, the RAM keep
mask, pin settings (bank, pin, PINCFG), and the settings of the hardened blocks. -/
structure RgnDesc where
  ports : List Port
  clks : List Nat
  keep : Nat
  pins : List (Nat × Nat × Nat)
  rams : List RamCfg
  ars : List ArCfg
  deriving DecidableEq, Repr, Inhabited

/-- A region without an image. -/
def RgnDesc.empty : RgnDesc := ⟨[], [], 0, [], [], []⟩

/-- R207 to R209: what may drive an input of a region's logic: a constant, a flip-flop, an output of a LUT, a boundary
wire as received, a bit of a RAM port's read data (bit 20 its PERR, bit 21 COLLIDE), a bit of an arithmetic block's
accumulator (bit 30 its SATOUT), a bit of the flit last presented at a Tulle port, or SWAP_PENDING. -/
inductive Sig where
  | const (b : Bool)
  | ff (i : Nat)
  | lut (i : Nat) (second : Bool)
  | wire (edge i : Nat)
  | ram (block : Nat) (portB : Bool) (i : Nat)
  | acc (block i : Nat)
  | port (q i : Nat)
  | swapPending
  deriving DecidableEq, Repr, Inhabited

/-- R207: a LUT6, or two functions of five inputs in its two halves; and the input of its bypass flip-flop. -/
structure LutCfg where
  table : BitVec 64
  dual : Bool
  ins : List Sig
  bypass : Sig
  deriving DecidableEq, Repr, Inhabited

/-- R208: what the carry chain of a slice starts from. -/
inductive CarryIn where
  | below
  | const (b : Bool)
  | lut (i : Nat) (second : Bool)
  deriving DecidableEq, Repr, Inhabited

/-- R207, R208, R261: a slice: its LUTs, its clock line, clock enable and reset, its carry chain, and the values that its
twenty flip-flops take from the image and at a reset. -/
structure SliceCfg where
  luts : List LutCfg
  clk : Nat
  enable : Sig
  reset : Sig
  async : Bool
  chain : Bool
  carryIn : CarryIn
  init : BitVec 20
  resetTo : BitVec 20
  deriving DecidableEq, Repr, Inhabited

/-- R209: what drives a boundary wire of a region and on which of its clock lines the region registers it. -/
structure WireCfg where
  source : Sig
  clk : Nat
  deriving DecidableEq, Repr, Inhabited

/-- R225: a scheduled stream in force, with its lane and phases. -/
structure Stream where
  src : Nat
  dst : Nat
  d : Nat
  k : Nat
  lane : Nat
  phases : List Nat
  deriving DecidableEq, Repr, Inhabited

namespace Config

/-- A value that the manual leaves open, one for each count of `State.free`. -/
opaque freeValue : Nat → Nat

/-- The 128-bit device ID of the OTP row (R286). -/
opaque deviceId : BitVec 128

/-- R286: the bytes of the OTP row that the maker programmed (lot, wafer, position, trim backup and
the rest of the maker's fields), by offset. -/
opaque otpMaker : Nat → BitVec 8

/-- SHA-256 of the maker root key, as a number (R245). -/
opaque makerRoot : Nat

/-- SYS.VERSION.SILREV and ROMREV (R405). -/
opaque silrev : BitVec 8
opaque romrev : BitVec 8

/-- R443: the output enables and values that the boundary register, with these bits shifted in, gives the pads of a
bank. The manual lays out no cell of it. -/
opaque scanPads : Nat → List Bool → BitVec 48 × BitVec 48

/-- R297: FMIN and FMAX of each band, loaded from trim; the argument is MDLL × 16 + band. -/
opaque trimBand : Nat → Nat × Nat

/-- R298, R299: the level of PLL_LKI is below the comparator's threshold at a device time at which the filter on
the board charges or discharges. -/
opaque lkiLow : Nat → Bool

/-- The supply quadrant of each region (RGN.STAT.QUAD). -/
opaque quadrant : Nat → BitVec 2

/-- R220: repairs by eFuse: SPENT and count of the context store (0), pattern RAM (1) and
region n (2 + n). -/
opaque repairs : Nat → Bool × BitVec 6

/-- R243: what the 3,584 descriptor bytes of a section declare; their bits are not given. -/
opaque regionDesc : List Byte → RgnDesc

/-- R225: the lane and phases that the device prefers for a new stream beside the streams in force; which of the free
ones it takes is not given. -/
opaque schedule : List Stream → Stream → Nat × List Nat

/-- R249: the SEQ of a new directory entry once the highest valid one is the largest that an entry may hold. -/
opaque seqAfterLast : Nat → Nat

/-- R290: the pages that the live state of a journal other than the directory takes in a compaction, by plane and number
of the compaction. -/
opaque journalPages : Nat → Nat → Nat

/-- R160: the scrambler's state when a link's training starts, never 0; by link and attempt. -/
opaque prbsSeed : Nat → Nat → BitVec 15

/-- R243: what a fabric image makes of a plane's payload is not given: the initial RAM words of a
region (block × 2,048 + address). -/
opaque ramInit : List Byte → Nat → BitVec 20

/-- R261: the same of the accumulators of a region, by block. -/
opaque accInit : List Byte → Nat → BitVec 30

/-- R206, R207: the same of the slices of a region's tiles (tile × 2 + slice). -/
opaque slice : List Byte → Nat → SliceCfg

/-- R209: the same of the boundary wires that a region drives (edge × 320 + wire). -/
opaque wire : List Byte → Nat → WireCfg

end Config

end Sys2Proof
end

