-- ==== Sys2Proof/Machine/Sparse.lean ====
section
/-! DEFINITION. Sparse tables in one canonical form: keys strictly rising, and no entry equal to
what an unlisted key reads as. Every addressed store of the block (context store, pattern RAM,
flash, register fields, ...) is one of these. -/

namespace Sys2Proof.Machine

/-- A sparse table: the keys that do not read as the default, in rising order. -/
abbrev SMap (α : Type) := List (Nat × α)

/-- What key `k` reads as; `d` is what an unlisted key reads as. -/
def SMap.get {α : Type} (d : α) : List (Nat × α) → Nat → α
  | [], _ => d
  | (i, v) :: t, k => if i = k then v else SMap.get d t k

/-- The table without key `k`. -/
def SMap.erase {α : Type} : List (Nat × α) → Nat → List (Nat × α)
  | [], _ => []
  | (i, v) :: t, k => if i = k then SMap.erase t k else (i, v) :: SMap.erase t k

/-- The table with key `k` listed as `v`, in its place in the rising order. -/
def SMap.insert {α : Type} : List (Nat × α) → Nat → α → List (Nat × α)
  | [], k, v => [(k, v)]
  | (i, w) :: t, k, v =>
    if k < i then (k, v) :: (i, w) :: t
    else if i = k then (k, v) :: t
    else (i, w) :: SMap.insert t k v

/-- Writes `v` at `k`: writing what an unlisted key reads as removes the entry. -/
def SMap.put {α : Type} [DecidableEq α] (d : α) (m : List (Nat × α)) (k : Nat) (v : α) :
    List (Nat × α) :=
  if v = d then SMap.erase m k else SMap.insert m k v

/-- Writes a list of values at consecutive keys from `k`. -/
def SMap.putAll {α : Type} [DecidableEq α] (d : α) :
    List (Nat × α) → Nat → List α → List (Nat × α)
  | m, _, [] => m
  | m, k, v :: vs => SMap.putAll d (SMap.put d m k v) (k + 1) vs

/-- The values at the `n` consecutive keys from `k`. -/
def SMap.getAll {α : Type} (d : α) (m : List (Nat × α)) (k : Nat) : Nat → List α
  | 0 => []
  | n + 1 => SMap.get d m k :: SMap.getAll d m (k + 1) n

/-- The table without the keys from `lo` up to, not including, `hi`. -/
def SMap.clearRange {α : Type} (m : List (Nat × α)) (lo hi : Nat) : List (Nat × α) :=
  m.filter (fun e => !(lo ≤ e.1 && e.1 < hi))

/-- The listed entries with keys from `lo` up to `hi`, with keys counted from `lo`. -/
def SMap.slice {α : Type} (m : List (Nat × α)) (lo hi : Nat) : List (Nat × α) :=
  (m.filter (fun e => lo ≤ e.1 && e.1 < hi)).map (fun e => (e.1 - lo, e.2))

/-- Puts the entries of `src`, moved up by `lo`, into `m`. -/
def SMap.paste {α : Type} [DecidableEq α] (d : α) (lo : Nat) :
    List (Nat × α) → List (Nat × α) → List (Nat × α)
  | m, [] => m
  | m, (k, v) :: t => SMap.paste d lo (SMap.put d m (lo + k) v) t

/-- Keys strictly rising and all above `lo`. -/
def SMap.risingFrom {α : Type} : Option Nat → List (Nat × α) → Bool
  | _, [] => true
  | none, (i, _) :: t => SMap.risingFrom (some i) t
  | some b, (i, _) :: t => decide (b < i) && SMap.risingFrom (some i) t

/-- The canonical form: keys strictly rising, and no entry equal to the default of its key. -/
def SMap.wf {α : Type} [DecidableEq α] (d : Nat → α) (m : List (Nat × α)) : Bool :=
  SMap.risingFrom none m && m.all (fun e => decide (e.2 ≠ d e.1))

end Sys2Proof.Machine
end

