-- ==== Sys2Proof/Machine/Regs.lean ====
section
/-! DEFINITION. The register map: every field of every register page, with its offset, its bits,
its access type and its reset value, as the field tables of the chapters give them (spec/02_frame.md
to spec/18_host.md), and the names of the bits of PG_ERR and PG_IRQST. -/

namespace Sys2Proof.Machine

/-- R5: the access types of a register field that is not reserved (a reserved field reads 0 and
ignores writes, and is listed nowhere here). -/
inductive Access where
  | rw | ro | w1c | w1s | wo | rc
  deriving DecidableEq, Repr

/-- One field of a register: its offset in the page, its lowest bit, its width, its access type,
its reset value, and whether PG_CTRL.FREEZE holds it (a counter or a record of an earlier event,
R416). -/
structure Fld where
  off : Nat
  lo : Nat
  wid : Nat
  acc : Access
  rst : Nat
  snap : Bool
  deriving DecidableEq, Repr

/-! Page class FRM (spec/02_frame.md). -/

def FRM_CTRL_OVRLIM : Fld := ⟨0x40, 16, 8, .rw, 0x3, false⟩
def FRM_CTRL_ADMCHK : Fld := ⟨0x40, 12, 1, .rw, 0x1, false⟩
def FRM_CTRL_IDLERUN : Fld := ⟨0x40, 11, 1, .rw, 0, false⟩
def FRM_CTRL_ANGSEL : Fld := ⟨0x40, 8, 3, .rw, 0, false⟩
def FRM_CTRL_SRC : Fld := ⟨0x40, 0, 2, .rw, 0, false⟩
def FRM_CMD_HOLD : Fld := ⟨0x44, 2, 1, .wo, 0, false⟩
def FRM_CMD_RUN : Fld := ⟨0x44, 1, 1, .wo, 0, false⟩
def FRM_CMD_STOP : Fld := ⟨0x44, 0, 1, .wo, 0, false⟩
def FRM_STAT_SRCSW : Fld := ⟨0x48, 15, 1, .ro, 0, false⟩
def FRM_STAT_IDLE : Fld := ⟨0x48, 14, 1, .ro, 0, false⟩
def FRM_STAT_APPLY : Fld := ⟨0x48, 13, 1, .ro, 0, false⟩
def FRM_STAT_COMPUTE : Fld := ⟨0x48, 12, 1, .ro, 0, false⟩
def FRM_STAT_HOLDREQ : Fld := ⟨0x48, 11, 1, .ro, 0, false⟩
def FRM_STAT_HOLDCAUSE : Fld := ⟨0x48, 8, 3, .ro, 0, false⟩
def FRM_STAT_SRCACT : Fld := ⟨0x48, 6, 2, .ro, 0, false⟩
def FRM_STAT_ANGACT : Fld := ⟨0x48, 3, 3, .ro, 0, false⟩
def FRM_STAT_STATE : Fld := ⟨0x48, 0, 2, .ro, 0, false⟩
def FRM_MINPER_VALUE : Fld := ⟨0x4c, 0, 20, .rw, 0x1388, false⟩
def FRM_MINPER_ACT_VALUE : Fld := ⟨0x50, 0, 20, .ro, 0x1388, false⟩
def FRM_TIMPER_VALUE : Fld := ⟨0x54, 0, 20, .rw, 0x1388, false⟩
def FRM_FBPER_FBPER : Fld := ⟨0x58, 0, 16, .rw, 0x3e8, false⟩
def FRM_FN_LO_FN : Fld := ⟨0x5c, 0, 32, .ro, 0, false⟩
def FRM_FN_HI_FN : Fld := ⟨0x60, 0, 16, .ro, 0, false⟩
def FRM_FNLOAD_LO_FNLOAD : Fld := ⟨0x64, 0, 32, .rw, 0, false⟩
def FRM_FNLOAD_HI_FNLOAD : Fld := ⟨0x68, 0, 16, .rw, 0, false⟩
def FRM_OVRCNT_CONSEC : Fld := ⟨0x6c, 0, 8, .ro, 0, true⟩
def FRM_OVRTOT_TOTAL : Fld := ⟨0x70, 0, 32, .ro, 0, true⟩
def FRM_OVRLAST_FN_FN : Fld := ⟨0x74, 0, 24, .ro, 0, true⟩
def FRM_OVRLAST_CAR_ENGINE : Fld := ⟨0x78, 16, 5, .ro, 0, true⟩
def FRM_OVRLAST_CAR_CARRIED : Fld := ⟨0x78, 0, 16, .ro, 0, true⟩
def FRM_TICKCNT_LOST : Fld := ⟨0x7c, 16, 16, .rc, 0, true⟩
def FRM_TICKCNT_EARLY : Fld := ⟨0x7c, 0, 16, .rc, 0, true⟩
def FRM_IDLECNT_IDLE : Fld := ⟨0x80, 0, 32, .ro, 0, true⟩
def FRM_ADMCAP_B : Fld := ⟨0x84, 0, 23, .ro, 0x57e4, false⟩
def FRM_ADMPEAK_ENGINE : Fld := ⟨0x88, 24, 5, .ro, 0, false⟩
def FRM_ADMPEAK_LOAD : Fld := ⟨0x88, 0, 23, .ro, 0, false⟩
def FRM_ADMREF_VALID : Fld := ⟨0x8c, 31, 1, .rc, 0, true⟩
def FRM_ADMREF_CAUSE : Fld := ⟨0x8c, 28, 3, .rc, 0, true⟩
def FRM_ADMREF_RESIDUE : Fld := ⟨0x8c, 21, 7, .rc, 0, true⟩
def FRM_ADMREF_ENGINE : Fld := ⟨0x8c, 16, 5, .rc, 0, true⟩
def FRM_ADMREF_TABLE : Fld := ⟨0x8c, 15, 1, .rc, 0, true⟩
def FRM_ADMREQ_LOAD : Fld := ⟨0x90, 0, 23, .rc, 0, true⟩
def FRM_TIO_TOUT_WIDTH : Fld := ⟨0x94, 24, 8, .rw, 0xa, false⟩
def FRM_TIO_TOUT_IDLE : Fld := ⟨0x94, 23, 1, .rw, 0, false⟩
def FRM_TIO_TOUT_EN : Fld := ⟨0x94, 22, 1, .rw, 0, false⟩
def FRM_TIO_TIN_POL : Fld := ⟨0x94, 11, 1, .rw, 0, false⟩
def FRM_TIO_TIN_FILT : Fld := ⟨0x94, 0, 10, .rw, 0, false⟩
def FRM_CMPEND_END : Fld := ⟨0x98, 0, 20, .ro, 0, true⟩
def FRM_CMPMAX_MAX : Fld := ⟨0x9c, 0, 20, .rc, 0, true⟩

/-- The fields of the FRM page. -/
def fieldsFRM : List Fld :=
  [FRM_CTRL_OVRLIM, FRM_CTRL_ADMCHK, FRM_CTRL_IDLERUN, FRM_CTRL_ANGSEL, FRM_CTRL_SRC, FRM_CMD_HOLD, FRM_CMD_RUN, FRM_CMD_STOP, FRM_STAT_SRCSW, FRM_STAT_IDLE, FRM_STAT_APPLY, FRM_STAT_COMPUTE, FRM_STAT_HOLDREQ, FRM_STAT_HOLDCAUSE, FRM_STAT_SRCACT, FRM_STAT_ANGACT, FRM_STAT_STATE, FRM_MINPER_VALUE, FRM_MINPER_ACT_VALUE, FRM_TIMPER_VALUE, FRM_FBPER_FBPER, FRM_FN_LO_FN, FRM_FN_HI_FN, FRM_FNLOAD_LO_FNLOAD] ++
  [FRM_FNLOAD_HI_FNLOAD, FRM_OVRCNT_CONSEC, FRM_OVRTOT_TOTAL, FRM_OVRLAST_FN_FN, FRM_OVRLAST_CAR_ENGINE, FRM_OVRLAST_CAR_CARRIED, FRM_TICKCNT_LOST, FRM_TICKCNT_EARLY, FRM_IDLECNT_IDLE, FRM_ADMCAP_B, FRM_ADMPEAK_ENGINE, FRM_ADMPEAK_LOAD, FRM_ADMREF_VALID, FRM_ADMREF_CAUSE, FRM_ADMREF_RESIDUE, FRM_ADMREF_ENGINE, FRM_ADMREF_TABLE, FRM_ADMREQ_LOAD, FRM_TIO_TOUT_WIDTH, FRM_TIO_TOUT_IDLE, FRM_TIO_TOUT_EN, FRM_TIO_TIN_POL, FRM_TIO_TIN_FILT, FRM_CMPEND_END] ++
  [FRM_CMPMAX_MAX]

/-! Page class CTX (spec/03_contexts.md). -/

def CTX_CTRL_SCRUBRATE : Fld := ⟨0x40, 16, 8, .rw, 0x10, false⟩
def CTX_CTRL_SAFEINC : Fld := ⟨0x40, 1, 1, .rw, 0, false⟩
def CTX_CTRL_SCRUBEN : Fld := ⟨0x40, 0, 1, .rw, 0x1, false⟩
def CTX_GOPEN_OVF : Fld := ⟨0x44, 31, 1, .ro, 0, false⟩
def CTX_GOPEN_WORDS : Fld := ⟨0x44, 0, 13, .ro, 0, false⟩
def CTX_COMMIT_ABANDON : Fld := ⟨0x48, 1, 1, .wo, 0, false⟩
def CTX_COMMIT_GO : Fld := ⟨0x48, 0, 1, .wo, 0, false⟩
def CTX_GSTAT_ACCEPTED : Fld := ⟨0x4c, 25, 1, .ro, 0, false⟩
def CTX_GSTAT_QUEUED : Fld := ⟨0x4c, 20, 5, .ro, 0, false⟩
def CTX_GSTAT_LASTID : Fld := ⟨0x4c, 0, 16, .ro, 0, false⟩
def CTX_GDONE_RESULT : Fld := ⟨0x50, 16, 4, .ro, 0, true⟩
def CTX_GDONE_ID : Fld := ⟨0x50, 0, 16, .ro, 0, true⟩
def CTX_GREF_VALID : Fld := ⟨0x54, 31, 1, .rc, 0, true⟩
def CTX_GREF_RESULT : Fld := ⟨0x54, 16, 4, .rc, 0, true⟩
def CTX_GREF_ID : Fld := ⟨0x54, 0, 16, .rc, 0, true⟩
def CTX_QREL_HANDLE : Fld := ⟨0x58, 0, 16, .wo, 0, false⟩
def CTX_QCNT_COUNT : Fld := ⟨0x5c, 0, 16, .ro, 0, false⟩
def CTX_QFIRST_VALID : Fld := ⟨0x60, 31, 1, .rc, 0, true⟩
def CTX_QFIRST_CAUSE : Fld := ⟨0x60, 28, 3, .rc, 0, true⟩
def CTX_QFIRST_HANDLE : Fld := ⟨0x60, 0, 16, .rc, 0, true⟩
def CTX_ECCCNT_UE : Fld := ⟨0x64, 16, 16, .rc, 0, true⟩
def CTX_ECCCNT_CE : Fld := ⟨0x64, 0, 16, .rc, 0, true⟩
def CTX_UEADDR_VALID : Fld := ⟨0x68, 31, 1, .rc, 0, true⟩
def CTX_UEADDR_SPARE : Fld := ⟨0x68, 30, 1, .rc, 0, true⟩
def CTX_UEADDR_GROUP : Fld := ⟨0x68, 16, 4, .rc, 0, true⟩
def CTX_UEADDR_HANDLE : Fld := ⟨0x68, 0, 16, .rc, 0, true⟩
def CTX_SAFEIDX_LINK : Fld := ⟨0x6c, 9, 7, .rw, 0, false⟩
def CTX_SAFEIDX_SLOT : Fld := ⟨0x6c, 0, 9, .rw, 0, false⟩
def CTX_SMPIDX_LINK : Fld := ⟨0x74, 9, 7, .rw, 0, false⟩
def CTX_SMPIDX_SLOT : Fld := ⟨0x74, 0, 9, .rw, 0, false⟩
def CTX_SAFEDATA_PERR : Fld := ⟨0x70, 31, 1, .ro, 0, false⟩
def CTX_SAFEDATA_MODE : Fld := ⟨0x70, 10, 2, .rw, 0, false⟩
def CTX_SAFEDATA_VALUE : Fld := ⟨0x70, 0, 10, .rw, 0, false⟩
def CTX_SMPDATA_AGE : Fld := ⟨0x78, 11, 8, .ro, 0xff, false⟩
def CTX_SMPDATA_ABSENT : Fld := ⟨0x78, 10, 1, .ro, 0x1, false⟩
def CTX_SMPDATA_SAMPLE : Fld := ⟨0x78, 0, 10, .ro, 0, false⟩
def CTX_SLOTH_BOUND : Fld := ⟨0x7c, 31, 1, .ro, 0, false⟩
def CTX_SLOTH_HANDLE : Fld := ⟨0x7c, 0, 16, .ro, 0, false⟩
def CTX_SEEDW_SEED3 (i : Nat) : Fld := ⟨0x80 + 4 * i, 24, 8, .rw, 0, false⟩
def CTX_SEEDW_SEED2 (i : Nat) : Fld := ⟨0x80 + 4 * i, 16, 8, .rw, 0, false⟩
def CTX_SEEDW_SEED1 (i : Nat) : Fld := ⟨0x80 + 4 * i, 8, 8, .rw, 0, false⟩
def CTX_SEEDW_SEED0 (i : Nat) : Fld := ⟨0x80 + 4 * i, 0, 8, .rw, 0, false⟩
def CTX_SCRUBPOS_PASSES : Fld := ⟨0xc0, 21, 11, .ro, 0, true⟩
def CTX_SCRUBPOS_BANK : Fld := ⟨0xc0, 16, 5, .ro, 0, false⟩
def CTX_SCRUBPOS_SLOT : Fld := ⟨0xc0, 0, 11, .ro, 0, false⟩

/-- The fields of the CTX page. -/
def fieldsCTX : List Fld :=
  [CTX_CTRL_SCRUBRATE, CTX_CTRL_SAFEINC, CTX_CTRL_SCRUBEN, CTX_GOPEN_OVF, CTX_GOPEN_WORDS, CTX_COMMIT_ABANDON, CTX_COMMIT_GO, CTX_GSTAT_ACCEPTED, CTX_GSTAT_QUEUED, CTX_GSTAT_LASTID, CTX_GDONE_RESULT, CTX_GDONE_ID, CTX_GREF_VALID, CTX_GREF_RESULT, CTX_GREF_ID, CTX_QREL_HANDLE, CTX_QCNT_COUNT, CTX_QFIRST_VALID, CTX_QFIRST_CAUSE, CTX_QFIRST_HANDLE, CTX_ECCCNT_UE, CTX_ECCCNT_CE, CTX_UEADDR_VALID, CTX_UEADDR_SPARE] ++
  [CTX_UEADDR_GROUP, CTX_UEADDR_HANDLE, CTX_SAFEIDX_LINK, CTX_SAFEIDX_SLOT, CTX_SMPIDX_LINK, CTX_SMPIDX_SLOT, CTX_SAFEDATA_PERR, CTX_SAFEDATA_MODE, CTX_SAFEDATA_VALUE, CTX_SMPDATA_AGE, CTX_SMPDATA_ABSENT, CTX_SMPDATA_SAMPLE, CTX_SLOTH_BOUND, CTX_SLOTH_HANDLE, CTX_SCRUBPOS_PASSES, CTX_SCRUBPOS_BANK, CTX_SCRUBPOS_SLOT] ++
  (List.range 16).map CTX_SEEDW_SEED3 ++
  (List.range 16).map CTX_SEEDW_SEED2 ++
  (List.range 16).map CTX_SEEDW_SEED1 ++
  (List.range 16).map CTX_SEEDW_SEED0

/-! Page class JE (spec/04_engines.md). -/

def JE_STAT_CURSLOT : Fld := ⟨0x40, 16, 11, .ro, 0, false⟩
def JE_STAT_GROUP : Fld := ⟨0x40, 4, 3, .ro, 0, false⟩
def JE_STAT_STATE : Fld := ⟨0x40, 0, 2, .ro, 0, false⟩
def JE_LOADLAST_CYCLES : Fld := ⟨0x44, 0, 23, .ro, 0, true⟩
def JE_LOADMAX_CYCLES : Fld := ⟨0x48, 0, 23, .rc, 0, true⟩
def JE_DUECNT_DUE : Fld := ⟨0x4c, 16, 11, .ro, 0, false⟩
def JE_DUECNT_PLACED : Fld := ⟨0x4c, 0, 11, .ro, 0, false⟩
def JE_FLTCNT_COUNT : Fld := ⟨0x50, 0, 16, .rc, 0, true⟩
def JE_FLTLAST_VALID : Fld := ⟨0x54, 31, 1, .rc, 0, true⟩
def JE_FLTLAST_CAUSE : Fld := ⟨0x54, 28, 3, .rc, 0, true⟩
def JE_FLTLAST_PLANE : Fld := ⟨0x54, 12, 1, .rc, 0, true⟩
def JE_FLTLAST_ADDR : Fld := ⟨0x54, 0, 12, .rc, 0, true⟩
def JE_FLTHDL_HANDLE : Fld := ⟨0x58, 0, 16, .ro, 0, true⟩
def JE_VISITS_COUNT : Fld := ⟨0x5c, 0, 32, .ro, 0, true⟩
def JE_MCADDR_AUTOINC : Fld := ⟨0x80, 31, 1, .rw, 0, false⟩
def JE_MCADDR_PLANE : Fld := ⟨0x80, 12, 1, .rw, 0, false⟩
def JE_MCADDR_ADDR : Fld := ⟨0x80, 0, 12, .rw, 0, false⟩
def JE_MCDATA0_S2S1S0 : Fld := ⟨0x84, 0, 30, .rw, 0, false⟩
def JE_MCDATA1_S3 : Fld := ⟨0x88, 0, 10, .rw, 0, false⟩
def JE_MCSTAT_LIVEB : Fld := ⟨0x8c, 31, 1, .ro, 0, false⟩
def JE_MCSTAT_LIVEA : Fld := ⟨0x8c, 30, 1, .ro, 0, false⟩
def JE_MCSTAT_REPAIRS : Fld := ⟨0x8c, 0, 16, .rc, 0, true⟩
def JE_CTIDX_CLASS : Fld := ⟨0x90, 0, 6, .rw, 0, false⟩
def JE_CTCMD_REVERT : Fld := ⟨0x9c, 1, 1, .wo, 0, false⟩
def JE_CTCMD_VERIFY : Fld := ⟨0x9c, 0, 1, .wo, 0, false⟩
def JE_CTSTAT_BUSY : Fld := ⟨0xa0, 31, 1, .ro, 0, false⟩
def JE_CTSTAT_VERIFIED : Fld := ⟨0xa0, 30, 1, .ro, 0, false⟩
def JE_CTSTAT_ERRPLANE : Fld := ⟨0xa0, 29, 1, .ro, 0, false⟩
def JE_CTSTAT_ERRCODE : Fld := ⟨0xa0, 24, 4, .ro, 0, false⟩
def JE_CTSTAT_ERRCLASS : Fld := ⟨0xa0, 16, 6, .ro, 0, false⟩
def JE_CTSTAT_ERRPC : Fld := ⟨0xa0, 0, 12, .ro, 0, false⟩
def JE_FCTGT_EN (i : Nat) : Fld := ⟨0xc0 + 4 * i, 31, 1, .rw, 0, false⟩
def JE_FCTGT_ENACT (i : Nat) : Fld := ⟨0xc0 + 4 * i, 30, 1, .ro, 0, false⟩
def JE_FCTGT_LATACT (i : Nat) : Fld := ⟨0xc0 + 4 * i, 21, 5, .ro, 0x4, false⟩
def JE_FCTGT_LAT (i : Nat) : Fld := ⟨0xc0 + 4 * i, 16, 5, .rw, 0x4, false⟩
def JE_FCTGT_PORT (i : Nat) : Fld := ⟨0xc0 + 4 * i, 0, 10, .rw, 0, false⟩
def JE_CTDATA_VALID : Fld := ⟨0x94, 31, 1, .rw, 0, false⟩
def JE_CTDATA_PLANE : Fld := ⟨0x94, 30, 1, .rw, 0, false⟩
def JE_CTDATA_ENTRY : Fld := ⟨0x94, 16, 12, .rw, 0, false⟩
def JE_CTDATA_W : Fld := ⟨0x94, 0, 12, .ro, 0, false⟩
def JE_CTINF_VALID : Fld := ⟨0x98, 31, 1, .ro, 0, false⟩
def JE_CTINF_PLANE : Fld := ⟨0x98, 30, 1, .ro, 0, false⟩
def JE_CTINF_ENTRY : Fld := ⟨0x98, 16, 12, .ro, 0, false⟩
def JE_CTINF_W : Fld := ⟨0x98, 0, 12, .ro, 0, false⟩

/-- The fields that every JE page has. -/
def fieldsJE : List Fld :=
  [JE_STAT_CURSLOT, JE_STAT_GROUP, JE_STAT_STATE, JE_LOADLAST_CYCLES, JE_LOADMAX_CYCLES, JE_DUECNT_DUE, JE_DUECNT_PLACED, JE_FLTCNT_COUNT, JE_FLTLAST_VALID, JE_FLTLAST_CAUSE, JE_FLTLAST_PLANE, JE_FLTLAST_ADDR, JE_FLTHDL_HANDLE, JE_VISITS_COUNT]

/-- The fields of JE00 only. -/
def fieldsJE00 : List Fld :=
  [JE_MCADDR_AUTOINC, JE_MCADDR_PLANE, JE_MCADDR_ADDR, JE_MCDATA0_S2S1S0, JE_MCDATA1_S3, JE_MCSTAT_LIVEB, JE_MCSTAT_LIVEA, JE_MCSTAT_REPAIRS, JE_CTIDX_CLASS, JE_CTCMD_REVERT, JE_CTCMD_VERIFY, JE_CTSTAT_BUSY, JE_CTSTAT_VERIFIED, JE_CTSTAT_ERRPLANE, JE_CTSTAT_ERRCODE, JE_CTSTAT_ERRCLASS, JE_CTSTAT_ERRPC, JE_CTDATA_VALID, JE_CTDATA_PLANE, JE_CTDATA_ENTRY, JE_CTDATA_W, JE_CTINF_VALID, JE_CTINF_PLANE, JE_CTINF_ENTRY] ++
  [JE_CTINF_W] ++
  (List.range 16).map JE_FCTGT_EN ++
  (List.range 16).map JE_FCTGT_ENACT ++
  (List.range 16).map JE_FCTGT_LATACT ++
  (List.range 16).map JE_FCTGT_LAT ++
  (List.range 16).map JE_FCTGT_PORT

/-! Page class PLC (spec/06_placement.md). -/

def PLC_CTRL_MIGMAX : Fld := ⟨0x40, 16, 7, .rw, 0x20, false⟩
def PLC_CTRL_AUTOPHASE : Fld := ⟨0x40, 1, 1, .rw, 0, false⟩
def PLC_CTRL_BALEN : Fld := ⟨0x40, 0, 1, .rw, 0x1, false⟩
def PLC_STAT_BALANCED : Fld := ⟨0x44, 31, 1, .ro, 0, false⟩
def PLC_STAT_MODE : Fld := ⟨0x44, 30, 1, .ro, 0, false⟩
def PLC_STAT_HISTCNT : Fld := ⟨0x44, 23, 7, .ro, 0, false⟩
def PLC_STAT_EXCLSTATE : Fld := ⟨0x44, 21, 2, .ro, 0, false⟩
def PLC_STAT_EXCLBANK : Fld := ⟨0x44, 16, 5, .ro, 0, false⟩
def PLC_STAT_EVSTALL : Fld := ⟨0x44, 15, 1, .ro, 0, false⟩
def PLC_STAT_MIGPEND : Fld := ⟨0x44, 0, 7, .ro, 0, false⟩
def PLC_EXCL_INCLUDE : Fld := ⟨0x48, 8, 1, .wo, 0, false⟩
def PLC_EXCL_EXCLUDE : Fld := ⟨0x48, 7, 1, .wo, 0, false⟩
def PLC_EXCL_BANK : Fld := ⟨0x48, 0, 5, .wo, 0, false⟩
def PLC_MIGCNT_COUNT : Fld := ⟨0x4c, 0, 32, .ro, 0, true⟩
def PLC_MIGABT_COUNT : Fld := ⟨0x50, 0, 16, .rc, 0, true⟩
def PLC_MIGLAST_RESULT : Fld := ⟨0x54, 29, 3, .ro, 0, true⟩
def PLC_MIGLAST_TARGET : Fld := ⟨0x54, 24, 5, .ro, 0, true⟩
def PLC_MIGLAST_SOURCE : Fld := ⟨0x54, 19, 5, .ro, 0, true⟩
def PLC_MIGLAST_HANDLE : Fld := ⟨0x54, 0, 16, .ro, 0, true⟩
def PLC_HIDX_HANDLE : Fld := ⟨0x58, 0, 16, .rw, 0, false⟩
def PLC_HMAP_PINNED : Fld := ⟨0x5c, 31, 1, .ro, 0, false⟩
def PLC_HMAP_MIGRATING : Fld := ⟨0x5c, 30, 1, .ro, 0, false⟩
def PLC_HMAP_BANK : Fld := ⟨0x5c, 16, 5, .ro, 0, false⟩
def PLC_HMAP_SLOT : Fld := ⟨0x5c, 0, 11, .ro, 0, false⟩
def PLC_PIN_PIN : Fld := ⟨0x60, 8, 1, .wo, 0, false⟩
def PLC_PIN_UNPIN : Fld := ⟨0x60, 7, 1, .wo, 0, false⟩
def PLC_PIN_BANK : Fld := ⟨0x60, 0, 5, .wo, 0, false⟩
def PLC_BIDX_BANK : Fld := ⟨0x64, 0, 5, .rw, 0, false⟩
def PLC_BINFO_HANDLES : Fld := ⟨0x68, 21, 11, .ro, 0x600, false⟩
def PLC_BINFO_FREE : Fld := ⟨0x68, 10, 11, .ro, 0x40, false⟩
def PLC_BLOAD_MEAS : Fld := ⟨0x6c, 0, 23, .ro, 0, false⟩
def PLC_BSTATIC_STATIC : Fld := ⟨0x70, 0, 30, .ro, 0, false⟩
def PLC_BTCMD_START : Fld := ⟨0x74, 0, 1, .wo, 0, false⟩
def PLC_BTSTAT_BUSY : Fld := ⟨0x78, 31, 1, .ro, 0, false⟩
def PLC_BTSTAT_RESULT : Fld := ⟨0x78, 29, 2, .ro, 0, true⟩
def PLC_BTSTAT_BANK : Fld := ⟨0x78, 24, 5, .ro, 0, true⟩
def PLC_BTSTAT_BIT : Fld := ⟨0x78, 16, 8, .ro, 0, true⟩
def PLC_BTSTAT_ADDR : Fld := ⟨0x78, 0, 13, .ro, 0, true⟩
def PLC_RREQ_NAMED : Fld := ⟨0x7c, 16, 1, .wo, 0, false⟩
def PLC_RREQ_K : Fld := ⟨0x7c, 8, 7, .wo, 0, false⟩
def PLC_RREQ_BASE : Fld := ⟨0x7c, 0, 6, .wo, 0, false⟩
def PLC_RRES_STATUS : Fld := ⟨0x80, 24, 8, .ro, 0, true⟩
def PLC_RRES_ALLOCID : Fld := ⟨0x80, 16, 8, .ro, 0, true⟩
def PLC_RRES_K : Fld := ⟨0x80, 8, 7, .ro, 0, true⟩
def PLC_RRES_BASE : Fld := ⟨0x80, 0, 6, .ro, 0, true⟩
def PLC_RFREE_ALLOCID : Fld := ⟨0x84, 0, 8, .wo, 0, false⟩
def PLC_RIDX_REGION : Fld := ⟨0x88, 0, 6, .rw, 0, false⟩
def PLC_RINFO_STATE : Fld := ⟨0x8c, 30, 2, .ro, 0, false⟩
def PLC_RINFO_ALLOCID : Fld := ⟨0x8c, 16, 8, .ro, 0, false⟩
def PLC_RINFO_K : Fld := ⟨0x8c, 8, 7, .ro, 0, false⟩
def PLC_RINFO_BASE : Fld := ⟨0x8c, 0, 6, .ro, 0, false⟩

/-- The fields of the PLC page. -/
def fieldsPLC : List Fld :=
  [PLC_CTRL_MIGMAX, PLC_CTRL_AUTOPHASE, PLC_CTRL_BALEN, PLC_STAT_BALANCED, PLC_STAT_MODE, PLC_STAT_HISTCNT, PLC_STAT_EXCLSTATE, PLC_STAT_EXCLBANK, PLC_STAT_EVSTALL, PLC_STAT_MIGPEND, PLC_EXCL_INCLUDE, PLC_EXCL_EXCLUDE, PLC_EXCL_BANK, PLC_MIGCNT_COUNT, PLC_MIGABT_COUNT, PLC_MIGLAST_RESULT, PLC_MIGLAST_TARGET, PLC_MIGLAST_SOURCE, PLC_MIGLAST_HANDLE, PLC_HIDX_HANDLE, PLC_HMAP_PINNED, PLC_HMAP_MIGRATING, PLC_HMAP_BANK, PLC_HMAP_SLOT] ++
  [PLC_PIN_PIN, PLC_PIN_UNPIN, PLC_PIN_BANK, PLC_BIDX_BANK, PLC_BINFO_HANDLES, PLC_BINFO_FREE, PLC_BLOAD_MEAS, PLC_BSTATIC_STATIC, PLC_BTCMD_START, PLC_BTSTAT_BUSY, PLC_BTSTAT_RESULT, PLC_BTSTAT_BANK, PLC_BTSTAT_BIT, PLC_BTSTAT_ADDR, PLC_RREQ_NAMED, PLC_RREQ_K, PLC_RREQ_BASE, PLC_RRES_STATUS, PLC_RRES_ALLOCID, PLC_RRES_K, PLC_RRES_BASE, PLC_RFREE_ALLOCID, PLC_RIDX_REGION, PLC_RINFO_STATE] ++
  [PLC_RINFO_ALLOCID, PLC_RINFO_K, PLC_RINFO_BASE]

/-! Page class UL (spec/07_links.md). -/

def UL_CTRL_TXDLY : Fld := ⟨0x40, 24, 8, .rw, 0, false⟩
def UL_CTRL_WDT : Fld := ⟨0x40, 12, 10, .rw, 0xc8, false⟩
def UL_CTRL_SLEW : Fld := ⟨0x40, 8, 2, .rw, 0x2, false⟩
def UL_CTRL_AUTOTRAIN : Fld := ⟨0x40, 1, 1, .rw, 0x1, false⟩
def UL_CMD_TRAIN : Fld := ⟨0x44, 1, 1, .wo, 0, false⟩
def UL_CMD_DOWN : Fld := ⟨0x44, 0, 1, .wo, 0, false⟩
def UL_TRNCFG_LOSSMODE : Fld := ⟨0x48, 30, 1, .rw, 0, false⟩
def UL_TRNCFG_FWDT : Fld := ⟨0x48, 20, 10, .rw, 0x14, false⟩
def UL_TRNCFG_MWDT : Fld := ⟨0x48, 0, 10, .rw, 0x14, false⟩
def UL_STAT_TRNERR : Fld := ⟨0x4c, 28, 4, .ro, 0, true⟩
def UL_STAT_MODCNT : Fld := ⟨0x4c, 24, 4, .ro, 0, false⟩
def UL_STAT_SLOTS : Fld := ⟨0x4c, 8, 9, .ro, 0, false⟩
def UL_STAT_RXALIGN : Fld := ⟨0x4c, 2, 1, .ro, 0, false⟩
def UL_STAT_STATE : Fld := ⟨0x4c, 0, 2, .ro, 0, false⟩
def UL_MODIDX_POS : Fld := ⟨0x50, 0, 3, .rw, 0, false⟩
def UL_MODMAP_FIRST : Fld := ⟨0x54, 16, 9, .ro, 0, false⟩
def UL_MODMAP_COUNT : Fld := ⟨0x54, 0, 9, .ro, 0, false⟩
def UL_MODID_TYPE : Fld := ⟨0x58, 10, 10, .ro, 0, false⟩
def UL_MODID_REV : Fld := ⟨0x58, 0, 10, .ro, 0, false⟩
def UL_MODSTAT_STAT1 : Fld := ⟨0x5c, 10, 10, .ro, 0, false⟩
def UL_MODSTAT_STAT0 : Fld := ⟨0x5c, 0, 10, .ro, 0, false⟩
def UL_DSCAP_CAP : Fld := ⟨0x60, 0, 19, .ro, 0x56a, false⟩
def UL_DSLAST_LEN : Fld := ⟨0x64, 0, 19, .ro, 0, true⟩
def UL_DSMAX_MAX : Fld := ⟨0x68, 0, 19, .rc, 0, true⟩
def UL_NAKCNT_RESENT : Fld := ⟨0x6c, 16, 16, .rc, 0, true⟩
def UL_NAKCNT_NAKRX : Fld := ⟨0x6c, 0, 16, .rc, 0, true⟩
def UL_ERRCNT1_NORSND : Fld := ⟨0x70, 16, 16, .rc, 0, true⟩
def UL_ERRCNT1_UNREC : Fld := ⟨0x70, 0, 16, .rc, 0, true⟩
def UL_ERRCNT2_USCRC : Fld := ⟨0x74, 16, 16, .rc, 0, true⟩
def UL_ERRCNT2_DSOVF : Fld := ⟨0x74, 0, 16, .rc, 0, true⟩
def UL_ERRCNT3_TAGERR : Fld := ⟨0x78, 16, 16, .rc, 0, true⟩
def UL_ERRCNT3_ALIGNERR : Fld := ⟨0x78, 0, 16, .rc, 0, true⟩
def UL_TRNCNT_DOWNCNT : Fld := ⟨0x7c, 16, 16, .rc, 0, true⟩
def UL_TRNCNT_ATTEMPTS : Fld := ⟨0x7c, 0, 16, .rc, 0, true⟩

/-- The fields of the UL page. -/
def fieldsUL : List Fld :=
  [UL_CTRL_TXDLY, UL_CTRL_WDT, UL_CTRL_SLEW, UL_CTRL_AUTOTRAIN, UL_CMD_TRAIN, UL_CMD_DOWN, UL_TRNCFG_LOSSMODE, UL_TRNCFG_FWDT, UL_TRNCFG_MWDT, UL_STAT_TRNERR, UL_STAT_MODCNT, UL_STAT_SLOTS, UL_STAT_RXALIGN, UL_STAT_STATE, UL_MODIDX_POS, UL_MODMAP_FIRST, UL_MODMAP_COUNT, UL_MODID_TYPE, UL_MODID_REV, UL_MODSTAT_STAT1, UL_MODSTAT_STAT0, UL_DSCAP_CAP, UL_DSLAST_LEN, UL_DSMAX_MAX] ++
  [UL_NAKCNT_RESENT, UL_NAKCNT_NAKRX, UL_ERRCNT1_NORSND, UL_ERRCNT1_UNREC, UL_ERRCNT2_USCRC, UL_ERRCNT2_DSOVF, UL_ERRCNT3_TAGERR, UL_ERRCNT3_ALIGNERR, UL_TRNCNT_DOWNCNT, UL_TRNCNT_ATTEMPTS]

/-! Page class ANG (spec/08_angle.md). -/

def ANG_CTRL_REVHYS : Fld := ⟨0x40, 24, 8, .rw, 0x4, false⟩
def ANG_CTRL_FILT : Fld := ⟨0x40, 16, 6, .rw, 0x5, false⟩
def ANG_CTRL_IDXGATE : Fld := ⟨0x40, 6, 2, .rw, 0x3, false⟩
def ANG_CTRL_SWAPAB : Fld := ⟨0x40, 5, 1, .rw, 0, false⟩
def ANG_CTRL_NEEDHOME : Fld := ⟨0x40, 4, 1, .rw, 0, false⟩
def ANG_CTRL_IDXCORR : Fld := ⟨0x40, 3, 1, .rw, 0, false⟩
def ANG_CTRL_IDXEN : Fld := ⟨0x40, 2, 1, .rw, 0, false⟩
def ANG_CTRL_MODE : Fld := ⟨0x40, 0, 1, .rw, 0, false⟩
def ANG_CPR_VALUE : Fld := ⟨0x44, 0, 20, .rw, 0xfff, false⟩
def ANG_DPR_VALUE : Fld := ⟨0x48, 0, 20, .rw, 0x3ff, false⟩
def ANG_STAT_HOMED : Fld := ⟨0x4c, 15, 1, .ro, 0, false⟩
def ANG_STAT_COAST : Fld := ⟨0x4c, 14, 1, .ro, 0, false⟩
def ANG_STAT_DIR : Fld := ⟨0x4c, 13, 1, .ro, 0, false⟩
def ANG_STAT_LOCKED : Fld := ⟨0x4c, 12, 1, .ro, 0, false⟩
def ANG_STAT_STATE : Fld := ⟨0x4c, 0, 2, .ro, 0, false⟩
def ANG_POS_POS : Fld := ⟨0x50, 0, 20, .ro, 0, false⟩
def ANG_DIV_DIV : Fld := ⟨0x54, 0, 20, .ro, 0, false⟩
def ANG_REV_REV : Fld := ⟨0x58, 0, 16, .ro, 0, false⟩
def ANG_TPD_TPD : Fld := ⟨0x5c, 0, 20, .ro, 0, false⟩
def ANG_PRESET_VALUE : Fld := ⟨0x60, 0, 20, .rw, 0, false⟩
def ANG_IDXPOS_VALUE : Fld := ⟨0x64, 0, 20, .rw, 0, false⟩
def ANG_CMD_REHOME : Fld := ⟨0x68, 1, 1, .wo, 0, false⟩
def ANG_CMD_HOME : Fld := ⟨0x68, 0, 1, .wo, 0, false⟩
def ANG_IDXCHK_IDXTOL : Fld := ⟨0x6c, 24, 8, .rw, 0x2, false⟩
def ANG_IDXCHK_DIFF : Fld := ⟨0x6c, 0, 20, .ro, 0, true⟩
def ANG_STOPTIME_TIME : Fld := ⟨0x70, 0, 20, .rw, 0x2710, false⟩
def ANG_TSLAST_LO_TS : Fld := ⟨0x74, 0, 32, .ro, 0, true⟩
def ANG_TSLAST_HI_TS : Fld := ⟨0x78, 0, 32, .ro, 0, true⟩
def ANG_ERRCNT_QERR : Fld := ⟨0x7c, 16, 16, .rc, 0, true⟩
def ANG_ERRCNT_IDXERR : Fld := ⟨0x7c, 0, 16, .rc, 0, true⟩
def ANG_FASTCNT_FAST : Fld := ⟨0x80, 0, 16, .rc, 0, true⟩

/-- The fields of the ANG page. -/
def fieldsANG : List Fld :=
  [ANG_CTRL_REVHYS, ANG_CTRL_FILT, ANG_CTRL_IDXGATE, ANG_CTRL_SWAPAB, ANG_CTRL_NEEDHOME, ANG_CTRL_IDXCORR, ANG_CTRL_IDXEN, ANG_CTRL_MODE, ANG_CPR_VALUE, ANG_DPR_VALUE, ANG_STAT_HOMED, ANG_STAT_COAST, ANG_STAT_DIR, ANG_STAT_LOCKED, ANG_STAT_STATE, ANG_POS_POS, ANG_DIV_DIV, ANG_REV_REV, ANG_TPD_TPD, ANG_PRESET_VALUE, ANG_IDXPOS_VALUE, ANG_CMD_REHOME, ANG_CMD_HOME, ANG_IDXCHK_IDXTOL] ++
  [ANG_IDXCHK_DIFF, ANG_STOPTIME_TIME, ANG_TSLAST_LO_TS, ANG_TSLAST_HI_TS, ANG_ERRCNT_QERR, ANG_ERRCNT_IDXERR, ANG_FASTCNT_FAST]

/-! Page class RGN (spec/09_fabric.md). -/

def RGN_STAT_CLKRUN : Fld := ⟨0x40, 16, 4, .ro, 0, false⟩
def RGN_STAT_QUAD : Fld := ⟨0x40, 10, 2, .ro, 0, false⟩
def RGN_STAT_TEMP : Fld := ⟨0x40, 0, 10, .ro, 0, false⟩
def RGN_CLKSEL_CLK3 : Fld := ⟨0x44, 24, 5, .ro, 0x1f, false⟩
def RGN_CLKSEL_CLK2 : Fld := ⟨0x44, 16, 5, .ro, 0x1f, false⟩
def RGN_CLKSEL_CLK1 : Fld := ⟨0x44, 8, 5, .ro, 0x1f, false⟩
def RGN_CLKSEL_CLK0 : Fld := ⟨0x44, 0, 5, .ro, 0x1f, false⟩
def RGN_PORTIDX_PORT : Fld := ⟨0x48, 0, 3, .rw, 0, false⟩
def RGN_PORTCFG_KIND : Fld := ⟨0x4c, 28, 3, .ro, 0, false⟩
def RGN_PORTCFG_PH : Fld := ⟨0x4c, 26, 2, .ro, 0, false⟩
def RGN_PORTCFG_D : Fld := ⟨0x4c, 20, 6, .ro, 0, false⟩
def RGN_PORTCFG_TURN : Fld := ⟨0x4c, 15, 5, .ro, 0, false⟩
def RGN_PORTCFG_PEER : Fld := ⟨0x4c, 0, 10, .ro, 0, false⟩
def RGN_RAMPERR_COUNT : Fld := ⟨0x50, 16, 16, .rc, 0, true⟩
def RGN_RAMPERR_FIRST : Fld := ⟨0x50, 0, 6, .rc, 0, true⟩
def RGN_REPAIR_SPENT : Fld := ⟨0x54, 31, 1, .ro, 0, false⟩
def RGN_REPAIR_BLOCKS : Fld := ⟨0x54, 0, 6, .ro, 0, false⟩
def RGN_FCERR_COUNT : Fld := ⟨0x58, 0, 16, .rc, 0, true⟩
def RGN_HOSTTO_COUNT : Fld := ⟨0x5c, 0, 16, .rc, 0, true⟩

/-- The fields of the RGN page. -/
def fieldsRGN : List Fld :=
  [RGN_STAT_CLKRUN, RGN_STAT_QUAD, RGN_STAT_TEMP, RGN_CLKSEL_CLK3, RGN_CLKSEL_CLK2, RGN_CLKSEL_CLK1, RGN_CLKSEL_CLK0, RGN_PORTIDX_PORT, RGN_PORTCFG_KIND, RGN_PORTCFG_PH, RGN_PORTCFG_D, RGN_PORTCFG_TURN, RGN_PORTCFG_PEER, RGN_RAMPERR_COUNT, RGN_RAMPERR_FIRST, RGN_REPAIR_SPENT, RGN_REPAIR_BLOCKS, RGN_FCERR_COUNT, RGN_HOSTTO_COUNT]

/-! Page class TUL (spec/09_fabric.md). -/

def TUL_CTRL_BETO : Fld := ⟨0x40, 0, 10, .rw, 0x64, false⟩
def TUL_STAT_STREAMS : Fld := ⟨0x44, 16, 9, .ro, 0, false⟩
def TUL_STAT_TARGETS : Fld := ⟨0x44, 0, 5, .ro, 0, false⟩
def TUL_SCHREF_VALID : Fld := ⟨0x48, 31, 1, .rc, 0, true⟩
def TUL_SCHREF_CAUSE : Fld := ⟨0x48, 28, 3, .rc, 0, true⟩
def TUL_SCHREF_TARGET : Fld := ⟨0x48, 10, 4, .rc, 0, true⟩
def TUL_SCHREF_PORT : Fld := ⟨0x48, 0, 10, .rc, 0, true⟩
def TUL_SCHMIN_MIN : Fld := ⟨0x4c, 0, 6, .rc, 0, true⟩
def TUL_BELAST_VALID : Fld := ⟨0x50, 31, 1, .rc, 0, true⟩
def TUL_BELAST_WRITE : Fld := ⟨0x50, 30, 1, .rc, 0, true⟩
def TUL_BELAST_FREE : Fld := ⟨0x50, 29, 1, .rc, 0, true⟩
def TUL_BELAST_REGION : Fld := ⟨0x50, 23, 6, .rc, 0, true⟩
def TUL_BELAST_ADDR : Fld := ⟨0x50, 0, 17, .rc, 0, true⟩
def TUL_PRCOLL_COUNT : Fld := ⟨0x54, 0, 16, .rc, 0, true⟩
def TUL_FCQ_TURN : Fld := ⟨0x58, 10, 5, .rw, 0x1, false⟩
def TUL_FCQ_PORT : Fld := ⟨0x58, 0, 10, .rw, 0, false⟩
def TUL_FCMIN_LATMIN : Fld := ⟨0x5c, 26, 6, .ro, 0xa, false⟩
def TUL_FCMIN_HOPS : Fld := ⟨0x5c, 0, 5, .ro, 0x3, false⟩

/-- The fields of the TUL page. -/
def fieldsTUL : List Fld :=
  [TUL_CTRL_BETO, TUL_STAT_STREAMS, TUL_STAT_TARGETS, TUL_SCHREF_VALID, TUL_SCHREF_CAUSE, TUL_SCHREF_TARGET, TUL_SCHREF_PORT, TUL_SCHMIN_MIN, TUL_BELAST_VALID, TUL_BELAST_WRITE, TUL_BELAST_FREE, TUL_BELAST_REGION, TUL_BELAST_ADDR, TUL_PRCOLL_COUNT, TUL_FCQ_TURN, TUL_FCQ_PORT, TUL_FCMIN_LATMIN, TUL_FCMIN_HOPS]

/-! Page class IOB (spec/09_fabric.md). -/

def IOB_CTRL_VIO : Fld := ⟨0x40, 0, 2, .rw, 0, false⟩
def IOB_STAT_HELD : Fld := ⟨0x44, 3, 1, .ro, 0, false⟩
def IOB_STAT_VOK : Fld := ⟨0x44, 2, 1, .ro, 0, false⟩
def IOB_STAT_VDET : Fld := ⟨0x44, 0, 2, .ro, 0x3, false⟩
def IOB_PINIDX_PIN : Fld := ⟨0x48, 0, 6, .rw, 0, false⟩
def IOB_PINCFG_DRIVE : Fld := ⟨0x4c, 30, 2, .rw, 0, false⟩
def IOB_PINCFG_SLEW : Fld := ⟨0x4c, 28, 2, .rw, 0, false⟩
def IOB_PINCFG_SCHMITT : Fld := ⟨0x4c, 27, 1, .rw, 0, false⟩
def IOB_PINCFG_PULL : Fld := ⟨0x4c, 25, 2, .rw, 0x2, false⟩
def IOB_PINCFG_FILT : Fld := ⟨0x4c, 0, 10, .rw, 0, false⟩
def IOB_LEVEL_LO_LEVEL : Fld := ⟨0x50, 0, 32, .ro, 0, false⟩
def IOB_LEVEL_HI_LEVEL : Fld := ⟨0x54, 0, 16, .ro, 0, false⟩

/-- The fields of the IOB page. -/
def fieldsIOB : List Fld :=
  [IOB_CTRL_VIO, IOB_STAT_HELD, IOB_STAT_VOK, IOB_STAT_VDET, IOB_PINIDX_PIN, IOB_PINCFG_DRIVE, IOB_PINCFG_SLEW, IOB_PINCFG_SCHMITT, IOB_PINCFG_PULL, IOB_PINCFG_FILT, IOB_LEVEL_LO_LEVEL, IOB_LEVEL_HI_LEVEL]

/-! Page class CFG (spec/10_config.md). -/

def CFG_BOOT_NOIMG : Fld := ⟨0x40, 4, 1, .ro, 0, true⟩
def CFG_BOOT_FALLBACK : Fld := ⟨0x40, 3, 1, .ro, 0, true⟩
def CFG_BOOT_SLOT : Fld := ⟨0x40, 0, 3, .ro, 0, true⟩
def CFG_BOOTSEQ_SEQ : Fld := ⟨0x44, 0, 32, .ro, 0, true⟩
def CFG_BOOTVER_IMGVER : Fld := ⟨0x48, 0, 32, .ro, 0, true⟩
def CFG_ASCMD_MODE : Fld := ⟨0x4c, 4, 1, .wo, 0, false⟩
def CFG_ASCMD_CLEAR : Fld := ⟨0x4c, 2, 1, .wo, 0, false⟩
def CFG_ASCMD_CANCEL : Fld := ⟨0x4c, 1, 1, .wo, 0, false⟩
def CFG_ASCMD_ARM : Fld := ⟨0x4c, 0, 1, .wo, 0, false⟩
def CFG_ASSWAP_LO_MASK : Fld := ⟨0x50, 0, 32, .rw, 0, false⟩
def CFG_ASSWAP_HI_MASK : Fld := ⟨0x54, 0, 32, .rw, 0, false⟩
def CFG_ASUNLD_LO_MASK : Fld := ⟨0x58, 0, 32, .rw, 0, false⟩
def CFG_ASUNLD_HI_MASK : Fld := ⟨0x5c, 0, 32, .rw, 0, false⟩
def CFG_ASOPT_CT : Fld := ⟨0x60, 0, 1, .rw, 0, false⟩
def CFG_ASFN_LO_FN : Fld := ⟨0x64, 0, 32, .rw, 0, false⟩
def CFG_ASFN_HI_FN : Fld := ⟨0x68, 0, 16, .rw, 0, false⟩
def CFG_ASSTAT_LATE : Fld := ⟨0x6c, 24, 1, .ro, 0, true⟩
def CFG_ASSTAT_WAIT : Fld := ⟨0x6c, 16, 7, .ro, 0, false⟩
def CFG_ASSTAT_RESULT : Fld := ⟨0x6c, 8, 4, .ro, 0, true⟩
def CFG_ASSTAT_STATE : Fld := ⟨0x6c, 0, 2, .ro, 0, false⟩
def CFG_ASEFN_FN : Fld := ⟨0x70, 0, 32, .ro, 0, true⟩
def CFG_RIDX_REGION : Fld := ⟨0x74, 0, 6, .rw, 0, false⟩
def CFG_RPLANE_ACTIVE : Fld := ⟨0x78, 30, 2, .ro, 0, false⟩
def CFG_RPLANE_VOILE : Fld := ⟨0x78, 28, 2, .ro, 0, false⟩
def CFG_RPLANE_PENDING : Fld := ⟨0x78, 27, 1, .ro, 0, false⟩
def CFG_RPLANE_ACKED : Fld := ⟨0x78, 26, 1, .ro, 0, false⟩
def CFG_RPLANE_FORCED : Fld := ⟨0x78, 25, 1, .ro, 0, false⟩
def CFG_RPLANE_SLOT : Fld := ⟨0x78, 16, 3, .ro, 0, false⟩
def CFG_RVER_AVER : Fld := ⟨0x7c, 16, 16, .ro, 0, false⟩
def CFG_RVER_VVER : Fld := ⟨0x7c, 0, 16, .ro, 0, false⟩
def CFG_RQTO_QTO : Fld := ⟨0x80, 0, 10, .rw, 0x64, false⟩
def CFG_STGSTAT_REQ : Fld := ⟨0x84, 31, 1, .ro, 0, false⟩
def CFG_STGSTAT_SLOT : Fld := ⟨0x84, 24, 3, .ro, 0, false⟩
def CFG_STGSTAT_CHUNK : Fld := ⟨0x84, 0, 6, .ro, 0, false⟩
def CFG_STGCTL_DONE : Fld := ⟨0x88, 31, 1, .wo, 0, false⟩
def CFG_STGCTL_CHUNK : Fld := ⟨0x88, 0, 6, .wo, 0, false⟩
def CFG_STGTO_TIME : Fld := ⟨0x8c, 0, 16, .rw, 0x3e8, false⟩
def CFG_PLCHK_VALID : Fld := ⟨0x90, 31, 1, .rc, 0, true⟩
def CFG_PLCHK_REGION : Fld := ⟨0x90, 8, 6, .rc, 0, true⟩
def CFG_PLCHK_FRAME : Fld := ⟨0x90, 0, 6, .rc, 0, true⟩
def CFG_PLCNT_COUNT : Fld := ⟨0x94, 0, 16, .rc, 0, true⟩

/-- The fields of the CFG page. -/
def fieldsCFG : List Fld :=
  [CFG_BOOT_NOIMG, CFG_BOOT_FALLBACK, CFG_BOOT_SLOT, CFG_BOOTSEQ_SEQ, CFG_BOOTVER_IMGVER, CFG_ASCMD_MODE, CFG_ASCMD_CLEAR, CFG_ASCMD_CANCEL, CFG_ASCMD_ARM, CFG_ASSWAP_LO_MASK, CFG_ASSWAP_HI_MASK, CFG_ASUNLD_LO_MASK, CFG_ASUNLD_HI_MASK, CFG_ASOPT_CT, CFG_ASFN_LO_FN, CFG_ASFN_HI_FN, CFG_ASSTAT_LATE, CFG_ASSTAT_WAIT, CFG_ASSTAT_RESULT, CFG_ASSTAT_STATE, CFG_ASEFN_FN, CFG_RIDX_REGION, CFG_RPLANE_ACTIVE, CFG_RPLANE_VOILE] ++
  [CFG_RPLANE_PENDING, CFG_RPLANE_ACKED, CFG_RPLANE_FORCED, CFG_RPLANE_SLOT, CFG_RVER_AVER, CFG_RVER_VVER, CFG_RQTO_QTO, CFG_STGSTAT_REQ, CFG_STGSTAT_SLOT, CFG_STGSTAT_CHUNK, CFG_STGCTL_DONE, CFG_STGCTL_CHUNK, CFG_STGTO_TIME, CFG_PLCHK_VALID, CFG_PLCHK_REGION, CFG_PLCHK_FRAME, CFG_PLCNT_COUNT]

/-! Page class SVC (spec/11_flash.md). -/

def SVC_ARG_VALUE (i : Nat) : Fld := ⟨0x40 + 4 * i, 0, 32, .rw, 0, false⟩
def SVC_CMD_TAG : Fld := ⟨0x60, 16, 8, .wo, 0, false⟩
def SVC_CMD_CODE : Fld := ⟨0x60, 0, 8, .wo, 0, false⟩
def SVC_ISSUE_STATUS : Fld := ⟨0x64, 24, 8, .ro, 0, false⟩
def SVC_ISSUE_TAG : Fld := ⟨0x64, 16, 8, .ro, 0, false⟩
def SVC_ISSUE_QUEUED : Fld := ⟨0x64, 0, 4, .ro, 0, false⟩
def SVC_ACTIVE_STATUS : Fld := ⟨0x68, 24, 8, .ro, 0, false⟩
def SVC_ACTIVE_TAG : Fld := ⟨0x68, 16, 8, .ro, 0, false⟩
def SVC_ACTIVE_CODE : Fld := ⟨0x68, 8, 8, .ro, 0, false⟩
def SVC_CPL_VALID : Fld := ⟨0x6c, 31, 1, .rc, 0, true⟩
def SVC_CPL_TAG : Fld := ⟨0x6c, 16, 8, .rc, 0, true⟩
def SVC_CPL_CODE : Fld := ⟨0x6c, 8, 8, .rc, 0, true⟩
def SVC_CPL_STATUS : Fld := ⟨0x6c, 0, 8, .rc, 0, true⟩
def SVC_CPLRES_RESULT : Fld := ⟨0x70, 0, 32, .ro, 0, false⟩

/-- The fields of the SVC page. -/
def fieldsSVC : List Fld :=
  [SVC_CMD_TAG, SVC_CMD_CODE, SVC_ISSUE_STATUS, SVC_ISSUE_TAG, SVC_ISSUE_QUEUED, SVC_ACTIVE_STATUS, SVC_ACTIVE_TAG, SVC_ACTIVE_CODE, SVC_CPL_VALID, SVC_CPL_TAG, SVC_CPL_CODE, SVC_CPL_STATUS, SVC_CPLRES_RESULT] ++
  (List.range 8).map SVC_ARG_VALUE

/-! Page class FLS (spec/11_flash.md). -/

def FLS_CTRL_SUSPMIN : Fld := ⟨0x40, 16, 16, .rw, 0x190, false⟩
def FLS_CTRL_MWTHR : Fld := ⟨0x40, 12, 4, .rw, 0x4, false⟩
def FLS_CTRL_ERSLOW : Fld := ⟨0x40, 0, 8, .rw, 0xc, false⟩
def FLS_STAT_BGSTATUS : Fld := ⟨0x44, 24, 8, .ro, 0, false⟩
def FLS_STAT_BGOP : Fld := ⟨0x44, 21, 3, .ro, 0, false⟩
def FLS_STAT_BGBLOCK : Fld := ⟨0x44, 0, 9, .ro, 0, false⟩
def FLS_POOL_PENDCNT : Fld := ⟨0x48, 22, 10, .ro, 0, false⟩
def FLS_POOL_GROWN : Fld := ⟨0x48, 16, 6, .ro, 0, false⟩
def FLS_POOL_FACTORY : Fld := ⟨0x48, 11, 5, .ro, 0, false⟩
def FLS_POOL_SPARES : Fld := ⟨0x48, 0, 5, .ro, 0, false⟩
def FLS_BBIDX_ENTRY : Fld := ⟨0x4c, 0, 6, .rw, 0, false⟩
def FLS_BBENT_VALID : Fld := ⟨0x50, 31, 1, .ro, 0, false⟩
def FLS_BBENT_CAUSE : Fld := ⟨0x50, 28, 3, .ro, 0, false⟩
def FLS_BBENT_REPLACED : Fld := ⟨0x50, 27, 1, .ro, 0, false⟩
def FLS_BBENT_LOGICAL : Fld := ⟨0x50, 16, 9, .ro, 0, false⟩
def FLS_BBENT_PHYSICAL : Fld := ⟨0x50, 0, 9, .ro, 0, false⟩
def FLS_ZONE_LOCKED : Fld := ⟨0x54, 16, 16, .ro, 0, false⟩
def FLS_ZONE_PERM : Fld := ⟨0x54, 0, 16, .ro, 0, false⟩
def FLS_ZONEPW_LOCKOUT : Fld := ⟨0x58, 31, 1, .ro, 0, false⟩
def FLS_ZONEPW_FAILS : Fld := ⟨0x58, 0, 4, .ro, 0, false⟩
def FLS_LOGSAVE_USED : Fld := ⟨0x5c, 16, 10, .ro, 0, false⟩
def FLS_LOGSAVE_ERASED : Fld := ⟨0x5c, 0, 10, .ro, 0, false⟩
def FLS_LASTERS_PULSES : Fld := ⟨0x60, 24, 8, .ro, 0, false⟩
def FLS_LASTERS_BLOCK : Fld := ⟨0x60, 0, 9, .ro, 0, false⟩

/-- The fields of the FLS page. -/
def fieldsFLS : List Fld :=
  [FLS_CTRL_SUSPMIN, FLS_CTRL_MWTHR, FLS_CTRL_ERSLOW, FLS_STAT_BGSTATUS, FLS_STAT_BGOP, FLS_STAT_BGBLOCK, FLS_POOL_PENDCNT, FLS_POOL_GROWN, FLS_POOL_FACTORY, FLS_POOL_SPARES, FLS_BBIDX_ENTRY, FLS_BBENT_VALID, FLS_BBENT_CAUSE, FLS_BBENT_REPLACED, FLS_BBENT_LOGICAL, FLS_BBENT_PHYSICAL, FLS_ZONE_LOCKED, FLS_ZONE_PERM, FLS_ZONEPW_LOCKOUT, FLS_ZONEPW_FAILS, FLS_LOGSAVE_USED, FLS_LOGSAVE_ERASED, FLS_LASTERS_PULSES, FLS_LASTERS_BLOCK]

/-! Page class CLK (spec/12_clocks.md). -/

def CLK_CTRL_SPREAD : Fld := ⟨0x40, 8, 4, .rw, 0, false⟩
def CLK_CTRL_EN : Fld := ⟨0x40, 0, 1, .ro, 0x1, false⟩
def CLK_STAT_REFSEL : Fld := ⟨0x44, 12, 2, .ro, 0, false⟩
def CLK_STAT_LKIBELOW : Fld := ⟨0x44, 11, 1, .ro, 0, false⟩
def CLK_STAT_WINDOW : Fld := ⟨0x44, 10, 1, .ro, 0, false⟩
def CLK_STAT_RAMP : Fld := ⟨0x44, 9, 1, .ro, 0, false⟩
def CLK_STAT_MUTED : Fld := ⟨0x44, 8, 1, .ro, 0x1, false⟩
def CLK_STAT_BAND : Fld := ⟨0x44, 4, 4, .ro, 0, false⟩
def CLK_STAT_STATE : Fld := ⟨0x44, 0, 2, .ro, 0, false⟩
def CLK_MULT_M : Fld := ⟨0x48, 0, 24, .rw, 0, false⟩
def CLK_MACT_M : Fld := ⟨0x4c, 0, 24, .ro, 0, false⟩
def CLK_DIV_DIV3 : Fld := ⟨0x50, 24, 8, .rw, 0x7, false⟩
def CLK_DIV_DIV2 : Fld := ⟨0x50, 16, 8, .rw, 0x3, false⟩
def CLK_DIV_DIV1 : Fld := ⟨0x50, 8, 8, .rw, 0x1, false⟩
def CLK_DIV_DIV0 : Fld := ⟨0x50, 0, 8, .rw, 0, false⟩
def CLK_PHASE_PHPOS : Fld := ⟨0x54, 16, 6, .ro, 0, false⟩
def CLK_PHASE_PEND : Fld := ⟨0x54, 8, 7, .ro, 0, false⟩
def CLK_PHASE_STEPS : Fld := ⟨0x54, 0, 7, .wo, 0, false⟩
def CLK_BANDIDX_BAND : Fld := ⟨0x58, 0, 4, .rw, 0, false⟩
def CLK_BANDDATA_FMAX : Fld := ⟨0x5c, 16, 16, .rw, 0, false⟩
def CLK_BANDDATA_FMIN : Fld := ⟨0x5c, 0, 16, .rw, 0, false⟩
def CLK_REFMON_COASTLIM : Fld := ⟨0x60, 0, 8, .rw, 0xa, false⟩
def CLK_COASTCNT_COUNT : Fld := ⟨0x64, 0, 16, .rc, 0, true⟩
def CLK_TIME_LO_TIME : Fld := ⟨0x68, 0, 32, .ro, 0, false⟩
def CLK_TIME_HI_TIME : Fld := ⟨0x6c, 0, 32, .ro, 0, false⟩

/-- The fields that every CLK page has. -/
def fieldsCLK : List Fld :=
  [CLK_CTRL_SPREAD, CLK_CTRL_EN, CLK_STAT_REFSEL, CLK_STAT_LKIBELOW, CLK_STAT_WINDOW, CLK_STAT_RAMP, CLK_STAT_MUTED, CLK_STAT_BAND, CLK_STAT_STATE, CLK_MULT_M, CLK_MACT_M, CLK_DIV_DIV3, CLK_DIV_DIV2, CLK_DIV_DIV1, CLK_DIV_DIV0, CLK_PHASE_PHPOS, CLK_PHASE_PEND, CLK_PHASE_STEPS, CLK_BANDIDX_BAND, CLK_BANDDATA_FMAX, CLK_BANDDATA_FMIN]

/-- The fields of CLK0 only. -/
def fieldsCLK0 : List Fld :=
  [CLK_REFMON_COASTLIM, CLK_COASTCNT_COUNT, CLK_TIME_LO_TIME, CLK_TIME_HI_TIME]

/-! Page class PWR (spec/13_power.md). -/

def PWR_CMD_WAKE : Fld := ⟨0x40, 2, 1, .wo, 0, false⟩
def PWR_CMD_GAUZE : Fld := ⟨0x40, 0, 1, .wo, 0, false⟩
def PWR_CMDSTAT_STATUS : Fld := ⟨0x44, 24, 8, .ro, 0, false⟩
def PWR_CMDSTAT_DOMAIN : Fld := ⟨0x44, 16, 4, .ro, 0, false⟩
def PWR_CMDSTAT_REASON : Fld := ⟨0x44, 8, 4, .ro, 0, false⟩
def PWR_STAT_STOPPED : Fld := ⟨0x48, 16, 7, .ro, 0, false⟩
def PWR_STAT_PADHELD : Fld := ⟨0x48, 8, 1, .ro, 0, false⟩
def PWR_STAT_STATE : Fld := ⟨0x48, 0, 3, .ro, 0, false⟩
def PWR_CTRL_INTERVAL : Fld := ⟨0x4c, 16, 16, .rw, 0x3e8, false⟩
def PWR_CTRL_CONSEC : Fld := ⟨0x4c, 12, 4, .rw, 0x1, false⟩
def PWR_CTRL_WAKEB : Fld := ⟨0x4c, 0, 1, .rw, 0, false⟩
def PWR_RETAIN_BANKS : Fld := ⟨0x50, 0, 32, .rw, 0, false⟩
def PWR_WCFG_WIPOL : Fld := ⟨0x54, 2, 1, .rw, 0, false⟩
def PWR_WCFG_WIMODE : Fld := ⟨0x54, 0, 2, .rw, 0, false⟩
def PWR_WPMODE_MODE : Fld := ⟨0x58, 0, 32, .rw, 0, false⟩
def PWR_WPPOL_POL : Fld := ⟨0x5c, 0, 16, .rw, 0, false⟩
def PWR_ADCSEL_CH : Fld := ⟨0x60, 0, 16, .rw, 0, false⟩
def PWR_THR_HI (i : Nat) : Fld := ⟨0x64 + 4 * i, 10, 10, .rw, 0x3ff, false⟩
def PWR_THR_LO (i : Nat) : Fld := ⟨0x64 + 4 * i, 0, 10, .rw, 0, false⟩
def PWR_TWAKE_COUNT : Fld := ⟨0xa4, 0, 16, .rw, 0, false⟩
def PWR_WAKESRC_SRC : Fld := ⟨0xa8, 24, 3, .ro, 0, false⟩
def PWR_WAKESRC_INDEX : Fld := ⟨0xa8, 16, 4, .ro, 0, false⟩
def PWR_WAKESRC_VALUE : Fld := ⟨0xa8, 0, 10, .ro, 0, false⟩
def PWR_WAKECNT_COUNT : Fld := ⟨0xac, 0, 32, .ro, 0, false⟩
def PWR_SAMPCNT_COUNT : Fld := ⟨0xb0, 0, 32, .ro, 0, false⟩
def PWR_BANKLOST_BANKS : Fld := ⟨0xb4, 0, 32, .rc, 0, true⟩

/-- The fields of the PWR page. -/
def fieldsPWR : List Fld :=
  [PWR_CMD_WAKE, PWR_CMD_GAUZE, PWR_CMDSTAT_STATUS, PWR_CMDSTAT_DOMAIN, PWR_CMDSTAT_REASON, PWR_STAT_STOPPED, PWR_STAT_PADHELD, PWR_STAT_STATE, PWR_CTRL_INTERVAL, PWR_CTRL_CONSEC, PWR_CTRL_WAKEB, PWR_RETAIN_BANKS, PWR_WCFG_WIPOL, PWR_WCFG_WIMODE, PWR_WPMODE_MODE, PWR_WPPOL_POL, PWR_ADCSEL_CH, PWR_TWAKE_COUNT, PWR_WAKESRC_SRC, PWR_WAKESRC_INDEX, PWR_WAKESRC_VALUE, PWR_WAKECNT_COUNT, PWR_SAMPCNT_COUNT, PWR_BANKLOST_BANKS] ++
  (List.range 16).map PWR_THR_HI ++
  (List.range 16).map PWR_THR_LO

/-! Page class ADC (spec/13_power.md). -/

def ADC_CTRL_CHEN : Fld := ⟨0x40, 0, 16, .rw, 0, false⟩
def ADC_STAT_RUNNING : Fld := ⟨0x44, 31, 1, .ro, 0, false⟩
def ADC_STAT_LASTCH : Fld := ⟨0x44, 0, 4, .ro, 0, false⟩
def ADC_RES_NEW (i : Nat) : Fld := ⟨0x48 + 4 * i, 30, 1, .rc, 0, true⟩
def ADC_RES_LANES (i : Nat) : Fld := ⟨0x48 + 4 * i, 0, 30, .ro, 0, false⟩
def ADC_CNVCNT_COUNT : Fld := ⟨0x60, 0, 32, .ro, 0, true⟩

/-- The fields of the ADC page. -/
def fieldsADC : List Fld :=
  [ADC_CTRL_CHEN, ADC_STAT_RUNNING, ADC_STAT_LASTCH, ADC_CNVCNT_COUNT] ++
  (List.range 6).map ADC_RES_NEW ++
  (List.range 6).map ADC_RES_LANES

/-! Page class LCS (spec/14_lifecycle.md). -/

def LCS_STATE_PENDING : Fld := ⟨0x40, 23, 1, .ro, 0, false⟩
def LCS_STATE_PARTIAL : Fld := ⟨0x40, 22, 1, .ro, 0, false⟩
def LCS_STATE_CPYB : Fld := ⟨0x40, 19, 3, .ro, 0, false⟩
def LCS_STATE_CPYA : Fld := ⟨0x40, 16, 3, .ro, 0, false⟩
def LCS_STATE_INDEX : Fld := ⟨0x40, 8, 3, .ro, 0, false⟩
def LCS_STATE_CODE : Fld := ⟨0x40, 0, 8, .ro, 0, false⟩
def LCS_TRANSITION_CUR : Fld := ⟨0x44, 8, 8, .wo, 0, false⟩
def LCS_TRANSITION_TGT : Fld := ⟨0x44, 0, 8, .wo, 0, false⟩
def LCS_TSTAT_STATUS : Fld := ⟨0x48, 24, 8, .ro, 0, false⟩
def LCS_TSTAT_PHASE : Fld := ⟨0x48, 20, 4, .ro, 0, false⟩
def LCS_TSTAT_TGT : Fld := ⟨0x48, 8, 8, .ro, 0, false⟩
def LCS_TSTAT_WIPEPCT : Fld := ⟨0x48, 0, 7, .ro, 0, false⟩
def LCS_FUSEA_SCRAP : Fld := ⟨0x4c, 12, 4, .ro, 0, false⟩
def LCS_FUSEA_RETURN : Fld := ⟨0x4c, 8, 4, .ro, 0, false⟩
def LCS_FUSEA_SECURE : Fld := ⟨0x4c, 4, 4, .ro, 0, false⟩
def LCS_FUSEA_DEVELOP : Fld := ⟨0x4c, 0, 4, .ro, 0, false⟩
def LCS_FUSEB_SCRAP : Fld := ⟨0x50, 12, 4, .ro, 0, false⟩
def LCS_FUSEB_RETURN : Fld := ⟨0x50, 8, 4, .ro, 0, false⟩
def LCS_FUSEB_SECURE : Fld := ⟨0x50, 4, 4, .ro, 0, false⟩
def LCS_FUSEB_DEVELOP : Fld := ⟨0x50, 0, 4, .ro, 0, false⟩
def LCS_INTENT_SCRAP : Fld := ⟨0x54, 12, 4, .ro, 0, false⟩
def LCS_INTENT_RETURN : Fld := ⟨0x54, 8, 4, .ro, 0, false⟩
def LCS_INTENT_SECURE : Fld := ⟨0x54, 4, 4, .ro, 0, false⟩
def LCS_INTENT_DEVELOP : Fld := ⟨0x54, 0, 4, .ro, 0, false⟩
def LCS_KEYSTAT_DBGUSE : Fld := ⟨0x58, 10, 1, .ro, 0, false⟩
def LCS_KEYSTAT_OEM1USE : Fld := ⟨0x58, 9, 1, .ro, 0, false⟩
def LCS_KEYSTAT_OEM0USE : Fld := ⟨0x58, 8, 1, .ro, 0, false⟩
def LCS_KEYSTAT_DBGREV : Fld := ⟨0x58, 7, 1, .ro, 0, false⟩
def LCS_KEYSTAT_DBGPRG : Fld := ⟨0x58, 6, 1, .ro, 0, false⟩
def LCS_KEYSTAT_AES1 : Fld := ⟨0x58, 5, 1, .ro, 0, false⟩
def LCS_KEYSTAT_AES0 : Fld := ⟨0x58, 4, 1, .ro, 0, false⟩
def LCS_KEYSTAT_OEM1REV : Fld := ⟨0x58, 3, 1, .ro, 0, false⟩
def LCS_KEYSTAT_OEM1PRG : Fld := ⟨0x58, 2, 1, .ro, 0, false⟩
def LCS_KEYSTAT_OEM0REV : Fld := ⟨0x58, 1, 1, .ro, 0, false⟩
def LCS_KEYSTAT_OEM0PRG : Fld := ⟨0x58, 0, 1, .ro, 0, false⟩
def LCS_DBGSTAT_MAKER : Fld := ⟨0x5c, 3, 1, .ro, 0, false⟩
def LCS_DBGSTAT_PLRD : Fld := ⟨0x5c, 2, 1, .ro, 0, false⟩
def LCS_DBGSTAT_INTDBG : Fld := ⟨0x5c, 1, 1, .ro, 0, false⟩
def LCS_DBGSTAT_BSCAN : Fld := ⟨0x5c, 0, 1, .ro, 0, false⟩
def LCS_CERTCMD_CLEAR : Fld := ⟨0x60, 1, 1, .wo, 0, false⟩
def LCS_CERTCMD_VERIFY : Fld := ⟨0x60, 0, 1, .wo, 0, false⟩
def LCS_CERTSTAT_STATUS : Fld := ⟨0x64, 24, 8, .ro, 0, false⟩
def LCS_CERTSTAT_KIND : Fld := ⟨0x64, 16, 4, .ro, 0, false⟩
def LCS_CERTSTAT_SIGNER : Fld := ⟨0x64, 12, 4, .ro, 0, false⟩
def LCS_CERTSTAT_TARGET : Fld := ⟨0x64, 8, 4, .ro, 0, false⟩
def LCS_CERTSTAT_PERM : Fld := ⟨0x64, 0, 2, .ro, 0, false⟩
def LCS_DEVID_ID (i : Nat) : Fld := ⟨0x68 + 4 * i, 0, 32, .ro, 0, false⟩
def LCS_CERT_BYTES (i : Nat) : Fld := ⟨0x100 + 4 * i, 0, 32, .rw, 0, false⟩

/-- The fields of the LCS page. -/
def fieldsLCS : List Fld :=
  [LCS_STATE_PENDING, LCS_STATE_PARTIAL, LCS_STATE_CPYB, LCS_STATE_CPYA, LCS_STATE_INDEX, LCS_STATE_CODE, LCS_TRANSITION_CUR, LCS_TRANSITION_TGT, LCS_TSTAT_STATUS, LCS_TSTAT_PHASE, LCS_TSTAT_TGT, LCS_TSTAT_WIPEPCT, LCS_FUSEA_SCRAP, LCS_FUSEA_RETURN, LCS_FUSEA_SECURE, LCS_FUSEA_DEVELOP, LCS_FUSEB_SCRAP, LCS_FUSEB_RETURN, LCS_FUSEB_SECURE, LCS_FUSEB_DEVELOP, LCS_INTENT_SCRAP, LCS_INTENT_RETURN, LCS_INTENT_SECURE, LCS_INTENT_DEVELOP] ++
  [LCS_KEYSTAT_DBGUSE, LCS_KEYSTAT_OEM1USE, LCS_KEYSTAT_OEM0USE, LCS_KEYSTAT_DBGREV, LCS_KEYSTAT_DBGPRG, LCS_KEYSTAT_AES1, LCS_KEYSTAT_AES0, LCS_KEYSTAT_OEM1REV, LCS_KEYSTAT_OEM1PRG, LCS_KEYSTAT_OEM0REV, LCS_KEYSTAT_OEM0PRG, LCS_DBGSTAT_MAKER, LCS_DBGSTAT_PLRD, LCS_DBGSTAT_INTDBG, LCS_DBGSTAT_BSCAN, LCS_CERTCMD_CLEAR, LCS_CERTCMD_VERIFY, LCS_CERTSTAT_STATUS, LCS_CERTSTAT_KIND, LCS_CERTSTAT_SIGNER, LCS_CERTSTAT_TARGET, LCS_CERTSTAT_PERM] ++
  (List.range 4).map LCS_DEVID_ID ++
  (List.range 64).map LCS_CERT_BYTES

/-! Page class TWN (spec/15_twin.md). -/

def TWN_CTRL_LAGMAX : Fld := ⟨0x40, 24, 8, .rw, 0x5, false⟩
def TWN_CTRL_HBWIN : Fld := ⟨0x40, 16, 8, .rw, 0x14, false⟩
def TWN_CTRL_FLTPROMO : Fld := ⟨0x40, 1, 1, .rw, 0x1, false⟩
def TWN_CTRL_AUTOPROMO : Fld := ⟨0x40, 0, 1, .rw, 0x1, false⟩
def TWN_CMD_SWITCH : Fld := ⟨0x44, 3, 1, .wo, 0, false⟩
def TWN_CMD_LEAVE : Fld := ⟨0x44, 2, 1, .wo, 0, false⟩
def TWN_CMD_JOINSTBY : Fld := ⟨0x44, 1, 1, .wo, 0, false⟩
def TWN_CMD_JOINPRI : Fld := ⟨0x44, 0, 1, .wo, 0, false⟩
def TWN_STAT_INELIG : Fld := ⟨0x48, 28, 4, .ro, 0xf, false⟩
def TWN_STAT_ELIG : Fld := ⟨0x48, 27, 1, .ro, 0, false⟩
def TWN_STAT_PAIRED : Fld := ⟨0x48, 26, 1, .ro, 0, false⟩
def TWN_STAT_LINKUP : Fld := ⟨0x48, 25, 1, .ro, 0, false⟩
def TWN_STAT_PHLTH : Fld := ⟨0x48, 24, 1, .ro, 0, false⟩
def TWN_STAT_PLIVE : Fld := ⟨0x48, 23, 1, .ro, 0, false⟩
def TWN_STAT_LANES : Fld := ⟨0x48, 16, 4, .ro, 0, false⟩
def TWN_STAT_SSTATE : Fld := ⟨0x48, 2, 2, .ro, 0, false⟩
def TWN_STAT_ROLE : Fld := ⟨0x48, 0, 2, .ro, 0, false⟩
def TWN_CONF_LO_CONF : Fld := ⟨0x4c, 0, 32, .ro, 0, false⟩
def TWN_CONF_HI_CONF : Fld := ⟨0x50, 0, 16, .ro, 0, false⟩
def TWN_LAG_MAX : Fld := ⟨0x54, 16, 16, .rc, 0, true⟩
def TWN_LAG_NOW : Fld := ⟨0x54, 0, 16, .ro, 0, false⟩
def TWN_JOINSTAT_CAUSE : Fld := ⟨0x58, 28, 4, .rc, 0, true⟩
def TWN_JOINSTAT_PCT : Fld := ⟨0x58, 0, 7, .ro, 0, false⟩
def TWN_DIVLAST_VALID : Fld := ⟨0x5c, 31, 1, .rc, 0, true⟩
def TWN_DIVLAST_FN : Fld := ⟨0x5c, 0, 24, .rc, 0, true⟩
def TWN_CNT1_DIVCNT : Fld := ⟨0x60, 16, 16, .rc, 0, true⟩
def TWN_CNT1_HBMISS : Fld := ⟨0x60, 0, 16, .rc, 0, true⟩
def TWN_CNT2_FOVCNT : Fld := ⟨0x64, 16, 16, .rc, 0, true⟩
def TWN_CNT2_RETRY : Fld := ⟨0x64, 0, 16, .rc, 0, true⟩
def TWN_FOVLAST_CAUSE : Fld := ⟨0x68, 29, 3, .ro, 0, true⟩
def TWN_FOVLAST_FN : Fld := ⟨0x68, 0, 24, .ro, 0, true⟩
def TWN_RSYNC_LAST : Fld := ⟨0x6c, 16, 16, .ro, 0, true⟩
def TWN_RSYNC_COUNT : Fld := ⟨0x6c, 0, 16, .ro, 0, true⟩

/-- The fields of the TWN page. -/
def fieldsTWN : List Fld :=
  [TWN_CTRL_LAGMAX, TWN_CTRL_HBWIN, TWN_CTRL_FLTPROMO, TWN_CTRL_AUTOPROMO, TWN_CMD_SWITCH, TWN_CMD_LEAVE, TWN_CMD_JOINSTBY, TWN_CMD_JOINPRI, TWN_STAT_INELIG, TWN_STAT_ELIG, TWN_STAT_PAIRED, TWN_STAT_LINKUP, TWN_STAT_PHLTH, TWN_STAT_PLIVE, TWN_STAT_LANES, TWN_STAT_SSTATE, TWN_STAT_ROLE, TWN_CONF_LO_CONF, TWN_CONF_HI_CONF, TWN_LAG_MAX, TWN_LAG_NOW, TWN_JOINSTAT_CAUSE, TWN_JOINSTAT_PCT, TWN_DIVLAST_VALID] ++
  [TWN_DIVLAST_FN, TWN_CNT1_DIVCNT, TWN_CNT1_HBMISS, TWN_CNT2_FOVCNT, TWN_CNT2_RETRY, TWN_FOVLAST_CAUSE, TWN_FOVLAST_FN, TWN_RSYNC_LAST, TWN_RSYNC_COUNT]

/-! Page class ERR (spec/16_errors.md). -/

def ERR_FSTAT_VALID : Fld := ⟨0x40, 31, 1, .rc, 0, true⟩
def ERR_FSTAT_PAGE : Fld := ⟨0x40, 16, 9, .rc, 0, true⟩
def ERR_FSTAT_CAUSE : Fld := ⟨0x40, 0, 4, .rc, 0, true⟩
def ERR_CLASSCNT_CONTAINED : Fld := ⟨0x44, 16, 16, .rc, 0, true⟩
def ERR_CLASSCNT_CORRECTED : Fld := ⟨0x44, 0, 16, .rc, 0, true⟩
def ERR_THERM_TRIP : Fld := ⟨0x48, 31, 1, .ro, 0, false⟩
def ERR_THERM_REGION : Fld := ⟨0x48, 24, 6, .ro, 0, false⟩
def ERR_THERM_TMAX : Fld := ⟨0x48, 0, 10, .ro, 0, false⟩
def ERR_MARGIN_DV : Fld := ⟨0x4c, 24, 8, .ro, 0, false⟩
def ERR_MARGIN_DT : Fld := ⟨0x4c, 16, 8, .ro, 0, false⟩
def ERR_MARGIN_HOT : Fld := ⟨0x4c, 8, 6, .ro, 0, false⟩
def ERR_MARGIN_COLD : Fld := ⟨0x4c, 0, 6, .ro, 0, false⟩
def ERR_UVLO_VALID : Fld := ⟨0x50, 31, 1, .rc, 0, true⟩
def ERR_UVLO_RAIL : Fld := ⟨0x50, 0, 3, .rc, 0, true⟩
def ERR_ERRSUM_PAGES (i : Nat) : Fld := ⟨0x80 + 4 * i, 0, 32, .ro, 0, false⟩

/-- The fields of the ERR page. -/
def fieldsERR : List Fld :=
  [ERR_FSTAT_VALID, ERR_FSTAT_PAGE, ERR_FSTAT_CAUSE, ERR_CLASSCNT_CONTAINED, ERR_CLASSCNT_CORRECTED, ERR_THERM_TRIP, ERR_THERM_REGION, ERR_THERM_TMAX, ERR_MARGIN_DV, ERR_MARGIN_DT, ERR_MARGIN_HOT, ERR_MARGIN_COLD, ERR_UVLO_VALID, ERR_UVLO_RAIL] ++
  (List.range 16).map ERR_ERRSUM_PAGES

/-! Page class LOG (spec/16_errors.md). -/

def LOG_CTRL_IRQSEV : Fld := ⟨0x40, 8, 3, .rw, 0x3, false⟩
def LOG_CTRL_UNFREEZE : Fld := ⟨0x40, 0, 1, .wo, 0, false⟩
def LOG_STAT_FROZEN : Fld := ⟨0x44, 31, 1, .ro, 0, false⟩
def LOG_STAT_WRPTR : Fld := ⟨0x44, 0, 12, .ro, 0, false⟩
def LOG_TOTAL_COUNT : Fld := ⟨0x48, 0, 32, .ro, 0, false⟩
def LOG_DROPPED_COUNT : Fld := ⟨0x4c, 0, 16, .rc, 0, true⟩
def LOG_IDX_ENTRY : Fld := ⟨0x50, 0, 12, .rw, 0, false⟩
def LOG_ENT0_BITS : Fld := ⟨0x54, 0, 32, .ro, 0, false⟩
def LOG_ENT1_BITS : Fld := ⟨0x58, 0, 32, .ro, 0, false⟩
def LOG_ENT2_BITS : Fld := ⟨0x5c, 0, 32, .ro, 0, false⟩
def LOG_ENT3_BITS : Fld := ⟨0x60, 0, 32, .ro, 0, false⟩
def LOG_USER_ARG : Fld := ⟨0x64, 0, 32, .wo, 0, false⟩
def LOG_PFW_ASSERTED : Fld := ⟨0x68, 31, 1, .ro, 0, false⟩
def LOG_PFW_BLOCKED : Fld := ⟨0x68, 30, 1, .ro, 0, false⟩
def LOG_PFW_DROPW : Fld := ⟨0x68, 0, 16, .rc, 0, true⟩

/-- The fields of the LOG page. -/
def fieldsLOG : List Fld :=
  [LOG_CTRL_IRQSEV, LOG_CTRL_UNFREEZE, LOG_STAT_FROZEN, LOG_STAT_WRPTR, LOG_TOTAL_COUNT, LOG_DROPPED_COUNT, LOG_IDX_ENTRY, LOG_ENT0_BITS, LOG_ENT1_BITS, LOG_ENT2_BITS, LOG_ENT3_BITS, LOG_USER_ARG, LOG_PFW_ASSERTED, LOG_PFW_BLOCKED, LOG_PFW_DROPW]

/-! Page class HDR (spec/18_host.md). -/

def HDR_PG_ID_CLASS : Fld := ⟨0x0, 24, 8, .ro, 0, false⟩
def HDR_PG_ID_INSTANCE : Fld := ⟨0x0, 16, 8, .ro, 0, false⟩
def HDR_PG_ID_VERSION : Fld := ⟨0x0, 0, 16, .ro, 0x1, false⟩
def HDR_PG_STAT_CLKON : Fld := ⟨0x4, 31, 1, .ro, 0x1, false⟩
def HDR_PG_STAT_PWRON : Fld := ⟨0x4, 30, 1, .ro, 0x1, false⟩
def HDR_PG_STAT_BUSY : Fld := ⟨0x4, 29, 1, .ro, 0, false⟩
def HDR_PG_STAT_ERR : Fld := ⟨0x4, 28, 1, .ro, 0, false⟩
def HDR_PG_STAT_READY : Fld := ⟨0x4, 27, 1, .ro, 0, false⟩
def HDR_PG_STAT_STATE : Fld := ⟨0x4, 0, 8, .ro, 0, false⟩
def HDR_PG_CTRL_FREEZE : Fld := ⟨0x8, 2, 1, .rw, 0, false⟩
def HDR_PG_CTRL_SRST : Fld := ⟨0x8, 1, 1, .rw, 0, false⟩
def HDR_PG_CTRL_EN : Fld := ⟨0x8, 0, 1, .rw, 0, false⟩
def HDR_PG_ERR_ERR : Fld := ⟨0xc, 0, 32, .w1c, 0, false⟩
def HDR_PG_ERRMSK_MASK : Fld := ⟨0x10, 0, 32, .rw, 0, false⟩
def HDR_PG_IRQEN_EN : Fld := ⟨0x14, 0, 32, .rw, 0, false⟩
def HDR_PG_IRQST_ST : Fld := ⟨0x18, 0, 32, .w1c, 0, false⟩
def HDR_PG_LOCK_KEY : Fld := ⟨0x1c, 16, 16, .wo, 0, false⟩
def HDR_PG_LOCK_VIOL : Fld := ⟨0x1c, 1, 1, .w1c, 0, false⟩
def HDR_PG_LOCK_LOCKED : Fld := ⟨0x1c, 0, 1, .rw, 0, false⟩

/-- The fields of the HDR page header, common to every page. -/
def fieldsHDR : List Fld :=
  [HDR_PG_ID_CLASS, HDR_PG_ID_INSTANCE, HDR_PG_ID_VERSION, HDR_PG_STAT_CLKON, HDR_PG_STAT_PWRON, HDR_PG_STAT_BUSY, HDR_PG_STAT_ERR, HDR_PG_STAT_READY, HDR_PG_STAT_STATE, HDR_PG_CTRL_FREEZE, HDR_PG_CTRL_SRST, HDR_PG_CTRL_EN, HDR_PG_ERR_ERR, HDR_PG_ERRMSK_MASK, HDR_PG_IRQEN_EN, HDR_PG_IRQST_ST, HDR_PG_LOCK_KEY, HDR_PG_LOCK_VIOL, HDR_PG_LOCK_LOCKED]

/-! Page class SYS (spec/18_host.md). -/

def SYS_RESET_KEY : Fld := ⟨0x40, 16, 16, .wo, 0, false⟩
def SYS_RESET_WARM : Fld := ⟨0x40, 0, 1, .wo, 0, false⟩
def SYS_IOHOLD_HELD : Fld := ⟨0x44, 31, 1, .ro, 0, false⟩
def SYS_IOHOLD_RELEASE : Fld := ⟨0x44, 0, 1, .wo, 0, false⟩
def SYS_VERSION_SILREV : Fld := ⟨0x48, 24, 8, .ro, 0, false⟩
def SYS_VERSION_ROMREV : Fld := ⟨0x48, 16, 8, .ro, 0, false⟩
def SYS_VERSION_DEVICE : Fld := ⟨0x48, 0, 16, .ro, 0xe48, false⟩
def SYS_RSTINFO_KIND : Fld := ⟨0x4c, 30, 2, .ro, 0, false⟩
def SYS_RSTINFO_COUNT : Fld := ⟨0x4c, 0, 16, .ro, 0, false⟩
def SYS_REPCTX_SPENT : Fld := ⟨0x50, 31, 1, .ro, 0, false⟩
def SYS_REPCTX_BANKS : Fld := ⟨0x50, 0, 6, .ro, 0, false⟩
def SYS_REPPAT_SPENT : Fld := ⟨0x54, 31, 1, .ro, 0, false⟩
def SYS_REPPAT_REPLICAS : Fld := ⟨0x54, 0, 4, .ro, 0, false⟩
def SYS_SCRATCH_VALUE : Fld := ⟨0x58, 0, 32, .rw, 0, false⟩
def SYS_SPSTAT_SPERR : Fld := ⟨0x5c, 16, 16, .rc, 0, true⟩
def SYS_SPSTAT_LATE : Fld := ⟨0x5c, 0, 16, .rc, 0, true⟩
def SYS_CLKMAP_PAGES (i : Nat) : Fld := ⟨0x80 + 4 * i, 0, 32, .ro, 0, false⟩
def SYS_IRQSUM_PAGES (i : Nat) : Fld := ⟨0xc0 + 4 * i, 0, 32, .ro, 0, false⟩

/-- The fields of the SYS page. -/
def fieldsSYS : List Fld :=
  [SYS_RESET_KEY, SYS_RESET_WARM, SYS_IOHOLD_HELD, SYS_IOHOLD_RELEASE, SYS_VERSION_SILREV, SYS_VERSION_ROMREV, SYS_VERSION_DEVICE, SYS_RSTINFO_KIND, SYS_RSTINFO_COUNT, SYS_REPCTX_SPENT, SYS_REPCTX_BANKS, SYS_REPPAT_SPENT, SYS_REPPAT_REPLICAS, SYS_SCRATCH_VALUE, SYS_SPSTAT_SPERR, SYS_SPSTAT_LATE] ++
  (List.range 16).map SYS_CLKMAP_PAGES ++
  (List.range 16).map SYS_IRQSUM_PAGES

/-! Page class PCI (spec/18_host.md). -/

def PCI_LINK_L0 : Fld := ⟨0x40, 31, 1, .ro, 0, false⟩
def PCI_LINK_D3HOT : Fld := ⟨0x40, 30, 1, .ro, 0, false⟩
def PCI_LINK_WIDTH : Fld := ⟨0x40, 8, 4, .ro, 0, false⟩
def PCI_LINK_SPEED : Fld := ⟨0x40, 0, 4, .ro, 0, false⟩
def PCI_BADADDR_VALID : Fld := ⟨0x44, 31, 1, .rc, 0, true⟩
def PCI_BADADDR_BAR2 : Fld := ⟨0x44, 30, 1, .rc, 0, true⟩
def PCI_BADADDR_WRITE : Fld := ⟨0x44, 29, 1, .rc, 0, true⟩
def PCI_BADADDR_OFFSET : Fld := ⟨0x44, 0, 26, .rc, 0, true⟩
def PCI_NPOUT_MAX : Fld := ⟨0x48, 16, 6, .rc, 0, true⟩
def PCI_NPOUT_NOW : Fld := ⟨0x48, 0, 6, .ro, 0, false⟩

/-- The fields of the PCI page. -/
def fieldsPCI : List Fld :=
  [PCI_LINK_L0, PCI_LINK_D3HOT, PCI_LINK_WIDTH, PCI_LINK_SPEED, PCI_BADADDR_VALID, PCI_BADADDR_BAR2, PCI_BADADDR_WRITE, PCI_BADADDR_OFFSET, PCI_NPOUT_MAX, PCI_NPOUT_NOW]

/-! The bits of PG_ERR and PG_IRQST, page class by page class. -/

def FRM_E_SRCDONE : Nat := 6
def FRM_E_CMDERR : Nat := 5
def FRM_E_ADMREF : Nat := 4
def FRM_E_TLOST : Nat := 3
def FRM_E_TEARLY : Nat := 2
def FRM_E_HOLDLIM : Nat := 1
def FRM_E_OVR : Nat := 0
def CTX_E_GDONE : Nat := 11
def CTX_E_GCMD : Nat := 10
def CTX_E_QFULL : Nat := 9
def CTX_E_SAFEPAR : Nat := 8
def CTX_E_ADDR : Nat := 7
def CTX_E_PARTIAL : Nat := 6
def CTX_E_ROWR : Nat := 5
def CTX_E_GOVF : Nat := 4
def CTX_E_GREF : Nat := 3
def CTX_E_QUAR : Nat := 2
def CTX_E_UE : Nat := 1
def CTX_E_CE : Nat := 0
def JE_E_CTCMDERR : Nat := 7
def JE_E_VDONE : Nat := 6
def JE_E_MCUNREC : Nat := 5
def JE_E_CTBUSY : Nat := 4
def JE_E_VERR : Nat := 3
def JE_E_MCLIVE : Nat := 2
def JE_E_ENBUSY : Nat := 1
def JE_E_FLT : Nat := 0
def PLC_E_EVDONE : Nat := 10
def PLC_E_BTDONE : Nat := 9
def PLC_E_BALDONE : Nat := 8
def PLC_E_RAREF : Nat := 7
def PLC_E_BTFAIL : Nat := 6
def PLC_E_EVSTALL : Nat := 5
def PLC_E_PINREF : Nat := 4
def PLC_E_EXCLREF : Nat := 3
def PLC_E_HMFATAL : Nat := 2
def PLC_E_HMPAR : Nat := 1
def PLC_E_MIGABT : Nat := 0
def UL_E_TRNDONE : Nat := 10
def UL_E_TRNFAIL : Nat := 9
def UL_E_DOWN : Nat := 8
def UL_E_MISSED : Nat := 7
def UL_E_TAGERR : Nat := 6
def UL_E_USCRC : Nat := 5
def UL_E_UNREC : Nat := 4
def UL_E_NORSND : Nat := 3
def UL_E_NAK : Nat := 2
def UL_E_DSOVF : Nat := 1
def ANG_E_HOMEDONE : Nat := 8
def ANG_E_LOCKDONE : Nat := 7
def ANG_E_CFGBUSY : Nat := 6
def ANG_E_CMDREF : Nat := 5
def ANG_E_STOP : Nat := 4
def ANG_E_LOST : Nat := 3
def ANG_E_IDXERR : Nat := 2
def ANG_E_FAST : Nat := 1
def ANG_E_QERR : Nat := 0
def RGN_E_HOSTTO : Nat := 2
def RGN_E_FCERR : Nat := 1
def RGN_E_RAMPERR : Nat := 0
def TUL_E_PRCOLL : Nat := 2
def TUL_E_BETO : Nat := 1
def TUL_E_SCHREF : Nat := 0
def IOB_E_VMIS : Nat := 0
def CFG_E_STGREQ : Nat := 9
def CFG_E_ASDONE : Nat := 8
def CFG_E_CTXBUSY : Nat := 7
def CFG_E_ASLATE : Nat := 6
def CFG_E_BOOTFB : Nat := 5
def CFG_E_PLCRC : Nat := 4
def CFG_E_STGERR : Nat := 3
def CFG_E_ASCMDERR : Nat := 2
def CFG_E_QTO : Nat := 1
def CFG_E_ASREF : Nat := 0
def SVC_E_CPL : Nat := 3
def SVC_E_LOCKOUT : Nat := 2
def SVC_E_RTFAIL : Nat := 1
def SVC_E_ISSREF : Nat := 0
def FLS_E_BGDONE : Nat := 6
def FLS_E_LOGLOW : Nat := 5
def FLS_E_PENDING : Nat := 4
def FLS_E_POOLLOW : Nat := 3
def FLS_E_RETIRED : Nat := 2
def FLS_E_MWEAK : Nat := 1
def FLS_E_ESLOW : Nat := 0
def CLK_E_LOCKDONE : Nat := 5
def CLK_E_COASTLIM : Nat := 4
def CLK_E_COAST : Nat := 3
def CLK_E_UNLOCK : Nat := 2
def CLK_E_LKTO : Nat := 1
def CLK_E_BANDERR : Nat := 0
def PWR_E_WAKEDONE : Nat := 3
def PWR_E_CFGERR : Nat := 2
def PWR_E_BANKLOST : Nat := 1
def PWR_E_REFUSED : Nat := 0
def ADC_E_SCAN : Nat := 0
def LCS_E_CERTDONE : Nat := 5
def LCS_E_LCSWR : Nat := 4
def LCS_E_FUSEFAIL : Nat := 3
def LCS_E_CERTREF : Nat := 2
def LCS_E_INCOMPLETE : Nat := 1
def LCS_E_TREF : Nat := 0
def TWN_E_SYNCDONE : Nat := 10
def TWN_E_PROMOTED : Nat := 9
def TWN_E_STBYWR : Nat := 8
def TWN_E_JOINREF : Nat := 7
def TWN_E_SPLIT : Nat := 6
def TWN_E_FENCED : Nat := 5
def TWN_E_ANGMIS : Nat := 4
def TWN_E_LAG : Nat := 3
def TWN_E_PAIRDOWN : Nat := 2
def TWN_E_HBMISS : Nat := 1
def TWN_E_DIVERGE : Nat := 0
def ERR_E_UVLO : Nat := 3
def ERR_E_MARGIN : Nat := 2
def ERR_E_THERM : Nat := 1
def ERR_E_FATAL : Nat := 0
def LOG_E_NEWENT : Nat := 2
def LOG_E_PFWDROP : Nat := 1
def LOG_E_DROP : Nat := 0
def SYS_E_SPERR : Nat := 1
def SYS_E_RSTKEY : Nat := 0
def PCI_E_LINKUP : Nat := 3
def PCI_E_LINKDOWN : Nat := 2
def PCI_E_PARTIAL : Nat := 1
def PCI_E_UNMAPPED : Nat := 0

/-- The classes of register pages of the page directory (R409). -/
inductive PgCls where
  | sys | lcs | svc | fls | cfg | plc | frm | ctx | log | pwr | adc | twn | pci | tul | err
  | clk | ang | je | rgn | ul | iob | reserved
  deriving DecidableEq, Repr

/-- Bits that are present in PG_ERR of a page of the class (JE00 and CLK0 have bits that the other
instances lack; hardware never sets those there). -/
def errMask : PgCls → Nat
  | .frm => 0x3f
  | .ctx => 0x7ff
  | .je => 0xbf
  | .plc => 0xff
  | .ul => 0x3fe
  | .ang => 0x7f
  | .rgn => 0x7
  | .tul => 0x7
  | .iob => 0x1
  | .cfg => 0xff
  | .svc => 0x7
  | .fls => 0x3f
  | .clk => 0x1f
  | .pwr => 0x7
  | .adc => 0x0
  | .lcs => 0x1f
  | .twn => 0x1ff
  | .err => 0xf
  | .log => 0x3
  | .sys => 0x3
  | .pci => 0x7
  | .reserved => 0

/-- Bits that are present in PG_IRQST of a page of the class. -/
def irqMask : PgCls → Nat
  | .frm => 0x7f
  | .ctx => 0xfff
  | .je => 0xff
  | .plc => 0x7ff
  | .ul => 0x7fe
  | .ang => 0x1ff
  | .rgn => 0x7
  | .tul => 0x7
  | .iob => 0x1
  | .cfg => 0x3ff
  | .svc => 0xf
  | .fls => 0x7f
  | .clk => 0x3f
  | .pwr => 0xf
  | .adc => 0x1
  | .lcs => 0x3f
  | .twn => 0x7ff
  | .err => 0xf
  | .log => 0x7
  | .sys => 0x3
  | .pci => 0xf
  | .reserved => 0

end Sys2Proof.Machine
end

