-- ==== Sys2Proof/Machine/State.lean ====
section
/-! DEFINITION. The state of the block: every register field (one sparse table, keyed by page,
offset and bit, whose unlisted fields read as their reset values), every store, queue, timer and
mode that the manual gives, the queue of waiting commands, and the state right after power-on
reset. -/

namespace Sys2Proof.Machine

/-! ## Frame controller (spec/02_frame.md) -/

/-- R14: a tick that its source has issued: when, which source (0 to 3) and angle unit, and how many ns later
it is registered. -/
structure Tick where
  at_ : Time
  src : Nat
  unit : Nat
  lat : Time
  deriving DecidableEq, Repr

/-- R39: a change that admission control has to evaluate. `cause` is numbered as ADMREF.CAUSE. -/
inductive AdmReq where
  | group (id : Nat)
  | minper (value : Nat)
  | asSet
  deriving DecidableEq, Repr

/-- The frame controller's state beyond its register fields. -/
structure Frm where
  /-- R14: ticks issued and not yet registered, oldest first. -/
  issued : List Tick
  /-- R16: a tick is held; it starts a frame MINPER_ACT × 10 ns after the previous start. -/
  held : Bool
  /-- Start of the latest frame, or the write of CMD.RUN before the first (R13, R20). -/
  start : Time
  /-- R16: the start of the latest frame of all. -/
  last : Option Time
  /-- The frame in force has started and not ended (RUN, after the first boundary). -/
  inFrame : Bool
  /-- R23: the next frame is the first after STOP. -/
  fromStop : Bool
  /-- R13: when the fixed timer issues its next tick. -/
  timerNext : Option Time
  /-- R15: a MINPER value that admission has admitted and that waits for a boundary. -/
  minperPend : Option Nat
  /-- R15: the MINPER that later changes are evaluated against. -/
  minperAdm : Nat
  /-- R17: the tick source and angle unit waiting for a boundary. -/
  srcPend : Option (Nat × Nat)
  /-- R39: changes waiting for their evaluation, oldest first. -/
  admQ : List AdmReq
  /-- R21: the compute phase of this frame is empty, as IDLERUN stood at its start. -/
  empty : Bool
  /-- R29: compute of this frame has ended. -/
  computed : Bool
  /-- R30: the apply deadline of this frame has passed. -/
  deadline : Bool
  /-- R30: this frame has, or had, an apply window. -/
  window : Bool
  /-- R19: level of TICK_OUT, and when its pulse ends. -/
  tickOut : Bool
  tickOutEnd : Time
  /-- R18: the filtered level of TICK_IN. -/
  tickIn : Bool
  /-- R24: the FN_HI captured by the latest FN_LO read. -/
  fnCap : Option Nat
  /-- R448: a twin role change waits for the boundary where HOLD is entered. -/
  roleHold : Bool
  /-- R20: when the fallback period in force last changed. -/
  fbAt : Time
  deriving DecidableEq, Repr

/-! ## Contexts (spec/03_contexts.md) -/

/-- R65: one sample-table entry. -/
structure Sample where
  val : Word
  absent : Bool
  age : Nat
  deriving DecidableEq, Repr

/-- R65: an entry after reset. -/
def Sample.none : Sample := ⟨0, true, 255⟩

/-- R66: one slot safe-table entry. -/
structure SafeEnt where
  val : Word
  mode : Nat
  deriving DecidableEq, Repr

/-- R69: one entry of a commit group. -/
inductive GEntry where
  | put (h : Nat) (w : Nat) (v : Word)
  | set (h : Nat) (w : Nat) (v : Word)
  | clr (h : Nat) (w : Nat) (v : Word)
  | rel (h : Nat)
  deriving DecidableEq, Repr

/-- A closed commit group (R71 to R75): its ID, its entries, a refusal already decided, whether
admission has still to evaluate it, and whether the standby has acknowledged it. -/
structure Group where
  id : Nat
  entries : List GEntry
  refused : Nat
  evaluating : Bool
  mirrored : Bool
  deriving DecidableEq, Repr

/-- R37, R85: the load table's entry of a handle: the admitted valid bit, class, rate and phase. -/
structure Load where
  valid : Bool
  cls : Nat
  rate : Nat
  phase : Nat
  deriving DecidableEq, Repr

/-- No load. -/
def Load.none : Load := ⟨false, 0, 0, 0⟩

/-- The context store and the tables beside it. -/
structure Ctx where
  /-- Record words, keyed slot × 64 + word, slot = bank × 1,600 + physical slot (R58). -/
  store : SMap Word
  /-- R82: errors that stand in ECC groups, keyed slot × 16 + group: 1 correctable,
  2 uncorrectable. -/
  ecc : SMap Nat
  /-- R84, R86: the data bits in which a group with an uncorrectable error differs from what was last
  written, keyed as `store`: a stored word, uncorrected, is the XOR of the two. -/
  flip : SMap Word
  /-- R81: the records, the errors in them, the handle table and the quarantine map as they stood at the
  latest frame boundary. -/
  bstore : SMap Word
  becc : SMap Nat
  bflip : SMap Word
  bhome : SMap Nat
  bquar : SMap Nat
  /-- R81: a boundary has come since CMD.RUN, so reads return the boundary's words. -/
  bvalid : Bool
  /-- R85: the quarantine map: 0, or 1 + the first frame number that the quarantine covers. -/
  quar : SMap Nat
  /-- R449: entries of the quarantine map that hold a parity error. -/
  qmapBad : SMap Bool
  /-- R66: handles whose ONCE command has been sent in this quarantine. -/
  once : SMap Bool
  /-- R91: the due table, keyed by slot: valid, rate and phase (its class is the load table's). -/
  due : SMap Load
  /-- R85: the admission load table, keyed by handle. -/
  load : SMap Load
  /-- R65: the frozen half, keyed link × 384 + slot. -/
  smp : SMap Sample
  /-- R65: the samples received since the latest capture. -/
  fill : SMap (Option Word)
  /-- R68: the safe table in force, and as last written. -/
  safe : SMap SafeEnt
  safeW : SMap SafeEnt
  /-- R68: entries written since the latest boundary. -/
  safeDirty : SMap Bool
  /-- R67: entries in force that hold a parity error, and the PERR recorded. -/
  safeBad : SMap Bool
  perr : SMap Bool
  /-- R168: as compute ended, the quarantined contexts whose slots the frame's emission sends from the
  safe table: handle and slot of the tables. -/
  safeSlots : List (Nat × Nat)
  /-- R69: the open group, oldest entry first. -/
  open_ : List GEntry
  /-- R72: closed groups not yet completed, oldest first. -/
  waiting : List Group
  /-- R73: the ID of the latest closed group; 0 before the first. -/
  lastId : Nat
  /-- R88: next ECC group of each bank's scrub, and the banks that have completed a pass since
  PASSES last rose. -/
  scrub : SMap Nat
  scrubDone : SMap Bool
  /-- R88: 1 + the time at which each bank was last scrubbed. -/
  scrubAt : SMap Nat
  /-- Seed words in force (a written seed word takes effect at the next boundary). -/
  seed : SMap Nat
  deriving DecidableEq, Repr

/-! ## Engines (spec/04_engines.md, spec/05_engine_isa.md) -/

/-- R118: the flags. -/
structure Flags where
  z : Bool
  n : Bool
  c : Bool
  v : Bool
  sat : Bool
  deriving DecidableEq, Repr

/-- R131: an event of a visit; `mute` is a SAFE whose safe-table read found a parity error. -/
structure Ev where
  slot : Nat
  handle : Nat
  val : Word
  off : Nat
  mute : Bool
  deriving DecidableEq, Repr

/-- R92: one visit in progress. -/
structure Visit where
  handle : Nat
  phys : Nat
  plane : Nat
  /-- Program address, and the address of the latest instruction executed. -/
  pc : Nat
  last : Nat
  /-- W of the class (R108) and the program cycles used so far. -/
  w : Nat
  cyc : Nat
  /-- The record as fetched, with the device's own writes of cycles 1 and 2 (R63, R64), and with
  the program's stores as well (R94). -/
  fetched : SMap Word
  dev : SMap Word
  cur : SMap Word
  v : SMap Word
  a : SMap (BitVec 30)
  fl : Flags
  smp : Sample
  evs : List Ev
  /-- R132: EMIT and SAFE executed so far. -/
  emits : Nat
  /-- R133. -/
  held : Bool
  /-- R100: an FCALL waits for its response: its two words, once it has arrived. -/
  fc : Option (Option (Word × Word))
  deriving DecidableEq, Repr

/-- One completed visit as the twin digest takes it (R357): handle, and the ECC groups written back
with their 40 data bits. -/
structure Wb where
  handle : Nat
  groups : List (Nat × BitVec 40)
  deriving DecidableEq, Repr

/-- One engine: its visit, the slots still to visit in this frame, the number that were due in it, the cycles
used since compute start, the cycles at the last END, and the write-backs of this frame. -/
structure Eng where
  visit : Option Visit
  due : List Nat
  nDue : Nat
  cyc : Nat
  lastEnd : Nat
  wbs : List Wb
  deriving DecidableEq, Repr

/-- An engine between frames. -/
def Eng.idle : Eng := ⟨.none, [], 0, 0, 0, []⟩

/-- One class-table entry (R104). -/
structure ClsEnt where
  valid : Bool
  plane : Nat
  entry : Nat
  w : Nat
  deriving DecidableEq, Repr

/-- An entry that is not valid. -/
def ClsEnt.none : ClsEnt := ⟨false, 0, 0, 0⟩

/-- R100, R130, R228: a request sent to a fabric accelerator, and when its port presents it; `dropped` when its visit
was abandoned at a frame boundary (R43, R261). -/
structure FcReq where
  engine : Nat
  handle : Nat
  target : Nat
  port : Nat
  code : Word
  words : List Word
  shownAt : Time
  dropped : Bool
  deriving DecidableEq, Repr

/-- The engines, the microcode store, the class tables and pattern RAM. -/
structure Jer where
  eng : SMap Eng
  /-- Microcode, keyed plane × 4,096 + address (all eight copies hold the same contents). -/
  mc : SMap (BitVec 40)
  /-- R110: instructions with a parity error, keyed copy × 8,192 + plane × 4,096 + address. -/
  mcBad : SMap Bool
  /-- R110: instructions (keyed as `mcBad`) that a fault has queued for repair in frame slack. -/
  mcRepair : List Nat
  /-- R102: the holding register of S0 to S2. -/
  mcHold : Nat
  /-- R110: next address of the background check (of every copy). -/
  mcPos : Nat
  /-- R104: the pending and the in-force class tables. -/
  pend : SMap ClsEnt
  inf : SMap ClsEnt
  /-- R101: the FCALL ports in force (their enables and latencies stand in FCTGTn). -/
  portAct : SMap Nat
  /-- R97: the angle snapshot, keyed unit × 8 + word. -/
  snap : SMap Word
  /-- Pattern RAM (R218). -/
  pat : SMap Word
  /-- R130: FCALL requests in flight. -/
  fcOut : List FcReq
  deriving DecidableEq, Repr

/-! ## Placement (spec/06_placement.md) -/

/-- Why a migration is made (R140, R146, R148). -/
inductive MigKind where
  | balance | pin | evac
  deriving DecidableEq, Repr

/-- A migration planned or requested and not yet committed: handle, target slot, why, whether its
copy of this frame has finished, why it is cancelled (0 not, 1 the context was quarantined, 2 a pin
change or exclusion) or 3 where it is made from the next frame on (R144), and whether the standby has been told of it (R151). -/
structure Mig where
  handle : Nat
  target : Nat
  kind : MigKind
  copied : Bool
  cancel : Nat
  sent : Bool
  deriving DecidableEq, Repr

/-- A migration committed in this frame, which HOLD at the frame's end undoes (R144): with its source
slot and MIGLAST as it was before (result, target, source, handle), whether it ended an evacuation, and
whether PG_IRQST.EVDONE stood before. -/
structure MigDone where
  mig : Mig
  source : Nat
  last : List Nat
  emptied : Bool
  evdone : Bool
  deriving DecidableEq, Repr

/-- R139: what one frame with a non-empty compute measured: each engine's cycles, and each class's
cycles and completed visits. -/
structure HistFrame where
  loads : SMap Nat
  classes : SMap (Nat × Nat)
  deriving DecidableEq, Repr

/-- R154: one fabric region: 0 FREE, 1 PENDING, 2 LOADED, 3 SWAPPING, and its allocation. -/
structure RgnAlloc where
  state : Nat
  id : Nat
  deriving DecidableEq, Repr

/-- A region of no allocation. -/
def RgnAlloc.free : RgnAlloc := ⟨0, 0⟩

/-- R152: an allocation of k regions from base. -/
structure Alloc where
  id : Nat
  base : Nat
  k : Nat
  deriving DecidableEq, Repr

/-- The placement controller. -/
structure Plc where
  /-- R135: the slot (bank × 1,600 + physical slot) of each handle that is not at its home slot. -/
  home : SMap Nat
  /-- R137: parity errors of the handle table: bit 0 the first copy, bit 1 the second. -/
  hmBad : SMap Nat
  /-- R146: 1 + the bank that a handle is pinned to. -/
  pins : SMap Nat
  /-- R142: migrations in the order in which they were planned or requested. -/
  migs : List Mig
  /-- R144: those committed in this frame, newest first, and the copies made in this frame (in STOP,
  in this 50 µs). -/
  done : List MigDone
  made : Nat
  /-- R33: handles that groups of this frame's apply window wrote. -/
  wrote : List Nat
  /-- R141: 1 + the frame number in which a handle was last moved. -/
  moved : SMap Nat
  /-- R144, R146, R148: handles of cancelled and aborted migrations: what a pin or an evacuation requires of them
  is requested again from the next frame. -/
  again : List Nat
  /-- R139: the measurements of up to 64 frames, newest first, and those of this frame. -/
  hist : List HistFrame
  cur : SMap (Nat × Nat)
  /-- R149: INCLUDE waits for a boundary. -/
  include_ : Bool
  /-- R150: when a running self-test ends. -/
  btEnd : Time
  rgn : SMap RgnAlloc
  allocs : List Alloc
  /-- R154: the next ALLOCID to try. -/
  nextAlloc : Nat
  deriving DecidableEq, Repr

/-! ## Links (spec/07_links.md) -/

/-- R186: what a module reported and was assigned. -/
structure Module where
  count : Nat
  typ : Word
  rev : Word
  first : Nat
  stat0 : Word
  stat1 : Word
  acked : Bool
  deriving DecidableEq, Repr

/-- R168: one command of a slot in a frame; `safe` marks one that the safe table supplied. -/
structure Cmd where
  slot : Nat
  off : Nat
  val : Word
  stale : Bool
  safe : Bool
  deriving DecidableEq, Repr

/-- R164: one part of a RUN frame after its header: an original segment, a resent copy or ENDSEG,
with its length in symbols. -/
structure Part where
  kind : Nat
  seg : Nat
  len : Nat
  deriving DecidableEq, Repr

/-- R160, R161: a receiver that aligns: the last fifteen data bits, from which it loads its generator (the oldest at bit
14), the symbols received, the latest run of correctly framed ones and of ones that descramble to SYNC, and all of these;
`lock` once it is aligned. -/
structure Rx where
  bits : BitVec 15
  seen : Nat
  framed : Nat
  sync : Nat
  good : Nat
  lock : Bool
  deriving DecidableEq, Repr

/-- A receiver that has received nothing. -/
def Rx.none : Rx := { bits := 0, seen := 0, framed := 0, sync := 0, good := 0, lock := false }

/-- One link port. -/
structure Lnk where
  mods : List Module
  /-- R186: the training step (0 outside TRAIN), when it began, and the records sent so far. -/
  step : Nat
  stepAt : Time
  recs : Nat
  /-- R185: when a port in DOWN starts training by itself. -/
  autoAt : Option Time
  /-- R187: the latest upstream symbol with correct framing. -/
  rxAt : Time
  /-- R160, R166: when the latest training started: symbols follow one another from there, and the
  scrambler runs from there. -/
  origin : Time
  /-- R186: MWDT, FWDT and LOSSMODE as they stood at the start of step 3. -/
  trncfg : List Nat
  /-- R168: the events that visits released on this link in this frame. -/
  queue : List Ev
  /-- R168, R172: the merged list of the frame, and what of it fits, built at handover. -/
  merged : List Cmd
  built : List Cmd
  /-- R166: F of the emission that is due and has not started. -/
  emitAt : Option Time
  /-- R164: the frame in transmission: its HDR boundary, its tag, its segments and its parts. -/
  txAt : Time
  txHold : Bool
  txOn : Bool
  tag : Option Nat
  segs : List (List Cmd)
  parts : List Part
  /-- The symbols of the latest frame, record or copy put on the line, before scrambling. -/
  tx : List Symbol
  /-- R168: the commands sent in the latest RUN frame. -/
  prev : List Cmd
  /-- R184: resends queued for each segment of this frame. -/
  resent : SMap Nat
  /-- R185: the port is to emit the RUN frame of the frame that just ended (else a HOLD frame). -/
  emitRun : Bool
  /-- R165: the frame number whose results are emitted. -/
  emitFn : Nat
  /-- R173: when the next HOLD frame is due. -/
  holdAt : Time
  /-- R160: the state in which the transmitter's scrambler started with the latest training. -/
  seed : BitVec 15
  /-- R161: what the receiver has found of the line that it aligns to. -/
  rx : Rx
  /-- R161: the latest symbols received while aligned, at most 64, newest first: 0 good, 1 wrong framing, 2 a reserved
  control code. -/
  rxErrs : List Nat
  /-- R66, R67: the slots of quarantined contexts when the frame was built. -/
  safeOf : List Nat
  deriving DecidableEq, Repr

/-- A port after reset. -/
def Lnk.down : Lnk :=
  { mods := [], step := 0, stepAt := 0, recs := 0, autoAt := .none, rxAt := 0, origin := 0,
    trncfg := [], queue := [], merged := [], built := [], emitAt := .none, txAt := 0,
    txHold := false, txOn := false, tag := .none, segs := [], parts := [], tx := [], prev := [],
    resent := [], emitRun := false, emitFn := 0, holdAt := 0, seed := 1, rx := Rx.none, rxErrs := [], safeOf := [] }

/-! ## Shaft angle units (spec/08_angle.md) -/

/-- One angle unit beyond its register fields. -/
structure Ang where
  /-- R189: the accepted levels of A and B. -/
  a : Bool
  b : Bool
  /-- R191, R198: timestamps of the two latest counted edges. -/
  lastAt : Option Time
  prevAt : Option Time
  /-- R197: timestamps of the latest consecutive qualifying edges, newest first, at most four, and
  their direction. -/
  four : List Time
  fourRev : Bool
  /-- R194: counted edges since DIR that moved against it. -/
  run : Nat
  /-- R196: the reference edge, counted edges since it, and the latest tick of the run. -/
  refAt : Time
  refN : Nat
  tickAt : Option Time
  /-- R203: the latest tick of all. -/
  lastTick : Option Time
  /-- R193: the division of the last tick. -/
  lastDiv : Nat
  /-- R24: TSLAST_HI as captured. -/
  tsCap : Option Nat
  /-- R205: STOPTIME, in µs, as the latest accepted edge put it into effect. -/
  stopT : Nat
  deriving DecidableEq, Repr

/-- A unit after reset; an input that nothing drives reads high (R435). -/
def Ang.off : Ang := ⟨true, true, .none, .none, [], false, 0, 0, 0, .none, .none, 0, .none, 10000⟩

/-! ## Logic fabric (spec/09_fabric.md) -/

/-- R226, R232: a flit accepted on a stream, or for best effort (`be`), and not yet presented. -/
structure Flight where
  src : Nat
  dst : Nat
  due : Time
  flit : Flit
  be : Bool
  deriving DecidableEq, Repr

/-- R233: a host access to a fabric window that waits for its region. -/
structure HpAcc where
  region : Nat
  write : Bool
  addr : Nat
  data : Nat
  at_ : Time
  deriving DecidableEq, Repr

/-- One user I/O bank: accepted levels, internal output enables and values, pin settings, and the
held pads (R234 to R238, R328). -/
structure Iob where
  level : BitVec 48
  oe : BitVec 48
  out : BitVec 48
  cfgd : Bool
  vmis : Bool
  held : Bool
  heldOe : BitVec 48
  heldOut : BitVec 48
  /-- R328: the PULL bits of each pin of a held bank, pin 0 first. -/
  heldPull : List Nat
  deriving DecidableEq, Repr

/-- A bank after power-up. -/
def Iob.reset : Iob := ⟨0, 0, 0, false, false, false, 0, 0, []⟩

/-- The fabric, the Tulle network and the user I/O banks. -/
structure Fab where
  desc : SMap RgnDesc
  streams : List Stream
  flights : List Flight
  /-- Flits presented at their destination, newest first: (port, flit). -/
  shown : List (Nat × Flit)
  /-- RAM words keyed (region × 40 + block) × 2,048 + address, and their 10-bit halves that hold a parity
  error, keyed word × 2 + half. -/
  ram : SMap (BitVec 20)
  ramBad : SMap Bool
  /-- R212, R217: the read-data and PERR outputs of each RAM port, keyed (region × 40 + block) × 2, plus 1 for port B;
  R215: port B's COLLIDE, keyed region × 40 + block. -/
  ramQ : SMap Nat
  perr : SMap Bool
  collide : SMap Bool
  /-- R221: the accumulators of the arithmetic blocks, keyed region × 20 + block, and SATOUT of the top blocks. -/
  acc : SMap (BitVec 30)
  satOut : SMap Bool
  /-- R206, R207: the flip-flops of the tiles, keyed region × 20,480 + tile × 40 + slice × 20 + flip-flop. -/
  ff : SMap Bool
  /-- R209: the registers of the boundary wires on the driving and on the receiving side, keyed
  (region × 4 + edge) × 320 + wire. -/
  wireTx : SMap Bool
  wireRx : SMap Bool
  /-- R219: the latest answer of the pattern-RAM fabric port. -/
  patQ : Option Flit
  /-- R233: host accesses that wait for their region, oldest first. -/
  hp : List HpAcc
  /-- R234: the banks; R235: PINCFG, keyed bank × 48 + pin. -/
  iob : SMap Iob
  pincfg : SMap Nat
  /-- R235: when the filter of a pin restarted, keyed as PINCFG. -/
  filtAt : SMap Time
  deriving DecidableEq, Repr

/-! ## Configuration (spec/10_config.md) -/

/-- One configuration plane: 0 EMPTY, 1 LOADING, 2 holding an image; its section's bytes from 0x200 on,
keyed from 0, the slot and version it came from and its image's digest. -/
structure Plane where
  state : Nat
  bytes : SMap Byte
  slot : Nat
  ver : Nat
  digest : Nat
  deriving DecidableEq, Repr

/-- An EMPTY plane. -/
def Plane.empty : Plane := ⟨0, [], 0, 0, 0⟩

/-- R256: the activation set that is being checked, armed, ready or prepared: MODE, ASFN, the regions
swapped and unloaded and those that have acknowledged (as masks), whether it carries the class table,
when it was armed, whether admission has still to evaluate it, whether the standby has acknowledged it,
and the Tulle schedule that it brings. -/
structure AsSet where
  mode : Nat
  fn : Nat
  swap : Nat
  unld : Nat
  ct : Bool
  acked : Nat
  armAt : Time
  checking : Bool
  mirrored : Bool
  sched : List Stream
  deriving DecidableEq, Repr

/-- The configuration controller. -/
structure Cfg where
  act : SMap Plane
  voile : SMap Plane
  as : Option AsSet
  /-- R258: SWAP_PENDING of each region; R259: RPLANE.FORCED of each region, as masks. -/
  swapPend : Nat
  forced : Nat
  /-- R259: RQTO of each region. -/
  rqto : SMap Nat
  /-- R242: the next region × 64 + frame to check. -/
  chk : Nat
  /-- R251: the staging window, the deadline for the chunk requested, and when it was requested. -/
  stg : SMap Byte
  stgBy : Time
  stgAt : Time
  deriving DecidableEq, Repr

/-! ## Flash and service routines (spec/11_flash.md) -/

/-- R249: what one valid entry of the slot directory says. -/
structure DirEnt where
  seq : Nat
  slot : Nat
  image : Bool
  typ : Nat
  length : Nat
  digest : Nat
  ver : Nat
  deriving DecidableEq, Repr

/-- R280: one entry of the bad-block table. -/
structure BadEnt where
  logical : Nat
  phys : Nat
  cause : Nat
  replaced : Bool
  deriving DecidableEq, Repr

/-- R269: a routine request: code, tag and the copy of ARG0 to ARG7. -/
structure Req where
  code : Nat
  tag : Nat
  args : List Nat
  deriving DecidableEq, Repr

/-- R270: a posted completion. -/
structure Cpl where
  code : Nat
  tag : Nat
  status : Nat
  result : Nat
  deriving DecidableEq, Repr

/-- The routine that the sequencer runs: its request, when it started (with its waits for staging chunks left out), how far
it is (0 not yet checked, 1 waiting for a staging chunk, 2 running), what it has gathered so far, and the planes that a
load writes: region, section and ALLOCID. -/
structure Run where
  req : Req
  since : Time
  step : Nat
  chunk : Nat
  warn : Nat
  group : Nat
  dest : List (Nat × Nat × Nat)
  deriving DecidableEq, Repr

/-- R273: the background operation: BGOP, its physical block, whether it is suspended, and when it
started or last resumed. -/
structure Bg where
  op : Nat
  block : Nat
  susp : Bool
  since : Time
  deriving DecidableEq, Repr

/-- The flash die and the service sequencer. -/
structure Fls where
  /-- Data bytes, keyed physical block × 262,144 + offset; an erased byte reads 0xFF (R265). -/
  mem : SMap Byte
  /-- R277: physical pages (block × 128 + page) that are not blank. -/
  used : SMap Bool
  otp : SMap Byte
  otpLock : SMap Bool
  /-- R267: the block table, logical to physical; R281: blocks (by physical number) that are ERASE_PENDING, and whose
  flag cells stand; erase counters. -/
  tbl : SMap Nat
  flag : SMap Bool
  cells : SMap Bool
  ecnt : SMap Nat
  /-- R281, R284: blocks (by physical number) returned to the spare pool since the latest bring-up and
  not yet erased. -/
  returned : SMap Bool
  bad : List BadEnt
  /-- R249: the pages of the slot directory that hold a record, oldest first, each as the bytes of its entry. -/
  dir : List (List Byte)
  /-- R290: records in the current block of each journal, keyed by plane; keyed plane + 4, its
  compactions so far; keyed 8, the log-save blocks erased so far (R291). -/
  jused : SMap Nat
  zperm : Nat
  zsess : Nat
  /-- R289: the stored password hash; none while the initial password stands. -/
  pw : Option Nat
  /-- R291: log-save pages, newest first, each as its bytes. -/
  saves : List (List Nat)
  queue : List Req
  run : Option Run
  cpls : List Cpl
  bg : Option Bg
  /-- R251: the program buffer that takes staging chunks, and what a routine answers with. -/
  buf : SMap Byte
  /-- R255: a context-set load runs: group entries are still to be written. -/
  ctxLoad : Bool
  /-- R403: SEQ of the first boot candidate at the previous bring-up. -/
  bootSeq : Nat
  deriving DecidableEq, Repr

/-! ## Clocks, power, life cycle (spec/12_clocks.md to spec/14_lifecycle.md) -/

/-- One MDLL beyond its CLK page: when it was enabled, whether it is acquiring (1 in its forced period, 2 after
it, 3 stopped until the reference returns), when its forced period ended, STAT.STATE as the loss of the
reference found it (R306), and the times at which PHASE.PEND (R305) and MACT (R301) stood as their fields
hold them. -/
structure Ck where
  enAt : Time
  acq : Nat
  fpEnd : Time
  was : Nat
  phAt : Time
  rampAt : Time
  deriving DecidableEq, Repr

/-- An MDLL that was not enabled since the reset. -/
def Ck.off : Ck := ⟨0, 0, 0, 0, 0, 0⟩

/-- R298: the pin PLL_LKO: released to its pull-up, held low, or low but for the phase-error pulses of the
MDLLs. -/
inductive Lko where
  | released | low | pulses
  deriving DecidableEq, Repr

/-- Clocks, power, pins and life cycle. -/
structure Pwr where
  ck : SMap Ck
  /-- R296, R399: when bring-up last enabled the MDLLs in step 6. -/
  sixAt : Option Time
  /-- R297: band limits written by the host, keyed MDLL × 16 + band; none where trim stands. -/
  band : SMap (Option (Nat × Nat))
  coastAt : Option Time
  /-- R307: COASTLIM has been raised in this coast. -/
  coastHit : Bool
  timeCap : Option Nat
  /-- R402: READY; the kind of the latest reset; bring-up steps 2 to 5 are over. -/
  up : Bool
  kind : Nat
  faultB : Bool
  wakeB : Bool
  pfw : Bool
  pfwBlock : Bool
  perst : Bool
  d3 : Bool
  /-- R316, R317: 0 no entry, 1 phase A, 2 GAUZE, 3 WAKE, 4 OFF; when it began. -/
  gz : Nat
  gzAt : Time
  /-- R323: the slow clock's accumulator (R308) at the start of GAUZE. -/
  gzAcc : Nat
  /-- R323: events out of limit in a row (pin i as i, channel n as 16 + n); events since entry. -/
  outOf : SMap Nat
  events : Nat
  /-- R319: a wake source or PFW_B arose in phase A (0 none, 1 wake source, 2 PFW_B). -/
  muslin : Nat
  /-- R317, R326: RETAIN as entry to GAUZE used it. -/
  kept : Nat
  /-- R327: canary words, keyed bank × 16 + canary × 4 + word. -/
  canary : SMap Word
  /-- R325: the bring-up that runs, or ran last, follows a wake. -/
  woken : Bool
  /-- R330: the channels that the scan of the ADC has still to convert, as a mask. -/
  adcMask : Nat
  /-- R338: blown fuses, keyed 0 to 3 copy A, 4 to 7 copy B, 8 to 11 intent, 12 SCRAP marker. -/
  fuse : SMap Nat
  /-- R337: trim, repair and device-ID fuses are blown. -/
  trimGone : Bool
  /-- R340: the state in force at the latest bring-up (index of R331). -/
  lcs : Nat
  /-- R334: a transition was accepted and waits for a background flash operation to finish: its target
  index, what the cells will answer, whether the burn of copy A and of copy B fails, and where it loses power. -/
  trans : Option (Nat × FlashEnv × (Bool × Bool) × Option LostIn)
  /-- R345: a certificate check is running; the certificate in force: kind, signer, target, PERM
  and payload. -/
  certBusy : Bool
  certIn : Option (Nat × Nat × Nat × Nat × Nat)
  /-- R389: the previous reading of some region was at 115 °C or above, as a mask of regions. -/
  hot : Nat
  /-- R390: some region reads 105 °C or above. -/
  warm : Bool
  tripped : Bool
  /-- R392: the margin warnings are armed. -/
  armV : Bool
  armT : Bool
  uvlo : Option Nat
  deriving DecidableEq, Repr

/-! ## Twin pair (spec/15_twin.md) -/

/-- R352: what a parcel carries: a host write to a register, a BAR2 write, a closed group or an
armed set. -/
inductive Fwd where
  | reg (off : Nat) (val : Nat)
  | bar2 (off : Nat) (val : Nat)
  | group (id : Nat)
  | place (h : Nat) (slot : Nat)
  | actSet
  | training (link : Nat) (mods : List Module)
  deriving DecidableEq, Repr

/-- R353: a frame record, with the device time at which the primary registered its frame start. -/
structure FrameRec where
  reg : Time
  fn : Nat
  idle : Bool
  snap : List Word
  batch : Nat
  visits : List Nat
  digest : Nat
  sw : Bool
  set : Bool
  deriving DecidableEq, Repr

/-- The pair link and the twin role beyond the TWN page. -/
structure Twn where
  /-- R351: parcels sent and not acknowledged, oldest first, the next sequence number, and the
  resends of the oldest. -/
  out : List (Nat × Fwd)
  seq : Nat
  resends : Nat
  /-- R55, R151: writes to PLC registers that wait for the standby's acknowledgement: sequence number
  of their parcel, offset, data and the handle that HIDX held. -/
  held : List (Nat × Nat × Nat × Nat)
  /-- R151: writes to PLC registers that both units hold and that take effect at the next frame boundary, in the
  form of `held`. -/
  due : List (Nat × Nat × Nat × Nat)
  /-- R264: at a standby, the activation set takes effect at the boundary of the record in hand. -/
  asDue : Bool
  /-- R360: at a standby, the frame N of a state transfer is made up for: the physical slots whose records were
  read before their visits, and for each engine the slots due in frame N. -/
  replay : Option (List Nat × List (List Nat))
  /-- R361: the first frame whose digests are compared. -/
  cmpFrom : Nat
  /-- R363: a standby's own expected frame starts that no record has met, and the latest expected start of its
  own fallback timer. -/
  expect : List Time
  expAt : Time
  /-- R353: the latest record sent and the latest received; the visit counts it fixes. -/
  sentRec : Option FrameRec
  gotRec : Option FrameRec
  /-- R354: the number of the latest sample batch received or sent; at a standby, the batches not yet
  frozen: number, and sample-table keys with their samples. -/
  batch : Nat
  batches : List (Nat × List (Nat × Word))
  /-- R356: the local half of the sample table. -/
  local_ : SMap (Option Word)
  /-- R357: digest of the previous frame, and the groups applied in this one. -/
  digest : Nat
  applied : List Nat
  /-- R362: a digest has matched since SYNCED; the missed-record cause; frames of matching
  snapshots still needed. -/
  matched : Bool
  missed : Bool
  angBad : Nat
  /-- R363: heartbeats missed in a row. -/
  miss : Nat
  /-- R359: items transferred; R352: forwarded source selection. -/
  xfer : Nat
  srcFwd : Nat
  /-- R359: when the latest transfer started. -/
  xferAt : Time
  /-- R348: LIVE pulses sent, and when the latest was; the latest partner pulse. -/
  pulses : Nat
  pulseAt : Option Time
  liveAt : Option Time
  /-- R364: why this standby is about to promote itself: 0 not, 1 missed heartbeats, 2 partner HLTH;
  when that arose. -/
  promo : Nat
  promoAt : Time
  /-- R355: at a standby, how many waiting groups were closed before its end of compute. -/
  elig : Nat
  /-- R367: a planned switch waits for the next frame start. -/
  switch : Bool
  deriving DecidableEq, Repr

/-! ## Log, host interface -/

/-- R312: an access that hangs: page (512 and above a window) and direction. -/
structure Hung where
  page : Nat
  write : Bool
  deriving DecidableEq, Repr

/-- The log ring and the host interface. -/
structure Hst where
  /-- R378: the ring's entries by position, and ENT1 to ENT3 as captured. -/
  ring : SMap (BitVec 128)
  entCap : Option (BitVec 128)
  hung : List Hung
  /-- R420: MSI-X table dwords, the pending bits, the vectors asserted, function enable and mask,
  and the messages sent, newest first. -/
  msix : SMap Nat
  pba : Nat
  asserted : Nat
  msixEn : Bool
  msixMask : Bool
  msgs : List Nat
  /-- R416: the snapshot that FREEZE holds of each page, keyed as the register fields. -/
  frozen : SMap Nat
  /-- R422: ERR of the next status byte; the latest status byte; R424: the write pending in GAUZE. -/
  spErr : Bool
  spStatus : Nat
  spPend : Option (Nat × Nat)
  /-- R443: the JTAG instruction in force, and the bits shifted into the boundary register. -/
  jtag : Nat
  scan : List Bool
  /-- What the latest read returned. -/
  rdata : List Nat
  confCap : Option Nat
  deriving DecidableEq, Repr

/-! ## The state -/

/-- R7: the present instant of device time: the register fields as they stood when it began, and the bits of
PG_ERR and PG_IRQST that events have set in it (a mask for each field's key); and R308's 7-bit accumulator of
the slow clock. -/
structure Inst where
  flds : SMap Nat
  set : SMap Nat
  acc : Nat
  deriving DecidableEq, Repr

/-- The state of the block and the queue of commands that wait. -/
structure State where
  pending : List Instr
  /-- Register fields that do not read as their reset value, keyed page × 2^17 + offset × 32 + bit. -/
  flds : SMap Nat
  /-- R308: device time in ns. -/
  time : Time
  inst : Inst
  frm : Frm
  ctx : Ctx
  jer : Jer
  plc : Plc
  lnk : SMap Lnk
  ang : SMap Ang
  fab : Fab
  cfg : Cfg
  fls : Fls
  pwr : Pwr
  twn : Twn
  hst : Hst
  /-- The model's own: values that the manual leaves open and that have been taken so far. -/
  free : Nat
  deriving DecidableEq, Repr

/-- Reasons for a fault. -/
inductive Fault where
  /-- Raised by no command: every command of the table has an effect or is refused. Safe. -/
  | none
  deriving DecidableEq, Repr

/-- Reasons for a refusal. -/
inductive Refusal where
  /-- The command has no meaning in this model yet. Safe: the run stops. -/
  | notModelled (mnemonic : String)
  /-- Raised by JTAG_INSTRUCTION for a maker test mode that the life-cycle state opens: the manual
  does not describe them (R347). Safe: the run stops. -/
  | makerTestMode
  deriving DecidableEq, Repr

/-! ## Reset -/

/-- The frame controller right after POR: STOP, nothing issued, nothing pending. -/
def Frm.reset : Frm where
  issued := []
  held := false
  start := 0
  last := .none
  inFrame := false
  fromStop := true
  timerNext := .none
  minperPend := .none
  minperAdm := 5000
  srcPend := .none
  admQ := []
  empty := false
  computed := false
  deadline := false
  window := false
  tickOut := false
  tickOutEnd := 0
  tickIn := false
  fnCap := .none
  roleHold := false
  fbAt := 0

/-- R89: the context page after reset: every record 0, no quarantine, no load, no group. -/
def Ctx.reset : Ctx where
  store := []
  ecc := []
  flip := []
  bstore := []
  becc := []
  bflip := []
  bhome := []
  bquar := []
  bvalid := false
  quar := []
  qmapBad := []
  once := []
  due := []
  load := []
  smp := []
  fill := []
  safe := []
  safeW := []
  safeDirty := []
  safeBad := []
  perr := []
  safeSlots := []
  open_ := []
  waiting := []
  lastId := 0
  scrub := []
  scrubDone := []
  scrubAt := []
  seed := []

/-- R106: no class entry, every target disabled, the planes all zero (NOP). -/
def Jer.reset : Jer where
  eng := []
  mc := []
  mcBad := []
  mcRepair := []
  mcHold := 0
  mcPos := 0
  pend := []
  inf := []
  portAct := []
  snap := []
  pat := []
  fcOut := []

/-- R136: every handle at its home slot, every region FREE. -/
def Plc.reset : Plc where
  home := []
  hmBad := []
  pins := []
  migs := []
  done := []
  made := 0
  wrote := []
  moved := []
  again := []
  hist := []
  cur := []
  include_ := false
  btEnd := 0
  rgn := []
  allocs := []
  nextAlloc := 2

/-- No image, no stream, every pin high-impedance (R238). -/
def Fab.reset : Fab where
  desc := []
  streams := []
  flights := []
  shown := []
  ram := []
  ramBad := []
  ramQ := []
  perr := []
  collide := []
  acc := []
  satOut := []
  ff := []
  wireTx := []
  wireRx := []
  patQ := .none
  hp := []
  iob := []
  pincfg := []
  filtAt := []

/-- R241: every plane EMPTY; no set armed. -/
def Cfg.reset : Cfg where
  act := []
  voile := []
  as := .none
  swapPend := 0
  forced := 0
  rqto := []
  chk := 0
  stg := []
  stgBy := 0
  stgAt := 0

/-- The flash die as shipped: erased, no directory entry, every zone unlocked (R288). -/
def Fls.reset : Fls where
  mem := []
  used := []
  otp := []
  otpLock := []
  tbl := []
  flag := []
  cells := []
  ecnt := []
  returned := []
  bad := []
  dir := []
  jused := []
  zperm := 0
  zsess := 0
  pw := .none
  saves := []
  queue := []
  run := .none
  cpls := []
  bg := .none
  buf := []
  ctxLoad := false
  bootSeq := 0

/-- Bring-up step 1 after POR, with the fuses of a part as shipped (DEVELOP, R331, R338). -/
def Pwr.reset : Pwr where
  ck := []
  sixAt := .none
  band := []
  coastAt := .none
  coastHit := false
  timeCap := .none
  up := false
  kind := 0
  faultB := false
  wakeB := false
  pfw := false
  pfwBlock := false
  perst := false
  d3 := false
  gz := 0
  gzAt := 0
  gzAcc := 0
  outOf := []
  events := 0
  muslin := 0
  kept := 0
  canary := []
  woken := false
  adcMask := 0
  fuse := [(0, 8), (4, 8), (8, 8)]
  trimGone := false
  lcs := 1
  trans := .none
  certBusy := false
  certIn := .none
  hot := 0
  warm := false
  tripped := false
  armV := true
  armT := true
  uvlo := .none

/-- R350: role SOLO, link down, nothing sent. -/
def Twn.reset : Twn where
  out := []
  seq := 0
  resends := 0
  held := []
  due := []
  asDue := false
  replay := .none
  cmpFrom := 0
  expect := []
  expAt := 0
  sentRec := .none
  gotRec := .none
  batch := 0
  batches := []
  local_ := []
  digest := 0
  applied := []
  matched := false
  missed := false
  angBad := 0
  miss := 0
  xfer := 0
  srcFwd := 0
  xferAt := 0
  pulses := 0
  pulseAt := .none
  liveAt := .none
  promo := 0
  promoAt := 0
  elig := 0
  switch := false

/-- The log ring empty; no access outstanding; MSI-X disabled, as PCI Express resets it. -/
def Hst.reset : Hst where
  ring := []
  entCap := .none
  hung := []
  msix := []
  pba := 0
  asserted := 0
  msixEn := false
  msixMask := false
  msgs := []
  frozen := []
  spErr := false
  spStatus := 0
  spPend := .none
  jtag := 0xFF
  scan := []
  rdata := []
  confCap := .none

/-- The block right after power-on reset (R394 kind 0): every register at its reset value, device
time 0, bring-up at step 1. -/
def State.reset : State where
  pending := []
  flds := []
  time := 0
  inst := ⟨[], [], 0⟩
  frm := Frm.reset
  ctx := Ctx.reset
  jer := Jer.reset
  plc := Plc.reset
  lnk := []
  ang := []
  fab := Fab.reset
  cfg := Cfg.reset
  fls := Fls.reset
  pwr := Pwr.reset
  twn := Twn.reset
  hst := Hst.reset
  free := 0

end Sys2Proof.Machine
end

