-- ==== Sys2Proof/Machine/Ops.lean ====
section
/-! DEFINITION. The named operations over the state: register fields, free values, error and
interrupt bits with their MSI-X messages, the event log, the classes of error, and the gates that a
host access passes. -/

namespace Sys2Proof.Machine

/-! ## Pages (R409) -/

def pSYS : Nat := 0
def pLCS : Nat := 1
def pSVC : Nat := 2
def pFLS : Nat := 3
def pCFG : Nat := 4
def pPLC : Nat := 5
def pFRM : Nat := 6
def pCTX : Nat := 7
def pLOG : Nat := 8
def pPWR : Nat := 9
def pADC : Nat := 10
def pTWN : Nat := 11
def pPCI : Nat := 12
def pTUL : Nat := 13
def pERR : Nat := 14
def pCLK (n : Nat) : Nat := 16 + n
def pANG (n : Nat) : Nat := 24 + n
def pJE (n : Nat) : Nat := 32 + n
def pRGN (n : Nat) : Nat := 64 + n
def pUL (n : Nat) : Nat := 128 + n
def pIOB (n : Nat) : Nat := 256 + n

/-- R409: the class of a page index. -/
def pgClass (p : Nat) : PgCls :=
  match p with
  | 0 => .sys | 1 => .lcs | 2 => .svc | 3 => .fls | 4 => .cfg | 5 => .plc | 6 => .frm | 7 => .ctx
  | 8 => .log | 9 => .pwr | 10 => .adc | 11 => .twn | 12 => .pci | 13 => .tul | 14 => .err
  | _ =>
    if p < 16 then .reserved else if p < 24 then .clk else if p < 32 then .ang
    else if p < 64 then .je else if p < 128 then .rgn else if p < 256 then .ul
    else if p < 264 then .iob else .reserved

/-- The instance number of a page within its class. -/
def pgInstance (p : Nat) : Nat :=
  match pgClass p with
  | .clk => p - 16 | .ang => p - 24 | .je => p - 32 | .rgn => p - 64 | .ul => p - 128
  | .iob => p - 256 | _ => 0

/-! ## Register fields -/

/-- Where a field stands in the table of register fields. -/
def fldKey (p : Nat) (f : Fld) : Nat := p * 131072 + f.off * 32 + f.lo

/-- R294, R295: M at reset. -/
def multReset (n : Nat) : Nat :=
  match n with
  | 0 => 0x140000 | 1 => 0x100000 | 2 => 0x064000 | _ => 0x0A0000

/-- The reset value of a field in a page: its table's value, with the values that differ between
instances (R294, R414, and the chapters' own values of PG_CTRL.EN). -/
def resetVal (p : Nat) (f : Fld) : Nat :=
  match pgClass p with
  | .clk =>
    if f = CLK_MULT_M ∨ f = CLK_MACT_M then multReset (p - 16)
    else if f = CLK_CTRL_SPREAD then (if p = 16 then 5 else 0)
    else if f = HDR_PG_CTRL_EN then 1 else f.rst
  | .ang => if f = HDR_PG_CTRL_EN then 0 else f.rst
  | .ul => if f = HDR_PG_CTRL_EN then 0 else f.rst
  | .adc => if f = HDR_PG_CTRL_EN then 0 else f.rst
  | _ => if f = HDR_PG_CTRL_EN then 1 else f.rst

/-- The value of a field. -/
def State.fld (s : State) (p : Nat) (f : Fld) : Nat :=
  SMap.get (resetVal p f) s.flds (fldKey p f)

/-- R416: a field as a host read shows it: from the snapshot that FREEZE holds, where it holds the
field. -/
def State.look (s : State) (p : Nat) (f : Fld) : Nat :=
  if f.snap && decide (s.fld p HDR_PG_CTRL_FREEZE ≠ 0) then SMap.get 0 s.hst.frozen (fldKey p f)
  else s.fld p f

/-- Writes a field; the value is cut to the field's width. -/
def State.setFld (s : State) (p : Nat) (f : Fld) (v : Nat) : State :=
  { s with flds := SMap.put (resetVal p f) s.flds (fldKey p f) (v % 2 ^ f.wid) }

/-- A one-bit field as a truth value. -/
def State.bit (s : State) (p : Nat) (f : Fld) : Bool := decide (s.fld p f ≠ 0)

/-- Writes a one-bit field. -/
def State.setBit (s : State) (p : Nat) (f : Fld) (b : Bool) : State := s.setFld p f b.toNat

/-- Adds to a counter that wraps. -/
def State.addWrap (s : State) (p : Nat) (f : Fld) (n : Nat) : State :=
  s.setFld p f (s.fld p f + n)

/-- Adds to a counter that saturates. -/
def State.addSat (s : State) (p : Nat) (f : Fld) (n : Nat) : State :=
  s.setFld p f (Nat.min (s.fld p f + n) (2 ^ f.wid - 1))

/-- Raises a field to a value when the value is larger. -/
def State.raiseTo (s : State) (p : Nat) (f : Fld) (n : Nat) : State :=
  s.setFld p f (Nat.max (s.fld p f) (Nat.min n (2 ^ f.wid - 1)))

/-- Clears the fields of a page back to their reset values. -/
def State.resetPage (s : State) (p : Nat) : State :=
  { s with flds := SMap.clearRange s.flds (p * 131072) ((p + 1) * 131072) }

/-! ## Sub-states -/

def State.updFrm (s : State) (f : Frm → Frm) : State := { s with frm := f s.frm }
def State.updCtx (s : State) (f : Ctx → Ctx) : State := { s with ctx := f s.ctx }
def State.updJer (s : State) (f : Jer → Jer) : State := { s with jer := f s.jer }
def State.updPlc (s : State) (f : Plc → Plc) : State := { s with plc := f s.plc }
def State.updFab (s : State) (f : Fab → Fab) : State := { s with fab := f s.fab }
def State.updCfg (s : State) (f : Cfg → Cfg) : State := { s with cfg := f s.cfg }
def State.updFls (s : State) (f : Fls → Fls) : State := { s with fls := f s.fls }
def State.updPwr (s : State) (f : Pwr → Pwr) : State := { s with pwr := f s.pwr }
def State.updTwn (s : State) (f : Twn → Twn) : State := { s with twn := f s.twn }
def State.updHst (s : State) (f : Hst → Hst) : State := { s with hst := f s.hst }

/-- The port of link `l`. -/
def State.link (s : State) (l : Nat) : Lnk := SMap.get Lnk.down s.lnk l

/-- Changes the port of link `l`. -/
def State.updLink (s : State) (l : Nat) (f : Lnk → Lnk) : State :=
  { s with lnk := SMap.put Lnk.down s.lnk l (f (s.link l)) }

/-- Angle unit `u`. -/
def State.angu (s : State) (u : Nat) : Ang := SMap.get Ang.off s.ang u

/-- Changes angle unit `u`. -/
def State.updAng (s : State) (u : Nat) (f : Ang → Ang) : State :=
  { s with ang := SMap.put Ang.off s.ang u (f (s.angu u)) }

/-- Engine `e`. -/
def State.engine (s : State) (e : Nat) : Eng := SMap.get Eng.idle s.jer.eng e

/-- Changes engine `e`. -/
def State.updEng (s : State) (e : Nat) (f : Eng → Eng) : State :=
  s.updJer fun j => { j with eng := SMap.put Eng.idle j.eng e (f (s.engine e)) }

/-- MDLL `n`. -/
def State.mdll (s : State) (n : Nat) : Ck := SMap.get Ck.off s.pwr.ck n

/-- Changes MDLL `n`. -/
def State.updMdll (s : State) (n : Nat) (f : Ck → Ck) : State :=
  s.updPwr fun p => { p with ck := SMap.put Ck.off p.ck n (f (s.mdll n)) }

/-- R299, R306: the outputs of an MDLL run. -/
def State.mdllOn (s : State) (n : Nat) : Bool :=
  decide (2 ≤ s.fld (pCLK n) CLK_STAT_STATE) && !s.bit (pCLK n) CLK_STAT_MUTED

/-- R308: ns of device time in `k` cycles of the slow clock, from an accumulator of `acc`: 30,517 in each, and
the carries of the accumulator, which adds 74. -/
def slowNs (acc k : Nat) : Nat := (acc % 128 + 3906250 * k) / 128

/-- R308: the whole cycles of the slow clock that raise device time by no more than `d` ns. -/
def slowCycles (acc d : Nat) : Nat := (128 * d + 127 - acc % 128) / 3906250

/-- R308: the cycles of the slow clock up to time `t`: none while MDLL0 runs. -/
def State.slowTo (s : State) (t : Time) : Nat := if s.mdllOn 0 then 0 else slowCycles s.inst.acc (t - s.time)

/-- R308: device time when a command of time `t` takes effect. While MDLL0 is stopped or muted it rises at the
edges of the slow clock only. -/
def State.timeAt (s : State) (t : Time) : Time :=
  if s.mdllOn 0 then Nat.max s.time t else s.time + slowNs s.inst.acc (s.slowTo t)

/-- Device time moves on to `t`; it never decreases (R308). A new instant begins when it moves (R7). -/
def State.at_ (s : State) (t : Time) : State :=
  let acc := (s.inst.acc + 74 * s.slowTo t) % 128
  { s with
    time := s.timeAt t
    inst := if s.time < s.timeAt t then ⟨s.flds, [], acc⟩ else s.inst }

/-- R7: an event sets bit `b` of a W1C field in this instant. -/
def State.noteBit (s : State) (p : Nat) (f : Fld) (b : Nat) : State :=
  let k := fldKey p f
  { s with inst := { s.inst with set := SMap.put 0 s.inst.set k (SMap.get 0 s.inst.set k ||| 2 ^ b) } }

/-- R7: the bits of a W1C field that events have set in this instant. -/
def State.freshBits (s : State) (p : Nat) (f : Fld) : Nat := SMap.get 0 s.inst.set (fldKey p f)

/-- Sets what the latest read returned. -/
def State.answer (s : State) (d : List Nat) : State := s.updHst fun h => { h with rdata := d }

/-- A value of `w` bits that the manual leaves open: the next free value. -/
def State.takeFree (s : State) (w : Nat) : Nat × State :=
  (Config.freeValue s.free % 2 ^ w, { s with free := s.free + 1 })

/-! ## States of the frame controller -/

/-- FRM.STAT.STATE: 0 STOP, 1 RUN, 2 HOLD. -/
def State.frmState (s : State) : Nat := s.fld pFRM FRM_STAT_STATE

/-- R22: the frame number. -/
def State.fn (s : State) : Nat := s.fld pFRM FRM_FN_LO_FN + 2 ^ 32 * s.fld pFRM FRM_FN_HI_FN

/-- Sets the frame number. -/
def State.setFn (s : State) (n : Nat) : State :=
  (s.setFld pFRM FRM_FN_LO_FN n).setFld pFRM FRM_FN_HI_FN (n / 2 ^ 32)

/-- FNLOAD (R23). -/
def State.fnLoad (s : State) : Nat :=
  s.fld pFRM FRM_FNLOAD_LO_FNLOAD + 2 ^ 32 * s.fld pFRM FRM_FNLOAD_HI_FNLOAD

/-- R23: the number of the next frame to start. -/
def State.nextFn (s : State) : Nat :=
  if s.frm.fromStop then Nat.max s.fnLoad (s.fn + 1) else s.fn + 1

/-- P of R25, in ns. -/
def State.period (s : State) : Nat := s.fld pFRM FRM_MINPER_ACT_VALUE * 10

/-! ## Errors, interrupts and MSI-X (R415, R419, R420) -/

/-- R415: a page requests an interrupt. -/
def State.requests (s : State) (p : Nat) : Bool :=
  let open_ := s.fld p HDR_PG_IRQST_ST &&& s.fld p HDR_PG_IRQEN_EN
  let masked := s.fld p HDR_PG_ERRMSK_MASK &&& errMask (pgClass p)
  decide (open_ &&& (2 ^ 32 - 1 - masked) ≠ 0)

/-- R419: the vector of a page. -/
def vecOf (p : Nat) : Nat :=
  match pgClass p with
  | .sys => 0 | .err => 0 | .frm => 1 | .ctx => 2 | .plc => 3 | .cfg => 4 | .svc => 5 | .fls => 6
  | .log => 7 | .pwr => 8 | .adc => 8 | .lcs => 9 | .twn => 10 | .pci => 11 | .tul => 12
  | .iob => 12 | .clk => 13 | .ang => 14 | .je => 15
  | .rgn => 16 + (p - 64) / 8 | .ul => 24 + (p - 128) / 16 | .reserved => 0

/-- R419: the pages of a vector. -/
def pagesOf (v : Nat) : List Nat :=
  match v with
  | 0 => [0, 14] | 1 => [6] | 2 => [7] | 3 => [5] | 4 => [4] | 5 => [2] | 6 => [3] | 7 => [8]
  | 8 => [9, 10] | 9 => [1] | 10 => [11] | 11 => [12]
  | 12 => 13 :: (List.range 8).map (· + 256)
  | 13 => (List.range 8).map (· + 16)
  | 14 => (List.range 8).map (· + 24)
  | 15 => (List.range 32).map (· + 32)
  | _ =>
    if v < 24 then (List.range 8).map (fun i => 64 + (v - 16) * 8 + i)
    else (List.range 16).map (fun i => 128 + (v - 24) * 16 + i)

/-- A dword of the MSI-X table at reset: the vector control dword has its mask bit at 1. -/
def msixReset (k : Nat) : Nat := if k % 4 = 3 then 1 else 0

/-- R420: vector `v` or the function is masked, or MSI-X is disabled. -/
def State.vecMasked (s : State) (v : Nat) : Bool :=
  !s.hst.msixEn || s.hst.msixMask || decide (SMap.get (msixReset (4 * v + 3)) s.hst.msix (4 * v + 3) % 2 = 1)

/-- R420: sends a vector's message, or sets its pending bit. -/
def State.sendOrPend (s : State) (v : Nat) : State :=
  s.updHst fun h =>
    if s.vecMasked v then { h with pba := h.pba ||| 2 ^ v } else { h with msgs := v :: h.msgs }

/-- R420: a vector is asserted. -/
def State.vecOn (s : State) (v : Nat) : Bool := (pagesOf v).any s.requests

/-- R420: notes that a vector is or is not asserted, with a message when it becomes so. -/
def State.noteVec (s : State) (v : Nat) : State :=
  let was := s.hst.asserted.testBit v
  let on := s.vecOn v
  let s' := s.updHst fun h =>
    { h with asserted := if on then h.asserted ||| 2 ^ v
                         else h.asserted &&& (2 ^ 32 - 1 - 2 ^ v) }
  if on && !was then s'.sendOrPend v else s'

/-- R415: an interrupt-only event sets its bit of PG_IRQST. -/
def State.irq (s : State) (p b : Nat) : State :=
  ((s.setFld p HDR_PG_IRQST_ST (s.fld p HDR_PG_IRQST_ST ||| 2 ^ b)).noteBit p HDR_PG_IRQST_ST b).noteVec (vecOf p)

/-- R415: an error sets its bit of PG_ERR and the same bit of PG_IRQST. -/
def State.err (s : State) (p b : Nat) : State :=
  ((s.setFld p HDR_PG_ERR_ERR (s.fld p HDR_PG_ERR_ERR ||| 2 ^ b)).noteBit p HDR_PG_ERR_ERR b).irq p b

/-! ## The event log (R378 to R381) -/

/-- R378: a log entry as its 128 bits. -/
def logEntry (time fn page code sev arg : Nat) : BitVec 128 :=
  BitVec.ofNat 128 (time % 2 ^ 48 + 2 ^ 48 * (fn % 2 ^ 24) + 2 ^ 72 * (page % 2 ^ 9) +
    2 ^ 81 * (code % 2 ^ 10) + 2 ^ 91 * (sev % 8) + 2 ^ 94 * (arg % 2 ^ 32))

/-- R381: stores an entry, or counts it as dropped in a frozen ring. -/
def State.log (s : State) (page code sev arg : Nat) : State :=
  if s.bit pLOG LOG_STAT_FROZEN then
    (s.addSat pLOG LOG_DROPPED_COUNT 1).err pLOG LOG_E_DROP
  else
    let w := s.fld pLOG LOG_STAT_WRPTR
    let e := logEntry s.time s.fn page code sev arg
    let s := s.updHst fun h => { h with ring := SMap.put 0 h.ring w e }
    let s := (s.setFld pLOG LOG_STAT_WRPTR ((w + 1) % 4096)).addWrap pLOG LOG_TOTAL_COUNT 1
    if s.fld pLOG LOG_CTRL_IRQSEV ≤ sev then s.irq pLOG LOG_E_NEWENT else s

/-- R371, R372: counts a contained error. -/
def State.contained (s : State) : State := s.addSat pERR ERR_CLASSCNT_CONTAINED 1

/-- R371, R372: counts a corrected error. -/
def State.corrected (s : State) : State := s.addSat pERR ERR_CLASSCNT_CORRECTED 1

/-! ## HOLD and device-fatal errors (R374, R448) -/

/-- R448: the order of the causes of HOLD; a smaller rank comes first. -/
def holdRank (c : Nat) : Nat :=
  match c with
  | 4 => 0 | 3 => 1 | 5 => 2 | 2 => 3 | 1 => 4 | _ => 5

/-- R448: while the controller is in HOLD, a cause that comes earlier in the order replaces the
cause recorded. -/
def State.holdCauseArises (s : State) (c : Nat) : State :=
  if s.frmState = 2 ∧ holdRank c < holdRank (s.fld pFRM FRM_STAT_HOLDCAUSE) then
    s.setFld pFRM FRM_STAT_HOLDCAUSE c
  else s

/-- R374 step 3: cuts the RUN frame in transmission; a trained port sends HOLD frames from then. -/
def cutRun (time : Time) (p : Lnk) : Lnk :=
  if p.txOn && !p.txHold then { p with txOn := false, holdAt := time } else p

/-- Changes every port that is not as after reset. -/
def State.mapLinks (s : State) (f : Lnk → Lnk) : State :=
  { s with lnk := s.lnk.foldl (fun m e => SMap.put Lnk.down m e.1 (f e.2)) s.lnk }

/-- R374: declares a device-fatal error. A later one is reported and logged, and changes none of its outputs, but a
thermal trip replaces the cause of HOLD (R448). -/
def State.fatal (s : State) (page cause : Nat) : State :=
  if s.pwr.faultB then
    (((s.err pERR ERR_E_FATAL).log page 0x0E0 4 cause).setFld pLOG LOG_STAT_FROZEN 1).holdCauseArises
      (if cause = 7 then 4 else 3)
  else
    let s := if s.bit pERR ERR_FSTAT_VALID then s
      else ((s.setFld pERR ERR_FSTAT_VALID 1).setFld pERR ERR_FSTAT_PAGE page).setFld pERR
        ERR_FSTAT_CAUSE cause
    let s := (s.err pERR ERR_E_FATAL).log page 0x0E0 4 cause
    let s := s.setFld pLOG LOG_STAT_FROZEN 1
    let s := s.updPwr fun p => { p with faultB := true }
    let s := s.mapLinks (cutRun s.time)
    s.holdCauseArises (if cause = 7 then 4 else 3)

/-! ## Clocks and the gates of a host access -/

/-- R318: a page's power domain, as a bit of PWR.STAT.STOPPED, or 7 for MUSLIN (R409). -/
def pgDomain (p : Nat) : Nat :=
  match pgClass p with
  | .sys => 7 | .lcs => 7 | .log => 7 | .pwr => 7 | .twn => 1 | .ul => 2 | .cfg => 3 | .tul => 3
  | .rgn => 3 | .iob => 3 | .plc => 4 | .ctx => 4 | .je => 4 | .svc => 5 | .fls => 5 | .pci => 6
  | _ => 0

/-- R318: domain 6 refuses to stop while a non-posted request is outstanding, or an access hangs. -/
def State.hostBusy (s : State) : Bool := decide (s.hst.hung ≠ []) || s.fab.hp.any fun h => !h.write

/-- R318, R319: the domains stopped in phase A, as a mask. Domains 1 to 5 stop as entry starts; domain 6, which
no queue of the model holds up, is stopped once the longest queries and stops, 620 µs, are over (log entry 131). -/
def State.stoppedDoms (s : State) : Nat :=
  if s.pwr.gz = 1 ∧ s.pwr.gzAt + 620000 ≤ s.time ∧ s.pwr.muslin = 0 ∧ s.hostBusy = false then
    s.fld pPWR PWR_STAT_STOPPED ||| 0x40
  else s.fld pPWR PWR_STAT_STOPPED

/-- R312, R314, R409: the clock of a page runs. -/
def State.clkOn (s : State) (p : Nat) : Bool :=
  match pgClass p with
  | .reserved => false
  | .sys => true | .lcs => true | .pwr => true
  | .twn => decide (s.pwr.gz ≠ 2) && s.mdllOn 2 && !s.stoppedDoms.testBit 1
  | .pci => decide (s.pwr.gz ≠ 2) && !s.pwr.perst && !s.stoppedDoms.testBit 6
  | _ => decide (s.pwr.gz ≠ 2) && !s.stoppedDoms.testBit (pgDomain p)

/-- R400, R408: a host access over PCI Express can occur. -/
def State.hostUp (s : State) : Bool :=
  s.pwr.up && !s.pwr.perst && !s.pwr.d3 && s.bit pPCI PCI_LINK_L0 && decide (s.pwr.gz ≠ 2) &&
    !s.stoppedDoms.testBit 6

/-- R350: the role: 0 SOLO, 1 PRIMARY, 2 STANDBY, 3 FENCED. -/
def State.role (s : State) : Nat := s.fld pTWN TWN_STAT_ROLE

/-- R352: a register whose host writes the primary forwards. -/
def forwarded (off : Nat) : Bool :=
  let o := off % 4096
  match pgClass (off / 4096) with
  | .frm => true | .ctx => true | .plc => true | .ang => true
  | .ul => decide (o = 0x40 ∨ o = 0x44 ∨ o = 0x48 ∨ o = 0x08)
  | .je => decide (off / 4096 = 32 ∧ 0x80 ≤ o)
  | .cfg => decide (0x4C ≤ o ∧ o ≤ 0x68)
  | _ => false

/-! ## The boundary that comes next (R12, R14, R16, R20) -/

/-- R14: when a tick is registered. -/
def Tick.registers (k : Tick) : Time := k.at_ + k.lat

/-- R20: ns of the fallback period in force. -/
def State.fallbackNs (s : State) : Nat :=
  Nat.max (s.fld pFRM FRM_FBPER_FBPER) (Nat.max ((s.fld pFRM FRM_MINPER_ACT_VALUE + 99) / 100) 100) * 1000

/-- R20: the fallback expiry: a change of the period that makes it already passed expires it in the next cycle. -/
def State.fallbackDue (s : State) : Time :=
  let due := s.frm.start + s.fallbackNs
  if due ≤ s.frm.fbAt then s.frm.fbAt + 2 else due

/-- R20: notes a change of the fallback period in force, which was `was` before. -/
def State.noteFallback (s : State) (was : Nat) : State :=
  if s.fallbackNs = was then s else s.updFrm fun f => { f with fbAt := s.time }

/-- R204: an issued tick is registered no later than the fallback period expires. -/
def State.tickFirst (s : State) : Bool :=
  match s.frm.issued with
  | k :: _ => decide (k.registers ≤ s.fallbackDue)
  | [] => false

/-- R12, R16: the boundary that ends the frame in force, as far as the ticks issued decide it. -/
def State.boundaryDue (s : State) : Time :=
  let early := match s.frm.last with
    | some l => l + s.period
    | none => 0
  if s.frm.held then early
  else match s.frm.issued with
    | k :: _ => if k.registers ≤ s.fallbackDue then Nat.max k.registers early else s.fallbackDue
    | [] => s.fallbackDue

/-- R43, R111: what ends at `t` ends before the frame does. A standby's frames end by the primary's record. -/
def State.beforeEnd (s : State) (t : Time) : Bool := decide (s.role = 2) || decide (t ≤ s.boundaryDue)

/-- R312: records an access that hangs, with its log entry. -/
def State.hang (s : State) (page : Nat) (write : Bool) (off : Nat) : State :=
  let s := s.updHst fun h => { h with hung := h.hung ++ [⟨page, write⟩] }
  (s.contained).log page 0x003 3 (write.toNat + 256 * (off % 2 ^ 24))

/-- R351: hands a change to the pair link, when it is up. -/
def State.parcel (s : State) (x : Fwd) : State :=
  if !s.bit pTWN TWN_STAT_LINKUP then s
  else s.updTwn fun w => { w with out := w.out ++ [(w.seq, x)], seq := (w.seq + 1) % 65536 }

/-- R383: counts a host write that is dropped under PFW_B. -/
def State.dropWrite (s : State) : State :=
  (s.addSat pLOG LOG_PFW_DROPW 1).err pLOG LOG_E_PFWDROP

/-- R418: whether the page lock drops a write at this offset of its page. -/
def lockCovers (o : Nat) : Bool :=
  decide (0x40 ≤ o ∨ o = 0x08 ∨ o = 0x10 ∨ o = 0x14)

/-- What a write to BAR0 offset `off` does once it has reached its page: the page lock (R418), then
the primary's forwarding (R352) and the effect. -/
def State.pageWrite (s : State) (off v : Nat) (eff : State → State) : State :=
  if s.bit (off / 4096) HDR_PG_LOCK_LOCKED && lockCovers (off % 4096) then
    s.setFld (off / 4096) HDR_PG_LOCK_VIOL 1
  else eff (if s.role = 1 ∧ forwarded off then s.parcel (.reg off v) else s)

/-- A host write to BAR0 offset `off`: whether it occurs (R400), PFW_B (R383), the standby's drop
(R352), a stopped clock (R312), then the page. -/
def State.hostWrite (s : State) (t : Time) (off v : Nat) (eff : State → State) : State :=
  let s := s.at_ t
  if !s.hostUp then s
  else if s.pwr.pfwBlock then s.dropWrite
  else if s.role = 2 ∧ forwarded off then s.err pTWN TWN_E_STBYWR
  else if !s.clkOn (off / 4096) then s.hang (off / 4096) true off
  else s.pageWrite off v eff

/-- R352: a write that has reached its BAR2 window: the primary forwards it, halfword by halfword (offset in BAR2 and
data), where `fwd` says that the window is forwarded. -/
def State.windowWrite (s : State) (fwd : Bool) (words : List (Nat × Nat)) (eff : State → State) : State :=
  eff (if s.role = 1 ∧ fwd then words.foldl (fun s w => s.parcel (.bar2 w.1 w.2)) s else s)

/-- As `hostWrite`, for a write to a BAR2 window that page `pg` clocks (no page lock, R418). -/
def State.hostWrite2 (s : State) (t : Time) (pg off : Nat) (fwd : Bool) (words : List (Nat × Nat))
    (eff : State → State) : State :=
  let s := s.at_ t
  if !s.hostUp then s
  else if s.pwr.pfwBlock then s.dropWrite
  else if s.role = 2 ∧ fwd then s.err pTWN TWN_E_STBYWR
  else if !s.clkOn pg then s.hang pg true off
  else s.windowWrite fwd words eff

/-- R313: the non-posted requests that are outstanding: hung reads, and fabric-window reads that wait. -/
def State.npNow (s : State) : Nat :=
  (s.hst.hung.filter fun h => !h.write).length + (s.fab.hp.filter fun h => !h.write).length

/-- R313: a host read is accepted; NPOUT.MAX follows. -/
def State.noteNp (s : State) : State := s.raiseTo pPCI PCI_NPOUT_MAX (s.npNow + 1)

/-- A host read of a page: an access that cannot occur returns nothing, nor one beyond the 32 that the
host interface accepts (R313); one of a stopped clock hangs (R312). -/
def State.hostRead (s : State) (t : Time) (off : Nat) (eff : State → State) : State :=
  let s := s.at_ t
  if !s.hostUp || decide (32 ≤ s.npNow) then s.answer []
  else
  let s := s.noteNp
  if !s.clkOn (off / 4096) then (s.hang (off / 4096) false off).answer []
  else eff s

/-- As `hostRead`, for a read of a BAR2 window that page `pg` clocks. -/
def State.hostRead2 (s : State) (t : Time) (pg off : Nat) (eff : State → State) : State :=
  let s := s.at_ t
  if !s.hostUp || decide (32 ≤ s.npNow) then s.answer []
  else
  let s := s.noteNp
  if !s.clkOn pg then (s.hang pg false off).answer []
  else eff s

/-- R312: hung accesses whose page's clock runs again are discarded. -/
def State.discardHung (s : State) : State :=
  s.updHst fun h => { h with hung := h.hung.filter fun x => !s.clkOn x.page }

/-- Bits `lo` up to `lo + n` of a number. -/
def bitsN (v lo n : Nat) : Nat := v / 2 ^ lo % 2 ^ n

/-- The part of a written dword that a field takes. -/
def Fld.of (f : Fld) (v : Nat) : Nat := bitsN v f.lo f.wid

/-- Stores a written dword's part in a field. -/
def State.store (s : State) (p : Nat) (f : Fld) (v : Nat) : State := s.setFld p f (f.of v)

/-- R8: the status codes. -/
def stOK : Nat := 0x00
def stBUSY : Nat := 0x01
def stBADARG : Nat := 0x02
def stNOTERASED : Nat := 0x03
def stORDER : Nat := 0x04
def stPROTECTED : Nat := 0x05
def stBADPW : Nat := 0x06
def stLOCKEDOUT : Nat := 0x07
def stRETIRED : Nat := 0x08
def stESLOW : Nat := 0x09
def stMWEAK : Nat := 0x0A
def stVERIFY : Nat := 0x0B
def stSIGFAIL : Nat := 0x0C
def stLCS : Nat := 0x0D
def stSUSP : Nat := 0x0E
def stTIMEOUT : Nat := 0x0F
def stREFUSED : Nat := 0x10

/-! ## Errors in the block's memories -/

/-- An error comes about in one of the memories. DESIGN CHOICE (log entry 123): a parity error of a microcode copy is a
mark on the copy, and a read of MCDATA gives the instruction as it was written. -/
def State.upset (s : State) : Upset → State
  | .ecc slot g ue flip =>
    let k := slot.val * 16 + g.val
    s.updCtx fun c =>
      let c := { c with ecc := SMap.put 0 c.ecc k (if ue then 2 else Nat.max 1 (SMap.get 0 c.ecc k)) }
      let ws := (List.range 4).map fun i =>
        SMap.get 0 c.flip (k * 4 + i) ^^^ flip.extractLsb' (10 * i) 10
      if ue then { c with flip := SMap.putAll 0 c.flip (k * 4) ws } else c
  | .mc copy plane a =>
    s.updJer fun j =>
      { j with mcBad := SMap.put false j.mcBad (copy.val * 8192 + plane.val * 4096 + a.val) true }
  | .hmap h c =>
    s.updPlc fun p => { p with hmBad := SMap.put 0 p.hmBad h.val (SMap.get 0 p.hmBad h.val ||| c.val) }
  | .qmap h => s.updCtx fun c => { c with qmapBad := SMap.put false c.qmapBad h.val true }
  | .safe k => s.updCtx fun c => { c with safeBad := SMap.put false c.safeBad k.val true }
  | .canary bank k flip =>
    let i := bank.val * 16 + k.val
    s.updPwr fun p => { p with canary := SMap.put 0 p.canary i (SMap.get 0 p.canary i ^^^ flip) }

/-- Errors come about, in order. -/
def State.upsets (s : State) (us : List Upset) : State := us.foldl State.upset s

end Sys2Proof.Machine
end

