-- ==== Sys2Proof/Machine/Place.lean ====
section
/-! DEFINITION. The handle table (R135 to R137), records by handle, ECC errors and quarantine
(R82 to R88), and the load and admission arithmetic (R36 to R41, R451). Slots are numbered
bank × 1,600 + physical slot. -/

namespace Sys2Proof.Machine

/-! ## The handle table -/

/-- R136: the home slot of a handle. -/
def homeSlot (h : Nat) : Nat := (h % 32) * 1600 + h / 32

/-- R136: the handle whose home a slot is. -/
def homeOwner (p : Nat) : Option Nat :=
  if p % 1600 < 1536 then some ((p % 1600) * 32 + p / 1600) else none

/-- R135: the slot of a handle. -/
def State.phys (s : State) (h : Nat) : Nat := SMap.get (homeSlot h) s.plc.home h

/-- R135: the handle that a slot holds. -/
def State.owner (s : State) (p : Nat) : Option Nat :=
  match s.plc.home.find? (fun e => e.2 = p) with
  | some e => some e.1
  | none =>
    match homeOwner p with
    | some h => if s.phys h = p then some h else none
    | none => none

/-- The bank of a slot. -/
def bankOf (p : Nat) : Nat := p / 1600

/-- A slot that holds no handle and that no migration has chosen. -/
def State.slotFree (s : State) (p : Nat) : Bool :=
  (s.owner p).isNone && s.plc.migs.all (fun m => m.target ≠ p)

/-- The lowest free slot of a bank. -/
def State.freeSlot (s : State) (bank : Nat) : Option Nat :=
  ((List.range 1600).map (bank * 1600 + ·)).find? s.slotFree

/-- R137: the parity check at a read of an entry for use. -/
def State.hmCheck (s : State) (h : Nat) : State :=
  match SMap.get 0 s.plc.hmBad h with
  | 0 => s
  | 3 => (s.err pPLC PLC_E_HMFATAL).fatal pPLC 2
  | _ =>
    let s := s.updPlc fun p => { p with hmBad := SMap.put 0 p.hmBad h 0 }
    ((s.err pPLC PLC_E_HMPAR).corrected).log pPLC 0x050 1 h

/-- R137: the parity check of the entries of these handles. -/
def State.hmCheckAll (s : State) (hs : List Nat) : State :=
  ((s.plc.hmBad.map Prod.fst).filter hs.contains).foldl State.hmCheck s

/-! ## Records -/

/-- A word of a slot. -/
def State.slotWord (s : State) (p w : Nat) : Word := SMap.get 0 s.ctx.store (p * 64 + w)

/-- A word of a handle's record. -/
def State.recWord (s : State) (h w : Nat) : Word := s.slotWord (s.phys h) w

/-- Writes a word of a slot. -/
def State.setSlotWord (s : State) (p w : Nat) (v : Word) : State :=
  s.updCtx fun c => { c with store := SMap.put 0 c.store (p * 64 + w) v }

/-- Writes a word of a handle's record. -/
def State.setRecWord (s : State) (h w : Nat) (v : Word) : State := s.setSlotWord (s.phys h) w v

/-- Replaces bits `lo` up to `lo + n` of a word. -/
def setBits (w : Word) (lo n v : Nat) : Word :=
  BitVec.ofNat 10 (w.toNat - bitsN w.toNat lo n * 2 ^ lo + v % 2 ^ n * 2 ^ lo)

/-- R58: VALID, RATE and CLASS of W0. -/
def w0Valid (w : Word) : Bool := w.getLsbD 9
def w0Rate (w : Word) : Nat := bitsN w.toNat 6 3
def w0Class (w : Word) : Nat := bitsN w.toNat 0 6

/-- R61: the slot of the sample and safe tables that W1 and W2 name. -/
def slotOf (w1 w2 : Word) : Nat := bitsN w1.toNat 0 7 * 384 + bitsN w2.toNat 0 9

/-- The bound slot of a handle. -/
def State.boundSlot (s : State) (h : Nat) : Nat := slotOf (s.recWord h 1) (s.recWord h 2)

/-- R82: the error that stands in an ECC group: 0 none, 1 correctable, 2 uncorrectable. -/
def State.eccAt (s : State) (p g : Nat) : Nat := SMap.get 0 s.ctx.ecc (p * 16 + g)

/-- Sets the error of an ECC group. -/
def State.setEcc (s : State) (p g v : Nat) : State :=
  s.updCtx fun c => { c with ecc := SMap.put 0 c.ecc (p * 16 + g) v }

/-- A word that the device writes of itself: not into a group with an uncorrectable error (R85). -/
def State.devWord (s : State) (p w : Nat) (v : Word) : State :=
  if s.eccAt p (w / 4) = 2 then s else s.setSlotWord p w v

/-- A word as it is stored, uncorrected (R84, R86). -/
def State.storedWord (s : State) (p w : Nat) : Word :=
  s.slotWord p w ^^^ SMap.get 0 s.ctx.flip (p * 64 + w)

/-- R86: a group takes good check bits again. -/
def State.cleanGroup (s : State) (p g : Nat) : State :=
  (s.setEcc p g 0).updCtx fun c =>
    { c with flip := SMap.putAll 0 c.flip (p * 64 + g * 4) (List.replicate 4 0) }

/-- The first uncorrectable group of a slot. -/
def State.firstUe (s : State) (p : Nat) : Option Nat :=
  (List.range 16).find? (fun g => s.eccAt p g = 2)

/-- R83: a correctable error is corrected, counted and logged. -/
def State.fixCe (s : State) (p g : Nat) : State :=
  let s := (s.setEcc p g 0).addSat pCTX CTX_ECCCNT_CE 1
  match s.owner p with
  | some h =>
    let w := s.slotWord p 13
    let s := s.devWord p 13 (setBits w 0 5 (Nat.min (bitsN w.toNat 0 5 + 1) 31))
    ((s.err pCTX CTX_E_CE).corrected).log pCTX 0x030 1 (g * 2 ^ 16 + h)
  | none =>
    ((s.err pCTX CTX_E_CE).corrected).log pCTX 0x030 1
      (2 ^ 20 + g * 2 ^ 16 + bankOf p * 2 ^ 11 + p % 1600)

/-- Corrects every correctable group of a slot. -/
def State.fixAllCe (s : State) (p : Nat) : State :=
  (List.range 16).foldl (fun s g => if s.eccAt p g = 1 then s.fixCe p g else s) s

/-! ## Quarantine -/

/-- R85, R91: the quarantine of a handle covers frame `fn`. -/
def State.quarIn (s : State) (h fn : Nat) : Bool :=
  let q := SMap.get 0 s.ctx.quar h
  decide (q ≠ 0 ∧ q - 1 ≤ fn)

/-- The handle is quarantined. -/
def State.isQuar (s : State) (h : Nat) : Bool := decide (SMap.get 0 s.ctx.quar h ≠ 0)

/-- R449: the parity check at a read of the quarantine map for use. -/
def State.qmapCheck (s : State) (h : Nat) : State :=
  if SMap.get false s.ctx.qmapBad h then s.fatal pCTX 3 else s

/-- R449: the parity check of the entries of these handles. -/
def State.qmapCheckAll (s : State) (hs : List Nat) : State :=
  if s.ctx.qmapBad.any fun e => hs.contains e.1 then s.fatal pCTX 3 else s

/-- R37, R85: the handles of the contexts that the load table holds as valid. -/
def State.validHandles (s : State) : List Nat := (s.ctx.load.filter fun e => e.2.valid).map Prod.fst

/-- R85: quarantines a context from frame `fn` on; a migration of it in flight will be cancelled
(R144). -/
def State.quarantine (s : State) (h cause fn : Nat) : State :=
  let p := s.phys h
  let s := s.updCtx fun c =>
    { c with quar := SMap.put 0 c.quar h (fn + 1), once := SMap.put false c.once h false }
  let s := s.devWord p 15 (setBits (s.slotWord p 15) 0 3 cause)
  let s := if s.bit pCTX CTX_QFIRST_VALID then s
    else ((s.setFld pCTX CTX_QFIRST_VALID 1).setFld pCTX CTX_QFIRST_CAUSE cause).setFld pCTX
      CTX_QFIRST_HANDLE h
  let s := s.updPlc fun p =>
    { p with migs := p.migs.map fun m => if m.handle = h ∧ m.cancel = 0 then { m with cancel := 1 } else m }
  let s := (s.addSat pCTX CTX_QCNT_COUNT 1).err pCTX CTX_E_QUAR
  s.log pCTX 0x031 3 (cause * 2 ^ 16 + h)

/-- R84: an uncorrectable error in the record of a handle, found by an access of QCAUSE `cause`; a
new quarantine covers frames from `fn` on. -/
def State.ueFound (s : State) (h g cause fn : Nat) : State :=
  let s := if s.bit pCTX CTX_UEADDR_VALID then s
    else (((s.setFld pCTX CTX_UEADDR_VALID 1).setFld pCTX CTX_UEADDR_SPARE 0).setFld pCTX
      CTX_UEADDR_GROUP g).setFld pCTX CTX_UEADDR_HANDLE h
  let s := ((s.addSat pCTX CTX_ECCCNT_UE 1).err pCTX CTX_E_UE).contained
  let s := s.qmapCheck h
  if s.isQuar h then s else s.quarantine h cause fn

/-- R84: every uncorrectable group of the record of a handle, in slot `p`, as one access that reads the whole
record finds them. -/
def State.ueRecord (s : State) (h p cause fn : Nat) : State :=
  (List.range 16).foldl (fun s g => if s.eccAt p g = 2 then s.ueFound h g cause fn else s) s

/-- R88: an uncorrectable error in a spare slot, found by scrub. -/
def State.ueSpare (s : State) (p g : Nat) : State :=
  let place := bankOf p * 2 ^ 11 + p % 1600
  let s := if s.bit pCTX CTX_UEADDR_VALID then s
    else (((s.setFld pCTX CTX_UEADDR_VALID 1).setFld pCTX CTX_UEADDR_SPARE 1).setFld pCTX
      CTX_UEADDR_GROUP g).setFld pCTX CTX_UEADDR_HANDLE place
  (((s.addSat pCTX CTX_ECCCNT_UE 1).err pCTX CTX_E_UE).contained).log pCTX 0x034 3
    (g * 2 ^ 16 + place)

/-- R66, R67: reads the safe-table entry in force of a slot for use, with its parity checked; none
on a parity error, which is reported. -/
def State.safeRead (s : State) (k : Nat) : Option SafeEnt × State :=
  if SMap.get false s.ctx.safeBad k then
    let s := s.updCtx fun c => { c with perr := SMap.put false c.perr k true }
    (none, ((s.err pCTX CTX_E_SAFEPAR).contained).log pCTX 0x032 3 (k / 384 * 512 + k % 384))
  else (some (SMap.get ⟨0, 0⟩ s.ctx.safe k), s)

/-! ## Load and admission -/

/-- R37, R108: the cost of a class under a class table. -/
def costOf (tbl : SMap ClsEnt) (cls : Nat) : Nat := 4 + (SMap.get ClsEnt.none tbl cls).w

/-- R36: due in frame `n`. -/
def dueIn (rate phase n : Nat) : Bool := decide (n % 2 ^ rate = phase % 2 ^ rate)

/-- R37, R451: what each valid context of a load table loads: engine, rate, phase and cost. A
migrating context loads its target as well. -/
def State.loadList (s : State) (tbl : SMap ClsEnt) (load : SMap Load) :
    List (Nat × Nat × Nat × Nat) :=
  let on := load.filter (fun e => e.2.valid)
  let here := on.map fun e => (bankOf (s.phys e.1), e.2.rate, e.2.phase, costOf tbl e.2.cls)
  let there := s.plc.migs.filterMap fun m =>
    let l := SMap.get Load.none load m.handle
    if l.valid then some (bankOf m.target, l.rate, l.phase, costOf tbl l.cls) else none
  here ++ there

/-- R37: L(e, k). -/
def loadAt (ls : List (Nat × Nat × Nat × Nat)) (e k : Nat) : Nat :=
  ls.foldl (fun n x => if x.1 = e ∧ dueIn x.2.1 x.2.2.1 k then n + x.2.2.2 else n) 0

/-- R40: the first excess over B: the lowest engine and, within it, the lowest residue. -/
def firstExcess (ls : List (Nat × Nat × Nat × Nat)) (b : Nat) : Option (Nat × Nat × Nat) :=
  (List.range 32).findSome? fun e =>
    let mine := ls.filter (fun x => x.1 = e)
    (List.range 128).findSome? fun k =>
      let n := loadAt mine e k
      if b < n then some (e, k, n) else none

/-- R37: the peak load of an engine. -/
def peakOf (ls : List (Nat × Nat × Nat × Nat)) (e : Nat) : Nat :=
  let mine := ls.filter (fun x => x.1 = e)
  (List.range 128).foldl (fun n k => Nat.max n (loadAt mine e k)) 0

/-- R38: B for a declared minimum period. -/
def budget (minper : Nat) : Nat := 9 * 5 * minper / 10

/-- R39, R40, R263: evaluates a load table against B: with the in-force W values and, while a set
with CT = 1 is armed (or when `new` asks for them), with the pending ones. The result is the
excess to record and the table that it was found with. -/
def State.excess (s : State) (load : SMap Load) (minper : Nat) (new : Bool) :
    Option (Nat × Nat × Nat × Nat) :=
  let armed := match s.cfg.as with
    | some a => a.ct && !a.checking
    | none => false
  match firstExcess (s.loadList s.jer.inf load) (budget minper) with
  | some x => some (x.1, x.2.1, x.2.2, 0)
  | none =>
    if armed || new then
      (firstExcess (s.loadList s.jer.pend load) (budget minper)).map fun x =>
        (x.1, x.2.1, x.2.2, 1)
    else none

/-- R41: admission refuses excess load. -/
def State.admChecks (s : State) : Bool := s.bit pFRM FRM_CTRL_ADMCHK || decide (2 ≤ s.pwr.lcs)

/-- R40: records a refusal of cause `cause`. -/
def State.admRefuse (s : State) (cause : Nat) (x : Nat × Nat × Nat × Nat) : State :=
  let s := if s.bit pFRM FRM_ADMREF_VALID then s
    else (((((s.setFld pFRM FRM_ADMREF_VALID 1).setFld pFRM FRM_ADMREF_CAUSE cause).setFld pFRM
      FRM_ADMREF_RESIDUE x.2.1).setFld pFRM FRM_ADMREF_ENGINE x.1).setFld pFRM FRM_ADMREF_TABLE
      x.2.2.2).setFld pFRM FRM_ADMREQ_LOAD x.2.2.1
  (s.err pFRM FRM_E_ADMREF).log pFRM 0x021 2 (cause * 2 ^ 12 + x.2.1 * 2 ^ 5 + x.1)

end Sys2Proof.Machine
end

