-- ==== Sys2Proof/Machine/Contexts.lean ====
section
/-! DEFINITION. Contexts (spec/03_contexts.md): the BAR2 context window and its aliases, commit
groups from the open group to their application, the slot safe table, quarantine release, and
scrubbing. -/

namespace Sys2Proof.Machine

/-- R350: the standby has to acknowledge before the primary acts (R55). -/
def State.mirrors (s : State) : Bool := decide (s.role = 1) && s.bit pTWN TWN_STAT_PAIRED

/-! ## The open group (R69, R70) -/

/-- R69, R70: an entry joins the open group, or is dropped when the group is full. -/
def State.addEntry (s : State) (e : GEntry) : State :=
  if s.bit pCTX CTX_GOPEN_OVF || decide (4096 ≤ s.ctx.open_.length) then
    (s.setFld pCTX CTX_GOPEN_OVF 1).err pCTX CTX_E_GOVF
  else s.updCtx fun c => { c with open_ := c.open_ ++ [e] }

/-- R59: a word of a record that a host write reaches. -/
def hostWord (w : Nat) : Bool := decide (w < 4 ∨ w = 8 ∨ 16 ≤ w)

/-- R56, R57, R59, R69: one halfword of a write at a window offset; `mk` makes the entry. A halfword written in part
makes none, and its address is judged as that of any write (DEDUCED, log entry 28). -/
def State.ctxHalf (mk : Nat → Nat → Word → GEntry) (s : State) (off : Nat) (x : Hw) : State :=
  if x.be = 0 then s
  else
    let s := if x.be = 3 then s else s.err pCTX CTX_E_PARTIAL
    if 49152 ≤ off / 128 then s.err pCTX CTX_E_ADDR
    else if !hostWord (off % 128 / 2) then s.err pCTX CTX_E_ROWR
    else if x.be = 3 then s.addEntry (mk (off / 128) (off % 128 / 2) (x.data.setWidth 10))
    else s

/-- The halfwords of a write, at ascending offsets. -/
def State.ctxHalves (mk : Nat → Nat → Word → GEntry) : State → Nat → List Hw → State
  | s, _, [] => s
  | s, off, x :: xs => State.ctxHalves mk (s.ctxHalf mk off x) (off + 2) xs

/-- The halfwords written whole, as the primary forwards them (R352). -/
def fwdHalves : Nat → List Hw → List (Nat × Nat)
  | _, [] => []
  | off, x :: xs =>
    if x.be = 3 then (off, x.data.toNat) :: fwdHalves (off + 2) xs else fwdHalves (off + 2) xs

/-- R255, R417: what keeps a write out of the context window and its aliases: a context-set load
(CTXBUSY), or the page disabled (ADDR). -/
def State.ctxBlocked (s : State) : Option (Nat × Nat) :=
  if s.fls.ctxLoad then some (pCFG, CFG_E_CTXBUSY)
  else if !s.bit pCTX HDR_PG_CTRL_EN then some (pCTX, CTX_E_ADDR)
  else none

/-- R352: what the primary forwards of a write at BAR2 offset `off` of the context window. -/
def State.ctxWords (s : State) (off : Nat) (data : List Hw) : List (Nat × Nat) :=
  if s.ctxBlocked.isSome then [] else fwdHalves off data

/-- R69, R76: a write of the context window at its offset `off`; `mk` makes its entries. -/
def State.ctxEffect (mk : Nat → Nat → Word → GEntry) (off : Nat) (data : List Hw) (s : State) : State :=
  match s.ctxBlocked with
  | some e => s.err e.1 e.2
  | none => s.ctxHalves mk off data

/-- R69, R76: a host write at BAR2 offset `base + off`. -/
def State.ctxWrite (s : State) (t : Time) (mk : Nat → Nat → Word → GEntry) (base off : Nat)
    (data : List Hw) : State :=
  s.hostWrite2 t pCTX (base + off) true (s.ctxWords (base + off) data) (State.ctxEffect mk off data)

/-- R69: CONTEXT_WINDOW_WRITE. -/
def execContextWindowWrite (t : Time) (off : BitVec 23) (data : List Hw) (s : State) :
    Host.Outcome State Fault Refusal :=
  .next (s.ctxWrite t GEntry.put 0 off.toNat data)

/-- R76: CONTEXT_SET_ALIAS. -/
def execContextSetAlias (t : Time) (off : BitVec 23) (data : List Hw) (s : State) :
    Host.Outcome State Fault Refusal :=
  .next (s.ctxWrite t GEntry.set 0x1000000 off.toNat data)

/-- R76: CONTEXT_CLEAR_ALIAS. -/
def execContextClearAlias (t : Time) (off : BitVec 23) (data : List Hw) (s : State) :
    Host.Outcome State Fault Refusal :=
  .next (s.ctxWrite t GEntry.clr 0x2000000 off.toNat data)

/-- R69, R87: a write of QREL. -/
def State.doQrel (s : State) (v : Nat) : State :=
  let h := CTX_QREL_HANDLE.of v
  if s.fls.ctxLoad then s.err pCFG CFG_E_CTXBUSY
  else if !s.bit pCTX HDR_PG_CTRL_EN then s.err pCTX CTX_E_ADDR
  else if 49152 ≤ h then s.err pCTX CTX_E_ADDR else s.addEntry (.rel h)

/-- R87: QREL_WRITE. -/
def execQrelWrite (t : Time) (v : Dword) (s : State) : Host.Outcome State Fault Refusal :=
  .next (s.hostWrite t (pCTX * 4096 + 0x58) v.toNat fun s => s.doQrel v.toNat)

/-! ## Reading records (R81) -/

/-- R81: whether a read returns the words of the latest boundary. -/
def State.readsBoundary (s : State) : Bool := decide (s.frmState = 1) && s.ctx.bvalid

/-- R81, R84, R85: a word of a record as a host read returns it: as it stood at the boundary, with the bits that were
bad in it then, or that have gone bad since. -/
def State.hostRecWord (s : State) (h w : Nat) : Word :=
  let p := s.phys h
  let flip : Word := if s.eccAt p (w / 4) = 2 then SMap.get 0 s.ctx.flip (p * 64 + w) else 0
  if s.readsBoundary then
    let b := SMap.get (homeSlot h) s.ctx.bhome h
    let v := SMap.get 0 s.ctx.bstore (b * 64 + w)
    let v := v ^^^ (if SMap.get 0 s.ctx.becc (b * 16 + w / 4) = 2 then SMap.get 0 s.ctx.bflip (b * 64 + w) else flip)
    if w = 10 then setBits v 2 1 (decide (SMap.get 0 s.ctx.bquar h ≠ 0)).toNat else v
  else
    let v := s.slotWord p w ^^^ flip
    if w = 10 then setBits v 2 1 (s.isQuar h).toNat else v

/-- R82 to R84: the check of the ECC group that a host read touches. -/
def State.readCheck (s : State) (h w : Nat) : State :=
  let s := s.hmCheck h
  let p := s.phys h
  match s.eccAt p (w / 4) with
  | 0 => s
  | 2 => s.ueFound h (w / 4) 2 (s.fn + 1)
  | _ => s.fixCe p (w / 4)

/-- R56, R81: `n` halfwords of the window from offset `off`, with the state that the checks leave. Each
ECC group is checked once for each run of its words. -/
def State.readHalves : State → Nat → Nat → Nat → State × List Nat
  | s, _, _, 0 => (s, [])
  | s, off, last, n + 1 =>
    let h := off / 128
    let w := off % 128 / 2
    let (s, v, k) :=
      if 49152 ≤ h then (s.err pCTX CTX_E_ADDR, 0, last)
      else
        let k := h * 16 + w / 4 + 1
        let s := if k = last then s else s.readCheck h w
        let s := if w = 10 then s.qmapCheck h else s
        (s, (s.hostRecWord h w).toNat, k)
    let (s, vs) := State.readHalves s (off + 2) k n
    (s, v :: vs)

/-- R81: CONTEXT_WINDOW_READ (also of the aliases, R412). A request of more than 512 bytes is refused
by the endpoint (R407). -/
def execContextWindowRead (t : Time) (off : BitVec 23) (count : Nat) (ups : List Upset) (s : State) :
    Host.Outcome State Fault Refusal :=
  .next ((s.upsets ups).hostRead2 t pCTX off.toNat fun s =>
    if 256 < count then s.answer []
    else if !s.bit pCTX HDR_PG_CTRL_EN then s.answer (List.replicate count 0)
    else
      let (s, vs) := s.readHalves off.toNat 0 count
      s.answer vs)

/-! ## What a group does to the records (R62, R76, R86, R87) -/

/-- The handle of an entry. -/
def GEntry.handle : GEntry → Nat
  | .put h _ _ => h
  | .set h _ _ => h
  | .clr h _ _ => h
  | .rel h => h

/-- The entry is a release. -/
def GEntry.isRel : GEntry → Bool
  | .rel _ => true
  | _ => false

/-- The entry is a write of word `w` of handle `h`. -/
def GEntry.writes (e : GEntry) (h w : Nat) : Bool :=
  match e with
  | .put a b _ => decide (a = h ∧ b = w)
  | .set a b _ => decide (a = h ∧ b = w)
  | .clr a b _ => decide (a = h ∧ b = w)
  | .rel _ => false

/-- The handles of a list of entries, each once, ascending. -/
def touched (es : List GEntry) : List Nat :=
  (es.foldl (fun m e => SMap.put false m e.handle true) []).map Prod.fst

/-- R59: what W8 stores of a written word. -/
def stored8 (w : Nat) (v : Word) : Word := if w = 8 then v &&& 0x7F else v

/-- R76, R86: a word, computed from the word as stored, written into a record. -/
def State.groupWrite (s : State) (h w : Nat) (f : Word → Word) : State :=
  let s := s.hmCheck h
  let p := s.phys h
  let g := w / 4
  match s.eccAt p g with
  | 2 =>
    let v := f (s.storedWord p w)
    let s := (s.cleanGroup p g).updCtx fun c =>
      { c with store := SMap.putAll 0 c.store (p * 64 + g * 4) (List.replicate 4 0) }
    s.setSlotWord p w (stored8 w v)
  | 0 => s.setSlotWord p w (stored8 w (f (s.slotWord p w)))
  | _ =>
    let s := s.fixCe p g
    s.setSlotWord p w (stored8 w (f (s.slotWord p w)))

/-- R76: one entry that is no release. -/
def State.applyEntry (s : State) : GEntry → State
  | .put h w v => s.groupWrite h w fun _ => v
  | .set h w v => s.groupWrite h w fun x => x ||| v
  | .clr h w v => s.groupWrite h w fun x => x &&& ~~~v
  | .rel _ => s

/-- R87: a release by group `id`, on the record as the group leaves it; one with effect writes the record, and so its
GRPID (R73). -/
def State.release (id : Nat) (s : State) (h : Nat) : State :=
  let s := s.qmapCheck h
  let p := s.phys h
  if s.isQuar h && (s.firstUe p).isNone then
    let s := s.updCtx fun c => { c with quar := SMap.put 0 c.quar h 0 }
    let s := s.setFld pCTX CTX_QCNT_COUNT (s.fld pCTX CTX_QCNT_COUNT - 1)
    (s.devWord p 10 (setBits (s.slotWord p 10) 0 1 1)).devWord p 9 (BitVec.ofNat 10 id)
  else s

/-- A group with an uncorrectable error that the device is about to write whole, or but for one word:
it takes good check bits, and the words not written become 0, as R86 has it for a host write. -/
def State.regroup (s : State) (p g : Nat) : State :=
  if s.eccAt p g = 2 then
    (s.cleanGroup p g).updCtx fun c =>
      { c with store := SMap.putAll 0 c.store (p * 64 + g * 4) (List.replicate 4 0) }
  else s

/-- R62: the device-owned words of a record whose VALID goes from 0 to 1. A group that clears VALID and sets it again
leaves it as it was and initialises nothing (DESIGN CHOICE, log entry 111). -/
def State.initRecord (s : State) (h : Nat) : State :=
  let p := s.phys h
  let k := s.boundSlot h
  let (e, s) := s.safeRead k
  let v : Word := match e with
    | some e => e.val
    | none => 0
  let smp := SMap.get Sample.none s.ctx.smp k
  let s := ((((s.regroup p 1).setSlotWord p 4 v).setSlotWord p 5 v).setSlotWord p 6
    (BitVec.ofNat 10 s.fn)).setSlotWord p 7 (BitVec.ofNat 10 (smp.absent.toNat * 256 + smp.age))
  let s := s.regroup p 2
  let w9 := s.slotWord p 10
  let s := (s.setSlotWord p 10 (setBits w9 0 2 1)).setSlotWord p 11 0
  let s := s.regroup p 3
  ((s.setSlotWord p 12 0).setSlotWord p 13 0).setSlotWord p 14 0

/-- The due table's entry of a handle, from its record (R91). -/
def State.setDue (s : State) (h : Nat) : State :=
  let p := s.phys h
  let w0 := s.slotWord p 0
  let l : Load := if w0Valid w0 then
      ⟨true, 0, w0Rate w0, bitsN (s.slotWord p 8).toNat 0 7⟩ else Load.none
  s.updCtx fun c => { c with due := SMap.put Load.none c.due p l }

/-- What a group does to every handle whose words it writes, once they are written: GRPID (R73), the
initialisation of R62 and the due table. `old` is the handle with its VALID before the group. -/
def State.groupRecord (id : Nat) (s : State) (old : Nat × Bool) : State :=
  let h := old.1
  let p := s.phys h
  let s := if w0Valid (s.slotWord p 0) && !old.2 then s.initRecord h else s
  (s.devWord p 9 (BitVec.ofNat 10 id)).setDue h

/-- R76, R87: the records as a group leaves them. -/
def State.groupWords (s : State) (id : Nat) (es : List GEntry) : State :=
  let old := (touched (es.filter fun e => !e.isRel)).map fun h => (h, w0Valid (s.recWord h 0))
  let s := es.foldl State.applyEntry s
  let s := old.foldl (State.groupRecord id) s
  ((es.filter GEntry.isRel).map GEntry.handle).foldl (State.release id) s

/-- The load-table entry that a handle's record gives. -/
def State.loadOf (s : State) (h : Nat) : Load :=
  let w0 := s.recWord h 0
  if w0Valid w0 then ⟨true, w0Class w0, w0Rate w0, bitsN (s.recWord h 8).toNat 0 7⟩ else Load.none

/-- The handles whose W0 or PHASE differs between two states. -/
def loadChanges (a b : State) (hs : List Nat) : List Nat :=
  hs.filter fun h => a.recWord h 0 ≠ b.recWord h 0 || a.recWord h 8 ≠ b.recWord h 8

/-- R139: the history is discarded. What the frame in force has measured so far stays, and counts with it for all of
its figures (DESIGN CHOICE, log entry 112). -/
def State.clearHistory (s : State) : State :=
  (s.setFld pPLC PLC_STAT_HISTCNT 0).updPlc fun p => { p with hist := [] }

/-! ## Closing, checking and completing groups (R71 to R75) -/

/-- R74: the records as every waiting group that is not refused would leave them. -/
def State.afterWaiting (s : State) : State :=
  s.ctx.waiting.foldl (fun s g => if g.refused = 0 then s.groupWords g.id g.entries else s) s

/-- Two equal members. -/
def hasDup : List Nat → Bool
  | [] => false
  | x :: xs => xs.contains x || hasDup xs

/-- R61: the slots bound by valid contexts. -/
def State.bindings (s : State) : List Nat :=
  s.ctx.store.filterMap fun e =>
    if e.1 % 64 = 0 ∧ w0Valid e.2 ∧ (s.owner (e.1 / 64)).isSome then
      some (slotOf (s.slotWord (e.1 / 64) 1) (s.slotWord (e.1 / 64) 2)) else none

/-- R74 check 2. -/
def State.badBinding (s : State) (es : List GEntry) : Bool :=
  (touched es).any (fun h =>
    (es.any (·.writes h 1) && decide (bitsN (s.recWord h 1).toNat 7 3 ≠ 0)) ||
    (es.any (·.writes h 2) && (decide (bitsN (s.recWord h 2).toNat 9 1 ≠ 0) ||
      decide (383 < bitsN (s.recWord h 2).toNat 0 9)))) ||
  hasDup s.bindings

/-- R74 check 3, R263: a set counts from its ARM. -/
def State.badClass (s : State) (es : List GEntry) : Bool :=
  let armed := match s.cfg.as with
    | some a => a.ct
    | none => false
  (touched es).any fun h =>
    let w0 := s.recWord h 0
    w0Valid w0 && (!(SMap.get ClsEnt.none s.jer.inf (w0Class w0)).valid ||
      (armed && !(SMap.get ClsEnt.none s.jer.pend (w0Class w0)).valid))

/-- R74 check 4. -/
def State.badRelease (s : State) (es : List GEntry) : Bool :=
  es.any fun e => match e with
    | .rel h => (s.firstUe (s.phys h)).isSome
    | _ => false

/-- R138: the phase with the smallest peak, for a context of a cost and rate class on an engine with
loads `ls`. -/
def bestPhase (ls : List (Nat × Nat × Nat × Nat)) (e rate cost : Nat) : Nat :=
  let mine := ls.filter (fun x => x.1 = e)
  let peak (p : Nat) := (List.range 128).foldl
    (fun n k => if k % 2 ^ rate = p then Nat.max n (loadAt mine e k + cost) else n) 0
  ((List.range (2 ^ rate)).foldl (fun (b : Nat × Nat) p =>
    if peak p < b.2 then (p, peak p) else b) (0, peak 0)).1

/-- R138: the W8 entries that the controller adds; `a` and `b` are the records before and after. -/
def autoPhases (a b : State) (es : List GEntry) : SMap Load → List Nat → List GEntry
  | _, [] => []
  | load, h :: hs =>
    let w0 := b.recWord h 0
    let made := w0Valid w0 && !w0Valid (a.recWord h 0)
    let rated := decide (w0Rate w0 ≠ w0Rate (a.recWord h 0))
    if (made || rated) && !es.any (·.writes h 8) then
      let e := bankOf (b.phys h)
      let without := SMap.put Load.none load h Load.none
      let p := bestPhase (b.loadList b.jer.inf without) e (w0Rate w0) (costOf b.jer.inf (w0Class w0))
      let l : Load := if w0Valid w0 then ⟨true, w0Class w0, w0Rate w0, p⟩ else Load.none
      .put h 8 (BitVec.ofNat 10 p) :: autoPhases a b es (SMap.put Load.none load h l) hs
    else
      let l : Load := if w0Valid w0 then
          ⟨true, w0Class w0, w0Rate w0, bitsN (b.recWord h 8).toNat 0 7⟩ else Load.none
      autoPhases a b es (SMap.put Load.none load h l) hs

/-- R74: GSTAT.ACCEPTED of the most recently closed group: while admission evaluates an earlier one, on which its
checks rest, it is not yet accepted (DEDUCED, log entry 113). -/
def State.noteAccepted (s : State) : State :=
  match s.ctx.waiting.find? (fun g => g.id = s.ctx.lastId) with
  | some g => s.setBit pCTX CTX_GSTAT_ACCEPTED
      (decide (g.refused = 0) && g.mirrored && s.ctx.waiting.all fun x => !x.evaluating)
  | none => s

/-- R74: checks 2 to 4 of a group on the records that `a` holds: its refusal, and whether admission has to evaluate
it (R39). -/
def State.checkGroup (a : State) (id : Nat) (es : List GEntry) : Nat × Bool :=
  let b := a.groupWords id es
  let refused := if b.badBinding es then 4 else if b.badClass es then 5 else if b.badRelease es then 6 else 0
  (refused, decide (refused = 0) && !(loadChanges a b (touched es)).isEmpty)

/-- R40, R74: once an earlier group is refused, the later ones are checked without it: `a` holds the records as the
groups before them leave them. -/
def State.recheck : State → List Group → List Group
  | _, [] => []
  | a, g :: gs =>
    let x := if g.refused = 3 then (3, false) else a.checkGroup g.id g.entries
    { g with refused := x.1, evaluating := x.2 } ::
      State.recheck (if x.1 = 0 then a.groupWords g.id g.entries else a) gs

/-- R39: the evaluation of group `id` takes its place before those of the groups `later`. -/
def insertEval (id : Nat) (later : List Nat) : List AdmReq → List AdmReq
  | [] => [.group id]
  | .group k :: qs =>
    if k = id then .group k :: qs
    else if later.contains k then .group id :: .group k :: qs
    else .group k :: insertEval id later qs
  | q :: qs => q :: insertEval id later qs

/-- R39, R40: the evaluations that the groups ask for, in commit order. -/
def queueEvals : List Group → List AdmReq → List AdmReq
  | [], q => q
  | g :: gs, q =>
    let q := queueEvals gs q
    if g.evaluating then insertEval g.id (gs.map Group.id) q else q.filter (· ≠ .group g.id)

/-- R255: a context-set load learns the result of the group that it closed. -/
def State.noteLoadGroup (s : State) (id result : Nat) : State :=
  s.updFls fun f =>
    { f with run := f.run.map fun r => if f.ctxLoad && decide (r.group = id) then { r with warn := result } else r }

/-- R75: a group completes with a result. -/
def State.complete (s : State) (id result : Nat) : State :=
  let s := s.noteLoadGroup id result
  let s := ((s.setFld pCTX CTX_GDONE_ID id).setFld pCTX CTX_GDONE_RESULT result).irq pCTX CTX_E_GDONE
  if result = 1 then s
  else
    let s := s.err pCTX CTX_E_GREF
    if s.bit pCTX CTX_GREF_VALID then s
    else ((s.setFld pCTX CTX_GREF_VALID 1).setFld pCTX CTX_GREF_RESULT result).setFld pCTX
      CTX_GREF_ID id

/-- R75: refused groups at the front complete, in the order of closing. -/
def State.completeRefused : List Group → State → State
  | [], s => s.updCtx fun c => { c with waiting := [] }
  | g :: gs, s =>
    if g.refused = 0 then s.updCtx fun c => { c with waiting := g :: gs }
    else State.completeRefused gs (s.complete g.id g.refused)

/-- R75. -/
def State.flushRefused (s : State) : State := s.completeRefused s.ctx.waiting

/-- R73: the ID after `id`. -/
def nextGroupId (id : Nat) : Nat := if id = 65535 then 1 else id + 1

/-- R71 to R74: the open group closes with its checks; admission, if it has to evaluate, is asked. -/
def State.closeGroup (s : State) : State :=
  let id := nextGroupId s.ctx.lastId
  let es := s.ctx.open_
  let ovf := s.bit pCTX CTX_GOPEN_OVF
  let a := s.afterWaiting
  let b := a.groupWords id es
  let auto := if s.bit pPLC PLC_CTRL_AUTOPHASE && s.bit pPLC HDR_PG_CTRL_EN && !ovf then
      autoPhases a b es s.ctx.load (touched es) else []
  let es := es ++ auto
  let (refused, eval) := if ovf then (3, false) else a.checkGroup id es
  let s := s.setFld pCTX CTX_GOPEN_OVF 0
  let s := (s.updCtx fun c =>
    { c with
      open_ := []
      lastId := id
      waiting := c.waiting ++ [⟨id, es, refused, eval, !s.mirrors⟩] })
  let s := if eval then s.updFrm fun f => { f with admQ := f.admQ ++ [.group id] } else s
  let s := if s.role = 1 then s.parcel (.group id) else s
  ((s.setFld pCTX CTX_GSTAT_LASTID id).noteAccepted).flushRefused

/-- R71, R72: a write of COMMIT. -/
def State.doCommit (s : State) (v : Nat) : State :=
  match CTX_COMMIT_GO.of v, CTX_COMMIT_ABANDON.of v with
  | 0, 0 => s
  | 0, _ => (s.setFld pCTX CTX_GOPEN_OVF 0).updCtx fun c => { c with open_ := [] }
  | _, 0 => if 16 ≤ s.ctx.waiting.length then s.err pCTX CTX_E_QFULL else s.closeGroup
  | _, _ => s.err pCTX CTX_E_GCMD

/-- R71: COMMIT_GO. -/
def execCommitGo (t : Time) (s : State) : Host.Outcome State Fault Refusal :=
  .next (s.hostWrite t (pCTX * 4096 + 0x48) 1 fun s => s.doCommit 1)

/-- R71: COMMIT_ABANDON. -/
def execCommitAbandon (t : Time) (s : State) : Host.Outcome State Fault Refusal :=
  .next (s.hostWrite t (pCTX * 4096 + 0x48) 2 fun s => s.doCommit 2)

/-! ## Applying groups (R32, R77 to R79) -/

/-- R32: the apply time of a group in cycles. -/
def State.applyCycles (s : State) (g : Group) : Nat :=
  let banks := g.entries.map fun e => bankOf (s.phys e.handle)
  16 + (List.range 32).foldl (fun n b => Nat.max n (((banks.filter (· = b)).length + 3) / 4)) 0

/-- R75, R76: a group applies whole. -/
def State.applyGroup (s : State) (g : Group) : State :=
  let a := s
  let s := s.groupWords g.id g.entries
  let w0 := (touched g.entries).any fun h => a.recWord h 0 ≠ s.recWord h 0
  let s := if w0 then s.clearHistory else s
  let s := s.updTwn fun w => { w with applied := w.applied ++ [g.id] }
  s.complete g.id 1

/-- A group may apply: it was admitted, and mirrored where it has to be. -/
def Group.ready (g : Group) : Bool := !g.evaluating && g.mirrored

/-- R33, R73, R87: the handles whose records a group has written: of its releases, those with effect, which end a
quarantine that stood in `old`. -/
def State.wrote (s old : State) (g : Group) : List Nat :=
  touched (g.entries.filter fun e => !e.isRel || (old.isQuar e.handle && !s.isQuar e.handle))

/-- R31 step 1, R32: groups apply in commit order while they end by the deadline (`left` cycles
remain); the result names the handles that they wrote. -/
def State.applyWindow : List Group → Nat → State → State × List Nat
  | [], _, s => (s.updCtx fun c => { c with waiting := [] }, [])
  | g :: gs, left, s =>
    if g.refused ≠ 0 then State.applyWindow gs left (s.complete g.id g.refused)
    else if g.ready && decide (s.applyCycles g ≤ left) then
      let n := s.applyGroup g
      let (s', more) := State.applyWindow gs (left - s.applyCycles g) n
      (s', n.wrote s g ++ more)
    else (s.updCtx fun c => { c with waiting := g :: gs }, [])

/-- R79: GROUP_APPLY_STOP. -/
def execGroupApplyStop (t : Time) (s : State) : Host.Outcome State Fault Refusal :=
  let s := s.at_ t
  .next (match s.ctx.waiting with
    | [] => s
    | g :: gs =>
      if s.frmState = 0 ∧ g.refused = 0 ∧ g.ready then
        ((s.applyGroup g).updCtx fun c => { c with waiting := gs }).flushRefused
      else s)

/-! ## The slot safe table (R66 to R68) -/

/-- R68: SAFEIDX after an access. -/
def State.advanceSafe (s : State) : State :=
  if s.bit pCTX CTX_CTRL_SAFEINC then
    if s.fld pCTX CTX_SAFEIDX_SLOT = 383 then
      (s.setFld pCTX CTX_SAFEIDX_SLOT 0).setFld pCTX CTX_SAFEIDX_LINK
        (s.fld pCTX CTX_SAFEIDX_LINK + 1)
    else s.setFld pCTX CTX_SAFEIDX_SLOT (s.fld pCTX CTX_SAFEIDX_SLOT + 1)
  else s

/-- The entry that SAFEIDX names. -/
def State.safeIdx (s : State) : Nat :=
  s.fld pCTX CTX_SAFEIDX_LINK * 384 + s.fld pCTX CTX_SAFEIDX_SLOT

/-- R67, R68: a write of SAFEDATA. -/
def State.doSafedata (s : State) (v : Nat) : State :=
  if 383 < s.fld pCTX CTX_SAFEIDX_SLOT then s.err pCTX CTX_E_ADDR
  else
    let k := s.safeIdx
    let e : SafeEnt := ⟨BitVec.ofNat 10 (CTX_SAFEDATA_VALUE.of v), CTX_SAFEDATA_MODE.of v⟩
    (s.updCtx fun c =>
      { c with
        safeW := SMap.put ⟨0, 0⟩ c.safeW k e
        safeDirty := SMap.put false c.safeDirty k true
        perr := SMap.put false c.perr k false }).advanceSafe

/-- R68: SAFEDATA_WRITE. -/
def execSafedataWrite (t : Time) (v : Dword) (s : State) : Host.Outcome State Fault Refusal :=
  .next (s.hostWrite t (pCTX * 4096 + 0x70) v.toNat fun s => s.doSafedata v.toNat)

/-- R68: what a read of SAFEDATA returns, and what it does. -/
def State.readSafedata (s : State) : Nat × State :=
  if 383 < s.fld pCTX CTX_SAFEIDX_SLOT then (0, s.err pCTX CTX_E_ADDR)
  else
    let k := s.safeIdx
    let e := SMap.get ⟨0, 0⟩ s.ctx.safeW k
    ((SMap.get false s.ctx.perr k).toNat * 2 ^ 31 + e.mode * 1024 + e.val.toNat, s.advanceSafe)

/-- R68: SAFEDATA_READ. -/
def execSafedataRead (t : Time) (s : State) : Host.Outcome State Fault Refusal :=
  .next (s.hostRead t (pCTX * 4096 + 0x70) fun s =>
    let (v, s) := s.readSafedata
    s.answer [v])

/-! ## Scrubbing and the quarantine map (R88, R449) -/

/-- R88: one ECC group (0 to 25,599) of a bank is read by scrub. -/
def State.scrubGroup (s : State) (bank k : Nat) : State :=
  let p := bank * 1600 + k / 16
  let g := k % 16
  match s.eccAt p g with
  | 0 => s
  | 2 =>
    match s.owner p with
    | some h => s.ueFound h g 3 (s.fn + 1)
    | none => s.ueSpare p g
  | _ => s.fixCe p g

/-- The bank is excluded: its EXCLSTATE is not that of a bank in use. -/
def State.excluded (s : State) (bank : Nat) : Bool :=
  decide (s.fld pPLC PLC_STAT_EXCLSTATE ≠ 0 ∧ s.fld pPLC PLC_STAT_EXCLBANK = bank)

/-- R88: a bank has completed a pass; PASSES rises when every bank that is not excluded has. -/
def State.scrubPass (s : State) (bank : Nat) : State :=
  let s := s.updCtx fun c => { c with scrubDone := SMap.put false c.scrubDone bank true }
  if (List.range 32).all fun b => s.excluded b || SMap.get false s.ctx.scrubDone b then
    (s.updCtx fun c => { c with scrubDone := [] }).addWrap pCTX CTX_SCRUBPOS_PASSES 1
  else s

/-- R88: `n` groups of a bank, from its position. -/
def State.scrubMany : Nat → Nat → State → State
  | 0, _, s => s
  | n + 1, bank, s =>
    let k := SMap.get 0 s.ctx.scrub bank
    let s := s.scrubGroup bank k
    let s := (s.setFld pCTX CTX_SCRUBPOS_BANK bank).setFld pCTX CTX_SCRUBPOS_SLOT (k / 16)
    let s := s.updCtx fun c => { c with scrub := SMap.put 0 c.scrub bank ((k + 1) % 25600) }
    State.scrubMany n bank (if k = 25599 then s.scrubPass bank else s)

/-- R88, R93: scrub may read a bank now: in RUN once in the slack of each frame, after the engine's last write-back
and before the frame ends; in STOP and HOLD every 50 µs. -/
def State.scrubOpen (s : State) (bank : Nat) : Bool :=
  let e := s.engine bank
  let last := SMap.get 0 s.ctx.scrubAt bank
  if s.frmState = 1 then
    s.frm.inFrame && e.visit.isNone && e.due.isEmpty && decide (s.frm.start + 40 + 2 * e.cyc + 8 ≤ s.time) &&
    s.beforeEnd s.time && decide (last ≤ s.frm.start)
  else decide (last = 0 ∨ last + 49999 ≤ s.time)

/-- R88: SCRUB_READ: the groups of one bank in one frame's slack, or of one 50 µs outside RUN. A migration copy is one
command, so no scrub read falls into it. -/
def execScrubRead (t : Time) (bank : Engine) (ups : List Upset) (s : State) :
    Host.Outcome State Fault Refusal :=
  let s := (s.at_ t).upsets ups
  .next (if s.pwr.up && s.clkOn pCTX && s.bit pCTX CTX_CTRL_SCRUBEN && s.bit pCTX HDR_PG_CTRL_EN &&
      s.scrubOpen bank.val && !s.excluded bank.val then
    State.scrubMany (s.fld pCTX CTX_CTRL_SCRUBRATE) bank.val
      (s.updCtx fun c => { c with scrubAt := SMap.put 0 c.scrubAt bank.val (s.time + 1) })
  else s)

/-- R449: QMAP_PARITY_CHECK: one pass of the background check. -/
def execQmapParityCheck (t : Time) (ups : List Upset) (s : State) : Host.Outcome State Fault Refusal :=
  let s := (s.at_ t).upsets ups
  .next (if s.pwr.up && s.clkOn pCTX && !s.ctx.qmapBad.isEmpty then s.fatal pCTX 3 else s)

end Sys2Proof.Machine
end

