-- ==== Sys2Proof/Machine/Fabric.lean ====
section
/-! DEFINITION. The logic fabric and its hardened blocks (spec/09_fabric.md): RAM blocks, pattern RAM
from both ports, arithmetic blocks, Tulle ports and streams, FCALL responses, the host window, and the
user I/O banks. -/

namespace Sys2Proof.Machine

/-! ## Regions -/

/-- The descriptor of the image in force in a region. -/
def State.desc (s : State) (r : Nat) : RgnDesc := SMap.get RgnDesc.empty s.fab.desc r

/-- The logic of a region runs: an image is in force in it. -/
def State.rgnLive (s : State) (r : Nat) : Bool :=
  s.clkOn (pRGN r) && decide (2 ≤ (SMap.get RgnAlloc.free s.plc.rgn r).state) && !s.pwr.tripped

/-- R210: the selection of a region clock line: 0 to 19, or 31 for none. -/
def State.clkSel (s : State) (r i : Nat) : Nat := (s.desc r).clks.getD i 31

/-- R210: a region clock line runs: its region holds an image and its user clock is on. -/
def State.clkRun (s : State) (r i : Nat) : Bool :=
  s.rgnLive r && decide (s.clkSel r i < 20) && s.mdllOn (3 + s.clkSel r i / 4)

/-- R210, R258: some clock line of a region runs. -/
def State.rgnClocked (s : State) (r : Nat) : Bool := (List.range 4).any (s.clkRun r)

/-! ## RAM blocks (R212 to R217) -/

/-- R213: what an operation makes of a stored value. -/
def ramApply {n : Nat} (op : RamOp) (old data : BitVec n) : BitVec n :=
  match op with
  | .write => data
  | .set => old ||| data
  | .clear => old &&& ~~~data
  | .read => old

/-- The operation writes. -/
def ramWrites (op : RamOp) : Bool :=
  match op with
  | .read => false
  | _ => true

/-- The number of bits that are 1. -/
def ones (n v : Nat) : Nat := ((List.range n).filter fun i => v.testBit i).length

/-- The key of the word that an access of a block reaches. -/
def ramKey (c : RamCfg) (x : RamAcc) : Nat :=
  (x.region.val * 40 + x.block.val) * 2048 + (if c.wide then x.addr.val % 1024 else x.addr.val)

/-- R212: the part of a 20-bit value that a word of the block holds. -/
def ramCut (c : RamCfg) (v : BitVec 20) : BitVec 20 := if c.wide then v else v &&& 0x3FF

/-- R217: a read found a parity error. -/
def State.ramParity (s : State) (r b : Nat) : State :=
  let s := if s.fld (pRGN r) RGN_RAMPERR_COUNT = 0 then s.setFld (pRGN r) RGN_RAMPERR_FIRST b else s
  ((s.addSat (pRGN r) RGN_RAMPERR_COUNT 1).err (pRGN r) RGN_E_RAMPERR).contained

/-- R213, R215: stores a word with the parity of its data. -/
def State.ramStore (s : State) (k : Nat) (v : BitVec 20) : State :=
  s.updFab fun f =>
    { f with
      ram := SMap.put 0 f.ram k v
      ramBad := SMap.put false (SMap.put false f.ramBad (2 * k) false) (2 * k + 1) false }

/-- R217: bits of a stored word turn over. -/
def State.ramFlip (s : State) (k : Nat) (flip : BitVec 20) : State :=
  s.updFab fun f =>
    let turn (m : SMap Bool) (h : Nat) : SMap Bool :=
      let odd := decide (ones 10 (flip.toNat / 2 ^ (10 * h)) % 2 = 1)
      SMap.put false m (2 * k + h) (SMap.get false m (2 * k + h) != odd)
    { f with
      ram := SMap.put 0 f.ram k (SMap.get 0 f.ram k ^^^ flip)
      ramBad := turn (turn f.ramBad 0) 1 }

/-- R212: an access that a port of a block makes in a cycle: none while the port's clock is stopped. -/
def State.portAccess (s : State) (r line : Nat) (x : Option (RamOp × BitVec 20)) : Option (RamOp × BitVec 20) :=
  if s.clkRun r line then x else none

/-- R214, R217: the outputs of a RAM port that has made an access: what it reads and PERR. `wrote` when its own write
took effect. -/
def State.ramOut (s : State) (block : Nat) (portB : Bool) (old new : BitVec 20) (bad wrote rdNew : Bool) : State :=
  let k := block * 2 + portB.toNat
  let shows := wrote && rdNew
  let s := s.updFab fun f =>
    { f with
      ramQ := SMap.put 0 f.ramQ k (if shows then new else old).toNat
      perr := SMap.put false f.perr k (bad && !shows) }
  if bad && !shows then s.ramParity (block / 40) (block % 40) else s

/-- R213 to R217: the accesses of one cycle to one word by ports A and B of a block; port A's write takes effect where
both write, and port B's COLLIDE shows it. -/
def State.ramPorts (s : State) (c : RamCfg) (block k : Nat) (a b : Option (RamOp × BitVec 20)) : State :=
  let old := SMap.get 0 s.fab.ram k
  let bad := c.parity && (SMap.get false s.fab.ramBad (2 * k) || (c.wide && SMap.get false s.fab.ramBad (2 * k + 1)))
  let writes (x : Option (RamOp × BitVec 20)) : Option (BitVec 20) :=
    x.bind fun y => if ramWrites y.1 then some (ramApply y.1 old (ramCut c y.2)) else none
  let wa := writes a
  let wb := if wa.isSome then none else writes b
  let new := (wa.orElse fun _ => wb).getD old
  let s := if wa.isSome || wb.isSome then s.ramStore k new else s
  let s := if a.isSome then s.ramOut block false old new bad wa.isSome c.rdNewA else s
  let s := if b.isSome then s.ramOut block true old new bad wb.isSome c.rdNewB else s
  s.updFab fun f => { f with collide := SMap.put false f.collide block (wa.isSome && (writes b).isSome) }

/-- R212 to R217: the access of the port named, with that of the other port to the same word in the same cycle, if any,
by a port whose clock runs. -/
def State.ramAccess (s : State) (x : RamAcc) (op : RamOp) : State :=
  match (s.desc x.region.val).rams[x.block.val]? with
  | none => s
  | some c =>
    let r := x.region.val
    let mine := some (op, x.data)
    let a := s.portAccess r c.clkA (if x.portB then x.other else mine)
    let b := s.portAccess r c.clkB (if x.portB then mine else x.other)
    if (if x.portB then b else a).isNone then s
    else s.ramPorts c (r * 40 + x.block.val) (ramKey c x) a b

/-- R213: RAM_WRITE. -/
def execRamWrite (x : RamAcc) (s : State) : Host.Outcome State Fault Refusal :=
  .next (s.ramAccess x .write)

/-- R213: RAM_SET. -/
def execRamSet (x : RamAcc) (s : State) : Host.Outcome State Fault Refusal := .next (s.ramAccess x .set)

/-- R213: RAM_CLEAR. -/
def execRamClear (x : RamAcc) (s : State) : Host.Outcome State Fault Refusal :=
  .next (s.ramAccess x .clear)

/-- R214, R217: RAM_READ; `flip` are bits of the stored word that have turned over before. -/
def execRamRead (x : RamAcc) (flip : BitVec 20) (s : State) : Host.Outcome State Fault Refusal :=
  .next (match (s.desc x.region.val).rams[x.block.val]? with
    | none => s
    | some c =>
      if s.clkRun x.region.val (if x.portB then c.clkB else c.clkA) then
        (s.ramFlip (ramKey c x) (ramCut c flip)).ramAccess x .read
      else s)

/-! ## Pattern RAM (R80, R218, R219) -/

/-- One access that changes a word of pattern RAM, in all replicas. -/
def State.patWrite (s : State) (op : RamOp) (a : Nat) (v : Word) : State :=
  s.updJer fun j => { j with pat := SMap.put 0 j.pat a (ramApply op (SMap.get 0 j.pat a) v) }

/-- R412, R218: one halfword of a host write; `lost` when port A writes the word in the same cycle. -/
def State.patHalf (s : State) (op : RamOp) (a : Nat) (x : Hw) (lost : Bool) : State :=
  if x.be = 0 then s
  else if x.be ≠ 3 then s.err pCTX CTX_E_PARTIAL
  else if lost then (s.addSat pTUL TUL_PRCOLL_COUNT 1).err pTUL TUL_E_PRCOLL
  else s.patWrite op a (x.data.setWidth 10)

/-- The halfwords of a host write from word `a` on; `lost` names those that lose under R215. -/
def State.patHalves (op : RamOp) (lost : List Nat) : State → Nat → Nat → List Hw → State
  | s, _, _, [] => s
  | s, a, i, x :: xs =>
    State.patHalves op lost (s.patHalf op (a % 1048576) x (lost.contains i)) (a + 1) (i + 1) xs

/-- The halfwords written whole, as the primary forwards them (R352). -/
def patParcels : Nat → List Hw → List (Nat × Nat)
  | _, [] => []
  | off, x :: xs =>
    if x.be = 3 then (off, x.data.toNat) :: patParcels (off + 2) xs else patParcels (off + 2) xs

/-- R218: PATTERN_RAM_HOST_WRITE. -/
def execPatternRamHostWrite (t : Time) (off : BitVec 21) (data : List Hw) (lost : List Nat) (s : State) :
    Host.Outcome State Fault Refusal :=
  .next (s.hostWrite2 t pCTX (0x800000 + off.toNat) true (patParcels (0x800000 + off.toNat) data)
    fun s => s.patHalves .write lost (off.toNat / 2) 0 data)

/-- R80: PATTERN_SET_ALIAS. -/
def execPatternSetAlias (t : Time) (off : BitVec 21) (data : List Hw) (lost : List Nat) (s : State) :
    Host.Outcome State Fault Refusal :=
  .next (s.hostWrite2 t pCTX (0x1800000 + off.toNat) true (patParcels (0x1800000 + off.toNat) data)
    fun s => s.patHalves .set lost (off.toNat / 2) 0 data)

/-- R80: PATTERN_CLEAR_ALIAS. -/
def execPatternClearAlias (t : Time) (off : BitVec 21) (data : List Hw) (lost : List Nat) (s : State) :
    Host.Outcome State Fault Refusal :=
  .next (s.hostWrite2 t pCTX (0x2800000 + off.toNat) true (patParcels (0x2800000 + off.toNat) data)
    fun s => s.patHalves .clear lost (off.toNat / 2) 0 data)

/-! ## Arithmetic blocks (R221, R222) -/

/-- The low `n` bits of a value, read signed or unsigned. -/
def readInt (signed : Bool) (n v : Nat) : Int :=
  let x := v % 2 ^ n
  if signed && decide (2 ^ (n - 1) ≤ x) then (x : Int) - 2 ^ n else x

/-- The value of `n` bits that is congruent to `x`, read signed. -/
def wrapInt (n : Nat) (x : Int) : Int := readInt true n (x % 2 ^ n).toNat

/-- R222: the widths in words of a (and d) and of b, in a cascade of `n` blocks. -/
def arWidths (n : Nat) : Option (Nat × Nat) :=
  match n with
  | 1 => some (1, 1) | 2 => some (2, 1) | 3 => some (3, 1) | 4 => some (2, 2) | _ => none

/-- R221: the pre-adder's result a ± d, one bit wider than its operands and never clamped. Below -2^w, which a signed a
less an unsigned d can reach, it wraps in those bits, to a value that reads alike signed and unsigned (log entry 52). -/
def preAdd (minus : Bool) (w : Nat) (a d : Int) : Int :=
  let r := if minus then a - d else a + d
  if r < -2 ^ w then r + 2 ^ (w + 1) else r

/-- R222: the accumulator of a cascade of `n` blocks from block `k` up, least significant word lowest. -/
def accOf (m : SMap (BitVec 30)) (k n : Nat) : Int :=
  readInt true (30 * n) ((List.range n).map fun i => (SMap.get 0 m (k + i)).toNat * 2 ^ (30 * i)).sum

/-- R222: the accumulators of the blocks of a cascade hold a value. -/
def putAcc (m : SMap (BitVec 30)) (k n : Nat) (v : Int) : SMap (BitVec 30) :=
  SMap.putAll 0 m k ((List.range n).map fun i => BitVec.ofInt 30 (v / 2 ^ (30 * i)))

/-- R221: what an accumulator of `n` bits takes of a sum, and whether it lies outside its range. -/
def accHold (clamp : Bool) (n : Nat) (sum : Int) : Int × Bool :=
  let lim : Int := 2 ^ (n - 1)
  if -lim ≤ sum ∧ sum < lim then (sum, false)
  else (if clamp then (if sum < 0 then -lim else lim - 1) else wrapInt n sum, true)

/-- R221, R222: one operation of the block or cascade that an image has set up. -/
def State.arOp (s : State) (x : ArOp) : State :=
  let top := x.top.val
  match (s.desc x.region.val).ars[top]? with
  | none => s
  | some c =>
    match arWidths c.n with
    | none => s
    | some (wa, wb) =>
      if !s.rgnLive x.region.val || decide (top + 1 < c.n) then s
      else
        let a := readInt c.sa (10 * wa) x.a.toNat
        let b := readInt c.sb (10 * wb) x.b.toNat
        let m := if c.pre then preAdd c.minus (10 * wa) a (readInt c.sd (10 * wa) x.d.toNat) else a
        let k := x.region.val * 20 + (top + 1 - c.n)
        let p := m * b
        let acc := accHold c.clamp (30 * c.n) (if c.accum then accOf s.fab.acc k c.n + p else p)
        s.updFab fun f =>
          { f with
            acc := putAcc f.acc k c.n acc.1
            satOut := SMap.put false f.satOut (x.region.val * 20 + top) (c.clamp && acc.2) }

/-- R221: ARITHMETIC_BLOCK_OPERATION. -/
def execArithmeticBlockOperation (x : ArOp) (s : State) : Host.Outcome State Fault Refusal :=
  .next (s.arOp x)

/-! ## The Tulle network (R223 to R227) -/

/-- R223: the router of a port, by the region beside it; none for a reserved ID. -/
def portRouter (id : Nat) : Option Nat :=
  if id < 0x200 then some (id / 8)
  else if id < 0x220 then some 24
  else match id with
    | 0x220 => some 3 | 0x221 => some 31 | 0x222 => some 60 | 0x223 => some 59 | 0x224 => some 31
    | 0x230 => some 1 | 0x231 => some 2 | 0x232 => some 5 | 0x233 => some 6
    | 0x234 => some 57 | 0x235 => some 58 | 0x236 => some 61 | 0x237 => some 62
    | _ => none

/-- R223: the hops between two routers. -/
def hops (a b : Nat) : Nat :=
  (a / 8 - b / 8) + (b / 8 - a / 8) + (a % 8 - b % 8) + (b % 8 - a % 8)

/-- R230: h from the engine lanes to a port. -/
def laneHops (id : Nat) : Option Nat := (portRouter id).map fun r => hops 24 r

/-- R225: the first time from `t` on in a cycle with one of the phases. -/
def nextPhase (phases : List Nat) (t : Nat) : Nat :=
  let c := (t + 1) / 2
  2 * (((List.range 8).map (c + ·)).find? fun k => phases.contains (k % 8)).getD c

/-- R226, R237: a flit accepted at `t` on a stream; one accepted there before gives way. -/
def State.send (s : State) (x : Stream) (t : Nat) (flit : Flit) : State :=
  s.updFab fun f =>
    { f with flights :=
        f.flights.filter (fun y => y.be || !(y.src = x.src ∧ y.dst = x.dst ∧ y.due = t + 2 * x.d)) ++
          [⟨x.src, x.dst, t + 2 * x.d, flit, false⟩] }

/-- R227, R237: an edge port of the device sends a flit in the first reserved phase from `t` on, on every
stream that names it. -/
def State.sendFrom (s : State) (src t : Nat) (flit : Flit) : State :=
  (s.fab.streams.filter fun x => x.src = src).foldl (fun s x => s.send x (nextPhase x.phases t) flit) s

/-- The port of a region with an ID below 0x200. -/
def State.portOf (s : State) (id : Nat) : Port := (s.desc (id / 8)).ports.getD (id % 8) ⟨0, 0, 0, 0, 0⟩

/-- R232: a best-effort flit that a region port sends at `t` arrives at some time, behind those sent before it to the
same port. -/
def State.sendBest (s : State) (src t : Nat) (flit : Flit) : State :=
  let dst := (s.portOf src).peer
  let d := s.takeFree 64
  let soon := t + 2 * (1 + hops (src / 8) ((portRouter dst).getD 0)) + 2 * d.1
  let due := (s.fab.flights.filter fun y => y.be && decide (y.src = src ∧ y.dst = dst)).foldl
    (fun n y => Nat.max n y.due) soon
  d.2.updFab fun f => { f with flights := f.flights ++ [⟨src, dst, due, flit, true⟩] }

/-- R225, R232: STREAM_FLIT_ACCEPT: a port offers a flit, and it is accepted in one of the phases of its stream; a
best-effort port sends it in any cycle. -/
def execStreamFlitAccept (t : Time) (src : BitVec 10) (flit : Flit) (s : State) :
    Host.Outcome State Fault Refusal :=
  let s := s.at_ t
  .next (if !s.clkOn pTUL then s
  else if src.toNat < 0x200 ∧ (s.portOf src.toNat).kind = 4 then s.sendBest src.toNat t flit
  else
    (s.fab.streams.filter fun x => x.src = src.toNat ∧ t % 2 = 0 ∧ x.phases.contains (t / 2 % 8)).foldl
      (fun s x => s.send x t flit) s)

/-- R219: the clocks of the fabric port of pattern RAM run. -/
def State.patOn (s : State) : Bool := s.pwr.up && s.clkOn (pJE 0) && s.clkOn pTUL

/-- R219: what a request flit carries: OP, address, data and tag. -/
def patReqOf (flit : Flit) : RamOp × PatReq :=
  let v := flit.toNat
  let op := match bitsN v 78 2 with
    | 0 => RamOp.read | 1 => .write | 2 => .set | _ => .clear
  (op, ⟨BitVec.ofNat 20 (bitsN v 20 20), BitVec.ofNat 10 (bitsN v 0 10), BitVec.ofNat 8 (bitsN v 10 8)⟩)

/-- R219: the answer to a read. -/
def patAnswer (tag : BitVec 8) (v : Word) : Flit := BitVec.ofNat 80 (tag.toNat * 1024 + v.toNat)

/-- R219: the fabric port of pattern RAM accepts a request: an access, which completes four cycles later; the answer to
a read goes out on the streams from port 0x222. -/
def State.patAccess (s : State) (op : RamOp) (x : PatReq) : State :=
  if !s.patOn then s
  else if op = .read then
    let y := patAnswer x.tag (SMap.get 0 s.jer.pat x.addr.toNat)
    (s.updFab fun f => { f with patQ := some y }).sendFrom 0x222 (s.time + 8) y
  else s.patWrite op x.addr.toNat x.data

/-- R219: PATTERN_FABRIC_READ. -/
def execPatternFabricRead (x : PatReq) (s : State) : Host.Outcome State Fault Refusal := .next (s.patAccess .read x)

/-- R219: PATTERN_FABRIC_WRITE. -/
def execPatternFabricWrite (x : PatReq) (s : State) : Host.Outcome State Fault Refusal := .next (s.patAccess .write x)

/-- R219: PATTERN_FABRIC_SET. -/
def execPatternFabricSet (x : PatReq) (s : State) : Host.Outcome State Fault Refusal := .next (s.patAccess .set x)

/-- R219: PATTERN_FABRIC_CLEAR. -/
def execPatternFabricClear (x : PatReq) (s : State) : Host.Outcome State Fault Refusal := .next (s.patAccess .clear x)

/-- Bank `b`. -/
def State.iob (s : State) (b : Nat) : Iob := SMap.get Iob.reset s.fab.iob b

/-- Changes bank `b`. -/
def State.updIob (s : State) (b : Nat) (f : Iob → Iob) : State :=
  s.updFab fun x => { x with iob := SMap.put Iob.reset x.iob b (f (s.iob b)) }

/-- R237: an output flit presented at a bank. -/
def outFlit (flit : Flit) (x : Iob) : Iob :=
  let v := flit.toNat
  let sh := if v.testBit 72 then 24 else 0
  let mask : BitVec 48 := BitVec.ofNat 48 (bitsN v 48 24 * 2 ^ sh)
  let oe : BitVec 48 := BitVec.ofNat 48 (bitsN v 24 24 * 2 ^ sh)
  let out : BitVec 48 := BitVec.ofNat 48 (bitsN v 0 24 * 2 ^ sh)
  { x with oe := (x.oe &&& ~~~mask) ||| (oe &&& mask), out := (x.out &&& ~~~mask) ||| (out &&& mask) }

/-- The flight with the earliest presentation; ties go to the one accepted first. -/
def firstDue : List Flight → Option Flight
  | [] => none
  | x :: xs =>
    match firstDue xs with
    | some y => if y.due < x.due then some y else some x
    | none => some x

/-- R219, R226, R237: STREAM_FLIT_PRESENT: the next flit due is presented at its destination: a bank's pins change, and
pattern RAM makes the access that the flit asks for. -/
def execStreamFlitPresent (s : State) : Host.Outcome State Fault Refusal :=
  .next (if !s.clkOn pTUL then s
  else match firstDue s.fab.flights with
    | none => s
    | some x =>
      let s := (s.at_ x.due).updFab fun f =>
        { f with flights := f.flights.erase x, shown := (x.dst, x.flit) :: f.shown }
      if 0x230 ≤ x.dst ∧ x.dst < 0x238 then s.updIob (x.dst - 0x230) (outFlit x.flit)
      else if x.dst = 0x222 then s.patAccess (patReqOf x.flit).1 (patReqOf x.flit).2
      else s)

/-! ## FCALL responses (R100, R228, R229, R261) -/

/-- R229: a late or stray response is discarded. -/
def State.fcerr (s : State) (r : Nat) : State :=
  ((s.addSat (pRGN r) RGN_FCERR_COUNT 1).err (pRGN r) RGN_E_FCERR).contained

/-- R229: the request outstanding at `t` on the lane of engine `e` at a port of region `r`. -/
def State.fcOpen (s : State) (t : Time) (e r : Nat) : Option FcReq :=
  s.jer.fcOut.find? fun q => decide (q.engine = e ∧ q.port / 8 = r ∧ q.shownAt ≤ t)

/-- R228, R229: a response to a request at `t` comes later than TURN cycles after it. -/
def State.fcLate (s : State) (t : Time) (q : FcReq) : Bool := decide (q.shownAt + 2 * (s.portOf q.port).turn < t)

/-- R228, R229: FCALL_RESPONSE of region `r` on the lane of engine `e`, with its two words (R130). -/
def execFcallResponse (t : Time) (e : Engine) (r : Region) (w0 w1 : Word) (s : State) :
    Host.Outcome State Fault Refusal :=
  let s := s.at_ t
  let n := e.val
  .next (if !s.clkOn (pRGN r.val) then s
  else
    match s.fcOpen t n r.val with
    | none => s.fcerr r.val
    | some q =>
      let late := s.fcLate t q
      let s := s.updJer fun j => { j with fcOut := j.fcOut.erase q }
      if q.dropped then s
      else if late then s.fcerr r.val
      else
        match (s.engine n).visit with
        | some v =>
          match v.fc with
          | some none => s.updEng n fun g => { g with visit := some { v with fc := some (some (w0, w1)) } }
          | _ => s
        | none => s)

/-! ## The host window (R233) -/

/-- Records an access in BELAST. -/
def State.belast (s : State) (x : HpAcc) (free : Bool) : State :=
  let s := if s.bit pTUL TUL_BELAST_VALID then s
    else ((((s.setFld pTUL TUL_BELAST_VALID 1).setBit pTUL TUL_BELAST_WRITE x.write).setBit pTUL
      TUL_BELAST_FREE free).setFld pTUL TUL_BELAST_REGION x.region).setFld pTUL TUL_BELAST_ADDR x.addr
  s.err pTUL TUL_E_BETO

/-- R233: an access to the fabric window at a byte offset of the window. -/
def State.fabricAccess (s : State) (write : Bool) (off data : Nat) : State :=
  let r := off / 0x40000
  let x : HpAcc := ⟨r, write, off % 0x40000 / 2, data % 1024, s.time⟩
  if (SMap.get RgnAlloc.free s.plc.rgn r).state = 0 then (s.belast x true).answer (if write then [] else [0])
  else (s.updFab fun f => { f with hp := f.hp ++ [x] }).answer []

/-- R233: FABRIC_WINDOW_ACCESS. It never hangs: where the fabric's clock is stopped, it times out (R312). -/
def execFabricWindowAccess (t : Time) (write : Bool) (off : BitVec 24) (data : Half) (s : State) :
    Host.Outcome State Fault Refusal :=
  .next (if write then
    s.hostWrite2 t pSYS (0x3000000 + off.toNat) false [] fun s => s.fabricAccess true off.toNat data.toNat
  else
    s.hostRead2 t pSYS (0x3000000 + off.toNat) fun s => s.fabricAccess false off.toNat data.toNat)

/-- R233: FABRIC_WINDOW_TIMEOUT: the oldest access that waits has waited BETO µs. -/
def execFabricWindowTimeout (s : State) : Host.Outcome State Fault Refusal :=
  .next (match s.fab.hp with
    | [] => s
    | x :: xs =>
      let s := (s.at_ (x.at_ + s.fld pTUL TUL_CTRL_BETO * 1000)).updFab fun f => { f with hp := xs }
      let s := ((s.addSat (pRGN x.region) RGN_HOSTTO_COUNT 1).err (pRGN x.region) RGN_E_HOSTTO).contained
      (s.belast x false).answer (if x.write then [] else [0]))

/-- R233: FABRIC_WINDOW_RESPONSE: the logic of a region answers its oldest access, within BETO µs of it. -/
def execFabricWindowResponse (t : Time) (r : Region) (data : Half) (s : State) :
    Host.Outcome State Fault Refusal :=
  let s := s.at_ t
  .next (match s.fab.hp.find? fun x => x.region = r.val with
    | none => s
    | some x =>
      if s.rgnLive r.val && decide (t ≤ x.at_ + s.fld pTUL TUL_CTRL_BETO * 1000) then
        (s.updFab fun f => { f with hp := f.hp.erase x }).answer (if x.write then [] else [data.toNat % 1024])
      else s)

/-! ## User I/O (R234 to R238) -/

/-- R234: the comparison of the declared and the measured voltage of a bank, from READY on. A voltage that is not
detected agrees with none (DEDUCED, log entry 58). -/
def State.vioCheck (s : State) (b : Nat) : State :=
  let v := s.fld (pIOB b) IOB_STAT_VDET
  let eq := decide (v = s.fld (pIOB b) IOB_CTRL_VIO)
  let was := (s.iob b).vmis
  let s := s.setBit (pIOB b) IOB_STAT_VOK eq
  if eq && decide (v ≠ 3) then s.updIob b fun x => { x with vmis := false }
  else if s.pwr.up then
    let s := s.updIob b fun x => { x with vmis := true }
    if was then s else (s.err (pIOB b) IOB_E_VMIS).contained
  else s

/-- R234: VIO_MISMATCH: a voltage other than the declared one is measured. -/
def execVioMismatch (t : Time) (b : IoBank) (vdet : Fin 4) (s : State) :
    Host.Outcome State Fault Refusal :=
  let s := s.at_ t
  .next (if s.clkOn (pIOB b.val) then
    (s.setFld (pIOB b.val) IOB_STAT_VDET vdet.val).vioCheck b.val else s)

/-- R234: VIO_AGREEMENT: the declared voltage is measured. -/
def execVioAgreement (t : Time) (b : IoBank) (s : State) : Host.Outcome State Fault Refusal :=
  let s := s.at_ t
  .next (if s.clkOn (pIOB b.val) then
    (s.setFld (pIOB b.val) IOB_STAT_VDET (s.fld (pIOB b.val) IOB_CTRL_VIO)).vioCheck b.val else s)

/-- PINCFG of a pin after reset: pull-down. -/
def pincfgReset : Nat := 0x04000000

/-- PINCFG of a pin. -/
def State.pincfg (s : State) (b pin : Nat) : Nat := SMap.get pincfgReset s.fab.pincfg (b * 48 + pin)

/-- R235: sets PINCFG of a pin, whose filter restarts; reserved bits read 0. -/
def State.setPincfg (s : State) (b pin v : Nat) : State :=
  s.updFab fun f =>
    { f with
      pincfg := SMap.put pincfgReset f.pincfg (b * 48 + pin) (v &&& 0xFE0003FF)
      filtAt := SMap.put 0 f.filtAt (b * 48 + pin) s.time }

/-- R236: the filter of a pin accepts at `t` a level that the pin has had for `stable` ns. -/
def State.filterAccepts (s : State) (b t stable pin : Nat) : Bool :=
  let filt := IOB_PINCFG_FILT.of (s.pincfg b pin)
  decide (filt = 0) || decide (filt * 20 + 6 ≤ Nat.min stable (t - SMap.get 0 s.fab.filtAt (b * 48 + pin)))

/-- R236: the pins whose filters accept, as a mask. -/
def State.accepting (s : State) (b t stable : Nat) : BitVec 48 :=
  BitVec.ofNat 48 ((List.range 48).map fun i => (s.filterAccepts b t stable i).toNat * 2 ^ i).sum

/-- R236, R237: IOB_INPUT_CHANGE: at `t` the pins of a bank have had the levels for the stable time. Where an accepted level
changes, the input stream sends the levels. While the clock of the bank is off, its levels follow the pins (log entry
60). -/
def execIobInputChange (t : Time) (b : IoBank) (x : PinsIn) (s : State) :
    Host.Outcome State Fault Refusal :=
  let s := s.at_ t
  let old := (s.iob b.val).level
  let m := if s.clkOn (pIOB b.val) then s.accepting b.val t x.stable else BitVec.allOnes 48
  let new := (old &&& ~~~m) ||| (x.levels &&& m)
  let s := s.updIob b.val fun x => { x with level := new }
  .next (if s.clkOn (pIOB b.val) && new != old then s.sendFrom (0x230 + b.val) t (new.setWidth 80) else s)

/-- R235: a write of PINCFG. -/
def State.doPincfg (s : State) (b v : Nat) : State := s.setPincfg b (s.fld (pIOB b) IOB_PINIDX_PIN) v

/-- R235: PINCFG_WRITE. -/
def execPincfgWrite (t : Time) (b : IoBank) (v : Dword) (s : State) : Host.Outcome State Fault Refusal :=
  .next (s.hostWrite t (pIOB b.val * 4096 + 0x4C) v.toNat fun s => s.doPincfg b.val v.toNat)

/-- R346, R443: a boundary-scan instruction that is open and drives the pads: EXTEST, CLAMP, EXTEST_PULSE and
EXTEST_TRAIN from the boundary register, HIGHZ not at all. PRESUMED from IEEE 1149.1, which R443 names (log
entry 148). -/
def State.scanDrives (s : State) : Bool :=
  decide (s.pwr.lcs ≠ 4) && decide (3 ≤ s.hst.jtag ∧ s.hst.jtag ≤ 7)

/-- R234, R238, R328, R417, R443: the output enables and values at the pads of a bank. -/
def State.pads (s : State) (b : Nat) : BitVec 48 × BitVec 48 :=
  let x := s.iob b
  if s.scanDrives then (if s.hst.jtag = 4 then (0, 0) else Config.scanPads b s.hst.scan)
  else if x.held then (x.heldOe, x.heldOut)
  else if x.cfgd && !x.vmis && s.bit (pIOB b) HDR_PG_CTRL_EN then (x.oe, x.out)
  else (0, 0)

/-- A write of offset `o` of an IOB page. -/
def State.doIob (s : State) (b o v : Nat) : State :=
  match o with
  | 0x40 => (s.store (pIOB b) IOB_CTRL_VIO v).vioCheck b
  | 0x48 => s.setFld (pIOB b) IOB_PINIDX_PIN (Nat.min 47 (IOB_PINIDX_PIN.of v))
  | 0x4C => s.doPincfg b v
  | _ => s

/-- A write of offset `o` of the TUL page. -/
def State.doTul (s : State) (o v : Nat) : State :=
  match o with
  | 0x40 => s.setFld pTUL TUL_CTRL_BETO (Nat.max 1 (TUL_CTRL_BETO.of v))
  | 0x58 => (s.store pTUL TUL_FCQ_TURN v).store pTUL TUL_FCQ_PORT v
  | _ => s

end Sys2Proof.Machine
end

