-- ==== Sys2Proof/Machine/Placement.lean ====
section
/-! DEFINITION. The placement controller (spec/06_placement.md): balancing, migrations, pins, bank
exclusion and self-test, and the allocation of regions. -/

namespace Sys2Proof.Machine

/-! ## Loads and weights (R139, R140) -/

/-- R139: the controller balances in measured mode. -/
def State.measured (s : State) : Bool := decide (s.fld pPLC PLC_STAT_HISTCNT = 64)

/-- R139: the mean visit cost of a class over the frames measured, or its static cost. -/
def State.classCost (s : State) (cls : Nat) : Rat :=
  let t := s.plc.hist.foldl (fun (n : Nat × Nat) f =>
    let x := SMap.get (0, 0) f.classes cls
    (n.1 + x.1, n.2 + x.2)) (0, 0)
  if s.measured && decide (t.2 ≠ 0) then mkRat t.1 t.2 else (costOf s.jer.inf cls : Nat)

/-- R139: w(h) of a load. -/
def State.weight (s : State) (l : Load) : Rat := s.classCost l.cls / ((2 ^ l.rate : Nat) : Rat)

/-- R139: the static load of an engine in units of 1/128 cycle. -/
def State.staticLoad (s : State) (e : Nat) : Nat :=
  s.ctx.load.foldl (fun n x =>
    if x.2.valid ∧ bankOf (s.phys x.1) = e then
      n + costOf s.jer.inf x.2.cls * 128 / 2 ^ x.2.rate
    else n) 0

/-- R139: the mean of LOADLAST over the frames measured. -/
def State.measLoad (s : State) (e : Nat) : Rat :=
  mkRat (s.plc.hist.foldl (fun n f => n + SMap.get 0 f.loads e) 0 : Nat) 64

/-- R140: M(e), with each migration in flight counted at its target and not at its source. -/
def State.engineLoad (s : State) (e : Nat) : Rat :=
  let base := if s.measured then s.measLoad e else mkRat (s.staticLoad e) 128
  s.plc.migs.foldl (fun m g =>
    let l := SMap.get Load.none s.ctx.load g.handle
    if l.valid then
      let m := if bankOf g.target = e then m + s.weight l else m
      if bankOf (s.phys g.handle) = e then m - s.weight l else m
    else m) base

/-- The engines that are not excluded. -/
def State.activeBanks (s : State) : List Nat := (List.range 32).filter fun e => !s.excluded e

/-- The entry with the largest value; ties go to the first. -/
def argMax : List (Nat × Rat) → Option (Nat × Rat)
  | [] => none
  | x :: xs =>
    match argMax xs with
    | some y => if x.2 < y.2 then some y else some x
    | none => some x

/-- The entry with the smallest value; ties go to the first. -/
def argMin : List (Nat × Rat) → Option (Nat × Rat)
  | [] => none
  | x :: xs =>
    match argMin xs with
    | some y => if y.2 < x.2 then some y else some x
    | none => some x

/-! ## Planning (R140, R141) -/

/-- R39, R451: admission of one more migration; none when it is admitted, else the excess. -/
def State.migExcess (s : State) (m : Mig) : Option (Nat × Nat × Nat × Nat) :=
  if s.admChecks then
    (s.updPlc fun p => { p with migs := p.migs ++ [m] }).excess s.ctx.load s.frm.minperAdm false
  else none

/-- A migration of a handle to a slot. -/
def newMig (h target : Nat) (k : MigKind) : Mig := ⟨h, target, k, false, 0, false⟩

/-- R141: movable by balancing. -/
def State.movable (s : State) (h : Nat) (l : Load) : Bool :=
  l.valid && decide (SMap.get 0 s.plc.pins h = 0) && !s.isQuar h &&
  s.plc.migs.all (fun m => m.handle ≠ h) &&
  (let t := SMap.get 0 s.plc.moved h
   decide (t = 0 ∨ t - 1 + 64 < s.fn))

/-- R140 step 2: the movable context of a source with the largest w(h) not above a limit. -/
def State.pickMove (s : State) (source : Nat) (limit : Rat) : Option (Nat × Rat) :=
  argMax (s.ctx.load.filterMap fun x =>
    if bankOf (s.phys x.1) = source ∧ s.movable x.1 x.2 ∧ s.weight x.2 ≤ limit then
      some (x.1, s.weight x.2) else none)

/-- R140: one step; none when it does not succeed. `ms` holds M(e) of the engines not excluded. -/
def State.planStep (s : State) (ms : List (Nat × Rat)) : Option (State × List (Nat × Rat)) :=
  match argMax ms, argMin (ms.filter fun e => (s.freeSlot e.1).isSome) with
  | some src, some tgt =>
    match s.pickMove src.1 ((src.2 - tgt.2) / 2), s.freeSlot tgt.1 with
    | some (h, w), some p =>
      let m := newMig h p .balance
      if (s.migExcess m).isNone then
        some (s.updPlc fun x => { x with migs := x.migs ++ [m] },
          ms.map fun e => if e.1 = src.1 then (e.1, e.2 - w) else if e.1 = tgt.1 then (e.1, e.2 + w)
            else e)
      else none
    | _, _ => none
  | _, _ => none

/-- R140: steps until MIGMAX moves are planned or none succeeds. -/
def State.planSteps : Nat → State → List (Nat × Rat) → State × List (Nat × Rat)
  | 0, s, ms => (s, ms)
  | n + 1, s, ms =>
    match s.planStep ms with
    | some (s', ms') => State.planSteps n s' ms'
    | none => (s, ms)

/-- R140: every engine is at or below 1.05 × mean. -/
def balanced (ms : List (Nat × Rat)) : Bool :=
  let sum := ms.foldl (fun n e => n + e.2) (0 : Rat)
  ms.all fun e => decide (100 * (ms.length : Rat) * e.2 ≤ 105 * sum)

/-- R140: STAT.BALANCED, with BALDONE when it becomes 1. -/
def State.setBalanced (s : State) (b : Bool) : State :=
  let was := s.bit pPLC PLC_STAT_BALANCED
  let s := s.setBit pPLC PLC_STAT_BALANCED b
  if b && !was then s.irq pPLC PLC_E_BALDONE else s

/-- R140: one planning pass, for which the entries of the valid contexts are read (R137, R449). A standby plans no
moves (R151). -/
def State.planMoves (s : State) : State :=
  if !s.bit pPLC PLC_CTRL_BALEN || !s.bit pPLC HDR_PG_CTRL_EN || decide (s.role = 2) then s
  else
    let s := (s.hmCheckAll s.validHandles).qmapCheckAll s.validHandles
    let ms := s.activeBanks.map fun e => (e, s.engineLoad e)
    if balanced ms then s.setBalanced true
    else
      let (s, ms) := State.planSteps (s.fld pPLC PLC_CTRL_MIGMAX) (s.setBalanced false) ms
      if balanced ms then s.setBalanced true else s

/-! ## Moving a record (R142 to R144) -/

/-- MIGLAST as a list of its fields, and its setting. -/
def State.migLast (s : State) : List Nat :=
  [s.fld pPLC PLC_MIGLAST_RESULT, s.fld pPLC PLC_MIGLAST_TARGET, s.fld pPLC PLC_MIGLAST_SOURCE,
    s.fld pPLC PLC_MIGLAST_HANDLE]

/-- Sets MIGLAST. -/
def State.setMigLast (s : State) (result target source h : Nat) : State :=
  (((s.setFld pPLC PLC_MIGLAST_RESULT result).setFld pPLC PLC_MIGLAST_TARGET target).setFld pPLC
    PLC_MIGLAST_SOURCE source).setFld pPLC PLC_MIGLAST_HANDLE h

/-- R143, R144: the record, its check bits, its due-table entry and its handle move between slots. The
bits left behind are of no use to anything; their errors stay. -/
def State.moveRecord (s : State) (h src dst : Nat) : State :=
  let s := s.updCtx fun c =>
    let words := SMap.slice c.store (src * 64) (src * 64 + 64)
    let flips := SMap.slice c.flip (src * 64) (src * 64 + 64)
    let eccs := SMap.slice c.ecc (src * 16) (src * 16 + 16)
    { c with
      store := SMap.paste 0 (dst * 64)
        (SMap.clearRange (SMap.clearRange c.store (src * 64) (src * 64 + 64)) (dst * 64) (dst * 64 + 64))
        words
      flip := SMap.paste 0 (dst * 64) (SMap.clearRange c.flip (dst * 64) (dst * 64 + 64)) flips
      ecc := SMap.paste 0 (dst * 16) (SMap.clearRange c.ecc (dst * 16) (dst * 16 + 16)) eccs
      due := SMap.put Load.none (SMap.put Load.none c.due src Load.none) dst
        (SMap.get Load.none c.due src) }
  s.updPlc fun p => { p with home := SMap.put (homeSlot h) p.home h dst }

/-- Free slots of a bank. -/
def State.freeSlots (s : State) (b : Nat) : Nat :=
  let out := (s.plc.home.filter fun e => e.1 % 32 = b).length
  let in_ := (s.plc.home.filter fun e => bankOf e.2 = b).length
  64 + out - in_

/-- R148: the end of an evacuation, when the excluded bank holds no handle. -/
def State.evacDone (s : State) : State :=
  if s.fld pPLC PLC_STAT_EXCLSTATE = 1 ∧ s.freeSlots (s.fld pPLC PLC_STAT_EXCLBANK) = 1600 then
    (s.setFld pPLC PLC_STAT_EXCLSTATE 2).irq pPLC PLC_E_EVDONE
  else s

/-- R144: a migration commits. -/
def State.commitMig (s : State) (m : Mig) : State :=
  let src := s.phys m.handle
  let last := s.migLast
  let evdone := (s.fld pPLC HDR_PG_IRQST_ST).testBit PLC_E_EVDONE
  let s := s.hmCheck m.handle
  let s := s.moveRecord m.handle src m.target
  let s := s.updPlc fun p =>
    { p with
      migs := p.migs.filter (· ≠ m)
      moved := SMap.put 0 p.moved m.handle (s.fn + 1) }
  let s := (s.addWrap pPLC PLC_MIGCNT_COUNT 1).setMigLast 1 (bankOf m.target) (bankOf src) m.handle
  let n := s.evacDone
  let emptied := decide (n.fld pPLC PLC_STAT_EXCLSTATE ≠ s.fld pPLC PLC_STAT_EXCLSTATE)
  n.updPlc fun p =>
    { p with done := if n.frm.inFrame then ⟨m, src, last, emptied, evdone⟩ :: p.done else p.done }

/-- R144: a migration leaves the list without being committed; what a pin or an evacuation requires of its handle is
asked for again. -/
def State.dropMig (s : State) (m : Mig) : State :=
  s.updPlc fun p => { p with migs := p.migs.filter (· ≠ m), again := p.again.filter (· ≠ m.handle) ++ [m.handle] }

/-- R144: a migration is cancelled. -/
def State.cancelMig (s : State) (m : Mig) : State :=
  (s.dropMig m).setMigLast 3 (bankOf m.target) (bankOf (s.phys m.handle)) m.handle

/-- R143: a migration is aborted. -/
def State.abortMig (s : State) (m : Mig) : State :=
  let s := s.dropMig m
  ((s.addSat pPLC PLC_MIGABT_COUNT 1).err pPLC PLC_E_MIGABT).setMigLast 2 (bankOf m.target)
    (bankOf (s.phys m.handle)) m.handle

/-- R55, R144: the standby has still to acknowledge the map change. -/
def State.migUnacked (s : State) (m : Mig) : Bool :=
  s.mirrors && s.twn.out.any fun x => x.2 == .place m.handle m.target

/-- R31 step 2, R144: one migration at step 2 of the apply window. -/
def State.stepTwo (s : State) (m : Mig) : State :=
  if m.cancel = 1 ∨ m.cancel = 2 then s.cancelMig m
  else if m.copied && !s.plc.wrote.contains m.handle && !s.migUnacked m then s.commitMig m
  else s

/-- R31 step 2: every migration in order. -/
def State.commitMigs (s : State) : State := s.plc.migs.foldl State.stepTwo s

/-- R144: a migration that could not commit starts its copy again in a later frame. -/
def State.uncopy (s : State) : State :=
  s.updPlc fun p => { p with migs := p.migs.map fun m => { m with copied := false } }

/-- R148: the excluded bank holds a handle again: its evacuation has not ended. -/
def State.unempty (s : State) (evdone : Bool) : State :=
  let s := s.setFld pPLC PLC_STAT_EXCLSTATE 1
  let st := s.fld pPLC HDR_PG_IRQST_ST
  if !evdone && st.testBit PLC_E_EVDONE then
    (s.setFld pPLC HDR_PG_IRQST_ST (st - 2 ^ PLC_E_EVDONE)).noteVec (vecOf pPLC)
  else s

/-- R144: the commit of a migration is undone. -/
def State.undoMig (s : State) (d : MigDone) : State :=
  let s := s.moveRecord d.mig.handle d.mig.target d.source
  let s := s.updPlc fun p =>
    { p with
      migs := { d.mig with copied := false } :: p.migs
      moved := SMap.put 0 p.moved d.mig.handle 0 }
  let s := s.setFld pPLC PLC_MIGCNT_COUNT (s.fld pPLC PLC_MIGCNT_COUNT + (2 ^ 32 - 1))
  let s := if d.emptied then s.unempty d.evdone else s
  match d.last with
  | [r, t, b, h] => s.setMigLast r t b h
  | _ => s

/-- R135, R144: HOLD is entered at the tick that ends the frame: its commits are undone. A migration that has since
been planned or requested into a slot that a handle takes back is cancelled (DESIGN CHOICE, log entry 114). -/
def State.undoMigs (s : State) : State :=
  let back := s.plc.done.map MigDone.source
  let s := s.plc.done.foldl State.undoMig s
  (s.plc.migs.filter fun m => back.contains m.target).foldl State.cancelMig s

/-- R142, R148: the migration whose copy is next, in the order of planning and requesting; an evacuation goes before
balancing. A migration whose banks' engines have not finished is passed over (DESIGN CHOICE, log entry 115). -/
def State.nextCopy (s : State) : Option Mig :=
  let ready (m : Mig) : Bool :=
    !m.copied && decide (m.cancel = 0) &&
    [bankOf (s.phys m.handle), bankOf m.target].all fun b =>
      (s.engine b).visit.isNone && (s.engine b).due.isEmpty
  match s.plc.migs.find? ready with
  | none => none
  | some m =>
    if m.kind = .balance ∧ s.plc.migs.any (fun m => decide (m.kind = .evac) && ready m) then
      s.plc.migs.find? fun m => m.kind ≠ .balance ∧ ready m
    else some m

/-- R142, R143: the copy of a migration; an uncorrectable error in a context that is not quarantined
aborts it. -/
def State.copyMig (s : State) (m : Mig) : State :=
  let s := (s.hmCheck m.handle).qmapCheck m.handle
  let p := s.phys m.handle
  let s := s.updPlc fun x => { x with made := x.made + 1 }
  let quar := s.isQuar m.handle
  let s := if quar then s else s.fixAllCe p
  match if quar then none else s.firstUe p with
  | some _ => (s.abortMig m).ueRecord m.handle p 4 (s.fn + 1)
  | none =>
    let m' := { m with copied := true, sent := m.sent || s.mirrors }
    let s := s.updPlc fun x => { x with migs := x.migs.map fun y => if y = m then m' else y }
    let s := if s.mirrors && !m.sent then s.parcel (.place m.handle m.target) else s
    if s.frmState = 0 then if s.migUnacked m' then s else s.commitMig m'
    else if s.frm.computed && !s.frm.deadline then s.stepTwo m'
    else s

/-! ## Pins and exclusion (R146 to R149) -/

/-- A target for a handle that leaves the excluded bank (R148). DESIGN CHOICE (log entry 125): the free slots that an
invalid handle's target is chosen by are those of the map in force. -/
def State.evacTarget (s : State) (h : Nat) : Option Mig :=
  let banks := s.activeBanks.filter fun b => (s.freeSlot b).isSome
  let l := SMap.get Load.none s.ctx.load h
  let mk (b : Nat) : Option Mig := (s.freeSlot b).map fun p => newMig h p .evac
  if l.valid then
    let ok := banks.filter fun b =>
      match mk b with
      | some m => (s.migExcess m).isNone
      | none => false
    ((argMin (ok.map fun b => (b, s.engineLoad b))).map Prod.fst).bind mk
  else ((argMax (banks.map fun b => (b, (s.freeSlots b : Rat)))).map Prod.fst).bind mk

/-- R148: the evacuation stalls. -/
def State.evStall (s : State) : State :=
  (s.setFld pPLC PLC_STAT_EVSTALL 1).err pPLC PLC_E_EVSTALL

/-- A migration is requested. A standby's controller plans no moves: its migrations are the primary's (R151). -/
def State.addMig (s : State) (m : Mig) : State :=
  if s.role = 2 then s else s.updPlc fun p => { p with migs := p.migs ++ [m] }

/-- R148: requests the evacuation of handles in order; it stops when a valid context has no target. -/
def State.requestEvac : List Nat → State → State
  | [], s => s
  | h :: hs, s =>
    if s.plc.migs.any (fun m => m.handle = h) then State.requestEvac hs s
    else
      match s.evacTarget h with
      | some m => State.requestEvac hs (s.addMig m)
      | none => s.evStall

/-- R148: the handles of a bank, in ascending physical slot order, valid contexts first. -/
def State.evacOrder (s : State) (bank : Nat) : List Nat :=
  let hs := (List.range 1600).filterMap fun k => s.owner (bank * 1600 + k)
  let valid (h : Nat) : Bool := (SMap.get Load.none s.ctx.load h).valid
  hs.filter valid ++ hs.filter (fun h => !valid h)

/-- Cancels the migrations of which `f` holds. -/
def State.cancelWhere (s : State) (f : Mig → Bool) : State :=
  let s := s.updPlc fun p =>
    { p with migs := p.migs.map fun m => if f m then { m with cancel := 2 } else m }
  if s.frm.inFrame then s
  else (s.plc.migs.filter fun m => m.cancel = 2).foldl State.cancelMig s

/-- R147, R148: exclusion of a bank. -/
def State.exclude (s : State) (bank : Nat) : State :=
  let st := s.fld pPLC PLC_STAT_EXCLSTATE
  if st ≠ 0 ∧ s.fld pPLC PLC_STAT_EXCLBANK = bank then s
  else if st ≠ 0 ∨ s.plc.pins.any (fun e => bankOf (s.phys e.1) = bank) then
    s.err pPLC PLC_E_EXCLREF
  else
    let s := (s.setFld pPLC PLC_STAT_EXCLSTATE 1).setFld pPLC PLC_STAT_EXCLBANK bank
    let s := s.hmCheckAll (s.evacOrder bank)
    let s := s.cancelWhere fun m => bankOf m.target = bank
    (s.requestEvac (s.evacOrder bank)).evacDone

/-- R147, R149: a write of EXCL. -/
def State.doExcl (s : State) (v : Nat) : State :=
  match PLC_EXCL_EXCLUDE.of v, PLC_EXCL_INCLUDE.of v with
  | 0, 0 => s
  | _, 0 => s.exclude (PLC_EXCL_BANK.of v)
  | 0, _ =>
    if s.fld pPLC PLC_STAT_EXCLSTATE = 0 then s else s.updPlc fun p => { p with include_ := true }
  | _, _ => s.err pPLC PLC_E_EXCLREF

/-- R149: INCLUDE takes effect at a frame boundary, when no self-test runs. -/
def State.includeNow (s : State) : State :=
  if s.plc.include_ && decide (s.fld pPLC PLC_STAT_EXCLSTATE ≠ 3) then
    let s := (s.plc.migs.filter fun m => m.kind = .evac).foldl State.cancelMig s
    let s := s.updPlc fun p =>
      { p with include_ := false }
    ((s.setFld pPLC PLC_STAT_EXCLSTATE 0).setFld pPLC PLC_STAT_EXCLBANK 0).setFld pPLC
      PLC_STAT_EVSTALL 0
  else s

/-- R146: the migration that a pin of a handle requires is requested, and `ok` takes it; the pin is refused when its
bank is excluded or has no free slot, or when admission refuses the migration. -/
def State.requestPin (s : State) (h bank : Nat) (ok : State → Mig → State) : State :=
  let others := s.updPlc fun p => { p with migs := p.migs.filter fun y => y.handle ≠ h }
  match if s.excluded bank then none else others.freeSlot bank with
  | none => s.err pPLC PLC_E_PINREF
  | some p =>
    match if (SMap.get Load.none s.ctx.load h).valid then others.migExcess (newMig h p .pin) else none with
    | some x => (s.admRefuse 4 x).err pPLC PLC_E_PINREF
    | none => ok s (newMig h p .pin)

/-- Records a pin. -/
def State.setPin (s : State) (h n : Nat) : State := s.updPlc fun p => { p with pins := SMap.put 0 p.pins h n }

/-- R146: a pin of a handle to a bank. A migration of the handle that is in flight is cancelled, and the one
that the new pin requires is made from the next frame on (R144). The pin that stands already changes nothing. -/
def State.pin (s : State) (h bank : Nat) : State :=
  let s := s.hmCheck h
  let record (s : State) : State := (s.setPin h (bank + 1)).cancelWhere fun m => m.handle = h
  if SMap.get 0 s.plc.pins h = bank + 1 then s
  else if s.excluded bank then s.err pPLC PLC_E_PINREF
  else if bankOf (s.phys h) = bank then record s
  else s.requestPin h bank fun s m =>
    let s := record s
    s.addMig (if s.plc.migs.any (fun y => y.handle = h) then { m with cancel := 3 } else m)

/-- R146: a write of PIN. An UNPIN of a handle that is not pinned changes nothing. -/
def State.doPin (s : State) (v : Nat) : State :=
  let h := s.fld pPLC PLC_HIDX_HANDLE
  match PLC_PIN_PIN.of v, PLC_PIN_UNPIN.of v with
  | 0, 0 => s
  | _, 0 => s.pin h (PLC_PIN_BANK.of v)
  | 0, _ => if SMap.get 0 s.plc.pins h = 0 then s else (s.setPin h 0).cancelWhere fun m => m.handle = h
  | _, _ => s.err pPLC PLC_E_PINREF

/-- R144, R146, R148: what a pin or an evacuation requires of a handle is requested again, as it was at first. A pin
whose migration can no longer be had is refused, and no longer recorded (DESIGN CHOICE, log entry 116). -/
def State.requestFor (s : State) (h : Nat) : State :=
  let s := s.hmCheck h
  let pin := SMap.get 0 s.plc.pins h
  if s.plc.migs.any (fun m => m.handle = h) then s
  else if pin ≠ 0 ∧ bankOf (s.phys h) ≠ pin - 1 then
    (s.setPin h 0).requestPin h (pin - 1) fun s m => (s.setPin h pin).addMig m
  else if s.fld pPLC PLC_STAT_EXCLSTATE = 1 ∧ bankOf (s.phys h) = s.fld pPLC PLC_STAT_EXCLBANK ∧
      s.bit pPLC PLC_STAT_EVSTALL = false then
    s.requestEvac [h]
  else s

/-- R144: migrations cancelled in the frame before are requested again, and those that a pin change requires can be
made. -/
def State.requestAgain (s : State) : State :=
  s.plc.again.foldl State.requestFor (s.updPlc fun p =>
    { p with again := [], migs := p.migs.map fun m => if m.cancel = 3 then { m with cancel := 0 } else m })

/-- R55, R151: a write to a PLC register acts at once, or, on a paired primary, when the standby has
acknowledged the parcel that carries it. -/
def State.plcWrite (s : State) (off v : Nat) (eff : State → State) : State :=
  if s.mirrors then
    s.updTwn fun w =>
      { w with held := w.held ++ [((w.seq + 65535) % 65536, off, v, s.fld pPLC PLC_HIDX_HANDLE)] }
  else eff s

/-- R146: PIN. -/
def execPin (t : Time) (bank : Engine) (s : State) : Host.Outcome State Fault Refusal :=
  .next (s.hostWrite t (pPLC * 4096 + 0x60) (256 + bank.val) fun s =>
    s.plcWrite 0x60 (256 + bank.val) fun s => s.doPin (256 + bank.val))

/-- R146: UNPIN. -/
def execUnpin (t : Time) (s : State) : Host.Outcome State Fault Refusal :=
  .next (s.hostWrite t (pPLC * 4096 + 0x60) 128 fun s => s.plcWrite 0x60 128 fun s => s.doPin 128)

/-- R147: EXCLUDE. -/
def execExclude (t : Time) (bank : Engine) (s : State) : Host.Outcome State Fault Refusal :=
  .next (s.hostWrite t (pPLC * 4096 + 0x48) (128 + bank.val) fun s =>
    s.plcWrite 0x48 (128 + bank.val) fun s => s.doExcl (128 + bank.val))

/-- R149: INCLUDE. -/
def execInclude (t : Time) (s : State) : Host.Outcome State Fault Refusal :=
  .next (s.hostWrite t (pPLC * 4096 + 0x48) 256 fun s => s.plcWrite 0x48 256 fun s => s.doExcl 256)

/-! ## Self-test of an excluded bank (R150) -/

/-- R150: a write of BTCMD. -/
def State.doBtcmd (s : State) (v : Nat) : State :=
  if PLC_BTCMD_START.of v = 0 then s
  else
    let b := s.fld pPLC PLC_STAT_EXCLBANK
    if s.fld pPLC PLC_STAT_EXCLSTATE = 2 ∧ s.bit (pJE b) HDR_PG_CTRL_EN = false then
      ((s.setFld pPLC PLC_STAT_EXCLSTATE 3).setFld pPLC PLC_BTSTAT_BUSY 1).updPlc fun p =>
        { p with btEnd := s.time + 153600 }
    else s.err pPLC PLC_E_EXCLREF

/-- R150: BTCMD_START. -/
def execBtcmdStart (t : Time) (s : State) : Host.Outcome State Fault Refusal :=
  .next (s.hostWrite t (pPLC * 4096 + 0x74) 1 fun s => s.doBtcmd 1)

/-- R150: SELFTEST_END, with the first failing port word and bit, if any. -/
def execSelftestEnd (fail : Option (Fin 6400 × Fin 188)) (s : State) :
    Host.Outcome State Fault Refusal :=
  .next (if s.fld pPLC PLC_STAT_EXCLSTATE ≠ 3 then s
  else
    let s := s.at_ s.plc.btEnd
    let b := s.fld pPLC PLC_STAT_EXCLBANK
    let s := s.updCtx fun c =>
      { c with
        store := SMap.clearRange c.store (b * 102400) (b * 102400 + 102400)
        flip := SMap.clearRange c.flip (b * 102400) (b * 102400 + 102400)
        ecc := SMap.clearRange c.ecc (b * 25600) (b * 25600 + 25600) }
    let s := ((s.setFld pPLC PLC_STAT_EXCLSTATE 2).setFld pPLC PLC_BTSTAT_BUSY 0).setFld pPLC
      PLC_BTSTAT_BANK b
    let s := match fail with
      | none => ((s.setFld pPLC PLC_BTSTAT_RESULT 1).setFld pPLC PLC_BTSTAT_BIT 0).setFld pPLC
          PLC_BTSTAT_ADDR 0
      | some (a, k) =>
        let s := ((s.setFld pPLC PLC_BTSTAT_RESULT 2).setFld pPLC PLC_BTSTAT_BIT k.val).setFld pPLC
          PLC_BTSTAT_ADDR a.val
        ((s.err pPLC PLC_E_BTFAIL).contained).log pPLC 0x051 3
          (b * 2 ^ 24 + k.val * 2 ^ 16 + a.val)
    s.irq pPLC PLC_E_BTDONE)

/-! ## Allocation of regions (R152 to R155) -/

/-- R152: a legal number of regions. -/
def legalK (k : Nat) : Bool := decide (1 ≤ k ∧ k ≤ 8 ∨ 16 ≤ k ∧ k ≤ 64 ∧ k % 8 = 0)

/-- R152: a base that is legal for k regions. -/
def legalBase (k base : Nat) : Bool :=
  if k ≤ 8 then decide (base % 8 + k ≤ 8) else decide (base % 8 = 0 ∧ base + k ≤ 64)

/-- The allocation state of a region. -/
def State.region (s : State) (n : Nat) : RgnAlloc := SMap.get RgnAlloc.free s.plc.rgn n

/-- Sets the allocation state of a region. -/
def State.setRegion (s : State) (n : Nat) (r : RgnAlloc) : State :=
  s.updPlc fun p => { p with rgn := SMap.put RgnAlloc.free p.rgn n r }

/-- Every region of a run is FREE. -/
def State.runFree (s : State) (k base : Nat) : Bool :=
  (List.range k).all fun i => decide ((s.region (base + i)).state = 0)

/-- R154: the ID after `id`. -/
def nextAllocId (id : Nat) : Nat := if id = 255 then 2 else id + 1

/-- R154: the first ID from `id` on that is not in use. -/
def State.freeAllocId (s : State) : Nat → Nat → Nat
  | 0, id => id
  | n + 1, id =>
    if s.plc.allocs.any (fun a => a.id = id) then State.freeAllocId s n (nextAllocId id) else id

/-- Sets RRES. -/
def State.setRres (s : State) (st id k base : Nat) : State :=
  (((s.setFld pPLC PLC_RRES_STATUS st).setFld pPLC PLC_RRES_ALLOCID id).setFld pPLC PLC_RRES_K k).setFld
    pPLC PLC_RRES_BASE base

/-- R153: a request that fails. -/
def State.rreqFails (s : State) (st : Nat) : State := (s.setRres st 0 0 0).err pPLC PLC_E_RAREF

/-- R153: a write of RREQ. -/
def State.doRreq (s : State) (v : Nat) : State :=
  let k := PLC_RREQ_K.of v
  let named := PLC_RREQ_BASE.of v
  if !s.bit pPLC HDR_PG_CTRL_EN then s.rreqFails stBUSY
  else if !legalK k then s.rreqFails stBADARG
  else if PLC_RREQ_NAMED.of v = 1 ∧ !legalBase k named then s.rreqFails stBADARG
  else
    let base := if PLC_RREQ_NAMED.of v = 1 then (if s.runFree k named then some named else none)
      else (List.range 64).find? fun b => legalBase k b && s.runFree k b
    match base with
    | none => s.rreqFails stBUSY
    | some b =>
      let id := s.freeAllocId 254 s.plc.nextAlloc
      let s := (List.range k).foldl (fun s i => s.setRegion (b + i) ⟨1, id⟩) s
      (s.updPlc fun p =>
        { p with allocs := p.allocs ++ [⟨id, b, k⟩], nextAlloc := nextAllocId id }).setRres
        stOK id k b

/-- The regions of an allocation ID. -/
def State.regionsOf (s : State) (id : Nat) : List Nat :=
  (List.range 64).filter fun n => decide ((s.region n).id = id ∧ (s.region n).state ≠ 0)

/-- An allocation without regions is no longer in use. -/
def State.dropEmptyAllocs (s : State) : State :=
  s.updPlc fun p => { p with allocs := p.allocs.filter fun a => !(s.regionsOf a.id).isEmpty }

/-- R154, R155: a write of RFREE. -/
def State.doRfree (s : State) (v : Nat) : State :=
  let id := PLC_RFREE_ALLOCID.of v
  let rs := s.regionsOf id
  let pend := rs.filter fun n => decide ((s.region n).state = 1)
  if id = 0 ∨ rs.isEmpty ∨ (id ≠ 1 ∧ pend.length ≠ rs.length) then s.err pPLC PLC_E_RAREF
  else (pend.foldl (fun s n => s.setRegion n RgnAlloc.free) s).dropEmptyAllocs

/-- R153: RREQ. -/
def execRreq (t : Time) (v : Dword) (s : State) : Host.Outcome State Fault Refusal :=
  .next (s.hostWrite t (pPLC * 4096 + 0x7C) v.toNat fun s =>
    s.plcWrite 0x7C v.toNat fun s => s.doRreq v.toNat)

/-- R154: RFREE. -/
def execRfree (t : Time) (v : Dword) (s : State) : Host.Outcome State Fault Refusal :=
  .next (s.hostWrite t (pPLC * 4096 + 0x84) v.toNat fun s =>
    s.plcWrite 0x84 v.toNat fun s => s.doRfree v.toNat)

/-! ## Timers and checks -/

/-- R144, R145: what is cancelled while no frame runs is cancelled, and requested again, at once. -/
def State.settleStop (s : State) : State :=
  if s.frmState = 0 ∧ s.pwr.up = true ∧ s.clkOn pPLC = true then
    ((s.plc.migs.filter fun m => m.cancel = 1 ∨ m.cancel = 2).foldl State.cancelMig s).requestAgain
  else s

/-- R142, R145: MIGRATION_COPY: the next copy, at most MIGMAX in a frame (in STOP, in 50 µs). -/
def execMigrationCopy (ups : List Upset) (s : State) : Host.Outcome State Fault Refusal :=
  let s := (s.upsets ups).settleStop
  let may := s.pwr.up && s.clkOn pPLC && s.bit pPLC HDR_PG_CTRL_EN && decide (s.role ≠ 2 ∧ s.plc.made < s.fld pPLC PLC_CTRL_MIGMAX) &&
    (decide (s.frmState = 0) || (decide (s.frmState = 1) && s.frm.inFrame && !s.frm.deadline))
  .next (if may then
    match s.nextCopy with
    | some m => s.copyMig m
    | none => s
  else s)

/-- R137: HMAP_PARITY_CHECK: one pass of the background check. -/
def execHmapParityCheck (t : Time) (ups : List Upset) (s : State) : Host.Outcome State Fault Refusal :=
  let s := (s.at_ t).upsets ups
  .next (if s.pwr.up && s.clkOn pPLC then (s.plc.hmBad.map Prod.fst).foldl State.hmCheck s else s)

/-- R145: STOP_BALANCE_TIMER: planning in STOP, every 50 µs. -/
def execStopBalanceTimer (t : Time) (s : State) : Host.Outcome State Fault Refusal :=
  let s := s.at_ t
  .next (if s.pwr.up && s.clkOn pPLC && decide (s.frmState = 0) then
    ((s.updPlc fun p => { p with made := 0 }).settleStop).planMoves
  else s)

end Sys2Proof.Machine
end

