-- ==== Sys2Proof/Machine/Activation.lean ====
section
/-! DEFINITION. Configuration planes and activation sets (spec/10_config.md, R231): the plane check, the
checks at ARM with the Tulle schedule, acknowledgement, preparation and effect of a set. -/

namespace Sys2Proof.Machine

/-! ## Planes (R239 to R243) -/

/-- The active and the Voile plane of a region. -/
def State.active (s : State) (r : Nat) : Plane := SMap.get Plane.empty s.cfg.act r
def State.voile (s : State) (r : Nat) : Plane := SMap.get Plane.empty s.cfg.voile r

/-- Sets the active plane. -/
def State.setActive (s : State) (r : Nat) (p : Plane) : State :=
  s.updCfg fun c => { c with act := SMap.put Plane.empty c.act r p }

/-- Sets the Voile plane. -/
def State.setVoile (s : State) (r : Nat) (p : Plane) : State :=
  s.updCfg fun c => { c with voile := SMap.put Plane.empty c.voile r p }

/-- R243: the payload bytes of a plane's section. -/
def Plane.payload (p : Plane) : List Byte := SMap.getAll 0 p.bytes 3584 258048

/-- R243, R254: what a plane's descriptor declares, with region peers made absolute from `base`. -/
def Plane.desc (p : Plane) (base : Nat) : RgnDesc :=
  let d := Config.regionDesc (SMap.getAll 0 p.bytes 0 3584)
  { d with ports := d.ports.map fun q =>
      if q.peer < 0x200 then { q with peer := q.peer + base * 8 } else q }

/-- R152, R155: the region that a section's relative peers are counted from. -/
def State.baseOf (s : State) (r : Nat) : Nat :=
  let id := (s.region r).id
  if id = 1 then 0
  else match s.plc.allocs.find? fun a => a.id = id with
    | some a => a.base
    | none => 0

/-- R242: PLANE_CHECK: the next frame of an active plane is read; `bad` when its CRC does not match. -/
def execPlaneCheck (t : Time) (bad : Bool) (s : State) : Host.Outcome State Fault Refusal :=
  let s := s.at_ t
  .next (if s.pwr.up && s.clkOn pCFG && s.bit pCFG HDR_PG_CTRL_EN then
    let k := s.cfg.chk
    let s := s.updCfg fun c => { c with chk := (k + 1) % 4096 }
    if bad then
      let s := if s.bit pCFG CFG_PLCHK_VALID then s
        else ((s.setFld pCFG CFG_PLCHK_VALID 1).setFld pCFG CFG_PLCHK_REGION (k / 64)).setFld pCFG
          CFG_PLCHK_FRAME (k % 64)
      (((s.addSat pCFG CFG_PLCNT_COUNT 1).err pCFG CFG_E_PLCRC).contained).log pCFG 0x080 3
        (k / 64 * 256 + k % 64)
    else s
  else s)

/-! ## The Tulle checks (R231) -/

/-- The kind of a region port. -/
def kindAt (d : Nat → RgnDesc) (id : Nat) : Nat :=
  match (d (id / 8)).ports[id % 8]? with
  | some p => p.kind
  | none => 0

/-- Edge ports at which a scheduled stream may end, and may start (R218, R227, R237). -/
def streamSinks : List Nat := [0x222, 0x230, 0x231, 0x232, 0x233, 0x234, 0x235, 0x236, 0x237]
def streamSources : List Nat :=
  [0x221, 0x222, 0x224, 0x230, 0x231, 0x232, 0x233, 0x234, 0x235, 0x236, 0x237]

/-- R231: the peer of a port is reserved, port 0x223, or a port of the wrong kind; the host is the one edge port of best
effort (R223, R233). -/
def badPeer (d : Nat → RgnDesc) (p : Port) : Bool :=
  match p.kind with
  | 4 => if p.peer < 0x200 then decide (kindAt d p.peer ≠ 4) else decide (p.peer ≠ 0x220)
  | 1 => if p.peer < 0x200 then decide (kindAt d p.peer ≠ 2) else !streamSinks.contains p.peer
  | 2 => if p.peer < 0x200 then decide (kindAt d p.peer ≠ 1) else !streamSources.contains p.peer
  | _ => false

/-- The stream that a port declares; one between two regions is declared at its source. -/
def wantStream (id : Nat) (p : Port) : Option Stream :=
  match p.kind with
  | 1 => some ⟨id, p.peer, p.d, 2 ^ p.ph, 0, []⟩
  | 2 => if 0x200 ≤ p.peer then some ⟨p.peer, id, p.d, 2 ^ p.ph, 0, []⟩ else none
  | _ => none

/-- Every region port with its ID, in ascending order. -/
def allPorts (d : Nat → RgnDesc) : List (Nat × Port) :=
  (List.range 64).flatMap fun r => (d r).ports.zipIdx.map fun x => (r * 8 + x.2, x.1)

/-- The router of a port, for hop counts of ports that are known to exist. -/
def routerOf (id : Nat) : Nat := (portRouter id).getD 0

/-- What SCHREF and SCHMIN record: cause, target, port, minimum. -/
abbrev SchRef := Nat × Nat × Nat × Nat

/-- The region port of a stream. -/
def streamOwn (x : Stream) : Nat := if x.src < 0x200 then x.src else x.dst

/-- R224: the routers that a flit passes from router `a` to router `b`: first along the row, then along the column. -/
def routeRouters (a b : Nat) : List Nat :=
  let row := a / 8 * 8
  let across := if a % 8 ≤ b % 8 then (List.range (b % 8 - a % 8 + 1)).map fun i => row + a % 8 + i
    else (List.range (a % 8 - b % 8 + 1)).map fun i => row + (a % 8 - i)
  let down := if a / 8 ≤ b / 8 then (List.range (b / 8 - a / 8)).map fun i => (a / 8 + i + 1) * 8 + b % 8
    else (List.range (a / 8 - b / 8)).map fun i => (a / 8 - (i + 1)) * 8 + b % 8
  across ++ down

/-- R224, R225: a link of the network: from a port into its router, between neighbouring routers, or out to a port. -/
inductive TulLink where
  | inject (id : Nat)
  | hop (src dst : Nat)
  | eject (id : Nat)
  deriving DecidableEq, Repr

/-- R224, R225: the links of a stream in order, with the injection and ejection links. -/
def routeOf (src dst : Nat) : List TulLink :=
  let rs := routeRouters (routerOf src) (routerOf dst)
  .inject src :: (rs.zip (rs.drop 1)).map (fun x => .hop x.1 x.2) ++ [.eject dst]

/-- R225: the links, each with the phases in which a stream holds its lane there: one later on each link. -/
def linkPhases (x : Stream) : List (TulLink × Nat) :=
  (routeOf x.src x.dst).zipIdx.flatMap fun l => x.phases.map fun p => (l.1, (p + l.2) % 8)

/-- R225: two streams hold the same lane and phase on some link. -/
def clashes (x y : Stream) : Bool :=
  decide (x.lane = y.lane) && (linkPhases x).any fun l => (linkPhases y).contains l

/-- R224, R225: a stream's lane is one of the eight, its phases are k of the eight, and no stream in force clashes. -/
def fits (acc : List Stream) (x : Stream) : Bool :=
  decide (x.lane < 8) && decide (x.phases.length = x.k) && decide x.phases.Nodup &&
    (x.phases.all fun p => decide (p < 8)) && !acc.any (clashes x)

/-- R225: the ways to choose `k` of the eight phases. -/
def phaseSets (k : Nat) : List (List Nat) := (List.range 8).sublists.filter fun p => p.length = k

/-- R225: a lane and phases for a stream beside those in force: those that the device prefers where they fit, else the
first that do; none where no lane and phases fit (DESIGN CHOICE, log entry 128). -/
def assign (acc : List Stream) (w : Stream) : Option Stream :=
  let want := Config.schedule acc w
  let first : Stream := { w with lane := want.1, phases := want.2 }
  if fits acc first then some first
  else ((List.range 8).flatMap fun l => (phaseSets w.k).map fun p => ({ w with lane := l, phases := p } : Stream)).find?
    (fits acc)

/-- R225, R231: each stream wanted takes a lane and phases beside those it finds, or the first failure. -/
def placeStreams : List Stream → List Stream → List Stream ⊕ SchRef
  | acc, [] => .inl acc
  | acc, w :: ws =>
    let h := hops (routerOf w.src) (routerOf w.dst)
    if acc.any fun x => x.src = w.src ∧ x.dst = w.dst ∧ x.d = w.d ∧ x.k = w.k then placeStreams acc ws
    else if w.d < 1 + h then .inr (2, 0, streamOwn w, 1 + h)
    else
      match assign acc w with
      | some x => placeStreams (acc ++ [x]) ws
      | none => .inr (1, 0, streamOwn w, 0)

/-- R231: the check of one enabled FCALL target. -/
def badTarget (d : Nat → RgnDesc) (n lat port : Nat) : Option SchRef :=
  if 0x200 ≤ port ∨ kindAt d port ≠ 3 then some (4, 0, port, 0)
  else
    let turn := match (d (port / 8)).ports[port % 8]? with
      | some p => p.turn
      | none => 0
    let min := 3 + 2 * hops 24 (port / 8) + turn
    if lat < min then some (3, n, port, min) else none

/-- R231: the enabled targets once a set takes effect: number, LAT and port. -/
def State.targetsAfter (s : State) (ct : Bool) : List (Nat × Nat × Nat) :=
  (List.range 16).filterMap fun n =>
    if ct then
      if s.bit (pJE 0) (JE_FCTGT_EN n) then
        some (n, s.fld (pJE 0) (JE_FCTGT_LAT n), s.fld (pJE 0) (JE_FCTGT_PORT n)) else none
    else if s.bit (pJE 0) (JE_FCTGT_ENACT n) then
      some (n, s.fld (pJE 0) (JE_FCTGT_LATACT n), SMap.get 0 s.jer.portAct n)
    else none

/-- The descriptors once a set takes effect. -/
def State.descAfter (s : State) (swap unld r : Nat) : RgnDesc :=
  if swap.testBit r then (s.voile r).desc (s.baseOf r)
  else if unld.testBit r then RgnDesc.empty
  else s.desc r

/-- R231: the Tulle checks of a set: the schedule that it brings, or the first failure. -/
def State.tulle (s : State) (swap unld : Nat) (ct : Bool) : List Stream ⊕ SchRef :=
  let d := s.descAfter swap unld
  let ports := allPorts d
  match ports.find? fun x => badPeer d x.2 with
  | some x => .inr (4, 0, x.1, 0)
  | none =>
    let hit (id : Nat) : Bool := decide (id < 0x200) && (swap ||| unld).testBit (id / 8)
    let kept := s.fab.streams.filter fun x => !hit x.src && !hit x.dst
    match placeStreams kept (ports.filterMap fun x => wantStream x.1 x.2) with
    | .inr e => .inr e
    | .inl xs =>
      match (s.targetsAfter ct).findSome? fun x => badTarget d x.1 x.2.1 x.2.2 with
      | some e => .inr e
      | none => .inl xs

/-- R231: records a failure of the Tulle checks. -/
def State.schref (s : State) (x : SchRef) : State :=
  let s := if s.bit pTUL TUL_SCHREF_VALID then s
    else ((((s.setFld pTUL TUL_SCHREF_VALID 1).setFld pTUL TUL_SCHREF_CAUSE x.1).setFld pTUL
      TUL_SCHREF_TARGET x.2.1).setFld pTUL TUL_SCHREF_PORT x.2.2.1).setFld pTUL TUL_SCHMIN_MIN x.2.2.2
  s.err pTUL TUL_E_SCHREF

/-! ## The checks of a set (R257) and its state -/

/-- ASSWAP and ASUNLD as masks, and ASFN. -/
def State.asSwap (s : State) : Nat := s.fld pCFG CFG_ASSWAP_LO_MASK + 2 ^ 32 * s.fld pCFG CFG_ASSWAP_HI_MASK
def State.asUnld (s : State) : Nat := s.fld pCFG CFG_ASUNLD_LO_MASK + 2 ^ 32 * s.fld pCFG CFG_ASUNLD_HI_MASK
def State.asFn (s : State) : Nat := s.fld pCFG CFG_ASFN_LO_FN + 2 ^ 32 * s.fld pCFG CFG_ASFN_HI_FN

/-- The regions of a mask. -/
def inMask (m : Nat) : List Nat := (List.range 64).filter fun r => m.testBit r

/-- R257 check 1. -/
def State.badMember (s : State) (swap unld : Nat) (ct : Bool) : Bool :=
  decide (swap = 0 ∧ unld = 0 ∧ ct = false) || decide (swap &&& unld ≠ 0) ||
  (inMask unld).any fun r => decide ((s.region r).state ≤ 1)

/-- R257 check 4: a valid context, once every accepted group has applied, names a class that the pending
table does not hold. -/
def State.badClasses (s : State) : Bool :=
  let a := s.ctx.waiting.foldl
    (fun s g => if g.refused = 0 ∧ g.evaluating = false then s.groupWords g.id g.entries else s) s
  a.ctx.store.any fun e =>
    decide (e.1 % 64 = 0) && w0Valid e.2 && (a.owner (e.1 / 64)).isSome &&
    !(SMap.get ClsEnt.none s.jer.pend (w0Class e.2)).valid

/-- R154, R257: a refused set. -/
def State.asRefuse (s : State) (members result : Nat) : State :=
  let s := (s.setFld pCFG CFG_ASSTAT_RESULT result).err pCFG CFG_E_ASREF
  let s := s.log pCFG 0x083 2 (result * 256)
  let ids := (inMask members).filterMap fun r =>
    if (s.region r).state = 1 then some (s.region r).id else none
  let rs := (List.range 64).filter fun r => (s.region r).state = 1 ∧
    (if (s.region r).id = 1 then members.testBit r else ids.contains (s.region r).id)
  let s := (rs.foldl (fun s r => s.setRegion r RgnAlloc.free) s).dropEmptyAllocs
  ((s.setFld pCFG CFG_ASSTAT_STATE 0).setFld pCFG CFG_ASSTAT_WAIT 0).updCfg fun c =>
    { c with as := none }

/-- The members of a set that have not acknowledged. -/
def AsSet.waiting (a : AsSet) : List Nat := inMask (a.swap ||| a.unld) |>.filter fun r => !a.acked.testBit r

/-- R260, R264: the set is READY. -/
def AsSet.ready (a : AsSet) : Bool := !a.checking && a.mirrored && a.waiting.isEmpty

/-- ASSTAT.STATE and WAIT as the set stands, before it is prepared. -/
def State.asShow (s : State) : State :=
  match s.cfg.as with
  | none => (s.setFld pCFG CFG_ASSTAT_STATE 0).setFld pCFG CFG_ASSTAT_WAIT 0
  | some a =>
    (s.setFld pCFG CFG_ASSTAT_STATE (if a.ready then 2 else if a.mirrored then 1 else 0)).setFld pCFG
      CFG_ASSTAT_WAIT (if a.checking then 0 else a.waiting.length)

/-- Changes the set. -/
def State.updAs (s : State) (f : AsSet → AsSet) : State := s.updCfg fun c => { c with as := c.as.map f }

/-! ## Preparation (R34, R260) -/

/-- R105: the set carries a pending table that is no longer verified. -/
def State.asStale (s : State) (a : AsSet) : Bool := a.ct && !s.bit (pJE 0) JE_CTSTAT_VERIFIED

/-- A set that can no longer take effect is refused; its SWAPPING regions return to LOADED. -/
def State.asDrop (s : State) (a : AsSet) : State :=
  let s := (inMask (a.swap ||| a.unld)).foldl (fun s r =>
    if (s.region r).state = 3 then s.setRegion r ⟨2, (s.region r).id⟩ else s) s
  (s.updCfg fun c => { c with swapPend := 0 }).asRefuse (a.swap ||| a.unld) 4

/-- R31 step 3, R260: a READY set that is due at the next boundary is prepared. -/
def State.asPrepare (s : State) : State :=
  match s.cfg.as with
  | none => s
  | some a =>
    if a.ready && decide (s.fld pCFG CFG_ASSTAT_STATE ≠ 3) && decide (a.mode = 0 ∨ a.fn ≤ s.nextFn) then
      if s.asStale a then s.asDrop a else s.setFld pCFG CFG_ASSTAT_STATE 3
    else s

/-- The apply window of the frame in force is open. -/
def State.windowOpen (s : State) : Bool :=
  decide (s.frmState = 1) && s.frm.inFrame && s.frm.computed && !s.frm.deadline

/-! ## Arming, CANCEL and CLEAR (R256 to R258, R262) -/

/-- R258: the set has passed its checks: SWAP_PENDING rises at its LOADED members; the others count as
acknowledged. The primary tells its standby (R264). -/
def State.asArmed (s : State) : State :=
  match s.cfg.as with
  | none => s
  | some a =>
    let live := (inMask (a.swap ||| a.unld)).filter fun r => (s.region r).state = 2
    let mask := live.foldl (fun m r => m ||| 2 ^ r) 0
    let s := live.foldl (fun s r => s.setRegion r ⟨3, (s.region r).id⟩) s
    let s := s.updCfg fun c => { c with swapPend := mask }
    let s := s.updAs fun a => { a with checking := false, acked := (a.swap ||| a.unld) ^^^ mask }
    let s := (if s.role = 1 then s.parcel .actSet else s).asShow
    if s.windowOpen then s.asPrepare else s

/-- R256, R257: a write of ASCMD.ARM. -/
def State.doArm (s : State) (mode : Nat) : State :=
  if s.cfg.as.isSome || !s.bit pCFG HDR_PG_CTRL_EN then s.err pCFG CFG_E_ASCMDERR
  else
    let swap := s.asSwap
    let unld := s.asUnld
    let ct := s.bit pCFG CFG_ASOPT_CT
    let s := s.updCfg fun c => { c with forced := 0 }
    let members := swap ||| unld
    if s.badMember swap unld ct then s.asRefuse members 2
    else if (inMask swap).any fun r => (s.voile r).state ≠ 2 then s.asRefuse members 3
    else if ct && !s.bit (pJE 0) JE_CTSTAT_VERIFIED then s.asRefuse members 4
    else if ct && s.badClasses then s.asRefuse members 8
    else
      match s.tulle swap unld ct with
      | .inr e => (s.schref e).asRefuse members 5
      | .inl xs =>
        let a : AsSet := ⟨mode, s.asFn, swap, unld, ct, 0, s.time, ct, !s.mirrors, xs⟩
        let s := s.updCfg fun c => { c with as := some a }
        if ct then (s.updFrm fun f => { f with admQ := f.admQ ++ [.asSet] }).asShow else s.asArmed

/-- R262: a write of ASCMD.CANCEL. -/
def State.doCancel (s : State) : State :=
  match s.cfg.as with
  | none => s.err pCFG CFG_E_ASCMDERR
  | some a =>
    if s.fld pCFG CFG_ASSTAT_STATE = 3 then s.err pCFG CFG_E_ASCMDERR
    else
      let s := (inMask (a.swap ||| a.unld)).foldl (fun s r =>
        if (s.region r).state = 3 then s.setRegion r ⟨2, (s.region r).id⟩ else s) s
      let s := s.updFrm fun f => { f with admQ := f.admQ.filter (· ≠ .asSet) }
      ((s.setFld pCFG CFG_ASSTAT_RESULT 7).updCfg fun c =>
        { c with as := none, swapPend := 0 }).asShow

/-- A write of ASCMD.CLEAR: ignored while a set is armed. -/
def State.doClear (s : State) : State :=
  if s.cfg.as.isSome then s
  else ((((s.setFld pCFG CFG_ASSWAP_LO_MASK 0).setFld pCFG CFG_ASSWAP_HI_MASK 0).setFld pCFG
    CFG_ASUNLD_LO_MASK 0).setFld pCFG CFG_ASUNLD_HI_MASK 0).setFld pCFG CFG_ASOPT_CT 0

/-- R256: a write of ASCMD. -/
def State.doAscmd (s : State) (v : Nat) : State :=
  match CFG_ASCMD_ARM.of v, CFG_ASCMD_CANCEL.of v, CFG_ASCMD_CLEAR.of v with
  | 0, 0, 0 => s
  | _, 0, 0 => s.doArm (CFG_ASCMD_MODE.of v)
  | 0, _, 0 => s.doCancel
  | 0, 0, _ => s.doClear
  | _, _, _ => s.err pCFG CFG_E_ASCMDERR

/-- R256: AS_ARM. -/
def execAsArm (t : Time) (mode : Bool) (s : State) : Host.Outcome State Fault Refusal :=
  let v := 1 + 16 * mode.toNat
  .next (s.hostWrite t (pCFG * 4096 + 0x4C) v fun s => s.doAscmd v)

/-- R262: AS_CANCEL. -/
def execAsCancel (t : Time) (s : State) : Host.Outcome State Fault Refusal :=
  .next (s.hostWrite t (pCFG * 4096 + 0x4C) 2 fun s => s.doAscmd 2)

/-- R256: AS_CLEAR. -/
def execAsClear (t : Time) (s : State) : Host.Outcome State Fault Refusal :=
  .next (s.hostWrite t (pCFG * 4096 + 0x4C) 4 fun s => s.doAscmd 4)

/-- R258, R259: a member counts as acknowledged; a set that becomes READY in an open apply window is
prepared there. -/
def State.asAcked (s : State) (r : Nat) : State :=
  let s := (s.updAs fun a => { a with acked := a.acked ||| 2 ^ r }).asShow
  if s.windowOpen then s.asPrepare else s

/-- The region is a member of the set that has not acknowledged and whose SWAP_PENDING is high. -/
def State.asAwaits (s : State) (r : Nat) : Bool :=
  match s.cfg.as with
  | some a => !a.checking && a.waiting.contains r
  | none => false

/-- R258, R259: SWAP_ACK, which region logic drives in a cycle of a region clock that runs. -/
def execSwapAck (t : Time) (r : Region) (s : State) : Host.Outcome State Fault Refusal :=
  let s := s.at_ t
  .next (if s.asAwaits r.val && s.rgnClocked r.val then s.asAcked r.val else s)

/-- R259: RQTO of a region. -/
def State.rqto (s : State) (r : Nat) : Nat := SMap.get 100 s.cfg.rqto r

/-- R259: QUIESCE_TIMEOUT: RQTO × 10 µs have passed since the ARM. -/
def execQuiesceTimeout (r : Region) (s : State) : Host.Outcome State Fault Refusal :=
  let n := r.val
  .next (match s.cfg.as with
    | none => s
    | some a =>
      if s.asAwaits n then
        let s := (s.at_ (a.armAt + s.rqto n * 10000)).updCfg fun c => { c with forced := c.forced ||| 2 ^ n }
        ((((s.err pCFG CFG_E_QTO).contained).log pCFG 0x082 3 n).asAcked n)
      else s)

/-! ## Effect (R261, R452) -/

/-- R261: what a region's RAM blocks hold once its new image is in force; `live` when it was LOADED
before. -/
def State.loadRams (s : State) (r : Nat) (d : RgnDesc) (payload : List Byte) (live : Bool) : State :=
  let blocks := (List.range 40).filter fun b => !(live && d.keep.testBit b)
  blocks.foldl (fun s b =>
    s.updFab fun f =>
      let k := (r * 40 + b) * 2048
      { f with
        ram := SMap.putAll 0 f.ram k ((List.range 2048).map fun a => Config.ramInit payload (b * 2048 + a))
        ramBad := SMap.clearRange f.ramBad (2 * k) (2 * k + 4096) }) s

/-- R261: the value that a new image gives a flip-flop of a region. -/
def ffInit (payload : List Byte) (i : Nat) : Bool := (Config.slice payload (i / 20)).init.getLsbD (i % 20)

/-- R243, R261: the flip-flops, accumulators and pin settings that a new image brings. -/
def State.loadPins (s : State) (r : Nat) (d : RgnDesc) (payload : List Byte) : State :=
  let s := s.updFab fun f =>
    { f with
      acc := SMap.putAll 0 f.acc (r * 20) ((List.range 20).map fun b => Config.accInit payload b)
      ff := SMap.putAll false f.ff (r * 20480) ((List.range 20480).map (ffInit payload)) }
  d.pins.foldl (fun s x => (s.setPincfg x.1 x.2.1 x.2.2).updIob x.1 fun i => { i with cfgd := true }) s

/-- R239, R261: the image in the active plane of a region takes effect. -/
def State.imageInForce (s : State) (r : Nat) (live : Bool) : State :=
  let p := s.active r
  if p.state ≠ 2 then s.updFab fun f => { f with desc := SMap.put RgnDesc.empty f.desc r RgnDesc.empty }
  else
    let d := p.desc (s.baseOf r)
    let s := s.updFab fun f => { f with desc := SMap.put RgnDesc.empty f.desc r d }
    (s.loadRams r d p.payload live).loadPins r d p.payload

/-- R261: one region is swapped. -/
def State.swapRegion (s : State) (r : Nat) : State :=
  let a := s.active r
  let v := s.voile r
  let st := (s.region r).state
  let s := (s.setActive r v).setVoile r a
  let s := if st = 0 then s else s.setRegion r ⟨2, (s.region r).id⟩
  s.imageInForce r (decide (st = 3))

/-- R155, R240, R261: one region is unloaded. -/
def State.unloadRegion (s : State) (r : Nat) : State :=
  let s := (s.setActive r Plane.empty).setVoile r Plane.empty
  (s.setRegion r RgnAlloc.free).updFab fun f => { f with desc := SMap.put RgnDesc.empty f.desc r RgnDesc.empty }

/-- R101, R105: the pending class table and FCALL targets come into force; the pending table stays verified. -/
def State.ctEffect (s : State) : State :=
  let changed := decide (s.jer.inf ≠ s.jer.pend)
  let s := (List.range 16).foldl (fun s n =>
    ((s.setFld (pJE 0) (JE_FCTGT_ENACT n) (s.fld (pJE 0) (JE_FCTGT_EN n))).setFld (pJE 0)
      (JE_FCTGT_LATACT n) (s.fld (pJE 0) (JE_FCTGT_LAT n))).updJer fun j =>
        { j with portAct := SMap.put 0 j.portAct n (s.fld (pJE 0) (JE_FCTGT_PORT n)) }) s
  let s := (s.updJer fun j => { j with inf := j.pend }).setFld (pJE 0) JE_CTSTAT_VERIFIED 1
  if changed then s.clearHistory else s

/-- R261: a set takes effect; `fn` is the number of the frame whose compute first sees it. -/
def State.asEffect (s : State) (fn : Nat) : State :=
  match s.cfg.as with
  | none => s
  | some a =>
    let hit (id : Nat) : Bool := decide (id < 0x200) && (a.swap ||| a.unld).testBit (id / 8)
    let s := s.updFab fun f =>
      { f with streams := a.sched, flights := f.flights.filter fun x => x.be || !hit x.src && !hit x.dst }
    let s := (inMask a.swap).foldl State.swapRegion s
    let s := ((inMask a.unld).foldl State.unloadRegion s).dropEmptyAllocs
    let s := if a.ct then s.ctEffect else s
    let late := decide (a.mode = 1 ∧ a.fn < fn)
    let s := (s.setFld pCFG CFG_ASEFN_FN fn).setBit pCFG CFG_ASSTAT_LATE late
    let s := if late then s.err pCFG CFG_E_ASLATE else s
    ((((s.setFld pCFG CFG_ASSTAT_RESULT 1).updCfg fun c => { c with as := none, swapPend := 0 }).asShow).irq
      pCFG CFG_E_ASDONE)

/-- R105, R54, R261: a set takes effect unless its pending table is no longer verified, which refuses it. -/
def State.asTake (s : State) (fn : Nat) : State :=
  match s.cfg.as with
  | none => s
  | some a => if s.asStale a then s.asDrop a else s.asEffect fn

/-- R105, R261, R264: a set takes effect at this boundary: it is prepared and its pending table verified, and at a
standby the primary's takes effect there too. -/
def State.asTakes (s : State) : Bool :=
  decide (s.fld pCFG CFG_ASSTAT_STATE = 3 ∧ (s.role ≠ 2 ∨ s.twn.asDue = true)) &&
    match s.cfg.as with
    | some a => !s.asStale a
    | none => false

/-- R54, R261: a boundary: a prepared set takes effect. -/
def State.asBoundary (s : State) (fn : Nat) : State :=
  if s.fld pCFG CFG_ASSTAT_STATE = 3 ∧ (s.role ≠ 2 ∨ s.twn.asDue = true) then s.asTake fn else s

/-- R259, R264: a member that has not acknowledged at a standby is swapped by force. -/
def State.asForce (s : State) (r : Nat) : State :=
  let s := s.updCfg fun c => { c with forced := c.forced ||| 2 ^ r }
  (((s.err pCFG CFG_E_QTO).contained).log pCFG 0x082 3 r).updAs fun a => { a with acked := a.acked ||| 2 ^ r }

/-- R264: what the record of a frame start says of the activation set reaches the standby's: it takes effect at
the boundary at which the primary's does, and at no other (DESIGN CHOICE, log entry 134). -/
def State.asFollow (s : State) (set : Bool) : State :=
  let s := s.updTwn fun w => { w with asDue := set }
  match s.cfg.as with
  | some a =>
    if set && !a.checking then (a.waiting.foldl State.asForce s).setFld pCFG CFG_ASSTAT_STATE 3 else s
  | none => s

/-- R452: the number of the frame that starts next, at an internal boundary: FN + 1 in HOLD. -/
def State.asNextFn (s : State) : Nat := if s.frmState = 2 then s.fn + 1 else s.nextFn

/-- R452: AS_INTERNAL_BOUNDARY: a READY set takes effect in STOP or HOLD. -/
def execAsInternalBoundary (t : Time) (s : State) : Host.Outcome State Fault Refusal :=
  let s := s.at_ t
  .next (match s.cfg.as with
    | none => s
    | some a =>
      if a.ready && decide (s.frmState ≠ 1) && decide (a.mode = 0 ∨ a.fn ≤ s.asNextFn) then s.asTake s.asNextFn
      else s)

end Sys2Proof.Machine
end

