-- ==== Sys2Proof/Machine/Angle.lean ====
section
/-! DEFINITION. Shaft angle units (spec/08_angle.md): counting, direction, ticks and speed, the
states of a unit, the index and homing, the snapshot, and the registers of an ANG page. -/

namespace Sys2Proof.Machine

/-! ## Position and division (R192, R193) -/

/-- R192: CPR. -/
def State.cpr (s : State) (u : Nat) : Nat := s.fld (pANG u) ANG_CPR_VALUE + 1

/-- R193: the number of divisions in force. -/
def State.dpr (s : State) (u : Nat) : Nat := Nat.min (s.fld (pANG u) ANG_DPR_VALUE + 1) (s.cpr u)

/-- R193: the division of a position. -/
def State.divOf (s : State) (u pos : Nat) : Nat := pos * s.dpr u / s.cpr u

/-- POS with the division that follows from it. -/
def State.setPos (s : State) (u pos : Nat) : State :=
  (s.setFld (pANG u) ANG_POS_POS pos).setFld (pANG u) ANG_DIV_DIV (s.divOf u pos)

/-- The live division. -/
def State.angDiv (s : State) (u : Nat) : Nat := s.divOf u (s.fld (pANG u) ANG_POS_POS)

/-- The unit's state: 0 OFF, 1 ACQUIRE, 2 LOCKED, 3 STOPPED. -/
def State.angState (s : State) (u : Nat) : Nat := s.fld (pANG u) ANG_STAT_STATE

/-- R197: the unit enters a state. COAST reads 1 in LOCKED only (R198). -/
def State.setAngState (s : State) (u st : Nat) : State :=
  ((s.setFld (pANG u) ANG_STAT_STATE st).setBit (pANG u) ANG_STAT_LOCKED (decide (st = 2))).setFld
    (pANG u) ANG_STAT_COAST 0

/-- A quotient rounded to nearest; the manual does not say which of two equally near numbers it is, so
the choice between them is free. -/
def State.nearest (s : State) (num den : Nat) : Nat × State :=
  let r := 2 * (num % den)
  if r < den then (num / den, s)
  else if den < r then (num / den + 1, s)
  else
    let (b, s) := s.takeFree 1
    (num / den + b, s)

/-! ## Ticks (R14, R193 to R196) -/

/-- R14: ns from a tick's issue to its registration: of the two that TICK_IN can take, which one is open. -/
def State.tickLatency (s : State) (src : Nat) : Nat × State :=
  match src with
  | 0 => (4, s)
  | 2 =>
    let (v, s) := s.takeFree 1
    (6 + 2 * v, s)
  | _ => (0, s)

/-- R14, R17: a source issues a tick at `t`; the frame controller takes it from the source in force only. -/
def State.issueTick (s : State) (src unit t : Nat) : State :=
  if s.fld pFRM FRM_STAT_SRCACT = src ∧ (src = 0 → s.fld pFRM FRM_STAT_ANGACT = unit) then
    let (d, s) := s.tickLatency src
    s.updFrm fun f => { f with issued := f.issued ++ [⟨t, src, unit, d⟩] }
  else s

/-- R196: TPD at a tick of time `t`. -/
def State.setTpd (s : State) (u t : Nat) : State :=
  let g := s.angu u
  let sat (x : Nat × State) : State := x.2.setFld (pANG u) ANG_TPD_TPD (Nat.min x.1 1048575)
  match g.tickAt with
  | some p => (sat (s.nearest (t - p) 10)).updAng u fun g => { g with tickAt := some t }
  | none =>
    if g.refN = 0 then s.setFld (pANG u) ANG_TPD_TPD 1048575
    else
      (sat (s.nearest ((t - g.refAt) * s.cpr u) (g.refN * s.dpr u * 10))).updAng u fun g =>
        { g with tickAt := some t }

/-- R193, R195: the unit issues a tick at an edge of time `t`. -/
def State.angTick (s : State) (u t : Nat) : State :=
  let d := s.angDiv u
  let s := s.setTpd u t
  (s.updAng u fun g => { g with lastDiv := d, lastTick := some t }).issueTick 0 u t

/-! ## Counting (R190 to R194, R197) -/

/-- The place of (A, B) in the forward sequence 00, 10, 11, 01. -/
def quadIndex (a b : Bool) : Nat :=
  match a, b with
  | false, false => 0 | true, false => 1 | true, true => 2 | false, true => 3

/-- R192: one count of travel. -/
def State.countPos (s : State) (u : Nat) (rev : Bool) : State :=
  let p := s.fld (pANG u) ANG_POS_POS
  if rev then
    if p = 0 then (s.setPos u (s.cpr u - 1)).addWrap (pANG u) ANG_REV_REV 65535 else s.setPos u (p - 1)
  else if p + 1 = s.cpr u then (s.setPos u 0).addWrap (pANG u) ANG_REV_REV 1
  else s.setPos u (p + 1)

/-- R191: FAST and the timestamps of a counted edge. -/
def State.stampEdge (s : State) (u t : Nat) : State :=
  let fast := match (s.angu u).lastAt with
    | some p => decide (t < p + 200)
    | none => false
  let s := if fast then (s.addSat (pANG u) ANG_FASTCNT_FAST 1).err (pANG u) ANG_E_FAST else s
  let s := (s.setFld (pANG u) ANG_TSLAST_LO_TS t).setFld (pANG u) ANG_TSLAST_HI_TS (t / 2 ^ 32)
  (s.setFld (pANG u) ANG_STAT_COAST 0).updAng u fun g => { g with prevAt := g.lastAt, lastAt := some t }

/-- R197: the edges in one direction, each within STOPTIME of the one before; at most four count. -/
def qualify (limit t : Nat) (rev : Bool) (g : Ang) : Ang :=
  match g.four with
  | p :: _ =>
    if g.fourRev = rev ∧ t ≤ p + limit then { g with four := (t :: g.four).take 4 }
    else { g with four := [t], fourRev := rev }
  | [] => { g with four := [t], fourRev := rev }

/-- R194: the direction after a counted edge; true when the edge changed it. -/
def State.trackDir (s : State) (u t : Nat) (rev : Bool) : Bool × State :=
  let dir := s.bit (pANG u) ANG_STAT_DIR
  if rev = dir then (false, s.updAng u fun g => { g with run := 0, refN := g.refN + 1 })
  else if s.fld (pANG u) ANG_CTRL_REVHYS ≤ (s.angu u).run + 1 then
    (true, (s.setBit (pANG u) ANG_STAT_DIR rev).updAng u fun g =>
      { g with run := 0, refAt := t, refN := 0, tickAt := none })
  else (false, s.updAng u fun g => { g with run := g.run + 1, refN := g.refN + 1 })

/-- R197: four qualifying edges lock a unit in ACQUIRE or STOPPED. -/
def State.tryLock (s : State) (u : Nat) : State :=
  let st := s.angState u
  let g := s.angu u
  let homed := s.bit (pANG u) ANG_STAT_HOMED || !s.bit (pANG u) ANG_CTRL_NEEDHOME
  match g.four with
  | [_, _, _, first] =>
    if (st = 1 ∨ st = 3) ∧ homed = true then
      let s := (s.setAngState u 2).setBit (pANG u) ANG_STAT_DIR g.fourRev
      let d := s.angDiv u
      (s.updAng u fun g =>
        { g with
          run := 0
          refAt := first
          refN := 3
          tickAt := none
          lastDiv := d }).irq (pANG u) ANG_E_LOCKDONE
    else s
  | _ => s

/-- R190 to R197: a counted edge of an enabled unit. -/
def State.countEdge (s : State) (u t : Nat) (rev : Bool) : State :=
  let s := (s.stampEdge u t).countPos u rev
  let limit := s.fld (pANG u) ANG_STOPTIME_TIME * 1000
  let s := s.updAng u (qualify limit t rev)
  let (_, s) := s.trackDir u t rev
  if s.angState u = 2 then
    if s.bit (pANG u) ANG_STAT_DIR = rev ∧ s.angDiv u ≠ (s.angu u).lastDiv then s.angTick u t else s
  else s.tryLock u

/-- R190, R197: a step in which A and B both change. -/
def State.quadError (s : State) (u : Nat) : State :=
  let s := ((s.addSat (pANG u) ANG_ERRCNT_QERR 1).err (pANG u) ANG_E_QERR).contained
  let s := s.log (pANG u) 0x070 3 (s.fld (pANG u) ANG_ERRCNT_QERR)
  let s := s.updAng u fun g => { g with four := [] }
  if s.angState u = 2 ∧ s.bit (pANG u) ANG_CTRL_NEEDHOME = true then
    (((s.setAngState u 1).setFld (pANG u) ANG_STAT_HOMED 0).err (pANG u) ANG_E_LOST).contained
  else s

/-- The unit counts: its page is enabled and its clock runs. -/
def State.angOn (s : State) (u : Nat) : Bool :=
  s.clkOn (pANG u) && s.bit (pANG u) HDR_PG_CTRL_EN && decide (s.angState u ≠ 0)

/-- R189: levels that the inputs have kept for `stable` ns pass the unit's filter: FILT × 2 ns, no filter at 0. -/
def State.filterPasses (s : State) (u : Nat) (stable : Time) : Bool :=
  decide (s.fld (pANG u) ANG_CTRL_FILT * 2 ≤ stable)

/-- R190: ENCODER_EDGE: the levels `ab` of A and B have stood for `stable` ns, and the filter accepts them at
time `t`. -/
def execEncoderEdge (t : Time) (u : Unit8) (ab : Bool × Bool) (stable : Time) (s : State) :
    Host.Outcome State Fault Refusal :=
  let s := s.at_ t
  let n := u.val
  .next (if !s.filterPasses n stable then s
  else
  let g := s.angu n
  let step := (quadIndex ab.1 ab.2 + 4 - quadIndex g.a g.b) % 4
  let swap := s.bit (pANG n) ANG_CTRL_SWAPAB
  let s := s.updAng n fun g => { g with a := ab.1, b := ab.2, stopT := s.fld (pANG n) ANG_STOPTIME_TIME }
  if !s.angOn n then s
  else
    match step with
    | 0 => s
    | 2 => s.quadError n
    | k => s.countEdge n t (decide (k = 3) != swap))

/-! ## Index and homing (R199 to R202) -/

/-- R199: A and B match IDXGATE. -/
def gateOpen (gate : Nat) (a b : Bool) : Bool :=
  match gate with
  | 0 => true | 1 => a | 2 => b | _ => a && b

/-- R200, R201: homing or correction moves POS; LASTDIV follows and no tick is issued. -/
def State.jumpTo (s : State) (u pos : Nat) : State :=
  let s := s.setPos u pos
  let d := s.angDiv u
  s.updAng u fun g => { g with lastDiv := d }

/-- R200: a difference of positions folded into −CPR/2 to +CPR/2: its magnitude and whether it is
negative. The manual does not say with which sign a difference of CPR/2 is taken. -/
def State.fold (s : State) (cpr pos idx : Nat) : (Nat × Bool) × State :=
  let d := (pos + cpr - idx) % cpr
  if 2 * d < cpr then ((d, false), s)
  else if cpr < 2 * d then ((cpr - d, true), s)
  else
    let (b, s) := s.takeFree 1
    ((d, decide (b = 1)), s)

/-- R200: the check of a homed rotary unit. -/
def State.indexCheck (s : State) (u : Nat) : State :=
  let idx := s.fld (pANG u) ANG_IDXPOS_VALUE
  let ((m, neg), s) := s.fold (s.cpr u) (s.fld (pANG u) ANG_POS_POS) idx
  let s := s.setFld (pANG u) ANG_IDXCHK_DIFF (if neg then 2 ^ 20 - m else m)
  if m ≤ s.fld (pANG u) ANG_IDXCHK_IDXTOL then s
  else
    let s := ((s.addSat (pANG u) ANG_ERRCNT_IDXERR 1).err (pANG u) ANG_E_IDXERR).contained
    let s := s.log (pANG u) 0x071 3 (s.fld (pANG u) ANG_IDXCHK_DIFF)
    if s.bit (pANG u) ANG_CTRL_IDXCORR then s.jumpTo u idx else s

/-- R200: homing by the index; a unit that counted its fourth qualifying edge in the same cycle locks
(R197). -/
def State.indexHome (s : State) (u t : Nat) : State :=
  let s := (s.jumpTo u (s.fld (pANG u) ANG_IDXPOS_VALUE)).setFld (pANG u) ANG_REV_REV 0
  let s := (s.setFld (pANG u) ANG_STAT_HOMED 1).irq (pANG u) ANG_E_HOMEDONE
  if (s.angu u).lastAt = some t then s.tryLock u else s

/-- R199, R200: INDEX_EVENT: Z has been high for the edge's stable time, and the filter accepts its rising edge at time `t`. -/
def execIndexEvent (t : Time) (x : IndexEdge) (s : State) : Host.Outcome State Fault Refusal :=
  let s := s.at_ t
  let n := x.unit.val
  let g := s.angu n
  let open_ := s.bit (pANG n) ANG_CTRL_IDXEN && gateOpen (s.fld (pANG n) ANG_CTRL_IDXGATE) g.a g.b
  .next (if !s.filterPasses n x.stable then s
  else
  let s := s.updAng n fun g => { g with stopT := s.fld (pANG n) ANG_STOPTIME_TIME }
  if !s.angOn n || !open_ then s
  else if s.fld (pANG n) ANG_STAT_HOMED = 0 then s.indexHome n t
  else if s.fld (pANG n) ANG_CTRL_MODE = 0 then s.indexCheck n
  else s)

/-- R202: a write of CMD. -/
def State.doAngCmd (s : State) (u v : Nat) : State :=
  match ANG_CMD_HOME.of v, ANG_CMD_REHOME.of v with
  | 0, 0 => s
  | _, 0 =>
    if s.angState u = 2 then s.err (pANG u) ANG_E_CMDREF
    else ((s.setPos u (s.fld (pANG u) ANG_PRESET_VALUE)).setFld (pANG u) ANG_REV_REV 0).setFld
      (pANG u) ANG_STAT_HOMED 1
  | 0, _ =>
    if s.angState u = 2 then s.err (pANG u) ANG_E_CMDREF else s.setFld (pANG u) ANG_STAT_HOMED 0
  | _, _ => s.err (pANG u) ANG_E_CMDREF

/-- R202: ANG_CMD_HOME. -/
def execAngCmdHome (t : Time) (u : Unit8) (s : State) : Host.Outcome State Fault Refusal :=
  .next (s.hostWrite t (pANG u.val * 4096 + 0x68) 1 fun s => s.doAngCmd u.val 1)

/-- R202: ANG_CMD_REHOME. -/
def execAngCmdRehome (t : Time) (u : Unit8) (s : State) : Host.Outcome State Fault Refusal :=
  .next (s.hostWrite t (pANG u.val * 4096 + 0x68) 2 fun s => s.doAngCmd u.val 2)

/-! ## Timers (R197, R198) -/

/-- R197, R205: STOPTIME_EXPIRY: STOPTIME µs without a counted edge; a STOPTIME written since the latest edge does
not count yet. -/
def execStoptimeExpiry (u : Unit8) (s : State) : Host.Outcome State Fault Refusal :=
  let n := u.val
  .next (match (s.angu n).lastAt with
    | some t =>
      if s.angState n = 2 then
        ((s.at_ (t + (s.angu n).stopT * 1000)).setAngState n 3).err (pANG n) ANG_E_STOP
      else s
    | none => s)

/-- R198: ANG_COAST: more than four times the latest interval without a counted edge, at the first
sampling cycle of 2 ns in which it is so. -/
def execAngCoast (u : Unit8) (s : State) : Host.Outcome State Fault Refusal :=
  let n := u.val
  .next (match (s.angu n).lastAt, (s.angu n).prevAt with
    | some t, some p =>
      if s.angState n = 2 then (s.at_ (t + 4 * (t - p) + 2)).setFld (pANG n) ANG_STAT_COAST 1 else s
    | _, _ => s)

/-! ## Registers (R192, R205) -/

/-- R192: PRESET or IDXPOS, kept below CPR. -/
def State.setBelowCpr (s : State) (u : Nat) (f : Fld) (v : Nat) : State :=
  s.setFld (pANG u) f (Nat.min v (s.cpr u - 1))

/-- R192, R205: a write of CPR. -/
def State.doCpr (s : State) (u v : Nat) : State :=
  if s.bit (pANG u) HDR_PG_CTRL_EN then s.err (pANG u) ANG_E_CFGBUSY
  else
    let s := s.setFld (pANG u) ANG_CPR_VALUE (Nat.max 3 (ANG_CPR_VALUE.of v))
    let s := s.setBelowCpr u ANG_PRESET_VALUE (s.fld (pANG u) ANG_PRESET_VALUE)
    let s := s.setBelowCpr u ANG_IDXPOS_VALUE (s.fld (pANG u) ANG_IDXPOS_VALUE)
    s.setFld (pANG u) ANG_DIV_DIV (s.angDiv u)

/-- R205: a write of DPR. -/
def State.doDpr (s : State) (u v : Nat) : State :=
  if s.bit (pANG u) HDR_PG_CTRL_EN then s.err (pANG u) ANG_E_CFGBUSY
  else
    let s := s.setFld (pANG u) ANG_DPR_VALUE (ANG_DPR_VALUE.of v)
    s.setFld (pANG u) ANG_DIV_DIV (s.angDiv u)

/-- R205: a write of CTRL. -/
def State.doAngCtrl (s : State) (u v : Nat) : State :=
  let p := pANG u
  let change := decide (ANG_CTRL_MODE.of v ≠ s.fld p ANG_CTRL_MODE ∨
    ANG_CTRL_SWAPAB.of v ≠ s.fld p ANG_CTRL_SWAPAB)
  let s' := s.setFld p ANG_CTRL_REVHYS (Nat.max 1 (ANG_CTRL_REVHYS.of v))
  let s' := ((((s'.store p ANG_CTRL_FILT v).store p ANG_CTRL_IDXGATE v).store p ANG_CTRL_NEEDHOME
    v).store p ANG_CTRL_IDXCORR v).store p ANG_CTRL_IDXEN v
  if s.bit p HDR_PG_CTRL_EN then if change then s'.err p ANG_E_CFGBUSY else s'
  else (s'.store p ANG_CTRL_MODE v).store p ANG_CTRL_SWAPAB v

/-- R192: CPR_WRITE. -/
def execCprWrite (t : Time) (u : Unit8) (v : Dword) (s : State) : Host.Outcome State Fault Refusal :=
  .next (s.hostWrite t (pANG u.val * 4096 + 0x44) v.toNat fun s => s.doCpr u.val v.toNat)

/-- R205: DPR_WRITE. -/
def execDprWrite (t : Time) (u : Unit8) (v : Dword) (s : State) : Host.Outcome State Fault Refusal :=
  .next (s.hostWrite t (pANG u.val * 4096 + 0x48) v.toNat fun s => s.doDpr u.val v.toNat)

/-- R205: ANG_CTRL_WRITE. -/
def execAngCtrlWrite (t : Time) (u : Unit8) (v : Dword) (s : State) :
    Host.Outcome State Fault Refusal :=
  .next (s.hostWrite t (pANG u.val * 4096 + 0x40) v.toNat fun s => s.doAngCtrl u.val v.toNat)

/-- A write of offset `o` of an ANG page. -/
def State.doAng (s : State) (u o v : Nat) : State :=
  let p := pANG u
  match o with
  | 0x40 => s.doAngCtrl u v
  | 0x44 => s.doCpr u v
  | 0x48 => s.doDpr u v
  | 0x60 => s.setBelowCpr u ANG_PRESET_VALUE (ANG_PRESET_VALUE.of v)
  | 0x64 => s.setBelowCpr u ANG_IDXPOS_VALUE (ANG_IDXPOS_VALUE.of v)
  | 0x68 => s.doAngCmd u v
  | 0x6C => s.store p ANG_IDXCHK_IDXTOL v
  | 0x70 => s.setFld p ANG_STOPTIME_TIME (Nat.max 10 (ANG_STOPTIME_TIME.of v))
  | _ => s

/-- R197: a write of PG_CTRL.EN of an ANG page. -/
def State.setAngEn (s : State) (u : Nat) (en : Bool) : State :=
  let was := s.bit (pANG u) HDR_PG_CTRL_EN
  let s := s.setBit (pANG u) HDR_PG_CTRL_EN en
  if en && !was then
    let s := (s.setAngState u 1).setPos u (s.fld (pANG u) ANG_PRESET_VALUE)
    let s := ((s.setFld (pANG u) ANG_REV_REV 0).setFld (pANG u) ANG_STAT_HOMED 0).setFld (pANG u)
      ANG_STAT_DIR 0
    s.updAng u fun g => { g with four := [], run := 0, tickAt := none }
  else if !en then s.setAngState u 0
  else s

/-- R24: TSLAST_LO is read, and TSLAST_HI captured. -/
def State.readTslastLo (s : State) (u : Nat) : Nat × State :=
  (s.look (pANG u) ANG_TSLAST_LO_TS,
    let hi := s.look (pANG u) ANG_TSLAST_HI_TS
    s.updAng u fun g => { g with tsCap := some hi })

/-- R24: TSLAST_HI is read. -/
def State.readTslastHi (s : State) (u : Nat) : Nat × State :=
  match (s.angu u).tsCap with
  | some v => (v, s.updAng u fun g => { g with tsCap := none })
  | none => (s.look (pANG u) ANG_TSLAST_HI_TS, s)

/-- R24: TSLAST_LO_READ. -/
def execTslastLoRead (t : Time) (u : Unit8) (s : State) : Host.Outcome State Fault Refusal :=
  .next (s.hostRead t (pANG u.val * 4096 + 0x74) fun s =>
    let (v, s) := s.readTslastLo u.val
    s.answer [v])

/-! ## The snapshot (R97, R128, R203) -/

/-- R203: TPD as a snapshot shows it. -/
def State.snapTpd (s : State) (u : Nat) (idle : Bool) : Nat × State :=
  let tpd := s.fld (pANG u) ANG_TPD_TPD
  match if idle then (s.angu u).lastTick else none with
  | some t =>
    let (d, s) := s.nearest (s.time - t) 10
    (Nat.max tpd (Nat.min d 1048575), s)
  | none => (tpd, s)

/-- R128: the eight words of a unit. -/
def State.snapUnit (idle : Bool) (s : State) (u : Nat) : State :=
  let p := pANG u
  let (words, s) : List Nat × State :=
    if s.angState u = 2 then
      let (tpd, s) := s.snapTpd u idle
      let d := s.angDiv u
      let pos := s.fld p ANG_POS_POS
      ([512 + s.fld p ANG_STAT_DIR * 256 + s.fld p ANG_STAT_COAST * 128, d, d / 1024, tpd, tpd / 1024,
        pos, pos / 1024, s.fld p ANG_REV_REV], s)
    else ([s.fld p ANG_STAT_DIR * 256, 0, 0, 0, 0, 0, 0, 0], s)
  s.updJer fun j =>
    { j with snap := SMap.putAll 0 j.snap (u * 8) (words.map fun w => BitVec.ofNat 10 w) }

/-- R97: the snapshot of every unit is latched; `idle` at the start of an idle frame. -/
def State.latchSnapshot (s : State) (idle : Bool) : State :=
  (List.range 8).foldl (State.snapUnit idle) s

end Sys2Proof.Machine
end

