-- ==== Sys2Proof/Machine/Clocks.lean ====
section
/-! DEFINITION. The MDLLs, the reference monitor, device time and accesses to stopped clocks
(spec/12_clocks.md, R292 to R314). -/

namespace Sys2Proof.Machine

/-! ## Bands and enables (R295 to R297, R299) -/

/-- R297: the limits FMIN and FMAX of a band: as written, or as loaded from trim. -/
def State.bandOf (s : State) (n b : Nat) : Nat × Nat :=
  (SMap.get none s.pwr.band (n * 16 + b)).getD (Config.trimBand (n * 16 + b))

/-- R297: the low end, in units of M ÷ 256, of a spread in thousandths. -/
def lowEnd (m spread : Nat) : Nat := m * (1000 - spread) / 256000

/-- R297: the maximum spread of an MDLL, in thousandths (R294). -/
def maxSpread (n : Nat) : Nat := if n < 2 then 10 else 0

/-- R297: the band that an MDLL takes on enable. -/
def State.pickBand (s : State) (n : Nat) : Option Nat :=
  let m := s.fld (pCLK n) CLK_MULT_M
  (List.range 16).find? fun b =>
    decide ((s.bandOf n b).1 ≤ lowEnd m (maxSpread n) ∧ (m + 255) / 256 ≤ (s.bandOf n b).2)

/-- R296, R306: the MDLL is off: STATE is OFF, or was when the loss of the reference set it to COAST. -/
def State.mdllOff (s : State) (n : Nat) : Bool :=
  decide (s.fld (pCLK n) CLK_STAT_STATE = 0 ∨ (s.fld (pCLK n) CLK_STAT_STATE = 3 ∧ (s.mdll n).was = 0))

/-- R306: the reference is lost. -/
def State.refLost (s : State) : Bool := s.pwr.coastAt.isSome

/-- R302, R303: the least device time, in ns, that `n` reference cycles can take: with spread on MDLL0 whole
triangles of 800 cycles run at their mean rate and the rest at no less than the lowest. On the slow clock,
which is accurate to ±2 %, the edges at both ends add a cycle. -/
def State.refNs (s : State) (n : Nat) : Nat :=
  let x := s.fld (pCLK 0) CLK_CTRL_SPREAD
  if s.mdllOn 0 then n / 800 * (32000 - 16 * x) + n % 800 * (40000 - 40 * x) / 1000 else n * 392 / 10 - 30518

/-- R302, R303: the most reference cycles that end within `d` ns of device time on MDLL0. -/
def State.refCycles (s : State) (d : Nat) : Nat := d * 1000 / (40000 - 40 * s.fld (pCLK 0) CLK_CTRL_SPREAD) + 1

/-! ## PLL_LKO (R298, R306, R400) -/

/-- R298, R306, R400: the pin PLL_LKO: held low while the reference is lost; released in the forced period of
an MDLL, and before READY until step 6 enables the MDLLs; else low but for the pulses of enabled MDLLs. -/
def State.lko (s : State) : Lko :=
  if s.refLost then .low
  else if (List.range 8).any fun n => decide ((s.mdll n).acq = 1) then .released
  else if !s.pwr.up && s.pwr.sixAt.isNone then .released
  else if (List.range 8).all s.mdllOff then .low
  else .pulses

/-! ## Ramps and phase steps (R301, R305) -/

/-- R301: how far MACT has moved towards MULT at most: ⌊M ÷ 1,024⌋ of the new M (DEDUCED, log entry 132) in each
reference cycle. -/
def State.rampFar (s : State) (n : Nat) : Nat :=
  s.refCycles (s.time - (s.mdll n).rampAt) * (s.fld (pCLK n) CLK_MULT_M / 1024)

/-- R301: MACT now, noted as the value from which the ramp goes on: while it ramps, a free value no further from
the last one than the limit allows, which has not reached MULT. A coasting MDLL keeps its value (R306). -/
def State.rampNow (s : State) (n : Nat) : Nat × State :=
  let p := pCLK n
  let a := s.fld p CLK_MACT_M
  let m := s.fld p CLK_MULT_M
  if s.bit p CLK_STAT_RAMP && decide (s.fld p CLK_STAT_STATE = 2) then
    let far := Nat.min (Nat.max a m - Nat.min a m - 1) (s.rampFar n)
    let d := Config.freeValue s.free % (far + 1)
    let v := if a ≤ m then a + d else a - d
    (v, (({ s with free := s.free + 1 }).setFld p CLK_MACT_M v).updMdll n fun c => { c with rampAt := s.time })
  else (a, s)

/-- A 7-bit number with a sign. -/
def signed7 (v : Nat) : Int := if 64 ≤ v % 128 then (v % 128 : Int) - 128 else (v % 128 : Int)

/-- R295, R305: the output cycles of an MDLL since the pending steps stood as PEND holds them, at
25 MHz × M ÷ 65,536. -/
def State.outCycles (s : State) (n : Nat) : Nat :=
  if s.mdllOn n then (s.time - (s.mdll n).phAt) * 25 * s.fld (pCLK n) CLK_MACT_M / 65536000 else 0

/-- R305: the steps still pending, and the accumulated position, now: one step in each output cycle. -/
def State.phaseNow (s : State) (n : Nat) : Int × Nat :=
  let pend := signed7 (s.fld (pCLK n) CLK_PHASE_PEND)
  let k : Int := Nat.min pend.natAbs (s.outCycles n)
  let d := if 0 ≤ pend then k else -k
  (pend - d, ((s.fld (pCLK n) CLK_PHASE_PHPOS + d) % 64).toNat)

/-- R305: PHASE is noted as it stands now. -/
def State.settle (s : State) (n : Nat) : State :=
  let x := s.phaseNow n
  let s := (s.setFld (pCLK n) CLK_PHASE_PEND (x.1 % 128).toNat).setFld (pCLK n) CLK_PHASE_PHPOS x.2
  s.updMdll n fun c => { c with phAt := s.time }

/-! ## Enables (R296, R299) -/

/-- R299: acquisition starts at time `t`, when a band fits. -/
def State.acquire (s : State) (n : Nat) (t : Time) : State :=
  let p := pCLK n
  match s.pickBand n with
  | none => s.err p CLK_E_BANDERR
  | some b =>
    let s := (((s.setFld p CLK_STAT_STATE 1).setFld p CLK_STAT_MUTED 1).setFld p CLK_STAT_BAND b).setFld p
      CLK_STAT_WINDOW 0
    let s := (s.setFld p CLK_MACT_M (s.fld p CLK_MULT_M)).setFld p CLK_STAT_RAMP 0
    s.updMdll n fun c => { c with enAt := t, acq := if s.refLost then 3 else 1 }

/-- R296: a write of CTRL.EN in CLK2 to CLK7. -/
def State.doMdllEn (s : State) (n : Nat) (en : Bool) : State :=
  let p := pCLK n
  let s := s.setBit p CLK_CTRL_EN en
  if en then
    if s.mdllOn n = false ∧ (s.mdll n).acq = 0 then s.acquire n s.time else s
  else
    let s := ((((s.settle n).setFld p CLK_STAT_STATE 0).setFld p CLK_STAT_MUTED 1).setFld p CLK_STAT_WINDOW 0).setFld p
      CLK_STAT_RAMP 0
    s.updMdll n fun c => { c with acq := 0 }

/-- R302: a write of CTRL.SPREAD in CLK0 and CLK1. -/
def State.doSpread (s : State) (n v : Nat) : State :=
  let p := pCLK n
  let x := Nat.min 10 (CLK_CTRL_SPREAD.of v)
  if !s.mdllOff n && decide (lowEnd (s.fld p CLK_MULT_M) x < (s.bandOf n (s.fld p CLK_STAT_BAND)).1) then
    s.err p CLK_E_BANDERR
  else s.setFld p CLK_CTRL_SPREAD x

/-- A write of CLK.CTRL. -/
def State.doClkCtrl (s : State) (n v : Nat) : State :=
  if n < 2 then s.doSpread n v else s.doMdllEn n (decide (CLK_CTRL_EN.of v = 1))

/-- R299: MDLL_ENABLE. -/
def execMdllEnable (t : Time) (n : Mdll) (s : State) : Host.Outcome State Fault Refusal :=
  .next (s.hostWrite t (pCLK n.val * 4096 + 0x40) 1 fun s =>
    if n.val < 2 then s else s.doMdllEn n.val true)

/-- R296: MDLL_DISABLE. -/
def execMdllDisable (t : Time) (n : Mdll) (s : State) : Host.Outcome State Fault Refusal :=
  .next (s.hostWrite t (pCLK n.val * 4096 + 0x40) 0 fun s =>
    if n.val < 2 then s else s.doMdllEn n.val false)

/-! ## Acquisition and lock (R299, R300) -/

/-- R298: the level of PLL_LKI is below or above the comparator threshold, as every CLK page shows. -/
def State.setLki (s : State) (b : Bool) : State :=
  (List.range 8).foldl (fun s n => s.setBit (pCLK n) CLK_STAT_LKIBELOW b) s

/-- R296: an MDLL that is neither on nor acquiring is enabled by step 6 of bring-up. -/
def State.enableSix (t : Time) (s : State) (n : Nat) : State :=
  if s.mdllOn n = false ∧ (s.mdll n).acq = 0 then s.acquire n t else s

/-- R296, R399: step 6 of bring-up comes: READY is low, and MDLL0 or MDLL1 is neither on nor acquiring; step 6
comes again 10 ms after it came last. -/
def State.sixDue (s : State) (t : Time) : Bool :=
  !s.pwr.up && decide (s.pwr.gz = 0 ∨ s.pwr.gz = 3) &&
    ([0, 1].any fun n => !s.mdllOn n && decide ((s.mdll n).acq = 0)) &&
    (match s.pwr.sixAt with
      | some a => decide (a + 10000000 ≤ t)
      | none => true)

/-- R296: step 6 of bring-up, at time `t`: all eight MDLLs are enabled. -/
def State.stepSix (s : State) (t : Time) : State :=
  let s := s.updPwr fun p => { p with sixAt := some t }
  (List.range 8).foldl (State.enableSix t) s

/-- R298, R299: FORCED_PERIOD_END. The first one before READY shows that step 6 of bring-up enabled the MDLLs
the least forced period before (DESIGN CHOICE, log entry 133). No forced period lasts more than 2.0 ms. -/
def execForcedPeriodEnd (t : Time) (n : Mdll) (s : State) : Host.Outcome State Fault Refusal :=
  let s := s.at_ t
  let k := n.val
  let en := s.time - s.refNs 20000
  let s := if s.sixDue en then s.stepSix en else s
  .next (if (s.mdll k).acq = 1 ∧ (s.mdll k).enAt + s.refNs 20000 ≤ s.time then
    (s.updMdll k fun c => { c with acq := 2, fpEnd := Nat.min s.time (c.enAt + 2000000) }).setLki false
  else s)

/-- R299: the 256 consecutive reference cycles of the comparator and of the window check can have passed. -/
def State.mayLock (s : State) (n : Nat) : Bool :=
  decide ((s.mdll n).acq = 2 ∧ (s.mdll n).fpEnd + s.refNs 256 ≤ s.time ∧ s.time ≤ (s.mdll n).enAt + 5000000)

/-- R299: MDLL_LOCK. -/
def execMdllLock (t : Time) (n : Mdll) (s : State) : Host.Outcome State Fault Refusal :=
  let s := s.at_ t
  let p := pCLK n.val
  .next (if s.mayLock n.val then
    let s := ((s.setFld p CLK_STAT_STATE 2).setFld p CLK_STAT_MUTED 0).setFld p CLK_STAT_WINDOW 1
    let s := (s.updMdll n.val fun c => { c with acq := 0, phAt := s.time, rampAt := s.time }).setLki true
    (s.irq p CLK_E_LOCKDONE).discardHung
  else s)

/-- R299: LOCK_TIMEOUT: no declaration within 5 ms of the enable. -/
def execLockTimeout (n : Mdll) (s : State) : Host.Outcome State Fault Refusal :=
  let p := pCLK n.val
  .next (if (s.mdll n.val).acq = 1 ∨ (s.mdll n.val).acq = 2 then
    let s := s.at_ ((s.mdll n.val).enAt + 5000000)
    let s := (s.updMdll n.val fun c => { c with acq := 0 }).err p CLK_E_LKTO
    (if n.val < 2 then s else s.contained).log p 0x0A0 3 n.val
  else s)

/-- R300: MDLL_UNLOCK. -/
def execMdllUnlock (t : Time) (n : Mdll) (s : State) : Host.Outcome State Fault Refusal :=
  let s := s.at_ t
  let p := pCLK n.val
  .next (if s.fld p CLK_STAT_STATE = 2 ∧ s.bit p CLK_STAT_WINDOW then
    let s := ((s.setFld p CLK_STAT_WINDOW 0).err p CLK_E_UNLOCK).log p 0x0A1 3 n.val
    if n.val < 2 then s.fatal p (4 + n.val) else s.contained
  else s)

/-- R300: WINDOW_RESTORE. -/
def execWindowRestore (t : Time) (n : Mdll) (s : State) : Host.Outcome State Fault Refusal :=
  let s := s.at_ t
  let p := pCLK n.val
  .next (if s.fld p CLK_STAT_STATE = 2 ∧ !s.bit p CLK_STAT_WINDOW then s.setFld p CLK_STAT_WINDOW 1 else s)

/-! ## Frequency, spread, dividers, phase, bands (R295, R301 to R305) -/

/-- R295, R301: a write of MULT. -/
def State.doMult (s : State) (n v : Nat) : State :=
  let p := pCLK n
  let m := CLK_MULT_M.of v
  let band := s.bandOf n (s.fld p CLK_STAT_BAND)
  if n < 3 then s
  else if m < 0x040000 ∨ 0x1C0000 < m then s.err p CLK_E_BANDERR
  else if s.mdllOff n then s.setFld p CLK_MULT_M m
  else if band.2 < (m + 255) / 256 ∨ m / 256 < band.1 then s.err p CLK_E_BANDERR
  else
    let (a, s) := (s.settle n).rampNow n
    ((s.setFld p CLK_MULT_M m).setBit p CLK_STAT_RAMP (decide (m ≠ a))).updMdll n fun c => { c with rampAt := s.time }

/-- R301: MULT_WRITE. -/
def execMultWrite (t : Time) (n : Mdll) (v : Dword) (s : State) : Host.Outcome State Fault Refusal :=
  .next (s.hostWrite t (pCLK n.val * 4096 + 0x48) v.toNat fun s => s.doMult n.val v.toNat)

/-- R301: MACT is read. -/
def State.readMact (s : State) (n : Nat) : Nat × State := (s.settle n).rampNow n

/-- R301, R306: the ramp of an MDLL that tracks can have reached MULT. -/
def State.rampEnds (s : State) (n : Nat) : Bool :=
  let a := s.fld (pCLK n) CLK_MACT_M
  let m := s.fld (pCLK n) CLK_MULT_M
  s.bit (pCLK n) CLK_STAT_RAMP &&
    decide (s.fld (pCLK n) CLK_STAT_STATE = 2 ∧ Nat.max a m - Nat.min a m ≤ s.rampFar n)

/-- R301: RAMP_DONE. -/
def execRampDone (t : Time) (n : Mdll) (s : State) : Host.Outcome State Fault Refusal :=
  let s := s.at_ t
  let p := pCLK n.val
  .next (if s.rampEnds n.val then
    ((s.settle n.val).setFld p CLK_MACT_M (s.fld p CLK_MULT_M)).setFld p CLK_STAT_RAMP 0
  else s)

/-- R302: SPREAD_WRITE. -/
def execSpreadWrite (t : Time) (n : Mdll) (v : Dword) (s : State) : Host.Outcome State Fault Refusal :=
  .next (s.hostWrite t (pCLK n.val * 4096 + 0x40) v.toNat fun s => s.doClkCtrl n.val v.toNat)

/-- R304: a write of DIV. -/
def State.doDiv (s : State) (n v : Nat) : State :=
  let p := pCLK n
  if n < 3 then s
  else (((s.store p CLK_DIV_DIV0 v).store p CLK_DIV_DIV1 v).store p CLK_DIV_DIV2 v).store p CLK_DIV_DIV3 v

/-- R304: DIV_WRITE. -/
def execDivWrite (t : Time) (n : Mdll) (v : Dword) (s : State) : Host.Outcome State Fault Refusal :=
  .next (s.hostWrite t (pCLK n.val * 4096 + 0x50) v.toNat fun s => s.doDiv n.val v.toNat)

/-- R305: a write of PHASE: the count adds to the steps still pending. -/
def State.doPhase (s : State) (n v : Nat) : State :=
  let p := pCLK n
  if n < 2 then s
  else
    let s := s.settle n
    let add := max (-63) (signed7 (CLK_PHASE_STEPS.of v))
    let sum := max (-63) (min 63 (signed7 (s.fld p CLK_PHASE_PEND) + add))
    s.setFld p CLK_PHASE_PEND (sum % 128).toNat

/-- R305: PHASE_STEPS_WRITE. -/
def execPhaseStepsWrite (t : Time) (n : Mdll) (v : Dword) (s : State) :
    Host.Outcome State Fault Refusal :=
  .next (s.hostWrite t (pCLK n.val * 4096 + 0x54) v.toNat fun s => s.doPhase n.val v.toNat)

/-- R297: a write of BANDDATA. -/
def State.doBanddata (s : State) (n v : Nat) : State :=
  let p := pCLK n
  let b := s.fld p CLK_BANDIDX_BAND
  if !s.mdllOff n && decide (b = s.fld p CLK_STAT_BAND) then s.err p CLK_E_BANDERR
  else s.updPwr fun w =>
    { w with band := SMap.put none w.band (n * 16 + b) (some (CLK_BANDDATA_FMIN.of v, CLK_BANDDATA_FMAX.of v)) }

/-- R297: BANDDATA_WRITE. -/
def execBanddataWrite (t : Time) (n : Mdll) (v : Dword) (s : State) : Host.Outcome State Fault Refusal :=
  .next (s.hostWrite t (pCLK n.val * 4096 + 0x5C) v.toNat fun s => s.doBanddata n.val v.toNat)

/-! ## The reference (R306, R307) -/

/-- R306: what the loss does to one MDLL and its page: a ramp freezes where it is, acquisition stops, and STATE
becomes COAST in every page. -/
def State.loseRef (s : State) (n : Nat) : State :=
  let s := ((s.settle n).rampNow n).2
  let was := s.fld (pCLK n) CLK_STAT_STATE
  let s := s.updMdll n fun c => { c with was := was, acq := if c.acq = 0 then 0 else 3 }
  s.setFld (pCLK n) CLK_STAT_STATE 3

/-- R306: REF_LOSS. -/
def execRefLoss (t : Time) (s : State) : Host.Outcome State Fault Refusal :=
  let s := s.at_ t
  .next (if !s.refLost && s.mdllOn 0 then
    let s := (List.range 8).foldl State.loseRef s
    let s := s.updPwr fun p => { p with coastAt := some s.time, coastHit := false }
    ((s.err (pCLK 0) CLK_E_COAST).addSat (pCLK 0) CLK_COASTCNT_COUNT 1).log (pCLK 0) 0x0A2 2 0
  else s)

/-- R306, R307: what the return does to one MDLL: it has the state again that it had before the loss, a ramp
goes on, and acquisition starts again. -/
def State.regainRef (s : State) (n : Nat) : State :=
  let s := if s.fld (pCLK n) CLK_STAT_STATE = 3 then s.setFld (pCLK n) CLK_STAT_STATE (s.mdll n).was else s
  let s := s.updMdll n fun c => { c with was := 0, rampAt := s.time }
  if (s.mdll n).acq = 3 then s.updMdll n fun c => { c with enAt := s.time, acq := 1 } else s

/-- R307: REF_RETURN. -/
def execRefReturn (t : Time) (s : State) : Host.Outcome State Fault Refusal :=
  let s := s.at_ t
  .next (match s.pwr.coastAt with
    | none => s
    | some t0 =>
      let s := (List.range 8).foldl State.regainRef s
      (s.updPwr fun p => { p with coastAt := none, coastHit := false }).log (pCLK 0) 0x0A3 0
        (Nat.min (2 ^ 32 - 1) ((s.time - t0) / 1000)))

/-- R307: COAST_LIMIT. -/
def execCoastLimit (s : State) : Host.Outcome State Fault Refusal :=
  .next (match s.pwr.coastAt with
    | none => s
    | some t0 =>
      if s.pwr.coastHit then s
      else
        let s := s.at_ (t0 + s.fld (pCLK 0) CLK_REFMON_COASTLIM * 1000000)
        ((s.updPwr fun p => { p with coastHit := true }).err (pCLK 0) CLK_E_COASTLIM).fatal (pCLK 0) 6)

/-! ## Device time and stopped clocks (R308, R312) -/

/-- R24, R308: TIME_LO is read, and TIME_HI captured. -/
def State.readTimeLo (s : State) : Nat × State :=
  (s.time % 2 ^ 32, s.updPwr fun p => { p with timeCap := some (s.time / 2 ^ 32 % 2 ^ 32) })

/-- R24, R308: TIME_HI is read. -/
def State.readTimeHi (s : State) : Nat × State :=
  match s.pwr.timeCap with
  | some v => (v, s.updPwr fun p => { p with timeCap := none })
  | none => (s.time / 2 ^ 32 % 2 ^ 32, s)

/-- R308: TIME_LO_READ. -/
def execTimeLoRead (t : Time) (s : State) : Host.Outcome State Fault Refusal :=
  .next (s.hostRead t (pCLK 0 * 4096 + 0x68) fun s =>
    let (v, s) := s.readTimeLo
    s.answer [v])

/-- R312: STOPPED_CLOCK_ACCESS: a host access to a page whose clock is stopped. -/
def execStoppedClockAccess (t : Time) (addr : BitVec 21) (write : Bool) (s : State) :
    Host.Outcome State Fault Refusal :=
  .next (if pgClass (addr.toNat / 4096) = .reserved ∨ (s.at_ t).clkOn (addr.toNat / 4096) then s.at_ t
    else if write then s.hostWrite t addr.toNat 0 id else s.hostRead t addr.toNat id)

end Sys2Proof.Machine
end

