-- ==== Sys2Proof/Machine/Crypto.lean ====
section
/-! DEFINITION. The published algorithms that the manual names (spec/10_config.md R244, R245,
spec/11_flash.md R289, spec/14_lifecycle.md R344, spec/15_twin.md R351): CRC-32 as in IEEE 802.3,
SHA-256, ECDSA over P-256 and AES-256-GCM, over lists of bytes as numbers below 256. -/

namespace Sys2Proof.Machine

/-! ## Bytes -/

/-- `n` bytes of a number, least significant first. -/
def leBytes : Nat → Nat → List Nat
  | 0, _ => []
  | n + 1, v => v % 256 :: leBytes n (v / 256)

/-- The number whose bytes these are, least significant first. -/
def leNum : List Nat → Nat
  | [] => 0
  | b :: bs => b + 256 * leNum bs

/-- `n` bytes of a number, most significant first. -/
def beBytes (n v : Nat) : List Nat := (leBytes n v).reverse

/-- The number whose bytes these are, most significant first. -/
def beNum (bs : List Nat) : Nat := bs.foldl (fun n b => n * 256 + b) 0

/-- A list cut into pieces of `n`, the last one perhaps shorter; `fuel` bounds their number. -/
def chunksOf {α : Type} (n : Nat) : Nat → List α → List (List α)
  | 0, _ => []
  | _, [] => []
  | fuel + 1, xs => xs.take n :: chunksOf n fuel (xs.drop n)

/-! ## CRC-32 (IEEE 802.3) -/

/-- One bit of the CRC, least significant bit first. -/
def crc32Step (c : Nat) : Nat := if c % 2 = 1 then (c / 2) ^^^ 0xEDB88320 else c / 2

/-- One byte of the CRC. -/
def crc32Byte (c b : Nat) : Nat := (List.range 8).foldl (fun x _ => crc32Step x) (c ^^^ (b % 256))

/-- The CRC-32 of a list of bytes. -/
def crc32 (bs : List Nat) : Nat := (bs.foldl crc32Byte 0xFFFFFFFF) ^^^ 0xFFFFFFFF

/-! ## SHA-256 -/

/-- The round constants. -/
def shaK : List Nat :=
  [0x428a2f98, 0x71374491, 0xb5c0fbcf, 0xe9b5dba5, 0x3956c25b, 0x59f111f1, 0x923f82a4, 0xab1c5ed5] ++
  [0xd807aa98, 0x12835b01, 0x243185be, 0x550c7dc3, 0x72be5d74, 0x80deb1fe, 0x9bdc06a7, 0xc19bf174] ++
  [0xe49b69c1, 0xefbe4786, 0x0fc19dc6, 0x240ca1cc, 0x2de92c6f, 0x4a7484aa, 0x5cb0a9dc, 0x76f988da] ++
  [0x983e5152, 0xa831c66d, 0xb00327c8, 0xbf597fc7, 0xc6e00bf3, 0xd5a79147, 0x06ca6351, 0x14292967] ++
  [0x27b70a85, 0x2e1b2138, 0x4d2c6dfc, 0x53380d13, 0x650a7354, 0x766a0abb, 0x81c2c92e, 0x92722c85] ++
  [0xa2bfe8a1, 0xa81a664b, 0xc24b8b70, 0xc76c51a3, 0xd192e819, 0xd6990624, 0xf40e3585, 0x106aa070] ++
  [0x19a4c116, 0x1e376c08, 0x2748774c, 0x34b0bcb5, 0x391c0cb3, 0x4ed8aa4a, 0x5b9cca4f, 0x682e6ff3] ++
  [0x748f82ee, 0x78a5636f, 0x84c87814, 0x8cc70208, 0x90befffa, 0xa4506ceb, 0xbef9a3f7, 0xc67178f2]

/-- The initial hash value. -/
def shaH0 : List Nat :=
  [0x6a09e667, 0xbb67ae85, 0x3c6ef372, 0xa54ff53a, 0x510e527f, 0x9b05688c, 0x1f83d9ab, 0x5be0cd19]

/-- Rotation of a 32-bit number to the right. -/
def rotr (n x : Nat) : Nat := x / 2 ^ n ||| x % 2 ^ n * 2 ^ (32 - n)

/-- The complement of a 32-bit number. -/
def not32 (x : Nat) : Nat := 0xFFFFFFFF - x

/-- The message schedule, newest word first. -/
def shaSchedule : Nat → List Nat → List Nat
  | 0, w => w
  | n + 1, w =>
    let a := w.getD 1 0
    let b := w.getD 14 0
    let s1 := rotr 17 a ^^^ rotr 19 a ^^^ a / 2 ^ 10
    let s0 := rotr 7 b ^^^ rotr 18 b ^^^ b / 2 ^ 3
    shaSchedule n ((w.getD 15 0 + s0 + w.getD 6 0 + s1) % 2 ^ 32 :: w)

/-- One round: the working variables a to h, with the constant and schedule word. -/
def shaRound (v : List Nat) (kw : Nat × Nat) : List Nat :=
  match v with
  | [a, b, c, d, e, f, g, h] =>
    let s1 := rotr 6 e ^^^ rotr 11 e ^^^ rotr 25 e
    let ch := (e &&& f) ^^^ (not32 e &&& g)
    let t1 := h + s1 + ch + kw.1 + kw.2
    let s0 := rotr 2 a ^^^ rotr 13 a ^^^ rotr 22 a
    let maj := (a &&& b) ^^^ (a &&& c) ^^^ (b &&& c)
    [(t1 + s0 + maj) % 2 ^ 32, a, b, c, (d + t1) % 2 ^ 32, e, f, g]
  | _ => v

/-- One block of 64 bytes. -/
def shaBlock (h : List Nat) (block : List Nat) : List Nat :=
  let w := shaSchedule 48 ((chunksOf 4 16 block).map beNum).reverse
  let v := (shaK.zip w.reverse).foldl shaRound h
  (h.zip v).map fun x => (x.1 + x.2) % 2 ^ 32

/-- The message with its padding. -/
def shaPad (bs : List Nat) : List Nat :=
  let n := bs.length
  bs ++ 0x80 :: List.replicate ((119 - n % 64) % 64) 0 ++ beBytes 8 (8 * n)

/-- SHA-256 as a number. -/
def sha256 (bs : List Nat) : Nat :=
  let m := shaPad bs
  ((chunksOf 64 (m.length / 64) m).foldl shaBlock shaH0).foldl (fun n w => n * 2 ^ 32 + w) 0

/-! ## ECDSA over P-256 -/

/-- The field prime, the group order, the coefficient b and the base point. -/
def p256P : Nat := 0xffffffff00000001000000000000000000000000ffffffffffffffffffffffff
def p256N : Nat := 0xffffffff00000000ffffffffffffffffbce6faada7179e84f3b9cac2fc632551
def p256B : Nat := 0x5ac635d8aa3a93e7b3ebbd55769886bc651d06b0cc53b0f63bce3c3e27d2604b
def p256G : Nat × Nat :=
  (0x6b17d1f2e12c4247f8bce6e563a440f277037d812deb33a0f4a13945d898c296,
   0x4fe342e2fe1a7f9b8ee7eb4a7c0f9e162bce33576b315ececbb6406837bf51f5)

/-- The power of `b` to the low `n` bits of `e`, modulo `m`. -/
def powMod (m : Nat) : Nat → Nat → Nat → Nat
  | 0, _, _ => 1
  | n + 1, b, e =>
    let r := powMod m n (b * b % m) (e / 2)
    if e % 2 = 1 then r * b % m else r

/-- The inverse modulo a prime. -/
def invMod (m a : Nat) : Nat := powMod m 256 (a % m) (m - 2)

/-- Subtraction modulo `m`. -/
def subMod (m a b : Nat) : Nat := (a % m + m - b % m) % m

/-- Addition of points; none is the point at infinity. -/
def p256Add (a b : Option (Nat × Nat)) : Option (Nat × Nat) :=
  match a, b with
  | none, _ => b
  | _, none => a
  | some (x1, y1), some (x2, y2) =>
    let p := p256P
    if x1 = x2 ∧ (y1 + y2) % p = 0 then none
    else
      let k := if x1 = x2 then (3 * x1 * x1 + (p - 3)) * invMod p (2 * y1) % p
        else subMod p y2 y1 * invMod p (subMod p x2 x1) % p
      let x := subMod p (subMod p (k * k) x1) x2
      some (x, subMod p (k * subMod p x1 x) y1)

/-- A multiple of a point, by the low `n` bits of `k`. -/
def p256Mul : Nat → Nat → Option (Nat × Nat) → Option (Nat × Nat)
  | 0, _, _ => none
  | n + 1, k, q =>
    let r := p256Mul n (k / 2) (p256Add q q)
    if k % 2 = 1 then p256Add r q else r

/-- The signature (r, s) of a hash verifies under the public key (x, y). -/
def p256Verify (hash x y r s : Nat) : Bool :=
  let p := p256P
  let n := p256N
  let onCurve := decide (x < p ∧ y < p ∧ y * y % p = (x * x * x + (p - 3) * x + p256B) % p)
  if !onCurve || decide (r = 0 ∨ n ≤ r ∨ s = 0 ∨ n ≤ s) then false
  else
    let w := invMod n s
    match p256Add (p256Mul 256 (hash * w % n) (some p256G)) (p256Mul 256 (r * w % n) (some (x, y))) with
    | none => false
    | some q => decide (q.1 % n = r)

/-! ## AES-256-GCM -/

/-- Multiplication by x in GF(2^8). -/
def xtime (a : Nat) : Nat := let b := a * 2; if 256 ≤ b then b ^^^ 0x11B else b

/-- Multiplication in GF(2^8), by the low `n` bits of `b`. -/
def gfMul : Nat → Nat → Nat → Nat
  | 0, _, _ => 0
  | n + 1, a, b => (if b % 2 = 1 then a else 0) ^^^ gfMul n (xtime a) (b / 2)

/-- The inverse in GF(2^8); 0 has 0. -/
def gfInv (a : Nat) : Nat := (List.range 253).foldl (fun x _ => gfMul 8 x a) a

/-- The S-box. -/
def sbox (a : Nat) : Nat :=
  let b := gfInv a
  let rot (k : Nat) : Nat := (b * 2 ^ k ||| b / 2 ^ (8 - k)) % 256
  b ^^^ rot 1 ^^^ rot 2 ^^^ rot 3 ^^^ rot 4 ^^^ 0x63

/-- The exclusive or of two lists of bytes. -/
def xorBytes (a b : List Nat) : List Nat := (a.zip b).map fun x => x.1 ^^^ x.2

/-- The expanded key, newest word of four bytes first; `i` counts the words made. -/
def aesExpand : Nat → Nat → Nat → List (List Nat) → List (List Nat)
  | 0, _, _, w => w
  | n + 1, i, rcon, w =>
    let t := w.headD []
    let old := w.getD 7 []
    if i % 8 = 0 then
      let u := (t.drop 1 ++ t.take 1).map sbox
      aesExpand n (i + 1) (xtime rcon) (xorBytes old (xorBytes u [rcon, 0, 0, 0]) :: w)
    else aesExpand n (i + 1) rcon (xorBytes old (if i % 8 = 4 then t.map sbox else t) :: w)

/-- The fifteen round keys. -/
def aesKeys (key : List Nat) : List (List Nat) :=
  chunksOf 16 15 (aesExpand 52 8 1 (chunksOf 4 8 key).reverse).reverse.flatten

/-- The rows shifted: byte i of column c comes from column c + i. -/
def shiftRows (s : List Nat) : List Nat :=
  (List.range 16).map fun k => s.getD ((k % 4) + 4 * ((k / 4 + k % 4) % 4)) 0

/-- One column mixed. -/
def mixColumn (c : List Nat) : List Nat :=
  match c with
  | [a, b, c, d] =>
    [xtime a ^^^ (xtime b ^^^ b) ^^^ c ^^^ d, a ^^^ xtime b ^^^ (xtime c ^^^ c) ^^^ d,
     a ^^^ b ^^^ xtime c ^^^ (xtime d ^^^ d), (xtime a ^^^ a) ^^^ b ^^^ c ^^^ xtime d]
  | _ => c

/-- The rounds after the first key has been added. -/
def aesRounds : List (List Nat) → List Nat → List Nat
  | [], s => s
  | [k], s => xorBytes (shiftRows (s.map sbox)) k
  | k :: ks, s =>
    aesRounds ks (xorBytes ((chunksOf 4 4 (shiftRows (s.map sbox))).map mixColumn).flatten k)

/-- AES-256 of one block under an expanded key. -/
def aesBlock (ks : List (List Nat)) (block : List Nat) : List Nat :=
  match ks with
  | [] => block
  | k :: ks => aesRounds ks (xorBytes block k)

/-- Multiplication in the field of GHASH; bit 127 is the first. -/
def ghashMul : Nat → Nat → Nat → Nat → Nat
  | 0, z, _, _ => z
  | n + 1, z, v, x =>
    let z := if x.testBit n then z ^^^ v else z
    ghashMul n z (if v % 2 = 1 then v / 2 ^^^ 0xE1 * 2 ^ 120 else v / 2) x

/-- GHASH of a list of 128-bit blocks. -/
def ghash (h : Nat) (blocks : List Nat) : Nat := blocks.foldl (fun y x => ghashMul 128 0 h (y ^^^ x)) 0

/-- Bytes as 128-bit blocks, the last filled with zeros. -/
def blocks128 (bs : List Nat) : List Nat :=
  (chunksOf 16 ((bs.length + 15) / 16) bs).map fun b => beNum (b ++ List.replicate (16 - b.length) 0)

/-- GCM: the plain text and tag of a cipher text, with a 12-byte IV. -/
def gcmOpen (key iv aad cipher : List Nat) : List Nat × Nat :=
  let ks := aesKeys key
  let h := beNum (aesBlock ks (List.replicate 16 0))
  let ctr (n : Nat) : List Nat := aesBlock ks (iv ++ beBytes 4 n)
  let n := (cipher.length + 15) / 16
  let plain := ((chunksOf 16 n cipher).zipIdx.map fun x => xorBytes x.1 (ctr (x.2 + 2))).flatten
  let s := ghash h (blocks128 aad ++ blocks128 cipher ++ [aad.length * 8 * 2 ^ 64 + cipher.length * 8])
  (plain, s ^^^ beNum (ctr 1))

end Sys2Proof.Machine
end

