-- ==== Sys2Proof/Machine/Flash.lean ====
section
/-! DEFINITION. The configuration flash die, the service mailbox and the routines of the service ROM
(spec/11_flash.md): blocks, spares and erases, FL_READ to FL_INFO, the OTP row, the protection zones,
the log-save area, the staging window, and background work. -/

namespace Sys2Proof.Machine

/-! ## The die (R265 to R267) -/

/-- R266, R268: a user-data block, and a block of slots 0 to 7. -/
def userBlock (b : Nat) : Bool := decide (b < 512 ∧ 83 ≤ b % 128 ∧ b % 128 ≤ 122)
def slotBlock (b : Nat) : Bool := decide (b < 512 ∧ 3 ≤ b % 128 ∧ b % 128 ≤ 82)

/-- R267: the physical block of a logical block. -/
def State.physBlock (s : State) (b : Nat) : Nat := SMap.get b s.fls.tbl b

/-- R267, R280: a physical block that no logical block maps to and that is not retired. -/
def State.inPool (s : State) (p : Nat) : Bool :=
  !s.fls.bad.any (fun x => x.phys = p) && !s.fls.tbl.any (fun x => x.2 = p) &&
    (decide (123 ≤ p % 128) || decide (s.physBlock p ≠ p))

/-- R281: an ERASE_PENDING physical block. -/
def State.pendingBlock (s : State) (p : Nat) : Bool := SMap.get false s.fls.flag p

/-- R280: a logical block that is retired without replacement. -/
def State.retiredBlock (s : State) (b : Nat) : Bool :=
  s.fls.bad.any fun x => x.logical = b && !x.replaced && x.phys == s.physBlock b

/-- R280: the erased spares, in ascending order. -/
def State.spares (s : State) : List Nat :=
  (List.range 512).filter fun p => s.inPool p && !s.pendingBlock p

/-- R267: the spare that replaces a block of a plane. -/
def State.spareFor (s : State) (plane : Nat) : Option Nat :=
  match s.spares.find? fun p => p / 128 = plane with
  | some p => some p
  | none => s.spares.head?

/-- R281: the number of ERASE_PENDING blocks. -/
def State.pendCount (s : State) : Nat := s.fls.flag.length

/-- A physical page that is not blank. -/
def State.usedPage (s : State) (pg : Nat) : Bool := SMap.get false s.fls.used pg

/-- A byte of a logical block. -/
def State.flashByte (s : State) (b off : Nat) : Nat :=
  (SMap.get (0xFF : Byte) s.fls.mem (s.physBlock b * 262144 + off)).toNat

/-- R276: `n` bytes of a logical block from `off`; the bytes of an uncorrectable sector are free. -/
def State.flashRead (s : State) (unc : List Nat) (b off n : Nat) : List Nat :=
  (List.range n).map fun i =>
    if unc.contains (s.physBlock b * 512 + (off + i) / 512) then Config.freeValue (s.free + i) % 256
    else s.flashByte b (off + i)

/-- A physical block becomes blank and free of its flag. -/
def blankBlock (f : Fls) (p : Nat) : Fls :=
  { f with
    mem := SMap.clearRange f.mem (p * 262144) ((p + 1) * 262144)
    used := SMap.clearRange f.used (p * 128) ((p + 1) * 128)
    flag := SMap.put false f.flag p false
    cells := SMap.put false f.cells p false
    returned := SMap.put false f.returned p false }

/-- R290: a journal takes a record. -/
def State.journal (s : State) (plane : Nat) : State :=
  s.updFls fun f => { f with jused := SMap.put 0 f.jused plane (SMap.get 0 f.jused plane + 1) }

/-- R281, R290: an erase begins with the erase counter, in its journal, and with the flag cell. -/
def State.eraseBegin (s : State) (p : Nat) : State :=
  (s.updFls fun f =>
    { f with
      ecnt := SMap.put 0 f.ecnt p (SMap.get 0 f.ecnt p + 1)
      cells := SMap.put false f.cells p true }).journal 2

/-- R281: PENDCNT returns to 0. -/
def State.pendGone (was : State) (s : State) : State :=
  if was.pendCount ≠ 0 ∧ s.pendCount = 0 then s.irq pFLS FLS_E_BGDONE else s

/-- R280: 4 or fewer erased spares remain. -/
def State.poolCheck (s : State) : State :=
  if s.spares.length ≤ 4 then s.err pFLS FLS_E_POOLLOW else s

/-- R280, R290: a logical block is mapped to a spare, in the block table's journal. -/
def State.mapTo (s : State) (b p : Nat) : State :=
  (s.updFls fun f => { f with tbl := SMap.put b f.tbl b p }).journal 1

/-- R280: an erased spare has become free: a block retired without replacement takes it. -/
def State.fillRetired (s : State) : State :=
  match s.fls.bad.find? fun x => !x.replaced && decide (x.logical < 512) with
  | none => s
  | some x =>
    match s.spareFor (x.logical / 128) with
    | none => s
    | some p =>
      ((s.mapTo x.logical p).updFls fun f =>
        { f with bad := f.bad.map fun y => if y = x then { y with replaced := true } else y }).poolCheck

/-- R280: a physical block that served logical block `b` fails its erase and is retired; the result
says whether a spare replaced it. -/
def State.retireBlock (s : State) (b p : Nat) : State × Bool :=
  let s := s.updFls fun f => blankBlock f p
  let spare := s.spareFor (b / 128)
  let s := (s.updFls fun f => { f with bad := f.bad ++ [⟨b, p, 2, spare.isSome⟩] }).journal 1
  let s := match spare with
    | some q => s.mapTo b q
    | none => s
  let s := ((s.err pFLS FLS_E_RETIRED).contained).log pFLS 0x090 3 (b * 65536 + p)
  (s.poolCheck, spare.isSome)

/-- What the cells answer for a key; `d` where the environment names none. -/
def envAt (m : List (Nat × Nat)) (d k : Nat) : Nat :=
  match m.find? fun x => x.1 = k with
  | some x => x.2
  | none => d

/-- R279: pulses that the erase of a block needs. -/
def pulsesOf (env : FlashEnv) (p : Nat) : Nat := envAt env.pulses 6 p

/-- R281, R282: the worst margin count among the pages of a physical block that `f` selects, with its
lowest page; a sector that is uncorrectable at the margin counts as 9. -/
def State.worstPage (s : State) (env : FlashEnv) (p : Nat) (f : Bool → Bool) : Option (Nat × Nat) :=
  ((List.range 128).filter fun n => f (s.usedPage (p * 128 + n))).foldl
    (fun best n =>
      let c := Nat.min 9 (envAt env.margin 0 (p * 128 + n))
      match best with
      | none => some (c, n)
      | some (m, k) => if m < c then some (c, n) else some (m, k)) none

/-- R279: the outcome of an erase of logical block `b`: its status, pulses and whether a retired block
was replaced. -/
def State.erase (s : State) (env : FlashEnv) (b : Nat) : State × Nat × Nat × Bool :=
  let p := s.physBlock b
  let pulses := Nat.min 40 (pulsesOf env p)
  let was := s
  let s := s.eraseBegin p
  let s := (s.setFld pFLS FLS_LASTERS_PULSES pulses).setFld pFLS FLS_LASTERS_BLOCK p
  if 40 < pulsesOf env p then
    let (s, r) := s.retireBlock b p
    (State.pendGone was s, stRETIRED, pulses, r)
  else
    let s := State.pendGone was (s.updFls fun f => blankBlock f p)
    let worst := ((s.worstPage env p not).getD (0, 0)).1
    let slow := decide (s.fld pFLS FLS_CTRL_ERSLOW < pulses)
    if s.fld pFLS FLS_CTRL_MWTHR ≤ worst then (s.err pFLS FLS_E_MWEAK, stMWEAK, pulses, false)
    else if slow then (s.err pFLS FLS_E_ESLOW, stESLOW, pulses, false)
    else (s, stOK, pulses, false)

/-- R277, R278: the cells of a physical page take data; a page that does not read back holds free
bytes. -/
def State.programPage (s : State) (pg : Nat) (data : List Nat) (ok : Bool) : State :=
  let bytes : List Byte := if ok then data.map (BitVec.ofNat 8)
    else (List.range 2048).map fun i => BitVec.ofNat 8 (Config.freeValue (s.free + i))
  { (s.updFls fun f =>
      { f with
        mem := SMap.putAll 0xFF f.mem (pg * 2048) bytes
        used := SMap.put false f.used pg true }) with
    free := if ok then s.free else s.free + 2048 }

/-- R277: the status that stops FL_PROG before page `n` of a physical block, if any. -/
def State.progStop (s : State) (p n : Nat) : Option Nat :=
  if (List.range 128).any fun k => decide (n < k) && s.usedPage (p * 128 + k) then some stORDER
  else if s.usedPage (p * 128 + n) then some stNOTERASED
  else none

/-- R277, R278: pages are programmed in ascending order; the result gives the status and how many were
programmed. -/
def State.program (s : State) (bad : List Nat) (p first : Nat) : List (List Nat) → Nat → State × Nat × Nat
  | [], n => (s, stOK, n)
  | d :: ds, n =>
    match s.progStop p (first + n) with
    | some st => (s, st, n)
    | none =>
      let pg := p * 128 + first + n
      if bad.contains pg then (s.programPage pg d false, stVERIFY, n)
      else State.program (s.programPage pg d true) bad p first ds (n + 1)

/-! ## The staging window (R251) -/

/-- Data that a routine leaves in the staging window, from offset 0. -/
def State.fillWindow (s : State) (data : List Nat) : State :=
  s.updCfg fun c => { c with stg := SMap.putAll 0 c.stg 0 (data.map (BitVec.ofNat 8)) }

/-- R251 step 1: the running routine asks for chunk `n` of `slot`. -/
def State.askChunk (s : State) (t : Time) (slot n : Nat) : State :=
  let s := ((s.setFld pCFG CFG_STGSTAT_REQ 1).setFld pCFG CFG_STGSTAT_SLOT slot).setFld pCFG
    CFG_STGSTAT_CHUNK n
  let by_ := t + s.fld pCFG CFG_STGTO_TIME * 1000000
  ((s.updCfg fun c => { c with stgBy := by_, stgAt := t }).updFls fun f =>
    { f with run := f.run.map fun r => { r with step := 1, chunk := n } }).irq pCFG CFG_E_STGREQ

/-- The four bytes of a written dword, with the byte enables, into the staging window. -/
def State.stgBytes (s : State) (off v be : Nat) : State :=
  (List.range 4).foldl (fun s i =>
    if be.testBit i then
      s.updCfg fun c => { c with stg := SMap.put 0 c.stg (off + i) (BitVec.ofNat 8 (v / 2 ^ (8 * i))) }
    else s) s

/-- R251 step 2: a write of the staging window. -/
def State.doStaging (s : State) (off v be : Nat) : State :=
  if be = 0 then s
  else if s.bit pCFG CFG_STGSTAT_REQ then s.stgBytes off v be
  else s.err pCFG CFG_E_STGERR

/-- R251: STAGING_WRITE. -/
def execStagingWrite (t : Time) (off : BitVec 18) (v : Dword) (be : BitVec 4) (s : State) :
    Host.Outcome State Fault Refusal :=
  .next (s.hostWrite2 t pCFG (0x2C00000 + off.toNat) false [] fun s =>
    s.doStaging (off.toNat / 4 * 4) v.toNat be.toNat)

/-- R251 steps 3 and 4: a write of STGCTL. -/
def State.doStgctl (s : State) (v : Nat) : State :=
  if CFG_STGCTL_DONE.of v = 0 then s
  else if s.bit pCFG CFG_STGSTAT_REQ && decide (CFG_STGCTL_CHUNK.of v = s.fld pCFG CFG_STGSTAT_CHUNK) then
    let n := s.fld pCFG CFG_STGSTAT_CHUNK
    let asked := s.cfg.stgAt
    let window := s.cfg.stg
    (s.setFld pCFG CFG_STGSTAT_REQ 0).updFls fun f =>
      { f with
        buf := SMap.paste 0 (n % 4 * 262144) (SMap.clearRange f.buf (n % 4 * 262144)
          (n % 4 * 262144 + 262144)) window
        run := f.run.map fun r => { r with step := 2, since := r.since + (s.time - asked) } }
  else s.err pCFG CFG_E_STGERR

/-- R251: STGCTL_DONE. -/
def execStgctlDone (t : Time) (v : Dword) (s : State) : Host.Outcome State Fault Refusal :=
  .next (s.hostWrite t (pCFG * 4096 + 0x88) v.toNat fun s => s.doStgctl v.toNat)

/-- R251: bytes of the program buffer. -/
def State.bufBytes (s : State) (off n : Nat) : List Nat :=
  (SMap.getAll (0 : Byte) s.fls.buf off n).map BitVec.toNat

/-! ## The mailbox and the sequencer (R269 to R274) -/

/-- The routine codes of the catalogue. -/
def routineCodes : List Nat :=
  [0x01, 0x02, 0x03, 0x04, 0x05, 0x06, 0x07, 0x08, 0x09, 0x0A, 0x0B, 0x0C, 0x10, 0x11, 0x12, 0x18]

/-- R273: the read-only routines. -/
def readOnly (code : Nat) : Bool := [0x01, 0x04, 0x05, 0x07, 0x08, 0x12, 0x18].contains code

/-- R269: SVC.ISSUE.QUEUED: requests issued whose completions are unread. -/
def State.queued (s : State) : Nat :=
  s.fls.queue.length + (if s.fls.run.isSome then 1 else 0) + s.fls.cpls.length

/-- SVC.ACTIVE and FLS.STAT, as the sequencer stands. -/
def State.showSeq (s : State) : State :=
  let s := match s.fls.run with
    | some r => ((s.setFld pSVC SVC_ACTIVE_STATUS stBUSY).setFld pSVC SVC_ACTIVE_TAG r.req.tag).setFld
        pSVC SVC_ACTIVE_CODE r.req.code
    | none => ((s.setFld pSVC SVC_ACTIVE_STATUS stOK).setFld pSVC SVC_ACTIVE_TAG 0).setFld pSVC
        SVC_ACTIVE_CODE 0
  match s.fls.bg with
  | some b => ((s.setFld pFLS FLS_STAT_BGSTATUS (if b.susp then stSUSP else stBUSY)).setFld pFLS
      FLS_STAT_BGOP b.op).setFld pFLS FLS_STAT_BGBLOCK b.block
  | none => ((s.setFld pFLS FLS_STAT_BGSTATUS stOK).setFld pFLS FLS_STAT_BGOP 0).setFld pFLS
      FLS_STAT_BGBLOCK 0

/-- R270, R273: the oldest request starts when no routine and no background operation runs. -/
def State.startRoutine (s : State) : State :=
  match s.fls.run, s.fls.bg, s.fls.queue with
  | none, none, r :: rs =>
    (s.updFls fun f => { f with queue := rs, run := some ⟨r, s.time, 0, 0, 0, 0, []⟩ }).showSeq
  | _, _, _ => s.showSeq

/-- R270: the running routine posts its completion; VERIFY_FAIL and TIMEOUT are contained errors
(R372). The next routine starts unless the background operation has to resume first (R273). -/
def State.endRoutine (s : State) (status result : Nat) : State :=
  match s.fls.run with
  | none => s
  | some r =>
    let s := s.updFls fun f =>
      { f with
        run := none
        cpls := f.cpls ++ [⟨r.req.code, r.req.tag, status % 256, result % 2 ^ 32⟩] }
    let s := s.setFld pCFG CFG_STGSTAT_REQ 0
    let s := s.irq pSVC SVC_E_CPL
    let s := if status = stOK ∨ status = stESLOW ∨ status = stMWEAK then s else s.err pSVC SVC_E_RTFAIL
    let s := if status = stVERIFY ∨ status = stTIMEOUT then s.contained else s
    s.startRoutine

/-- A routine ends with a status and a RESULT that the manual does not give. -/
def State.endOpen (s : State) (status : Nat) : State :=
  let (v, s) := s.takeFree 32
  s.endRoutine status v

/-- R269, R335: a write of SVC.CMD. -/
def State.doSvcCmd (s : State) (v : Nat) : State :=
  let code := SVC_CMD_CODE.of v
  let tag := SVC_CMD_TAG.of v
  let st := if s.pwr.trans.isSome ∨ 8 ≤ s.queued then stBUSY
    else if routineCodes.contains code then stOK else stBADARG
  let s := (s.setFld pSVC SVC_ISSUE_STATUS st).setFld pSVC SVC_ISSUE_TAG tag
  if st = stOK then
    let args := (List.range 8).map fun i => s.fld pSVC (SVC_ARG_VALUE i)
    (s.updFls fun f => { f with queue := f.queue ++ [⟨code, tag, args⟩] }).startRoutine
  else s.err pSVC SVC_E_ISSREF

/-- R269: SVC_CMD_WRITE. -/
def execSvcCmdWrite (t : Time) (v : Dword) (s : State) : Host.Outcome State Fault Refusal :=
  .next (s.hostWrite t (pSVC * 4096 + 0x60) v.toNat fun s => s.doSvcCmd v.toNat)

/-- R270: a read of SVC.CPL. -/
def State.readCpl (s : State) : Nat × State :=
  match s.fls.cpls with
  | [] => (0, s)
  | c :: cs => (2 ^ 31 + c.tag * 65536 + c.code * 256 + c.status, s.updFls fun f => { f with cpls := cs })

/-- R270: CPL_READ. -/
def execCplRead (t : Time) (s : State) : Host.Outcome State Fault Refusal :=
  .next (s.hostRead t (pSVC * 4096 + 0x6C) fun s =>
    let (v, s) := s.readCpl
    s.answer [v])

/-- The copy of ARGi. -/
def Run.arg (r : Run) (i : Nat) : Nat := r.req.args.getD i 0

/-- R271: the limit of a routine in ns. -/
def limitOf (r : Run) : Nat :=
  match r.req.code with
  | 0x01 => 10000000
  | 0x02 => 300000000
  | 0x03 => 2500000000
  | 0x04 => 20000000
  | 0x05 => 20000000 * r.arg 1
  | 0x06 => 400000000
  | 0x07 => 1000000
  | 0x08 => 1000000
  | 0x09 => 2000000 * (r.arg 1 / 16)
  | 0x10 => 60000000000
  | 0x12 => 60000000000
  | 0x18 => 1000000
  | _ => 50000000

/-- R271: a routine has used more than its limit at `t`. -/
def Run.over (r : Run) (t : Time) : Bool := decide (r.step ≠ 1 ∧ r.since + limitOf r < t)

/-- The routine that runs, when it is of this code, is checked or goes on at time `t`, within its limit (R271). -/
def State.routine (s : State) (t : Time) (code : Nat) (f : Run → State → State) : State :=
  let s := s.at_ t
  match s.fls.run with
  | none => s
  | some r => if r.req.code = code ∧ r.step ≠ 1 ∧ !s.pwr.pfwBlock ∧ !r.over s.time then f r s else s

/-- R272 step 1: SCRAP is in force. -/
def State.inScrap (s : State) : Bool := decide (s.pwr.lcs = 4)

/-- R272 steps 4 and 5: the status of a target block, if it stops a routine. -/
def State.blockStop (s : State) (b : Nat) : Option Nat :=
  if s.pendingBlock (s.physBlock b) then some stBUSY
  else if s.retiredBlock b then some stRETIRED
  else none

/-- R288: a zone is locked; the zone of a block. -/
def State.zoneLocked (s : State) (z : Nat) : Bool := s.fls.zperm.testBit z && !s.fls.zsess.testBit z
def State.protectedBlock (s : State) (b : Nat) : Bool := s.zoneLocked (b / 32)

/-- R271: the pages of FL_READ and FL_PROG are legal. -/
def Run.pagesOk (r : Run) : Bool := decide (1 ≤ r.arg 2 ∧ r.arg 2 ≤ 128 ∧ r.arg 1 + r.arg 2 ≤ 128)

/-! ## FL_READ to FL_INFO (R276 to R284) -/

/-- R276: FL_READ. -/
def execFlRead (t : Time) (env : FlashEnv) (s : State) : Host.Outcome State Fault Refusal :=
  .next (s.routine t 0x01 fun r s =>
    let b := r.arg 0
    if s.inScrap then s.endOpen stLCS
    else if !((userBlock b || slotBlock b) && r.pagesOk) then s.endOpen stBADARG
    else match s.blockStop b with
      | some st => s.endOpen st
      | none =>
        let n := r.arg 2 * 2048
        let off := r.arg 1 * 2048
        let p := s.physBlock b
        let bad := env.unc.any fun x => decide (p * 512 + r.arg 1 * 4 ≤ x ∧ x < p * 512 + (r.arg 1 + r.arg 2) * 4)
        let data := s.flashRead env.unc b off n
        let s := { s.fillWindow data with free := if bad then s.free + n else s.free }
        s.endRoutine (if bad then stVERIFY else stOK) (Nat.min 8 env.corr))

/-- R277: FL_PROG: the request is checked and its chunk asked for, then the pages are programmed. -/
def execFlProg (t : Time) (env : FlashEnv) (s : State) : Host.Outcome State Fault Refusal :=
  .next (s.routine t 0x02 fun r s =>
    let b := r.arg 0
    let p := s.physBlock b
    if r.step = 2 then
      let pages := chunksOf 2048 (r.arg 2) (s.bufBytes 0 (r.arg 2 * 2048))
      let (s, st, n) := s.program env.progBad p (r.arg 1) pages 0
      s.endRoutine st n
    else if s.inScrap then s.endOpen stLCS
    else if !(userBlock b && r.pagesOk) then s.endOpen stBADARG
    else if s.protectedBlock b then s.endOpen stPROTECTED
    else match s.blockStop b with
      | some st => s.endOpen st
      | none =>
        match s.progStop p (r.arg 1) with
        | some st => s.endRoutine st 0
        | none => s.askChunk s.time 0 0)

/-- R279, R280: FL_ERASE. -/
def execFlErase (t : Time) (env : FlashEnv) (s : State) : Host.Outcome State Fault Refusal :=
  .next (s.routine t 0x03 fun r s =>
    let b := r.arg 0
    if s.inScrap then s.endOpen stLCS
    else if !userBlock b then s.endOpen stBADARG
    else if s.protectedBlock b then s.endOpen stPROTECTED
    else if s.retiredBlock b then s.endOpen stRETIRED
    else
      let (s, st, pulses, replaced) := s.erase env b
      s.endRoutine st (replaced.toNat * 2 ^ 31 + pulses))

/-- R282: the outcome of a margin verify of a block: failed, and the worst count with its page. -/
def State.marginOf (s : State) (env : FlashEnv) (p : Nat) (f : Bool → Bool) : Bool × Option (Nat × Nat) :=
  (env.unc.any fun x => decide (x / 512 = p) && f (s.usedPage (x / 4)), s.worstPage env p f)

/-- R282: FL_VERIFY. -/
def execFlVerify (t : Time) (env : FlashEnv) (s : State) : Host.Outcome State Fault Refusal :=
  .next (s.routine t 0x04 fun r s =>
    let b := r.arg 0
    if s.inScrap then s.endOpen stLCS
    else if !(userBlock b || slotBlock b) then s.endOpen stBADARG
    else match s.blockStop b with
      | some st => s.endOpen st
      | none =>
        match s.marginOf env (s.physBlock b) fun used => used != decide (r.arg 1 % 2 = 1) with
        | (true, _) => s.endOpen stVERIFY
        | (false, none) =>
          let (v, s) := s.takeFree 7
          s.endRoutine stOK v
        | (false, some (c, n)) =>
          if s.fld pFLS FLS_CTRL_MWTHR ≤ c then
            (s.err pFLS FLS_E_MWEAK).endRoutine stMWEAK (c * 2 ^ 24 + n)
          else s.endRoutine stOK (c * 2 ^ 24 + n))

/-- R283: the blocks of a range that FL_SCAN reads. -/
def State.scanned (s : State) (b : Nat) : Bool :=
  (userBlock b || slotBlock b) && !s.pendingBlock (s.physBlock b) && !s.retiredBlock b &&
    (List.range 128).any fun n => s.usedPage (s.physBlock b * 128 + n)

/-- R283: FL_SCAN. -/
def execFlScan (t : Time) (env : FlashEnv) (s : State) : Host.Outcome State Fault Refusal :=
  .next (s.routine t 0x05 fun r s =>
    if s.inScrap then s.endOpen stLCS
    else if 512 < r.arg 0 + r.arg 1 then s.endOpen stBADARG
    else
      let blocks := ((List.range (r.arg 1)).map (· + r.arg 0)).filter s.scanned
      let m (b : Nat) := s.marginOf env (s.physBlock b) id
      let failed := blocks.filter fun b => (m b).1
      let weak := blocks.filter fun b => !(m b).1 &&
        decide (s.fld pFLS FLS_CTRL_MWTHR ≤ ((m b).2.getD (0, 0)).1)
      let poor := blocks.filter fun b => failed.contains b || weak.contains b
      match poor with
      | [] =>
        let (v, s) := s.takeFree 9
        s.endRoutine stOK v
      | b :: _ =>
        let result := poor.length * 65536 + b
        if failed.isEmpty then (s.err pFLS FLS_E_MWEAK).endRoutine stMWEAK result
        else s.endRoutine stVERIFY result)

/-- R284, R290: a physical block returns to the spare pool as ERASE_PENDING, in the block table's journal. -/
def State.toPool (s : State) (p : Nat) : State :=
  (s.updFls fun f =>
    { f with flag := SMap.put false f.flag p true, returned := SMap.put false f.returned p true }).journal 1

/-- R284: the cells of one physical block copied into another. -/
def copyBlock (f : Fls) (p q : Nat) : Fls :=
  { f with
    mem := SMap.paste 0xFF (q * 262144) f.mem (SMap.slice f.mem (p * 262144) ((p + 1) * 262144))
    used := SMap.paste false (q * 128) f.used (SMap.slice f.used (p * 128) ((p + 1) * 128)) }

/-- R284: FL_REFRESH. -/
def execFlRefresh (t : Time) (env : FlashEnv) (s : State) : Host.Outcome State Fault Refusal :=
  .next (s.routine t 0x06 fun r s =>
    let b := r.arg 0
    let p := s.physBlock b
    if s.inScrap then s.endOpen stLCS
    else if !(userBlock b || slotBlock b) then s.endOpen stBADARG
    else if s.pendingBlock p then s.endOpen stBUSY
    else match s.spareFor (b / 128) with
      | none => s.endOpen stBUSY
      | some q =>
        if s.retiredBlock b then s.endOpen stRETIRED
        else
          let badSrc := env.unc.any fun x => decide (x / 512 = p) && s.usedPage (x / 4)
          let s := s.updFls fun f => copyBlock f p q
          let badCopy := (env.progBad.any fun x => decide (x / 128 = q) && s.usedPage x) ||
            env.unc.any fun x => decide (x / 512 = q) && s.usedPage (x / 4)
          if badSrc || badCopy then (s.toPool q).poolCheck.endOpen stVERIFY
          else (((s.mapTo b q).toPool p).poolCheck).endRoutine stOK q)

/-- R271: FL_INFO. -/
def execFlInfo (t : Time) (s : State) : Host.Outcome State Fault Refusal :=
  .next (s.routine t 0x07 fun r s =>
    let b := r.arg 0
    let p := s.physBlock b
    if s.inScrap then s.endOpen stLCS
    else if 512 ≤ b ∨ 123 ≤ b % 128 then s.endOpen stBADARG
    else
      let k := if s.retiredBlock b then 2 else if s.pendingBlock p then 1 else 0
      s.endRoutine stOK (k * 2 ^ 30 + p * 65536 + Nat.min 65535 (SMap.get 0 s.fls.ecnt p)))

/-! ## The OTP row (R286, R287, R342, R343) -/

/-- R286: a byte of the OTP row of a part as shipped. -/
def otpInit (a : Nat) : Byte :=
  if a < 16 then Config.deviceId.extractLsb' (8 * a) 8
  else if a < 0x120 ∨ 0x400 ≤ a then Config.otpMaker a
  else 0xFF

/-- A stored byte of the OTP row. -/
def State.otpByte (s : State) (a : Nat) : Nat := (SMap.get (otpInit a) s.fls.otp a).toNat

/-- `n` stored bytes of the OTP row. -/
def State.otpBytes (s : State) (a n : Nat) : List Nat := (List.range n).map fun i => s.otpByte (a + i)

/-- R286: a byte as OTP_READ returns it. -/
def State.otpRead (s : State) (a : Nat) : Nat :=
  if (0x160 ≤ a ∧ a < 0x1A0) ∨ 0x400 ≤ a then 0 else s.otpByte a

/-- R287: the hidden lock bit of a unit; the maker has programmed its own. -/
def State.otpLocked (s : State) (u : Nat) : Bool :=
  SMap.get (decide (u < 18 ∨ 64 ≤ u)) s.fls.otpLock u

/-- Programs one unit of 16 bytes. -/
def State.otpUnit (s : State) (u : Nat) (data : List Nat) : State :=
  s.updFls fun f =>
    { f with
      otp := (List.range 16).foldl (fun m i =>
        SMap.put (otpInit (16 * u + i)) m (16 * u + i) (BitVec.ofNat 8 (data.getD i 0))) f.otp
      otpLock := SMap.put (decide (u < 18 ∨ 64 ≤ u)) f.otpLock u true }

/-- R342: bytes of a key slot are programmed, and are not wiped. -/
def keyUsable (bs : List Nat) : Bool := bs.any (· ≠ 0xFF) && bs.any (· ≠ 0)

/-- The bits of a byte that read 0. -/
def zerosOf (b : Nat) : Nat := ((List.range 8).filter fun i => !b.testBit i).length

/-- R342: a status unit is set. -/
def State.revoked (s : State) (a : Nat) : Bool :=
  decide (64 ≤ (s.otpBytes a 16).foldl (fun n b => n + zerosOf b) 0)

/-- R342: OEM root key hash 0 or 1 is usable; the debug key hash; an AES image key. -/
def State.rootUsable (s : State) (n : Nat) : Bool :=
  keyUsable (s.otpBytes (0x120 + 32 * n) 32) && !s.revoked (0x1C0 + 16 * n)
def State.debugUsable (s : State) : Bool := keyUsable (s.otpBytes 0x1A0 32) && !s.revoked 0x1E0
def State.aesUsable (s : State) (n : Nat) : Bool := keyUsable (s.otpBytes (0x160 + 32 * n) 32)

/-- R286, R342: the keyed fields of the OTP row: TARGET as a certificate of KIND 2 (`false`) or KIND 3
(`true`) names it, with its offset and length. -/
def keyFields : List (Bool × Nat × Nat × Nat) :=
  [(false, 0, 0x120, 32), (false, 1, 0x140, 32), (false, 2, 0x160, 32), (false, 3, 0x180, 32),
   (false, 4, 0x1A0, 32), (true, 0, 0x1C0, 16), (true, 1, 0x1D0, 16), (true, 4, 0x1E0, 16)]

/-- The range of a request meets the bytes from `lo` up to `hi`. -/
def meets (off n lo hi : Nat) : Bool := decide (off < hi ∧ lo < off + n)

/-- R343: the certificate in force names exactly this request: KIND, TARGET and PAYLOAD. -/
def State.certFor (s : State) (off n : Nat) : Option (Nat × Nat × Nat) :=
  match s.pwr.certIn with
  | none => none
  | some (kind, _, target, _, payload) =>
    if keyFields.any fun x => x == (kind == 3, target, off, n) && (kind == 2 || kind == 3) then
      some (kind, target, payload)
    else none

/-- R343: a revocation of OEM root `target` would leave no OEM root key hash usable. -/
def State.lastRoot (s : State) (target : Nat) : Bool :=
  decide (target < 2) && !s.rootUsable (1 - target)

/-- R287, R343: the life-cycle check of OTP_PROG. -/
def State.otpDenied (s : State) (off n : Nat) : Bool :=
  s.inScrap || ((meets off n 0 0x120 || meets off n 0x400 0x800) && decide (s.pwr.lcs ≠ 0)) ||
    (meets off n 0x120 0x1F0 &&
      (decide (s.pwr.lcs = 3) ||
        (decide (s.pwr.lcs = 2) &&
          match s.certFor off n with
          | none => true
          | some (kind, target, _) => kind == 3 && s.lastRoot target)))

/-- R271, R286, R287: the arguments of OTP_READ and OTP_PROG are legal. -/
def otpRange (off n : Nat) : Bool := decide (off % 16 = 0 ∧ n % 16 = 0 ∧ off + n ≤ 2048)

/-- R287, R342: the request covers part of a field that must be programmed whole, or the unit at
0x1F0. -/
def otpPart (off n : Nat) : Bool :=
  meets off n 0x1F0 0x200 ||
    (List.range 5).any fun i =>
      meets off n (0x120 + 32 * i) (0x140 + 32 * i) &&
        !decide (off ≤ 0x120 + 32 * i ∧ 0x140 + 32 * i ≤ off + n)

/-- R343: the data is what the certificate in force authorises. -/
def State.otpDataOk (s : State) (off n : Nat) (data : List Nat) : Bool :=
  if meets off n 0x120 0x1F0 && decide (s.pwr.lcs = 2) then
    match s.certFor off n with
    | none => false
    | some (kind, target, payload) =>
      if kind = 3 then data.all (· = 0)
      else if target = 2 ∨ target = 3 then decide (sha256 data = payload)
      else decide (beNum data = payload)
  else true

/-- R343: a certificate of KIND 2 or 3 is consumed when a request to the key range completes. -/
def State.consumeCert (s : State) (off n : Nat) : State :=
  match s.pwr.certIn with
  | some (kind, _, _, _, _) =>
    if s.pwr.lcs = 2 ∧ meets off n 0x120 0x1F0 ∧ kind ≠ 1 then
      s.updPwr fun p => { p with certIn := none }
    else s
  | none => s

/-- R287: units are programmed in ascending order. -/
def State.otpProgram (s : State) (bad : List Nat) : Nat → List (List Nat) → State × Nat
  | _, [] => (s, stOK)
  | u, d :: ds =>
    let s := s.otpUnit u d
    if bad.contains (512 * 128 + u) then (s, stVERIFY) else State.otpProgram s bad (u + 1) ds

/-- R286: OTP_READ. -/
def execOtpRead (t : Time) (s : State) : Host.Outcome State Fault Refusal :=
  .next (s.routine t 0x08 fun r s =>
    if s.inScrap then s.endOpen stLCS
    else if !otpRange (r.arg 0) (r.arg 1) then s.endOpen stBADARG
    else (s.fillWindow ((List.range (r.arg 1)).map fun i => s.otpRead (r.arg 0 + i))).endOpen stOK)

/-- R287, R343: OTP_PROG; a unit `u` that does not read back stands as page 512 × 128 + u in
`env.progBad`. -/
def execOtpProg (t : Time) (env : FlashEnv) (s : State) : Host.Outcome State Fault Refusal :=
  .next (s.routine t 0x09 fun r s =>
    let off := r.arg 0
    let n := r.arg 1
    let done (s : State) (st : Nat) : State := (s.consumeCert off n).endOpen st
    if r.step = 2 then
      let data := s.bufBytes 0 n
      if s.otpDataOk off n data then
        let (s, st) := s.otpProgram env.progBad (off / 16) (chunksOf 16 (n / 16) data)
        done s st
      else done s stLCS
    else if s.otpDenied off n then done s stLCS
    else if !otpRange off n || otpPart off n then done s stBADARG
    else if (List.range (n / 16)).any fun i => s.otpLocked (off / 16 + i) then done s stNOTERASED
    else s.askChunk s.time 0 0)

/-! ## Protection zones (R288, R289) -/

/-- R289: the hash stored for a password. -/
def pwHash (pw : Nat) : Nat :=
  sha256 ((List.range 16).map (fun a => (Config.deviceId.extractLsb' (8 * a) 8).toNat) ++ leBytes 8 pw)

/-- R289: the password is the one stored. -/
def State.pwRight (s : State) (pw : Nat) : Bool := decide (pwHash pw = s.fls.pw.getD (pwHash 0))

/-- R288: ZONE_LOCK. -/
def execZoneLock (t : Time) (s : State) : Host.Outcome State Fault Refusal :=
  .next (s.routine t 0x0A fun r s =>
    if s.inScrap then s.endOpen stLCS
    else
      let m := r.arg 0 % 65536
      let s := s.updFls fun f => { f with zperm := f.zperm ||| m, zsess := f.zsess &&& (65535 - m) }
      (s.journal 3).endOpen stOK)

/-- R289: ZONE_UNLOCK and ZONE_SETPW: lockout and the password come first. -/
def State.withPassword (s : State) (pw : Nat) (f : State → State) : State :=
  if s.inScrap then s.endOpen stLCS
  else if 8 ≤ s.fld pFLS FLS_ZONEPW_FAILS then s.endOpen stLOCKEDOUT
  else if s.pwRight pw then (f (s.setFld pFLS FLS_ZONEPW_FAILS 0)).endOpen stOK
  else
    let n := s.fld pFLS FLS_ZONEPW_FAILS + 1
    let s := s.setFld pFLS FLS_ZONEPW_FAILS n
    let s := if 8 ≤ n then (s.setFld pFLS FLS_ZONEPW_LOCKOUT 1).err pSVC SVC_E_LOCKOUT else s
    s.endOpen stBADPW

/-- R289: ZONE_UNLOCK. -/
def execZoneUnlock (t : Time) (s : State) : Host.Outcome State Fault Refusal :=
  .next (s.routine t 0x0B fun r s =>
    s.withPassword (r.arg 2 + r.arg 3 * 2 ^ 32) fun s =>
      let m := r.arg 0 % 65536
      if r.arg 1 % 2 = 1 then (s.updFls fun f => { f with zperm := f.zperm &&& (65535 - m) }).journal 3
      else s.updFls fun f => { f with zsess := f.zsess ||| m })

/-- R289: ZONE_SETPW. -/
def execZoneSetpw (t : Time) (s : State) : Host.Outcome State Fault Refusal :=
  .next (s.routine t 0x0C fun r s =>
    s.withPassword (r.arg 0 + r.arg 1 * 2 ^ 32) fun s =>
      (s.updFls fun f => { f with pw := some (pwHash (r.arg 2 + r.arg 3 * 2 ^ 32)) }).journal 3)

/-! ## The log-save area (R291, R384, R386) -/

/-- R291: erased log-save pages. -/
def State.logErased (s : State) : Nat := 512 - s.fls.saves.length

/-- R384: the marker and the CRC of a save page check. -/
def saveValid (bs : List Nat) : Bool :=
  decide (leNum (bs.take 4) = 0x5A3C96E1 ∧ bs.length = 2048 ∧ leNum (bs.drop 2044) = crc32 (bs.take 2044))

/-- R290, R291: the physical page of the log-save area that holds the n-th newest save. -/
def State.savePage (s : State) (n : Nat) : Nat :=
  let pos := s.fls.saves.length - 1 - n
  s.physBlock ((SMap.get 0 s.fls.jused 8 + pos / 128) % 4 * 128 + 2) * 128 + pos % 128

/-- The valid saves, newest first, each with its place in the area. -/
def State.validSaves (s : State) : List (Nat × List Nat) :=
  ((List.range s.fls.saves.length).zip s.fls.saves).filter fun x => saveValid x.2

/-- R386: LOG_READSAVE. -/
def execLogReadsave (t : Time) (env : FlashEnv) (s : State) : Host.Outcome State Fault Refusal :=
  .next (s.routine t 0x18 fun r s =>
    if s.inScrap then s.endOpen stLCS
    else match s.validSaves[r.arg 0]? with
      | none => s.endOpen stBADARG
      | some (n, bs) =>
        if env.unc.any fun x => x / 4 = s.savePage n then
          let data := (List.range 2048).map fun i =>
            if env.unc.contains (s.savePage n * 4 + i / 512) then Config.freeValue (s.free + i) % 256
            else bs.getD i 0
          ({ s.fillWindow data with free := s.free + 2048 }).endOpen stVERIFY
        else (s.fillWindow bs).endRoutine stOK (leNum ((bs.drop 4).take 4)))

/-! ## Background work (R273, R274, R281, R290, R291) -/

/-- R273: the background operation that is due, and its physical block: pending re-erases in ascending
order, then spares, the oldest log-save block, and the full block of a journal. -/
def State.bgDue (s : State) : Option (Nat × Nat) :=
  let pend := s.fls.flag.map (·.1)
  match pend.find? fun p => !SMap.get false s.fls.returned p with
  | some p => some (1, p)
  | none =>
    match pend with
    | p :: _ => some (2, p)
    | [] =>
      if s.logErased < 160 then
        some (3, s.physBlock (SMap.get 0 s.fls.jused 8 % 4 * 128 + 2))
      else
        match (List.range 4).find? fun j => 128 ≤ SMap.get 0 s.fls.jused j with
        | some j => some (4, s.physBlock (j * 128 + SMap.get 0 s.fls.jused (j + 4) % 2))
        | none => none

/-- R273: BACKGROUND_OPERATION. -/
def execBackgroundOperation (t : Time) (s : State) : Host.Outcome State Fault Refusal :=
  let s := s.at_ t
  .next (if s.pwr.up && s.fls.run.isNone && s.fls.queue.isEmpty && s.fls.bg.isNone && !s.pwr.pfwBlock &&
      s.pwr.trans.isNone && s.clkOn pFLS then
    match s.bgDue with
    | none => s
    | some (op, p) =>
      ((s.eraseBegin p).updFls fun f => { f with bg := some ⟨op, p, false, s.time⟩ }).showSeq
  else s)

/-- R267: the logical block of a physical block, or 512 for a spare. -/
def State.logicalOf (s : State) (p : Nat) : Nat :=
  if s.inPool p then 512
  else match s.fls.tbl.find? fun x => x.2 = p with
    | some x => x.1
    | none => p

/-- R290: the pages of a journal's live state with the commit page that closes it: of the directory, one for each slot's
newest entry. -/
def livePages (f : Fls) (j : Nat) : Nat :=
  (if j = 0 then f.dir.length else Config.journalPages j (SMap.get 0 f.jused (j + 4)) % 127) + 1

/-- R290, R291: what the erase of a block that serves logical block `lb` frees, also where it repeats one that was cut
short (operation 1): the oldest log-save block, or the full block of a journal, whose live state stands in the other. -/
def bgEffect (f : Fls) (b : Bg) (lb : Nat) : Fls :=
  if b.op = 3 ∨ (b.op = 1 ∧ lb = SMap.get 0 f.jused 8 % 4 * 128 + 2) then
    { f with
      saves := f.saves.take (f.saves.length - 128)
      jused := SMap.put 0 f.jused 8 (SMap.get 0 f.jused 8 + 1) }
  else if b.op = 4 ∨ (b.op = 1 ∧ lb % 128 < 2 ∧ lb % 128 = SMap.get 0 f.jused (lb / 128 + 4) % 2) then
    let j := lb / 128
    { f with jused := SMap.put 0 (SMap.put 0 f.jused j (livePages f j)) (j + 4) (SMap.get 0 f.jused (j + 4) + 1) }
  else f

/-- R279 to R281: the background erase of a physical block ends. -/
def State.bgErased (s : State) (env : FlashEnv) (b : Bg) : State :=
  let pulses := Nat.min 40 (pulsesOf env b.block)
  let s := (s.setFld pFLS FLS_LASTERS_PULSES pulses).setFld pFLS FLS_LASTERS_BLOCK b.block
  let lb := s.logicalOf b.block
  let s := s.updFls fun f => bgEffect f b lb
  if 40 < pulsesOf env b.block then
    if lb < 512 then (s.retireBlock lb b.block).1
    else
      let (v, s) := s.takeFree 9
      let s := s.updFls fun f =>
        { blankBlock f b.block with bad := f.bad ++ [⟨512 + v, b.block, 2, false⟩] }
      (((s.err pFLS FLS_E_RETIRED).contained).log pFLS 0x090 3 (v * 65536 + b.block)).poolCheck
  else (s.updFls fun f => blankBlock f b.block).fillRetired

/-- R281: the background operation ends; what waited for it may start. -/
def State.bgEnd (s : State) (env : FlashEnv) (b : Bg) : State :=
  (State.pendGone s ((s.bgErased env b).updFls fun f => { f with bg := none })).startRoutine

/-- R273, R274: BG_SUSPEND: for the oldest request, a read-only routine, which starts. -/
def execBgSuspend (t : Time) (s : State) : Host.Outcome State Fault Refusal :=
  let s := s.at_ t
  .next (match s.fls.bg, s.fls.run, s.fls.queue with
    | some b, none, r :: rs =>
      if !b.susp ∧ readOnly r.code ∧ b.since + s.fld pFLS FLS_CTRL_SUSPMIN * 1000 ≤ s.time then
        (s.updFls fun f =>
          { f with
            bg := some { b with susp := true }
            queue := rs
            run := some ⟨r, s.time, 0, 0, 0, 0, []⟩ }).showSeq
      else s
    | _, _, _ => s)

/-- R274: BG_RESUME: once the routine has ended that the operation was suspended for. -/
def execBgResume (t : Time) (s : State) : Host.Outcome State Fault Refusal :=
  let s := s.at_ t
  .next (match s.fls.bg, s.fls.run with
    | some b, none =>
      if b.susp then
        (s.updFls fun f => { f with bg := some { b with susp := false, since := s.time } }).showSeq
      else s
    | _, _ => s)

end Sys2Proof.Machine
end

