-- ==== Sys2Proof/Machine/Flags.lean ====
section
/-! DEFINITION. Word arithmetic of the engines with every flag that it computes (R118 to R124), and
the conditions that read the flags (R119). Each operation computes the exact result as an integer and
narrows it at the end. -/

namespace Sys2Proof.Machine

/-- R119: a condition on the flags. -/
def condHolds (c : Cond) (f : Flags) : Bool :=
  match c with
  | .al => true
  | .eq => f.z
  | .ne => !f.z
  | .hs => f.c
  | .lo => !f.c
  | .mi => f.n
  | .pl => !f.n
  | .vs => f.v
  | .vc => !f.v
  | .hi => f.c && !f.z
  | .ls => !f.c || f.z
  | .ge => f.n == f.v
  | .lt => f.n != f.v
  | .gt => !f.z && f.n == f.v
  | .le => f.z || f.n != f.v
  | .sat => f.sat

/-- R119: clamps to −512 to +511. -/
def satS10 (t : Int) : Int := if t < -512 then -512 else if t > 511 then 511 else t

/-- R119: clamps to 0 to 1,023. -/
def satU10 (t : Int) : Int := if t < 0 then 0 else if t > 1023 then 1023 else t

/-- R119: clamps to −536,870,912 to +536,870,911. -/
def satS30 (t : Int) : Int :=
  if t < -536870912 then -536870912 else if t > 536870911 then 536870911 else t

/-- R119: clamps an event offset to 0 to 1,048,575. -/
def satOff (t : Int) : Int := if t < 0 then 0 else if t > 1048575 then 1048575 else t

/-- u(x). -/
def uw (x : Word) : Int := x.toNat

/-- s(x). -/
def sw (x : Word) : Int := x.toInt

/-- A word from an exact result. -/
def toW (t : Int) : Word := BitVec.ofInt 10 t

/-- R118: Z and N from a word; the rest as given. -/
def flagsZN (f : Flags) (r : Word) : Flags := { f with z := decide (r = 0), n := r.msb }

/-- Z and N from a word, C and V as given. -/
def flagsZNCV (f : Flags) (r : Word) (c v : Bool) : Flags :=
  { f with z := decide (r = 0), n := r.msb, c := c, v := v }

/-- R118: as `flagsZNCV` for a clamping operation, which ORs V into SAT. -/
def flagsClamp (f : Flags) (r : Word) (c v : Bool) : Flags :=
  { z := decide (r = 0), n := r.msb, c := c, v := v, sat := f.sat || v }

/-- R121: ADD. -/
def aluAdd (a b : Word) (f : Flags) : Word × Flags :=
  let r := toW (uw a + uw b)
  (r, flagsZNCV f r (decide (uw a + uw b > 1023)) (a.msb == b.msb && r.msb != a.msb))

/-- R121: SUB. -/
def aluSub (a b : Word) (f : Flags) : Word × Flags :=
  let r := toW (uw a - uw b)
  (r, flagsZNCV f r (decide (uw a ≥ uw b)) (a.msb != b.msb && r.msb != a.msb))

/-- R121: ADDS. -/
def aluAdds (u : Bool) (a b : Word) (f : Flags) : Word × Flags :=
  let t := if u then uw a + uw b else sw a + sw b
  let c := if u then satU10 t else satS10 t
  (toW c, flagsClamp f (toW c) false (decide (c ≠ t)))

/-- R121: SUBS. -/
def aluSubs (u : Bool) (a b : Word) (f : Flags) : Word × Flags :=
  let t := if u then uw a - uw b else sw a - sw b
  let c := if u then satU10 t else satS10 t
  (toW c, flagsClamp f (toW c) false (decide (c ≠ t)))

/-- R121: AND, OR and XOR clear C and V. -/
def aluLogic (r : Word) (f : Flags) : Word × Flags := (r, flagsZNCV f r false false)

/-- R122: SHL. -/
def aluShl (a b : Word) (f : Flags) : Word × Flags :=
  let n := b.toNat
  let r : Word := if n ≥ 10 then 0 else a <<< n
  (r, flagsZNCV f r (decide (1 ≤ n ∧ n ≤ 10) && a.getLsbD (10 - n)) false)

/-- R122: SHR. -/
def aluShr (a b : Word) (f : Flags) : Word × Flags :=
  let n := b.toNat
  let r : Word := if n ≥ 10 then 0 else a >>> n
  (r, flagsZNCV f r (decide (1 ≤ n ∧ n ≤ 10) && a.getLsbD (n - 1)) false)

/-- R122: ASR. -/
def aluAsr (a b : Word) (f : Flags) : Word × Flags :=
  let n := b.toNat
  let r : Word := a.sshiftRight (Nat.min n 9)
  (r, flagsZNCV f r (decide (n ≠ 0) && a.getLsbD (Nat.min n 10 - 1)) false)

/-- R123: MIN. -/
def aluMin (u : Bool) (a b : Word) (f : Flags) : Word × Flags :=
  let r := if (if u then decide (uw a ≤ uw b) else decide (sw a ≤ sw b)) then a else b
  (r, flagsZNCV f r false false)

/-- R123: MAX. -/
def aluMax (u : Bool) (a b : Word) (f : Flags) : Word × Flags :=
  let r := if (if u then decide (uw a ≥ uw b) else decide (sw a ≥ sw b)) then a else b
  (r, flagsZNCV f r false false)

/-- R124: the product of MUL and MAC. -/
def mulProd (m : MulMode) (a b : Word) : Int :=
  match m with
  | .ss => sw a * sw b
  | .uu => uw a * uw b
  | .su => sw a * uw b

/-- An accumulator from an exact result. -/
def toA (t : Int) : BitVec 30 := BitVec.ofInt 30 t

/-- R118: Z and N from an accumulator. -/
def flagsZNA (f : Flags) (r : BitVec 30) : Flags := { f with z := decide (r = 0), n := r.msb }

/-- R124: MUL. -/
def aluMul (m : MulMode) (a b : Word) (f : Flags) : BitVec 30 × Flags :=
  let r := toA (mulProd m a b)
  (r, flagsZNA f r)

/-- R124: MAC. -/
def aluMac (m : MulMode) (acc : BitVec 30) (a b : Word) (f : Flags) : BitVec 30 × Flags :=
  let t := acc.toInt + mulProd m a b
  let c := satS30 t
  let v := decide (c ≠ t)
  (toA c, { flagsZNA f (toA c) with v := v, sat := f.sat || v })

/-- R124: ASHR. -/
def aluAshr (round : Bool) (acc : BitVec 30) (n : Word) (f : Flags) : BitVec 30 × Flags :=
  let k := Nat.min n.toNat 29
  let half : Int := if round ∧ k ≠ 0 then 2 ^ (k - 1) else 0
  let r := toA ((acc.toInt + half) / 2 ^ k)
  (r, flagsZNA f r)

/-- R124: AST. -/
def aluAst (u : Bool) (acc : BitVec 30) (f : Flags) : Word × Flags :=
  let t := acc.toInt
  let c := if u then satU10 t else satS10 t
  let v := decide (c ≠ t)
  let r := toW c
  (r, { flagsZN f r with v := v, sat := f.sat || v })

/-- R124: LDI. -/
def aluLdi (u : Bool) (hi lo : Word) : BitVec 30 :=
  let t : BitVec 20 := hi ++ lo
  if u then t.setWidth 30 else t.signExtend 30

/-- R129: ANG; the result never clamps and N is 0. -/
def aluAng (tpd : Nat) (fraction : Word) (f : Flags) : BitVec 30 × Flags :=
  let r := BitVec.ofNat 30 (tpd * fraction.toNat / 1024)
  (r, { f with z := decide (r = 0), n := false })

/-- R131: an event's offset, with V set when it clamps and SAT following. -/
def aluOffset (base : Int) (add : Word) (f : Flags) : Nat × Flags :=
  let t := base + uw add
  let c := satOff t
  let v := decide (c ≠ t)
  (c.toNat, { f with v := v, sat := f.sat || v })

end Sys2Proof.Machine
end

