-- ==== Sys2Proof/Machine/Operands.lean ====
section
/-! DEFINITION. The operand forms of the engine instructions (R94, R96, R114, R115, R125, R131): how
each source is read and each destination written in a visit. -/

namespace Sys2Proof.Machine

/-- One lane of an accumulator (R4, R114). -/
def laneOf (a : BitVec 30) (l : Nat) : Word := a.extractLsb' (10 * l) 10

/-- A working register. -/
def Visit.vreg (x : Visit) (n : VReg) : Word := SMap.get 0 x.v n.val

/-- A whole accumulator. -/
def Visit.areg (x : Visit) (n : AReg) : BitVec 30 := SMap.get 0 x.a n.val

/-- R94: a word of the current record buffer. -/
def Visit.word (x : Visit) (n : Nat) : Word := SMap.get 0 x.cur n

/-- R96: the value of a source specifier; `snap` is the frame's angle snapshot. -/
def Visit.src (x : Visit) (snap : SMap Word) : Src → Word
  | .v n => x.vreg n
  | .w n => x.word n.val
  | .a n l => laneOf (x.areg n) l.val
  | .smp => x.smp.val
  | .zero => 0
  | .angw u k => SMap.get 0 snap (u.val * 8 + k.val)

/-- R115: the value of a source that may be an immediate. -/
def Visit.srcI (x : Visit) (snap : SMap Word) : SrcI → Word
  | .reg s => x.src snap s
  | .imm k => k

/-- R125: the record address of LDW and STW. -/
def Visit.addr (x : Visit) (i : Idx) (base : Fin 64) : Nat :=
  match i with
  | .v n => ((x.vreg n).toNat + base.val) % 64
  | .zero => base.val

/-- R131: the offset base: the signed accumulator for kind A, else the unsigned word. -/
def Visit.base (x : Visit) (snap : SMap Word) : Base → Int
  | .v n => uw (x.vreg n)
  | .w n => uw (x.word n.val)
  | .a n => (x.areg n).toInt
  | .zero => 0
  | .angw u k => uw (SMap.get 0 snap (u.val * 8 + k.val))

/-- Writes a working register. -/
def Visit.setV (x : Visit) (n : VReg) (w : Word) : Visit := { x with v := SMap.put 0 x.v n.val w }

/-- Writes an accumulator. -/
def Visit.setA (x : Visit) (n : AReg) (w : BitVec 30) : Visit :=
  { x with a := SMap.put 0 x.a n.val w }

/-- R94: a store into the current record buffer. -/
def Visit.setWord (x : Visit) (n : Nat) (w : Word) : Visit := { x with cur := SMap.put 0 x.cur n w }

/-- Writes a result and the flags. -/
def Visit.putV (x : Visit) (n : VReg) (r : Word × Flags) : Visit := { x.setV n r.1 with fl := r.2 }

/-- Writes an accumulator result and the flags. -/
def Visit.putA (x : Visit) (n : AReg) (r : BitVec 30 × Flags) : Visit :=
  { x.setA n r.1 with fl := r.2 }

/-- R60: a word that a program may store to. -/
def storable (n : Nat) : Bool := decide (n = 3 ∨ (16 ≤ n ∧ n < 64))

end Sys2Proof.Machine
end

