-- ==== Sys2Proof/Machine/Engines.lean ====
section
/-! DEFINITION. The visit of a Jersey engine (spec/04_engines.md): its start, the fetch of each
instruction, the engine faults, the end of a visit with its write-back, and the parity of the
microcode copies. -/

namespace Sys2Proof.Machine

/-! ## Microcode store (R90, R110) -/

/-- An instruction of a plane. -/
def State.mcWord (s : State) (plane a : Nat) : Code := SMap.get 0 s.jer.mc (plane * 4096 + a)

/-- R110: an instruction of the copy of group `g` has a parity error. -/
def State.mcBadAt (s : State) (g plane a : Nat) : Bool :=
  SMap.get false s.jer.mcBad (g * 8192 + plane * 4096 + a)

/-- R110: a copy of another group that has good parity, in the order g + 1, g + 2, ... -/
def State.goodCopy (s : State) (g plane a : Nat) : Option Nat :=
  ((List.range 7).map fun i => (g + 1 + i) % 8).find? fun c => !s.mcBadAt c plane a

/-- R110: no copy has good parity. -/
def State.mcUnrec (s : State) : State := (s.err (pJE 0) JE_E_MCUNREC).fatal (pJE 0) 1

/-- R110: the rewrite of one instruction of one copy, keyed copy × 8,192 + plane × 4,096 + address. -/
def State.mcRewrite (s : State) (k : Nat) : State :=
  let g := k / 8192
  let plane := k % 8192 / 4096
  let a := k % 4096
  if !s.mcBadAt g plane a then s
  else
    match s.goodCopy g plane a with
    | none => s.mcUnrec
    | some _ =>
      let s := s.updJer fun j => { j with mcBad := SMap.put false j.mcBad k false }
      ((s.addSat (pJE 0) JE_MCSTAT_REPAIRS 1).corrected).log (pJE 0) 0x041 1
        (g * 2 ^ 13 + plane * 2 ^ 12 + a)

/-- R110: the repairs that faults have queued are made in frame slack. -/
def State.mcSlack (s : State) : State :=
  let ks := s.jer.mcRepair
  ks.foldl State.mcRewrite (s.updJer fun j => { j with mcRepair := [] })

/-- R109, R110: a visit has fetched an instruction with a parity error: its repair is queued. -/
def State.mcQueue (s : State) (e plane a : Nat) : State :=
  let k := e / 4 * 8192 + plane * 4096 + a
  match s.goodCopy (e / 4) plane a with
  | none => s.mcUnrec
  | some _ =>
    if s.jer.mcRepair.contains k then s
    else s.updJer fun j => { j with mcRepair := j.mcRepair ++ [k] }

/-! ## Fetch (R92, R117) -/

/-- What the fetch at the program address of a visit finds. -/
inductive Fetch where
  | instr (i : EInstr)
  | mcpar
  | badop
  | past
  deriving DecidableEq, Repr

/-- R109, R117: the fetch of engine `e` in visit `x`. -/
def State.fetchAt (s : State) (e : Nat) (x : Visit) : Fetch :=
  if 4096 ≤ x.pc then .past
  else if s.mcBadAt (e / 4) x.plane x.pc then .mcpar
  else
    match decodeE (s.mcWord x.plane x.pc) with
    | some i => .instr i
    | none => .badop

/-- R43, R111: the first `n` cycles of what engine `e` now does end before the frame does. -/
def State.cycleIn (s : State) (e n : Nat) : Bool :=
  s.beforeEnd (s.frm.start + 40 + 2 * ((s.engine e).cyc + n))

/-- The instruction that engine `e` is about to execute, with its visit. -/
def State.fetch (s : State) (e : Nat) : Option (Visit × EInstr) :=
  match (s.engine e).visit with
  | none => none
  | some x =>
    match s.fetchAt e x with
    | .instr i => if s.cycleIn e (5 + x.cyc) then some (x, i) else none
    | _ => none

/-- R108, R120: the cycles of an instruction. -/
def State.cost (s : State) : EInstr → Nat
  | .lut _ => 4
  | .fcall x => s.fld (pJE 0) (JE_FCTGT_LATACT x.target.val)
  | _ => 1

/-! ## Ends of a visit -/

/-- The visit of engine `e` is over after `n` cycles; `ended` when it was completed by END. -/
def State.leaveVisit (s : State) (e n : Nat) (ended : Bool) : State :=
  s.updEng e fun g =>
    { g with
      visit := none
      cyc := g.cyc + n
      lastEnd := if ended then g.cyc + n else g.lastEnd }

/-- R84, R109: the quarantine of this frame by an engine; a context that a host read has quarantined
from the next frame on is covered from this one. -/
def State.quarantineNow (s : State) (h cause : Nat) : State :=
  if s.isQuar h then
    s.updCtx fun c =>
      { c with quar := SMap.put 0 c.quar h (Nat.min (SMap.get 0 c.quar h) (s.fn + 1)) }
  else s.quarantine h cause s.fn

/-- R25, R92: device time reaches cycle `n` of what engine `e` now does. -/
def State.atCycle (s : State) (e n : Nat) : State := s.at_ (s.frm.start + 40 + 2 * ((s.engine e).cyc + n))

/-- The visit `x` goes on. -/
def State.putVisit (s : State) (e : Nat) (x : Visit) : State :=
  s.updEng e fun g => { g with visit := some x }

/-- R109, R450: an engine fault of a visit with its cause, address and program cycles, the last of which is the
one that detects it; in the cycle of the boundary it is not recorded, and the visit is left to be abandoned (R111). -/
def State.engineFault (s : State) (e : Nat) (x : Visit) (cause addr cycles : Nat) : State :=
  if !s.cycleIn e (4 + cycles) then s.putVisit e x
  else
  let s := (s.atCycle e (3 + cycles)).leaveVisit e (4 + cycles) false
  let s := s.quarantineNow x.handle 5
  let w := s.slotWord x.phys 13
  let s := s.devWord x.phys 13 (setBits w 5 5 (Nat.min (bitsN w.toNat 5 5 + 1) 31))
  let s := (s.addSat (pJE e) JE_FLTCNT_COUNT 1).contained
  let s := if s.bit (pJE e) JE_FLTLAST_VALID then s
    else ((((s.setFld (pJE e) JE_FLTLAST_VALID 1).setFld (pJE e) JE_FLTLAST_CAUSE cause).setFld
      (pJE e) JE_FLTLAST_PLANE x.plane).setFld (pJE e) JE_FLTLAST_ADDR addr).setFld
      (pJE e) JE_FLTHDL_HANDLE x.handle
  (s.err (pJE e) JE_E_FLT).log (pJE e) 0x040 3 (cause * 2 ^ 28 + x.handle)

/-- R109, R450: after an instruction other than END that took `n` cycles: PATHOVR when the W-th
program cycle has been used, else the visit goes on. -/
def State.retire (s : State) (e : Nat) (x : Visit) (n : Nat) : State :=
  if x.w ≤ x.cyc + n then s.engineFault e x 4 x.last x.w
  else s.putVisit e { x with cyc := x.cyc + n }

/-- What an instruction does in a visit, before its cycles are counted: the visit goes on, or a fault
is detected in its first cycle. -/
inductive Eff where
  | go (x : Visit)
  | fault (cause : Nat)
  deriving DecidableEq, Repr

/-- R117: engine `e` executes instruction `i`, if its visit has come to it; `f` is given the visit with
the next address already set. -/
def State.run (s : State) (e : Nat) (i : EInstr) (f : Visit → Eff) : State :=
  match s.fetch e with
  | none => s
  | some (x, j) =>
    if j = i then
      match f { x with pc := x.pc + 1, last := x.pc } with
      | .go x' => s.retire e x' (s.cost i)
      | .fault cause => s.engineFault e x cause x.pc (x.cyc + 1)
    else s

/-! ## END (R63, R94, R133, R134) -/

/-- R63: one released event moves into the history. -/
def pushHist (r : SMap Word) (v : Word) : SMap Word :=
  SMap.put 0 (SMap.put 0 r 5 (SMap.get 0 r 4)) 4 v

/-- R63, R133: the record as the visit leaves it, with its released events. -/
def Visit.finish (x : Visit) (fn : Nat) : SMap Word × List Ev :=
  let evs := if x.held then [] else x.evs
  let r := if x.held then x.dev else x.cur
  let r := evs.foldl (fun r ev => pushHist r ev.val) r
  let r := if evs.isEmpty then r else SMap.put 0 r 6 (BitVec.ofNat 10 fn)
  let r := SMap.put 0 (SMap.put 0 r 11 (BitVec.ofNat 10 fn)) 12 (BitVec.ofNat 10 (fn / 1024))
  (SMap.put 0 r 10 (setBits (SMap.get 0 r 10) 0 2 0), evs)

/-- R94: the words of a record that differ from those fetched. -/
def changedWords (a b : SMap Word) : List (Nat × Word) :=
  (List.range 64).filterMap fun n =>
    if SMap.get 0 a n = SMap.get 0 b n then none else some (n, SMap.get 0 b n)

/-- R357: the ECC groups that hold changed words, with their data bits. -/
def changedGroups (a b : SMap Word) : List (Nat × BitVec 40) :=
  (List.range 16).filterMap fun g =>
    if (List.range 4).all fun i => SMap.get 0 a (4 * g + i) = SMap.get 0 b (4 * g + i) then none
    else
      some (g, SMap.get 0 b (4 * g + 3) ++ SMap.get 0 b (4 * g + 2) ++ SMap.get 0 b (4 * g + 1) ++
        SMap.get 0 b (4 * g))

/-- R139: the measured cost of a completed visit counts for its class. -/
def State.measure (s : State) (cls n : Nat) : State :=
  s.updPlc fun p =>
    let m := SMap.get (0, 0) p.cur cls
    { p with cur := SMap.put (0, 0) p.cur cls (m.1 + n, m.2 + 1) }

/-- R94, R134: a visit reaches END: every group with a changed word is written back whole, with good check
bits. -/
def State.endVisit (s : State) (e : Nat) (x : Visit) : State :=
  let (r, evs) := x.finish s.fn
  let words := changedWords x.fetched r
  let s := words.foldl (fun s w => s.setSlotWord x.phys w.1 w.2) s
  let s := (changedGroups x.fetched r).foldl (fun s g => s.cleanGroup x.phys g.1) s
  let link := bitsN (SMap.get 0 x.fetched 1).toNat 0 7
  let s := if evs.isEmpty then s else s.updLink link fun l => { l with queue := l.queue ++ evs }
  let s := s.measure (w0Class (SMap.get 0 x.fetched 0)) (5 + x.cyc)
  let s := s.leaveVisit e (5 + x.cyc) true
  let s := s.updEng e fun g => { g with wbs := g.wbs ++ [⟨x.handle, changedGroups x.fetched r⟩] }
  s.addWrap (pJE e) JE_VISITS_COUNT 1

/-! ## VISIT (R91 to R93) -/

/-- The record in a slot, as a table of its 64 words. -/
def State.record (s : State) (p : Nat) : SMap Word := SMap.slice s.ctx.store (p * 64) (p * 64 + 64)

/-- R63, R64, R92: the record as the device's cycles 1 and 2 leave it. -/
def deviceWords (r : SMap Word) (smp : Sample) (seed : Nat) : SMap Word :=
  let w7 := SMap.get 0 r 7
  let fresh := !w7.getLsbD 9 && !smp.absent
  let w := setBits (setBits w7 0 8 smp.age) 8 1 smp.absent.toNat
  let w := if fresh then setBits w 9 1 1 else w
  let r := SMap.put 0 r 7 w
  if fresh && decide (16 ≤ seed) then SMap.put 0 r seed smp.val else r

/-- R92: a visit at its cycle 4. -/
def State.newVisit (s : State) (h p : Nat) (c : ClsEnt) : Visit :=
  let r := s.record p
  let smp := SMap.get Sample.none s.ctx.smp (slotOf (SMap.get 0 r 1) (SMap.get 0 r 2))
  let dev := deviceWords r smp (SMap.get 0 s.ctx.seed (w0Class (SMap.get 0 r 0)))
  { handle := h
    phys := p
    plane := c.plane
    pc := c.entry
    last := c.entry
    w := c.w
    cyc := 0
    fetched := r
    dev := dev
    cur := dev
    v := []
    a := []
    fl := ⟨false, false, false, false, false⟩
    smp := smp
    evs := []
    emits := 0
    held := false
    fc := none }

/-- R84, R92, R93: engine `e` fetches the record of its next due context, in slot `p`. A context whose
class has no entry in force spends its 4 overhead cycles and changes nothing. -/
def State.startVisit (s : State) (e p : Nat) (due : List Nat) : State :=
  let s := s.updEng e fun g => { g with due := due }
  let s := s.setFld (pJE e) JE_STAT_CURSLOT (p % 1600)
  match s.owner p with
  | none => s.leaveVisit e 4 false
  | some h =>
    let s := s.fixAllCe p
    match s.firstUe p with
    | some _ => ((s.atCycle e 0).ueRecord h p 1 s.fn).leaveVisit e 4 false
    | none =>
      let c := SMap.get ClsEnt.none s.jer.inf (w0Class (s.slotWord p 0))
      if c.valid then s.putVisit e (s.newVisit h p c) else s.leaveVisit e 4 false

/-- The compute phase of a frame runs. -/
def State.computing (s : State) : Bool := s.frm.inFrame && !s.frm.computed

/-- R92, R109, R450: VISIT: with no visit in progress the engine's next due context is fetched; with
one, a fetch that finds no instruction ends it with its fault. Nothing more happens in the frame once its end has
come (R43). -/
def execVisit (e : Engine) (ups : List Upset) (s : State) : Host.Outcome State Fault Refusal :=
  let s := s.upsets ups
  let n := e.val
  .next (if !s.computing then s
  else
    match (s.engine n).visit with
    | some x =>
      if !s.cycleIn n (5 + x.cyc) then s
      else match s.fetchAt n x with
      | .instr _ => s
      | .mcpar => (s.engineFault n x 1 x.pc (x.cyc + 1)).mcQueue n x.plane x.pc
      | .badop => s.engineFault n x 5 x.pc (x.cyc + 1)
      | .past => s.engineFault n x 5 x.last (x.cyc + 1)
    | none =>
      match (s.engine n).due with
      | [] => s
      | p :: due => if s.cycleIn n 1 then s.startVisit n p due else s)

end Sys2Proof.Machine
end

