-- ==== Sys2Proof/Machine/Microcode.lean ====
section
/-! DEFINITION. The microcode store, the class tables and path verification (spec/04_engines.md,
R101 to R110), all written through JE00. -/

namespace Sys2Proof.Machine

/-! ## Writing microcode (R102 to R104) -/

/-- R332: a write of microcode is dropped in SECURE and RETURN. -/
def State.mcForbidden (s : State) : Bool := decide (s.pwr.lcs = 2 ∨ s.pwr.lcs = 3)

/-- R104: a verification runs. -/
def State.verifying (s : State) : Bool := s.bit (pJE 0) JE_CTSTAT_BUSY

/-- R103: a valid entry of a class table names the plane. -/
def tableNames (t : SMap ClsEnt) (plane : Nat) : Bool := t.any fun e => e.2.valid && e.2.plane == plane

/-- R103: the plane is live. -/
def State.planeLive (s : State) (plane : Nat) : Bool :=
  tableNames s.jer.inf plane || tableNames s.jer.pend plane

/-- R102: a write of MCDATA0. -/
def State.doMcdata0 (s : State) (v : Nat) : State :=
  if s.mcForbidden then s.err pLCS LCS_E_LCSWR
  else if s.verifying then s.err (pJE 0) JE_E_CTBUSY
  else s.updJer fun j => { j with mcHold := v % 2 ^ 30 }

/-- R102: an instruction is stored in all eight copies. -/
def State.mcStore (s : State) (plane a : Nat) (c : Code) : State :=
  s.updJer fun j =>
    { j with
      mc := SMap.put 0 j.mc (plane * 4096 + a) c
      mcBad := (List.range 8).foldl
        (fun m g => SMap.put false m (g * 8192 + plane * 4096 + a) false) j.mcBad }

/-- R102, R103: a write of MCDATA1. -/
def State.doMcdata1 (s : State) (v : Nat) : State :=
  if s.mcForbidden then s.err pLCS LCS_E_LCSWR
  else if s.verifying then s.err (pJE 0) JE_E_CTBUSY
  else
    let plane := s.fld (pJE 0) JE_MCADDR_PLANE
    let a := s.fld (pJE 0) JE_MCADDR_ADDR
    if s.planeLive plane then s.err (pJE 0) JE_E_MCLIVE
    else
      let s := s.mcStore plane a (BitVec.ofNat 40 (s.jer.mcHold + v % 1024 * 2 ^ 30))
      if s.bit (pJE 0) JE_MCADDR_AUTOINC then s.setFld (pJE 0) JE_MCADDR_ADDR (a + 1) else s

/-- R102: MCDATA0_WRITE. -/
def execMcdata0Write (t : Time) (v : Dword) (s : State) : Host.Outcome State Fault Refusal :=
  .next (s.hostWrite t (pJE 0 * 4096 + 0x84) v.toNat fun s => s.doMcdata0 v.toNat)

/-- R102: MCDATA1_WRITE. -/
def execMcdata1Write (t : Time) (v : Dword) (s : State) : Host.Outcome State Fault Refusal :=
  .next (s.hostWrite t (pJE 0 * 4096 + 0x88) v.toNat fun s => s.doMcdata1 v.toNat)

/-! ## The pending table and targets (R101, R104) -/

/-- A table with every W at 0. -/
def zeroW (t : SMap ClsEnt) : SMap ClsEnt :=
  t.foldl (fun m e => SMap.put ClsEnt.none m e.1 { e.2 with w := 0 }) []

/-- R104: the pending table is no longer verified. -/
def State.unverify (s : State) : State :=
  (s.setFld (pJE 0) JE_CTSTAT_VERIFIED 0).updJer fun j => { j with pend := zeroW j.pend }

/-- R104: a write of CTDATA. -/
def State.doCtdata (s : State) (v : Nat) : State :=
  if s.verifying then s.err (pJE 0) JE_E_CTBUSY
  else
    let c : ClsEnt := ⟨decide (JE_CTDATA_VALID.of v = 1), JE_CTDATA_PLANE.of v, JE_CTDATA_ENTRY.of v, 0⟩
    let k := s.fld (pJE 0) JE_CTIDX_CLASS
    (s.updJer fun j => { j with pend := SMap.put ClsEnt.none j.pend k c }).unverify

/-- R104: a write of FCTGTn. -/
def State.doFctgt (s : State) (n v : Nat) : State :=
  if s.verifying then s.err (pJE 0) JE_E_CTBUSY
  else
    let lat := Nat.min 24 (Nat.max 4 ((JE_FCTGT_LAT n).of v))
    (((s.store (pJE 0) (JE_FCTGT_EN n) v).setFld (pJE 0) (JE_FCTGT_LAT n) lat).store (pJE 0)
      (JE_FCTGT_PORT n) v).unverify

/-- R104: CTDATA_WRITE. -/
def execCtdataWrite (t : Time) (v : Dword) (s : State) : Host.Outcome State Fault Refusal :=
  .next (s.hostWrite t (pJE 0 * 4096 + 0x94) v.toNat fun s => s.doCtdata v.toNat)

/-- R101, R104: FCTGT_WRITE. -/
def execFctgtWrite (t : Time) (n : Fin 16) (v : Dword) (s : State) :
    Host.Outcome State Fault Refusal :=
  .next (s.hostWrite t (pJE 0 * 4096 + 0xC0 + 4 * n.val) v.toNat fun s => s.doFctgt n.val v.toNat)

/-- R104: the in-force FCALL targets are copied into the pending ones. -/
def State.revertTargets (s : State) : State :=
  (List.range 16).foldl (fun s n =>
    ((s.setFld (pJE 0) (JE_FCTGT_EN n) (s.fld (pJE 0) (JE_FCTGT_ENACT n))).setFld (pJE 0)
      (JE_FCTGT_LAT n) (s.fld (pJE 0) (JE_FCTGT_LATACT n))).setFld (pJE 0) (JE_FCTGT_PORT n)
      (SMap.get 0 s.jer.portAct n)) s

/-- R104: a write of CTCMD. -/
def State.doCtcmd (s : State) (v : Nat) : State :=
  if s.verifying then s.err (pJE 0) JE_E_CTBUSY
  else
    match JE_CTCMD_VERIFY.of v, JE_CTCMD_REVERT.of v with
    | 0, 0 => s
    | _, 0 => s.unverify.setFld (pJE 0) JE_CTSTAT_BUSY 1
    | 0, _ =>
      (s.revertTargets.updJer fun j => { j with pend := j.inf }).setFld (pJE 0) JE_CTSTAT_VERIFIED 1
    | _, _ => s.err (pJE 0) JE_E_CTCMDERR

/-- R104: CTCMD_VERIFY. -/
def execCtcmdVerify (t : Time) (s : State) : Host.Outcome State Fault Refusal :=
  .next (s.hostWrite t (pJE 0 * 4096 + 0x9C) 1 fun s => s.doCtcmd 1)

/-- R104: CTCMD_REVERT. -/
def execCtcmdRevert (t : Time) (s : State) : Host.Outcome State Fault Refusal :=
  .next (s.hostWrite t (pJE 0 * 4096 + 0x9C) 2 fun s => s.doCtcmd 2)

/-! ## Path verification (R107, R108) -/

/-- R126: the address that a BR or SKIP at `a` names. -/
def branchTarget (a : Nat) : EInstr → Option Nat
  | .br _ t => some t.toNat
  | .skip _ n => some (a + 1 + n.toNat)
  | _ => none

/-- R108: the addresses that follow an instruction on a path. Both ways of a BR or SKIP count, as the
sweep of R108 has it; a branch that BACKBR forbids leads nowhere. DESIGN CHOICE (log entry 121): a path ends at an
undefined encoding, so a bad copy behind it is reported only once BADOP is mended. -/
def successors (a : Nat) : Option EInstr → List Nat
  | none => []
  | some .endv => []
  | some i =>
    let next := if a < 4095 then [a + 1] else []
    match branchTarget a i with
    | some t => if a < t ∧ t < 4096 then next ++ [t] else next
    | none => next

/-- R108: the cycles that verification counts for an instruction: the pending LAT for an FCALL. -/
def State.pathCost (s : State) : Option EInstr → Nat
  | some (.lut _) => 4
  | some (.fcall x) => s.fld (pJE 0) (JE_FCTGT_LAT x.target.val)
  | _ => 1

/-- R132: the EMIT and SAFE instructions. -/
def emitCount : Option EInstr → Nat
  | some (.emit _ _) => 1
  | some (.safe _) => 1
  | _ => 0

/-- One instruction on the paths from an entry point: its address, what it decodes to, and the most
EMITs and cycles on a path up to and including it. -/
structure Node where
  addr : Nat
  instr : Option EInstr
  emits : Nat
  cyc : Nat
  deriving DecidableEq, Repr

/-- A successor with the emits and cycles of the longest path to it so far. -/
def joinPath (f : SMap (Nat × Nat)) (a e c : Nat) : SMap (Nat × Nat) :=
  let x := SMap.get (0, 0) f a
  SMap.insert f a (Nat.max x.1 e, Nat.max x.2 c)

/-- The instructions on the paths from an entry point, by rising address. -/
def State.walk (s : State) (plane : Nat) : Nat → SMap (Nat × Nat) → List Node
  | 0, _ => []
  | _, [] => []
  | n + 1, (a, e, c) :: rest =>
    let i := decodeE (s.mcWord plane a)
    let e := e + emitCount i
    let c := c + s.pathCost i
    ⟨a, i, e, c⟩ :: State.walk s plane n ((successors a i).foldl (fun f b => joinPath f b e c) rest)

/-- R107: whether a rule fails at an instruction. -/
def State.ruleFails (s : State) (plane : Nat) (rule : Nat) (x : Node) : Bool :=
  match rule with
  | 1 => (List.range 8).any fun g => s.mcBadAt g plane x.addr
  | 2 => x.instr.isNone
  | 3 =>
    match x.instr.bind (branchTarget x.addr) with
    | some t => decide (t ≤ x.addr ∨ 4096 ≤ t)
    | none => false
  | 4 => decide (x.addr = 4095 ∧ x.instr ≠ some .endv)
  | 5 => decide (2 < x.emits)
  | 6 =>
    match x.instr with
    | some (.fcall f) => !s.bit (pJE 0) (JE_FCTGT_EN f.target.val)
    | _ => false
  | 7 =>
    match x.instr with
    | some (.stw _ .zero base) => !storable base.val
    | _ => false
  | 8 => decide (4095 < x.cyc)
  | _ => false

/-- R107: the first rule that fails on the paths of an entry point, with its address. -/
def State.firstFail (s : State) (plane entry : Nat) (nodes : List Node) : Option (Nat × Nat) :=
  (List.range 8).findSome? fun r =>
    (nodes.find? (s.ruleFails plane (r + 1))).map fun x => (r + 1, if r + 1 = 8 then entry else x.addr)

/-- R108: W of an entry point. -/
def pathW (nodes : List Node) : Nat :=
  nodes.foldl (fun n x => if x.instr = some .endv then Nat.max n x.cyc else n) 0

/-- R107, R108: verification of the entries in ascending class order: the table with its W values, or
the first failure (class, plane, rule, address). -/
def State.verify (s : State) : List (Nat × ClsEnt) → SMap ClsEnt → SMap ClsEnt ⊕ (Nat × Nat × Nat × Nat)
  | [], t => .inl t
  | (k, c) :: rest, t =>
    if c.valid then
      let nodes := s.walk c.plane 4096 [(c.entry, 0, 0)]
      match s.firstFail c.plane c.entry nodes with
      | some (r, a) => .inr (k, c.plane, r, a)
      | none => State.verify s rest (SMap.put ClsEnt.none t k { c with w := pathW nodes })
    else State.verify s rest t

/-- Records the outcome of a verification in CTSTAT. -/
def State.setCtErr (s : State) (cls plane rule a : Nat) : State :=
  (((s.setFld (pJE 0) JE_CTSTAT_ERRPLANE plane).setFld (pJE 0) JE_CTSTAT_ERRCODE rule).setFld (pJE 0)
    JE_CTSTAT_ERRCLASS cls).setFld (pJE 0) JE_CTSTAT_ERRPC a

/-- R107, R108: VERIFY_COMPLETE. DESIGN CHOICE (log entry 122): a verification that passes clears ERRPLANE, ERRCODE,
ERRCLASS and ERRPC, and nothing but a verification changes them. -/
def execVerifyComplete (t : Time) (s : State) : Host.Outcome State Fault Refusal :=
  let s := s.at_ t
  .next (if !s.verifying then s
  else
    let s := s.setFld (pJE 0) JE_CTSTAT_BUSY 0
    let s := match s.verify s.jer.pend s.jer.pend with
      | .inl tbl =>
        ((s.updJer fun j => { j with pend := tbl }).setCtErr 0 0 0 0).setFld (pJE 0)
          JE_CTSTAT_VERIFIED 1
      | .inr (k, plane, r, a) => (s.setCtErr k plane r a).err (pJE 0) JE_E_VERR
    s.irq (pJE 0) JE_E_VDONE)

/-! ## The background check (R110) -/

/-- Every engine has finished its visits of the frame. -/
def State.enginesDone (s : State) : Bool :=
  s.jer.eng.all fun e => e.2.visit.isNone && e.2.due.isEmpty

/-- R110: MC_PARITY_CHECK: 16 instructions of every copy. DESIGN CHOICE (log entry 124): an instruction bad in all eight
copies is declared at each copy that the check reads. -/
def execMcParityCheck (t : Time) (ups : List Upset) (s : State) : Host.Outcome State Fault Refusal :=
  let s := (s.at_ t).upsets ups
  .next (if s.pwr.up && s.clkOn (pJE 0) && (!s.computing || s.enginesDone) then
    let at0 := s.jer.mcPos
    let ks := (List.range 8).flatMap fun g => (List.range 16).map fun i => g * 8192 + at0 + i
    ks.foldl State.mcRewrite (s.updJer fun j => { j with mcPos := (at0 + 16) % 8192 })
  else s)

end Sys2Proof.Machine
end

