-- ==== Sys2Proof/Machine/Images.lean ====
section
/-! DEFINITION. Krea images (spec/10_config.md, R243 to R255): the header, the checks of an image, the
slots and their directory, IMG_INSTALL, IMG_SELECT and IMG_LOAD, and what cuts a routine short. -/

namespace Sys2Proof.Machine

/-! ## The header (R244 to R247) -/

/-- A little-endian field of an image's bytes. -/
def hdr (bs : List Nat) (off n : Nat) : Nat := leNum ((bs.drop off).take n)

/-- Bytes that are all 0. -/
def zeroBytes (bs : List Nat) (off n : Nat) : Bool := ((bs.drop off).take n).all (· = 0)

def imgType (bs : List Nat) : Nat := hdr bs 6 1
def imgEnc (bs : List Nat) : Bool := (hdr bs 7 1).testBit 0
def imgSigned (bs : List Nat) : Bool := (hdr bs 7 1).testBit 1
def imgK (bs : List Nat) : Nat := hdr bs 8 1
def imgLength (bs : List Nat) : Nat := hdr bs 12 4
def imgVer (bs : List Nat) : Nat := hdr bs 16 4
def imgKeySel (bs : List Nat) : Nat := hdr bs 20 1 % 4
def imgAesKey (bs : List Nat) : Nat := hdr bs 20 1 / 16 % 2
def imgDigest (bs : List Nat) : Nat := beNum ((bs.drop 0x40).take 32)

/-- R244: LENGTH as the payload table requires. -/
def lengthOk (typ k len : Nat) : Bool :=
  match typ with
  | 1 => decide (len = k * 262144)
  | 2 => decide (len = k * 262144)
  | 3 => decide (len = 33280)
  | 4 => decide (len = 832)
  | 5 => decide (512 + 82 ≤ len ∧ (len - 512) % 82 = 0 ∧ (len - 512) / 82 ≤ 49152)
  | _ => false

/-- R244: GEOM is legal for the type. -/
def geomOk (typ geom : Nat) : Bool :=
  let k := geom % 256
  decide (geom / 256 % 256 = 1 ∧ geom / 2 ^ 17 = 0) &&
    (match typ with
     | 1 => decide (k = 64 ∧ geom / 65536 = 0)
     | 2 => decide (1 ≤ k ∧ k ≤ 64 ∧ geom / 65536 = 0)
     | 3 => decide (k = 0)
     | _ => decide (k = 0 ∧ geom / 65536 = 0))

/-- R247: the header checks. -/
def headerOk (bs : List Nat) : Bool :=
  decide (bs.take 4 = [0x4B, 0x52, 0x45, 0x41] ∧ hdr bs 4 2 = 1 ∧ 1 ≤ imgType bs ∧ imgType bs ≤ 5 ∧
    hdr bs 7 1 < 4 ∧ (hdr bs 20 1) / 4 % 4 = 0 ∧ hdr bs 20 1 < 32) &&
    zeroBytes bs 0x15 3 && zeroBytes bs 0x24 12 && zeroBytes bs 0xE0 32 && zeroBytes bs 0x108 248 &&
    (decide (imgType bs = 1) || zeroBytes bs 0x100 8) &&
    geomOk (imgType bs) (hdr bs 8 4) && lengthOk (imgType bs) (imgK bs) (imgLength bs)

/-- R246: the signature class of an image is permitted in the state in force. -/
def classOk (lcs : Nat) (bs : List Nat) : Bool :=
  let signer := if imgSigned bs then imgKeySel bs else 0
  match lcs with
  | 0 => true
  | 1 => decide (signer ≠ 3)
  | 2 => decide (signer = 1 ∨ signer = 2)
  | 3 => decide (signer = 3)
  | _ => false

/-- Bytes with a range replaced by zeros. -/
def zeroRange (bs : List Nat) (off n : Nat) : List Nat :=
  bs.take off ++ List.replicate n 0 ++ bs.drop (off + n)

/-- R245: SHA-256 over the image with DIGEST and SIGNATURE zero. -/
def digestOf (bs : List Nat) : Nat := sha256 (zeroRange (zeroRange bs 0x40 32) 0xA0 64)

/-- R245, R342: the signature verifies under a usable key. -/
def State.signatureOk (s : State) (bs : List Nat) : Bool :=
  let key := sha256 ((bs.drop 0x60).take 64)
  let trusted := match imgKeySel bs with
    | 0 => false
    | 3 => decide (key = Config.makerRoot)
    | n => s.rootUsable (n - 1) && decide (key = beNum (s.otpBytes (0x120 + 32 * (n - 1)) 32))
  trusted && p256Verify (imgDigest bs) (beNum ((bs.drop 0x60).take 32)) (beNum ((bs.drop 0x80).take 32))
    (beNum ((bs.drop 0xA0).take 32)) (beNum ((bs.drop 0xC0).take 32))

/-- R247: the header and the class. -/
def State.headStatus (s : State) (bs : List Nat) : Nat :=
  if !headerOk bs then stBADARG else if !classOk s.pwr.lcs bs then stLCS else stOK

/-- R245, R276: SIGNATURE when SIGNED, then DIGEST; `bad` when a sector of the image is uncorrectable. -/
def State.bodyStatus (s : State) (bs : List Nat) (bad : Bool) : Nat :=
  if imgSigned bs && !s.signatureOk bs then stSIGFAIL
  else if bad || decide (digestOf bs ≠ imgDigest bs) then stSIGFAIL
  else stOK

/-- R247: the checks of a boot load or IMG_LOAD before anything is written; `badHead` and `bad` when the
header's or another sector is uncorrectable. -/
def State.loadStatus (s : State) (bs : List Nat) (badHead bad : Bool) : Nat :=
  if badHead then stBADARG
  else if s.headStatus bs ≠ stOK then s.headStatus bs
  else if (2 ≤ s.pwr.lcs) ∧ s.bodyStatus bs bad ≠ stOK then stSIGFAIL
  else if bad then stSIGFAIL
  else if imgEnc bs && !s.aesUsable (imgAesKey bs) then stBADARG
  else stOK

/-- R245: the image as it is loaded: decrypted when ENC; none when its tag fails. -/
def State.opened (s : State) (bs : List Nat) : Option (List Nat) :=
  if imgEnc bs then
    let head := bs.take 512
    let aad := zeroRange (zeroRange head 0x30 48) 0xA0 64
    let (plain, tag) := gcmOpen (s.otpBytes (0x160 + 32 * imgAesKey bs) 32) ((head.drop 0x18).take 12) aad
      (bs.drop 512)
    if tag = beNum ((head.drop 0x30).take 16) then some (head ++ plain) else none
  else some bs

/-! ## Slots and the directory (R248 to R250) -/

/-- R248, R266: the logical block of chunk `n` of a slot. -/
def slotChunk (slot n : Nat) : Nat :=
  if slot < 4 then 128 * (n % 4) + 3 + 16 * slot + n / 4
  else 128 * (n % 4) + 67 + 4 * (slot - 4) + n / 4

/-- R248: the capacity of a slot. -/
def slotSize (slot : Nat) : Nat := if slot < 4 then 64 * 262144 else 16 * 262144

/-- R252: the type fits the slot. -/
def typeFits (slot typ : Nat) : Bool := if slot < 4 then decide (typ ≤ 2) else decide (3 ≤ typ)

/-- Chunks of an image. -/
def chunkCount (len : Nat) : Nat := (len + 262143) / 262144

/-- The logical blocks of an image in a slot. -/
def imageBlocks (slot len : Nat) : List Nat := (List.range (chunkCount len)).map (slotChunk slot)

/-- The bytes of an image in a slot. -/
def State.imageBytes (s : State) (slot len : Nat) : List Nat :=
  (List.range len).map fun i => s.flashByte (slotChunk slot (i / 262144)) (i % 262144)

/-- R276: uncorrectable sectors of an image: of its header, and of the rest. -/
def State.badSectors (s : State) (env : FlashEnv) (slot len : Nat) : Bool × Bool :=
  let at_ (n : Nat) (x : Nat) : Bool := decide (x / 512 = s.physBlock (slotChunk slot n))
  (env.unc.any fun x => at_ 0 x && decide (x % 512 = 0),
   (List.range (chunkCount len)).any fun n =>
     env.unc.any fun x => at_ n x && decide (n * 262144 + x % 512 * 512 < len ∧ (n ≠ 0 ∨ x % 512 ≠ 0)))

/-- R249: the bytes of an entry before its CRC-32. -/
def DirEnt.body (e : DirEnt) : List Nat :=
  leBytes 4 0xA5C30F1E ++ leBytes 4 e.seq ++ [e.slot % 256, e.image.toNat, e.typ % 256, 0] ++ leBytes 4 e.length ++
    (leBytes 32 e.digest).reverse ++ leBytes 4 e.ver ++ List.replicate 8 0

/-- R249: the 64 bytes of an entry. -/
def DirEnt.bytes (e : DirEnt) : List Byte := (e.body ++ leBytes 4 (crc32 e.body)).map (BitVec.ofNat 8)

/-- R249: what the bytes of an entry say; none where its marker or its CRC does not check. -/
def dirEntryOf (xs : List Byte) : Option DirEnt :=
  let bs := xs.map BitVec.toNat
  if hdr bs 0 4 = 0xA5C30F1E ∧ hdr bs 60 4 = crc32 (bs.take 60) then
    some ⟨hdr bs 4 4, hdr bs 8 1, decide (hdr bs 9 1 = 1), hdr bs 10 1, hdr bs 12 4, beNum ((bs.drop 16).take 32),
      hdr bs 48 4⟩
  else none

/-- R249: the valid entries of the directory. -/
def State.entries (s : State) : List DirEnt := s.fls.dir.filterMap dirEntryOf

/-- R249: the newest entry of a slot. -/
def State.newestEntry (s : State) (slot : Nat) : Option DirEnt :=
  (s.entries.filter fun e => e.slot = slot).foldl
    (fun best e => match best with
      | none => some e
      | some b => if b.seq < e.seq then some e else some b) none

/-- R249: the image that a slot holds. -/
def State.slotImage (s : State) (slot : Nat) : Option DirEnt :=
  (s.newestEntry slot).filter fun e => e.image

/-- R249: the SEQ of a new entry. Past the largest an entry may hold, the manual gives none (log entry 129). -/
def State.nextSeq (s : State) : Nat :=
  let n := s.entries.foldl (fun n e => Nat.max n e.seq) 0
  if n < 0xFFFFFFFE then n + 1 else Config.seqAfterLast n % 2 ^ 32

/-- R249, R290: a new directory entry; of the older ones the journal keeps those of other slots. -/
def State.addEntryDir (s : State) (e : DirEnt) : State :=
  (s.updFls fun f =>
    { f with dir := f.dir.filter (fun bs => (dirEntryOf bs).any fun x => decide (x.slot ≠ e.slot)) ++ [e.bytes] }).journal 0

/-- R250: the boot candidates in descending SEQ order; a slot with an ERASE_PENDING block is none
(R281). -/
def State.bootCandidates (s : State) : List DirEnt :=
  let es := ((List.range 4).filterMap s.slotImage).filter fun e => decide (e.typ = 1) &&
    !(imageBlocks e.slot e.length).any fun b => s.pendingBlock (s.physBlock b)
  es.mergeSort fun a b => decide (b.seq ≤ a.seq)

/-- R272 steps 4 and 5 over the blocks of an image. -/
def State.imageStop (s : State) (slot len : Nat) : Option Nat :=
  let stops := (imageBlocks slot len).map s.blockStop
  if stops.contains (some stBUSY) then some stBUSY
  else if stops.contains (some stRETIRED) then some stRETIRED
  else none

/-! ## IMG_INSTALL (R252) -/

/-- R252 step 1: LENGTH fits and the slot may be overwritten. -/
def State.installArgs (s : State) (slot len : Nat) : Bool :=
  decide (slot < 8 ∧ 512 ≤ len ∧ len ≤ slotSize slot) &&
    decide (s.bootCandidates.head?.map (·.slot) ≠ some slot) &&
    (s.bit pCFG CFG_BOOT_NOIMG || decide (s.fld pCFG CFG_BOOT_SLOT ≠ slot))

/-- Data as pages of 2,048 bytes; what is left of the last page stays erased. -/
def pagesOfData (bs : List Nat) : List (List Nat) :=
  (chunksOf 2048 ((bs.length + 2047) / 2048) bs).map fun p => p ++ List.replicate (2048 - p.length) 0xFF

/-- R252 step 4 for one block: erase, program, margin-verify; the status that ends the routine, if any. -/
def State.installBlock (s : State) (env : FlashEnv) (slot len n : Nat) : State × Option Nat :=
  let b := slotChunk slot n
  let (s, st, _, replaced) := s.erase env b
  if st = stRETIRED ∧ !replaced then (s, some stRETIRED)
  else
    let bytes := s.bufBytes (n % 4 * 262144) (Nat.min 262144 (len - n * 262144))
    let p := s.physBlock b
    let (s, pst, _) := s.program env.progBad p 0 (pagesOfData bytes) 0
    if pst ≠ stOK then (s, some stVERIFY)
    else
      let m := s.marginOf env p id
      let weak := decide (s.fld pFLS FLS_CTRL_MWTHR ≤ (m.2.getD (0, 0)).1)
      if m.1 then (s, some stVERIFY)
      else
        let s := if weak then s.err pFLS FLS_E_MWEAK else s
        let w := (if st = stESLOW then 1 else 0) ||| (if st = stMWEAK ∨ weak then 2 else 0)
        (s.updFls fun f => { f with run := f.run.map fun r => { r with warn := r.warn ||| w } }, none)

/-- R252 step 4 over the chunks of a group. -/
def State.installBlocks (s : State) (env : FlashEnv) (slot len : Nat) : List Nat → State × Option Nat
  | [] => (s, none)
  | n :: ns =>
    match s.installBlock env slot len n with
    | (s, some st) => (s, some st)
    | (s, none) => State.installBlocks s env slot len ns

/-- The chunks of the group that chunk `n` ends. -/
def groupChunks (n : Nat) : List Nat := (List.range (n % 4 + 1)).map fun i => n - n % 4 + i

/-- R252 steps 5 and 6. -/
def State.installEnd (s : State) (env : FlashEnv) (slot len warn : Nat) : State :=
  let bs := s.imageBytes slot len
  let bad := s.badSectors env slot len
  if s.bodyStatus bs (bad.1 || bad.2) ≠ stOK then s.endOpen stSIGFAIL
  else
    let s := s.addEntryDir ⟨s.nextSeq, slot, true, imgType bs, len, imgDigest bs, imgVer bs⟩
    s.endOpen (if warn.testBit 1 then stMWEAK else if warn.testBit 0 then stESLOW else stOK)

/-- R252 steps 2 and 3, on chunk 0: the status that ends the routine, if any. -/
def State.installHead (s : State) (slot len : Nat) : State × Option Nat :=
  let bs := s.bufBytes 0 512
  let st := s.headStatus bs
  if st ≠ stOK then (s, some st)
  else if imgLength bs ≠ len ∨ !typeFits slot (imgType bs) then (s, some stBADARG)
  else (s.addEntryDir ⟨s.nextSeq, slot, false, 0, 0, 0, 0⟩, none)

/-- R252: IMG_INSTALL, which runs on to its next chunk or to its end. -/
def execImgInstall (t : Time) (env : FlashEnv) (s : State) : Host.Outcome State Fault Refusal :=
  .next (s.routine t 0x10 fun r s =>
    let slot := r.arg 0
    let len := r.arg 1
    if r.step = 0 then
      if s.inScrap then s.endOpen stLCS
      else if !s.installArgs slot len then s.endOpen stBADARG
      else if (imageBlocks slot len).any s.protectedBlock then s.endOpen stPROTECTED
      else if (imageBlocks slot len).any s.retiredBlock then s.endOpen stRETIRED
      else s.askChunk s.time slot 0
    else
      let n := r.chunk
      let last := decide (n + 1 = chunkCount len)
      match if n = 0 then s.installHead slot len else (s, none) with
      | (s, some st) => s.endOpen st
      | (s, none) =>
        match if last || decide (n % 4 = 3) then s.installBlocks env slot len (groupChunks n) else (s, none) with
        | (s, some st) => s.endOpen st
        | (s, none) =>
          if last then s.installEnd env slot len ((s.fls.run.map (·.warn)).getD 0)
          else s.askChunk s.time slot (n + 1))

/-! ## IMG_SELECT (R253) -/

/-- R253: IMG_SELECT. -/
def execImgSelect (t : Time) (env : FlashEnv) (s : State) : Host.Outcome State Fault Refusal :=
  .next (s.routine t 0x11 fun r s =>
    let slot := r.arg 0
    if s.inScrap then s.endOpen stLCS
    else match (s.slotImage slot).filter fun e => decide (slot < 4 ∧ e.typ = 1) with
      | none => s.endOpen stBADARG
      | some e =>
        match s.imageStop slot e.length with
        | some st => s.endOpen st
        | none =>
          let bs := s.imageBytes slot e.length
          let bad := s.badSectors env slot e.length
          if !classOk s.pwr.lcs bs then s.endOpen stLCS
          else if s.bodyStatus bs (bad.1 || bad.2) ≠ stOK then s.endOpen stSIGFAIL
          else (s.addEntryDir { e with seq := s.nextSeq }).endOpen stOK)

/-! ## IMG_LOAD (R254, R255) -/

/-- R254: the regions that a load of type 1 or 2 writes, with the section of each; none when the
destination is not as required. -/
def State.loadRegions (s : State) (r : Run) (typ k : Nat) : Option (List (Nat × Nat)) :=
  if typ = 1 then
    let rs := inMask (r.arg 1 + r.arg 2 * 2 ^ 32)
    if rs.all fun n => decide ((s.region n).state = 0 ∨ (s.region n).id = 1) then
      some (rs.map fun n => (n, n))
    else none
  else
    match s.plc.allocs.find? fun a => decide (a.id = r.arg 1 ∧ a.id ≠ 1) with
    | none => none
    | some a => if a.k = k then some ((List.range k).map fun j => (a.base + j, j)) else none

/-- R254: a destination belongs to the armed set. -/
def State.armedRegion (s : State) (n : Nat) : Bool :=
  match s.cfg.as with
  | some a => (a.swap ||| a.unld).testBit n
  | none => false

/-- R243: a section of an image as a plane holds it. -/
def planeOf (bs : List Nat) (slot section_ : Nat) : Plane :=
  let body := (bs.drop (section_ * 262144 + 512)).take 261632
  ⟨2, SMap.putAll 0 [] 0 (body.map (BitVec.ofNat 8)), slot, imgVer bs, imgDigest bs⟩

/-- R254: the Voile planes of a load become LOADING; R155: a FREE region becomes PENDING. -/
def State.startLoad (s : State) (typ : Nat) (rs : List (Nat × Nat)) : State :=
  let s := rs.foldl (fun s x =>
    let s := s.setVoile x.1 { s.voile x.1 with state := 1 }
    if typ = 1 ∧ (s.region x.1).state = 0 then s.setRegion x.1 ⟨1, 1⟩ else s) s
  let dest := rs.map fun x => (x.1, x.2, (s.region x.1).id)
  s.updFls fun f => { f with run := f.run.map fun r => { r with step := 2, dest := dest } }

/-- R155, R254: a load into these planes (region, section, ALLOCID) fails. -/
def State.failLoad (s : State) (typ : Nat) (rs : List (Nat × Nat × Nat)) : State :=
  rs.foldl (fun s x =>
    let s := s.setVoile x.1 Plane.empty
    if typ = 1 ∧ (s.region x.1).state = 1 then s.setRegion x.1 RgnAlloc.free else s) s

/-- R254: the region of a plane that a load writes still belongs to the allocation that the load found there. -/
def State.stillOwn (s : State) (x : Nat × Nat × Nat) : Bool :=
  decide ((s.region x.1).state ≠ 0 ∧ (s.region x.1).id = x.2.2)

/-- R254: a load of planes ends: they take their sections and become LOADED. Where the allocation has gone meanwhile
(R154), the planes of its regions become EMPTY, and the destination is not as required (DESIGN CHOICE, log entry 130). -/
def State.endLoad (s : State) (bs : List Nat) (slot : Nat) (rs : List (Nat × Nat × Nat)) : State :=
  let gone := rs.filter fun x => !s.stillOwn x
  let s := (rs.filter s.stillOwn).foldl (fun s x => s.setVoile x.1 (planeOf bs slot x.2.1)) s
  (gone.foldl (fun s x => s.setVoile x.1 Plane.empty) s).endOpen (if gone.isEmpty then stOK else stBADARG)

/-- R2, R244: instruction `a` of a microcode image. -/
def imgCode (bs : List Nat) (a : Nat) : BitVec 40 :=
  BitVec.ofNat 40 ((List.range 4).foldl
    (fun n i => n + hdr bs (512 + 8 * a + 2 * i) 2 % 1024 * 2 ^ (10 * i)) 0)

/-- R250, R254: the eight copies of a plane take a microcode image; none leaves it all zero. -/
def State.loadMicrocode (s : State) (plane : Nat) (bs : Option (List Nat)) : State :=
  (List.range 4096).foldl (fun s a =>
    s.mcStore plane a (match bs with
      | some bs => imgCode bs a
      | none => 0)) s

/-- R254: the pending class table and targets take a class-table image. -/
def State.loadClasses (s : State) (bs : List Nat) : State :=
  let s := (List.range 64).foldl (fun s k =>
    let v := hdr bs (512 + 4 * k) 4
    s.updJer fun j =>
      { j with
        pend := SMap.put ClsEnt.none j.pend k
          ⟨decide (JE_CTDATA_VALID.of v = 1), JE_CTDATA_PLANE.of v, JE_CTDATA_ENTRY.of v, 0⟩ }) s
  ((List.range 16).foldl (fun s n => s.doFctgt n (hdr bs (768 + 4 * n) 4)) s).unverify

/-- R255: the group entries of record `i` of a context-set image. -/
def recordEntries (bs : List Nat) (i : Nat) : List GEntry :=
  let base := 512 + 82 * i
  let h := hdr bs base 2
  let bits := leNum ((bs.drop (base + 2)).take 80)
  ((List.range 64).filter hostWord).map fun w => .put h w (BitVec.ofNat 10 (bits / 2 ^ (10 * w)))

/-- R255: the entries of a group of 64 records; a record whose handle does not exist is dropped. -/
def groupEntries (bs : List Nat) (g : Nat) : List GEntry :=
  let count := (bs.length - 512) / 82
  (((List.range 64).map (· + 64 * g)).filter fun i => decide (i < count ∧ hdr bs (512 + 82 * i) 2 < 49152)).flatMap
    (recordEntries bs)

/-- R255: the context-set load ends. -/
def State.endContexts (s : State) (status : Nat) : State :=
  (s.updFls fun f => { f with ctxLoad := false }).endOpen status

/-- R255: the load closes its next group, or ends: each group waits for the one before. -/
def State.loadContexts (s : State) (r : Run) (bs : List Nat) : State :=
  if r.chunk ≠ 0 ∧ r.warn = 0 then s
  else if 1 < r.warn then s.endContexts stBADARG
  else if (bs.length - 512) / 82 ≤ 64 * r.chunk then s.endContexts stOK
  else if 16 ≤ s.ctx.waiting.length then s
  else
    let s := s.updFls fun f =>
      { f with run := f.run.map fun x =>
          { x with chunk := r.chunk + 1, warn := 0, group := nextGroupId s.ctx.lastId } }
    (s.updCtx fun c => { c with open_ := groupEntries bs r.chunk }).closeGroup

/-- R254, R255: IMG_LOAD before it writes: its destination. -/
def State.loadStart (s : State) (r : Run) (bs : List Nat) : State :=
  let typ := imgType bs
  let armedCt := match s.cfg.as with
    | some a => a.ct
    | none => false
  if typ ≤ 2 then
    match s.loadRegions r typ (imgK bs) with
    | none => s.endOpen stBADARG
    | some rs => if rs.any fun x => s.armedRegion x.1 then s.endOpen stBUSY else s.startLoad typ rs
  else if typ = 3 then
    let plane := r.arg 1
    if 2 ≤ plane then s.endOpen stBADARG
    else if s.planeLive plane || s.verifying then s.endOpen stBUSY
    else match s.opened bs with
      | some bs => (s.loadMicrocode plane (some bs)).endOpen stOK
      | none => (s.loadMicrocode plane none).endOpen stSIGFAIL
  else if typ = 4 then
    if armedCt || s.verifying then s.endOpen stBUSY
    else match s.opened bs with
      | some bs => (s.loadClasses bs).endOpen stOK
      | none => s.endOpen stSIGFAIL
  else
    if !s.ctx.open_.isEmpty then s.endOpen stBUSY
    else match s.opened bs with
      | some bs =>
        let s := s.updFls fun f =>
          { f with ctxLoad := true, run := f.run.map fun x => { x with step := 2 } }
        s.loadContexts { r with step := 2 } bs
      | none => s.endOpen stSIGFAIL

/-- R254: IMG_LOAD: checks and destination first, then the planes or the next group. -/
def execImgLoad (t : Time) (env : FlashEnv) (s : State) : Host.Outcome State Fault Refusal :=
  .next (s.routine t 0x12 fun r s =>
    let slot := r.arg 0
    if s.inScrap then s.endOpen stLCS
    else match (s.slotImage slot).filter fun _ => decide (slot < 8) with
      | none => s.endOpen stBADARG
      | some e =>
        let bs := s.imageBytes slot e.length
        if r.step = 0 then
          match s.imageStop slot e.length with
          | some st => s.endOpen st
          | none =>
            let bad := s.badSectors env slot e.length
            let st := s.loadStatus bs bad.1 bad.2
            if st ≠ stOK then s.endOpen st else s.loadStart r bs
        else if s.fls.ctxLoad then
          match s.opened bs with
          | some bs => s.loadContexts r bs
          | none => s.endContexts stSIGFAIL
        else
          match s.opened bs with
          | some bs => s.endLoad bs slot r.dest
          | none => (s.failLoad (imgType bs) r.dest).endOpen stSIGFAIL)

/-! ## Routines that are cut short (R271, R281, R284, R291) -/

/-- R281: an erase of a physical block is cut short: its flag cell stands, and what its cells hold is open. -/
def State.cutErase (s : State) (p : Nat) : State :=
  let s := s.eraseBegin p
  let cells := (List.range 262144).map fun i => (i, (BitVec.ofNat 8 (Config.freeValue (s.free + i)) : Byte))
  { (s.updFls fun f =>
      { f with
        mem := SMap.paste 0xFF (p * 262144) (SMap.clearRange f.mem (p * 262144) ((p + 1) * 262144))
          (cells.filter fun x => x.2 ≠ 0xFF)
        used := SMap.paste false (p * 128) (SMap.clearRange f.used (p * 128) ((p + 1) * 128))
          ((List.range 128).map fun i => (i, true)) }) with
    free := s.free + 262144 }

/-- R277: programming is cut short: a free number of pages, fewer than all, are programmed, and the page
after them is lost. -/
def State.cutProgram (s : State) (p first : Nat) (pages : List (List Nat)) : State × Nat :=
  let n := Config.freeValue s.free % pages.length
  let s := { s with free := s.free + 1 }
  let s := (s.program [] p first (pages.take n) 0).1
  (s.programPage (p * 128 + first + n) [] false, n)

/-- R252: a group of an install is cut short, in its erases or in its programming. -/
def State.cutGroup (s : State) (slot len : Nat) : List Nat → State
  | [] => s
  | n :: ns =>
    let p := s.physBlock (slotChunk slot n)
    let erasing := decide (Config.freeValue s.free % 2 = 1)
    let s := { s with free := s.free + 1 }
    let bytes := s.bufBytes (n % 4 * 262144) (Nat.min 262144 (len - n * 262144))
    let s := if erasing then s.cutErase p
      else (((s.eraseBegin p).updFls fun f => blankBlock f p).cutProgram p 0 (pagesOfData bytes)).1
    State.cutGroup s slot len ns

/-- R252: an install is cut short while it works on a chunk: on chunk 0 before or after its invalidation entry is
complete, and then, where the chunk ends a group, in that group. -/
def State.cutInstall (s : State) (slot len n : Nat) : State :=
  let group (s : State) : State :=
    if n % 4 = 3 ∨ n + 1 = chunkCount len then s.cutGroup slot len (groupChunks n) else s
  if n ≠ 0 then group s
  else
    let k := s.takeFree 1
    match k.2.installHead slot len with
    | (_, some _) => k.2
    | (u, none) => if k.1 = 0 then k.2 else group u

/-- The routine's code. -/
def Run.code (r : Run) : Nat := r.req.code

/-- What a running routine leaves when it is cut short, and how many pages it had programmed. -/
def State.cutRoutine (s : State) (r : Run) : State × Nat :=
  let b := r.arg 0
  let p := s.physBlock b
  if r.step = 1 then (s, 0)
  else if r.code = 0x02 ∧ r.step = 2 then
    s.cutProgram p (r.arg 1) (chunksOf 2048 (r.arg 2) (s.bufBytes 0 (r.arg 2 * 2048)))
  else if r.code = 0x03 ∧ !s.inScrap ∧ userBlock b ∧ !s.protectedBlock b ∧ !s.retiredBlock b then
    (s.cutErase p, 0)
  else if r.code = 0x06 ∧ !s.inScrap ∧ (userBlock b || slotBlock b) ∧ !s.pendingBlock p ∧ !s.retiredBlock b then
    (match s.spareFor (b / 128) with
     | some q => (s.toPool q).poolCheck
     | none => s, 0)
  else if r.code = 0x09 ∧ r.step = 2 then
    let n := r.arg 1 / 16
    let k := Config.freeValue s.free % n
    ((({ s with free := s.free + 1 }).otpProgram [] (r.arg 0 / 16)
      ((chunksOf 16 n (s.bufBytes 0 (r.arg 1))).take k)).1.consumeCert (r.arg 0) (r.arg 1), 0)
  else if r.code = 0x10 ∧ r.step = 2 then (s.cutInstall b (r.arg 1) r.chunk, 0)
  else if r.code = 0x12 ∧ r.step = 2 then
    match s.slotImage b with
    | none => (s, 0)
    | some e =>
      let bs := s.imageBytes b e.length
      if s.fls.ctxLoad then (s.updFls fun f => { f with ctxLoad := false }, 0)
      else (s.failLoad (imgType bs) r.dest, 0)
  else (s, 0)
/-- R251: STAGING_TIMEOUT: STGTO ms have passed since REQ. -/
def execStagingTimeout (s : State) : Host.Outcome State Fault Refusal :=
  .next (match s.fls.run with
    | none => s
    | some r =>
      if s.bit pCFG CFG_STGSTAT_REQ then
        let s := s.at_ s.cfg.stgBy
        if r.req.code = 0x02 then s.endRoutine stTIMEOUT 0
        else if r.req.code = 0x09 then (s.consumeCert (r.arg 0) (r.arg 1)).endOpen stTIMEOUT
        else s.endOpen stTIMEOUT
      else s)

/-- R271: ROUTINE_TIMEOUT: the running routine has used more than its limit. -/
def execRoutineTimeout (t : Time) (s : State) : Host.Outcome State Fault Refusal :=
  let s := s.at_ t
  .next (match s.fls.run with
    | none => s
    | some r =>
      if r.over s.time then
        let (s, n) := s.cutRoutine r
        if r.req.code = 0x02 then s.endRoutine stTIMEOUT n else s.endOpen stTIMEOUT
      else s)

/-- R281, R291: an aborted erase keeps its flag cell. The pages of a log-save block that is cut short hold no save that
checks. -/
def cutBg (f : Fls) : Fls :=
  match f.bg with
  | some b => if b.op = 3 then
      { f with saves := f.saves.take (f.saves.length - 128) ++ (f.saves.drop (f.saves.length - 128)).map fun _ => [] }
    else f
  | none => f

/-- R291: the sequencer aborts its operation, and discards every queued routine without a completion. -/
def State.abortSeq (s : State) : State :=
  let s := match s.fls.run with
    | some r => (s.cutRoutine r).1
    | none => s
  ((s.updFls fun f =>
    { cutBg f with run := none, queue := [], bg := none, ctxLoad := false }).setFld pCFG CFG_STGSTAT_REQ 0).showSeq

end Sys2Proof.Machine
end

