-- ==== Sys2Proof/Machine/Reset.lean ====
section
/-! DEFINITION. What each kind of reset keeps and clears (spec/17_bringup.md, R394 to R397): the state in
which bring-up starts. -/

namespace Sys2Proof.Machine

/-! ## Registers kept (R394) -/

/-- R394: a register field that warm reset, undervoltage reset and GAUZE wake keep: those of the SYS,
LCS, LOG and PWR pages but for CERT, FN and FNLOAD, FSTAT, CLASSCNT and UVLO, and REFSEL. -/
def keptField (k : Nat) : Bool :=
  let p := k / 131072
  let off := k % 131072 / 32
  decide (p = pSYS ∨ p = pLOG ∨ p = pPWR) || decide (p = pLCS ∧ off < 0x100) ||
    decide (p = pFRM ∧ 0x5C ≤ off ∧ off ≤ 0x68) ||
    decide (p = pERR ∧ (off = 0x40 ∨ off = 0x44 ∨ off = 0x50)) ||
    k == fldKey (pCLK 0) CLK_STAT_REFSEL || (decide (256 ≤ p) && decide (k % 131072 = IOB_STAT_VDET.off * 32 + IOB_STAT_VDET.lo))

/-! ## Parts that keep something -/

/-- R265, R394: the flash die keeps its contents; what the sequencer held is lost. -/
def Fls.restart (f : Fls) : Fls :=
  { f with
    returned := [], zsess := 0, queue := [], run := none, cpls := [], bg := none, buf := [], ctxLoad := false }

/-- R328, R394: a user I/O bank: its inputs are those of its pins, and held pads stay held. -/
def iobRestart (hold : Bool) (i : Iob) : Iob :=
  { Iob.reset with
    level := i.level
    held := hold && i.held
    heldOe := if hold then i.heldOe else 0
    heldOut := if hold then i.heldOut else 0
    heldPull := if hold then i.heldPull else [] }

/-- R394: the fabric. -/
def Fab.restart (f : Fab) (hold : Bool) : Fab :=
  { Fab.reset with
    iob := (List.range 8).foldl (fun m b => SMap.put Iob.reset m b (iobRestart hold (SMap.get Iob.reset f.iob b))) [] }

/-- The angle units: the levels of their pins stay. -/
def angRestart (m : SMap Ang) : SMap Ang :=
  (List.range 8).foldl (fun n u =>
    SMap.put Ang.off n u { Ang.off with a := (SMap.get Ang.off m u).a, b := (SMap.get Ang.off m u).b }) []

/-- The frame controller in STOP: the level of TICK_IN stays. -/
def Frm.restart (f : Frm) : Frm := { Frm.reset with tickIn := f.tickIn }

/-- The log ring, which the Muslin domain holds, and the ports outside the endpoint. -/
def Hst.restart (h : Hst) : Hst :=
  { Hst.reset with
    ring := h.ring, entCap := h.entCap, spErr := h.spErr, spStatus := h.spStatus, jtag := h.jtag, scan := h.scan }

/-- R326: a bank that RETAIN named when entry to GAUZE used it. -/
def State.retains (s : State) (bank : Nat) : Bool := s.pwr.kept.testBit bank

/-- Entries of a store keyed by slot, `n` keys to a slot, that lie in retained banks. -/
def State.ofRetained {α : Type} (s : State) (n : Nat) (m : SMap α) : SMap α :=
  m.filter fun e => s.retains (bankOf (e.1 / n))

/-- R326: the context page after a GAUZE wake: the retained banks and the retention block. -/
def State.wakeCtx (s : State) : Ctx :=
  let c := s.ctx
  if s.pwr.kept = 0 then Ctx.reset
  else
    { Ctx.reset with
      store := s.ofRetained 64 c.store
      ecc := s.ofRetained 16 c.ecc
      flip := s.ofRetained 64 c.flip
      quar := c.quar
      once := c.once
      qmapBad := c.qmapBad
      due := s.ofRetained 1 c.due
      load := c.load.filter fun e => s.retains (bankOf (s.phys e.1))
      safe := c.safeW
      safeW := c.safeW
      safeBad := c.safeBad }

/-- R326: the microcode store and the class tables after a GAUZE wake: all eight copies hold what group 0
held. -/
def State.wakeJer (s : State) : Jer :=
  if s.pwr.kept = 0 then Jer.reset
  else
    let bad := s.jer.mcBad.filter fun e => e.1 < 8192
    { Jer.reset with
      mc := s.jer.mc
      mcBad := (List.range 8).foldl (fun m g => bad.foldl (fun m e => SMap.put false m (g * 8192 + e.1) e.2) m) []
      pend := s.jer.inf
      inf := s.jer.inf
      portAct := s.jer.portAct }

/-- R326: the FCALL targets in force, and VERIFIED, after a GAUZE wake. -/
def State.wakeTargets (s old : State) : State :=
  if old.pwr.kept = 0 then s
  else
    let s := (List.range 16).foldl (fun s n =>
      (s.setFld (pJE 0) (JE_FCTGT_ENACT n) (old.fld (pJE 0) (JE_FCTGT_ENACT n))).setFld (pJE 0)
        (JE_FCTGT_LATACT n) (old.fld (pJE 0) (JE_FCTGT_LATACT n))) s
    s.revertTargets.setFld (pJE 0) JE_CTSTAT_VERIFIED 1

/-- R326: the quarantine count, from the map kept. -/
def State.recount (s : State) : State := s.setFld pCTX CTX_QCNT_COUNT s.ctx.quar.length

/-- R326: the handle table after a GAUZE wake. -/
def State.wakePlc (s : State) : Plc :=
  if s.pwr.kept = 0 then Plc.reset
  else { Plc.reset with home := s.plc.home, hmBad := s.plc.hmBad }

/-! ## The reset (R394 to R396) -/

/-- What every reset leaves of the power, fuse and pin state. -/
def Pwr.restart (p : Pwr) (kind : Nat) : Pwr :=
  { Pwr.reset with
    kind := kind
    faultB := decide (kind = 3) && p.faultB
    wakeB := decide (kind = 3) && p.wakeB
    pfw := p.pfw
    pfwBlock := p.pfwBlock
    perst := p.perst
    gz := if kind = 3 then 3 else 0
    gzAt := p.gzAt
    kept := if kind = 3 then p.kept else 0
    canary := if kind = 3 then p.canary else []
    certIn := if kind = 3 then p.certIn else none
    fuse := p.fuse
    trimGone := p.trimGone
    lcs := p.lcs
    hot := if kind = 0 then 0 else p.hot
    warm := decide (kind ≠ 0) && p.warm
    tripped := decide (kind ≠ 0) && p.tripped
    uvlo := if kind = 0 then none else p.uvlo }

/-- R394: the state in which bring-up starts after a reset of a kind: 0 POR, 1 warm reset,
2 undervoltage reset, 3 GAUZE wake. -/
def State.enterReset (s : State) (kind : Nat) : State :=
  let s := if s.pwr.up then s.abortSeq else s
  let count := Nat.min 65535 (s.fld pSYS SYS_RSTINFO_COUNT + 1)
  let n : State :=
    { s with
      flds := if kind = 0 then [] else s.flds.filter fun e => keptField e.1
      time := if kind = 0 then 0 else s.time
      inst := if kind = 0 then ⟨[], [], 0⟩ else s.inst
      frm := s.frm.restart
      ctx := if kind = 3 then s.wakeCtx else Ctx.reset
      jer := if kind = 3 then s.wakeJer else Jer.reset
      plc := if kind = 3 then s.wakePlc else Plc.reset
      lnk := []
      ang := angRestart s.ang
      fab := s.fab.restart (decide (kind ≠ 0))
      cfg := Cfg.reset
      fls := s.fls.restart
      pwr := s.pwr.restart kind
      twn := Twn.reset
      hst := if kind = 0 then Hst.reset else s.hst.restart }
  if kind = 0 then n
  else
    let n := (n.setFld pSYS SYS_RSTINFO_KIND kind).setFld pSYS SYS_RSTINFO_COUNT count
    let n := n.setFld pPWR PWR_STAT_STOPPED 0
    if kind = 3 then (n.wakeTargets s).recount else n

/-- R394: POR. -/
def State.powerOn (s : State) : State :=
  (s.enterReset 0).updPwr fun p => { p with pfw := false, pfwBlock := false }

/-- R329: VCC_MUS is lost: the device is OFF until a POR. -/
def State.powerOff (s : State) : State :=
  (s.enterReset 0).updPwr fun p => { p with gz := 4, pfw := false, pfwBlock := false }

/-- R394, R395: POR: VCC_MUS rises, or POR_B was low in a device that has power: for 2.5 µs or more that is a POR, for
1.5 µs or less it is none, and in between the manual leaves it open. -/
def execPor (x : PorIn) (s : State) : Host.Outcome State Fault Refusal :=
  let s := s.at_ x.t
  .next (match x.low with
    | none => s.powerOn
    | some ns =>
      if s.pwr.gz = 4 ∨ ns ≤ 1500 then s
      else if 2500 ≤ ns then s.powerOn
      else
        let (b, s) := s.takeFree 1
        if b = 1 then s.powerOn else s)

/-- R329: VCC_MUS_LOSS. -/
def execVccMusLoss (t : Time) (s : State) : Host.Outcome State Fault Refusal := .next (s.at_ t).powerOff

/-- R322, R324, R325: a wake by source `src`, with the pin or channel and the value that woke the device
where the source has them: the manual gives no others. -/
def State.wake (s : State) (src : Nat) (pin value : Option Nat) : State :=
  let (i, s) := s.takeFree 4
  let (v, s) := s.takeFree 10
  let i := pin.getD i
  let v := value.getD v
  let s := ((s.setFld pPWR PWR_WAKESRC_SRC src).setFld pPWR PWR_WAKESRC_INDEX i).setFld pPWR PWR_WAKESRC_VALUE v
  let s := s.addWrap pPWR PWR_WAKECNT_COUNT 1
  let s := s.updPwr fun p => { p with gzAt := s.time }
  let s := s.enterReset (if src = 7 then 1 else 3)
  s.updPwr fun p => { p with gz := 3, wakeB := s.bit pPWR PWR_CTRL_WAKEB, woken := true }

/-- R396: a warm reset, which a device that is OFF does not make; in GAUZE it is wake source 7. -/
def State.warmReset (s : State) : State :=
  if s.pwr.gz = 4 then s else if s.pwr.gz = 2 then s.wake 7 none none else s.enterReset 1

/-- R425: a write of SYS.RESET. -/
def State.doReset (s : State) (v : Nat) : State :=
  if SYS_RESET_KEY.of v = 0x3C5A ∧ SYS_RESET_WARM.of v = 1 then s.warmReset else s.err pSYS SYS_E_RSTKEY

/-- R425: SYS_RESET. -/
def execSysReset (t : Time) (v : Dword) (s : State) : Host.Outcome State Fault Refusal :=
  .next (s.hostWrite t (pSYS * 4096 + 0x40) v.toNat fun s => s.doReset v.toNat)

/-- R391: UNDERVOLTAGE_RESET: a rail below its threshold for 2 µs; ERR.UVLO records the first rail. -/
def execUndervoltageReset (t : Time) (x : RailIn) (s : State) : Host.Outcome State Fault Refusal :=
  let s := s.at_ t
  .next (if s.pwr.gz = 4 ∨ x.ns < 2000 then s
  else
    let s := if s.bit pERR ERR_UVLO_VALID then s
      else (s.setFld pERR ERR_UVLO_VALID 1).setFld pERR ERR_UVLO_RAIL x.rail.val
    (s.updPwr fun p => { p with uvlo := some x.rail.val }).enterReset 2)

/-- R397: what PERST_B does to the endpoint and the PCI page. -/
def State.resetEndpoint (s : State) : State :=
  let s := s.resetPage pPCI
  s.updHst fun h =>
    { h with hung := [], msix := [], pba := 0, asserted := 0, msixEn := false, msixMask := false }

/-- R397: PERST: PERST_B is asserted. -/
def execPerst (t : Time) (s : State) : Host.Outcome State Fault Refusal :=
  let s := s.at_ t
  .next ((s.resetEndpoint.updPwr fun p => { p with perst := true, d3 := false }).updFab fun f => { f with hp := [] })

/-- R397: PERST_RELEASE: the endpoint leaves reset and trains again. -/
def execPerstRelease (t : Time) (s : State) : Host.Outcome State Fault Refusal :=
  .next ((s.at_ t).updPwr fun p => { p with perst := false })

end Sys2Proof.Machine
end

