-- ==== Sys2Proof/Machine/LifeCycle.lean ====
section
/-! DEFINITION. Life cycle, fuses, transitions with their wipes, certificates and what debug access is
open (spec/14_lifecycle.md, R331 to R347). -/

namespace Sys2Proof.Machine

/-! ## States and fuses (R331, R338 to R340) -/

/-- R331: the code of a state index. -/
def lcsCode (i : Nat) : Nat :=
  match i with
  | 0 => 0x1E | 1 => 0x2D | 2 => 0x4B | 3 => 0x87 | _ => 0xF0

/-- R331: the state index of a code. -/
def lcsIndex (c : Nat) : Option Nat := (List.range 5).find? fun i => lcsCode i = c

/-- R338: the blown fuses of a group: copy A (0), copy B (1) or intent (2) of state `i` from 1 to 4. -/
def State.fuses (s : State) (copy i : Nat) : Nat := SMap.get 0 s.pwr.fuse (copy * 4 + i - 1)

/-- Sets the blown fuses of a group. -/
def State.setFuses (s : State) (copy i n : Nat) : State :=
  s.updPwr fun p => { p with fuse := SMap.put 0 p.fuse (copy * 4 + i - 1) n }

/-- R338: the SCRAP wipe marker is reached. -/
def State.wipeMarked (s : State) : Bool := decide (SMap.get 0 s.pwr.fuse 12 ≠ 0)

/-- R340: the state of copy A or B. -/
def State.copyState (s : State) (copy : Nat) : Nat :=
  (([4, 3, 2, 1].find? fun i => 5 ≤ s.fuses copy i)).getD 0

/-- R340: the state in force. -/
def State.decodedState (s : State) : Nat := Nat.max (s.copyState 0) (s.copyState 1)

/-- R340: the target of a pending transition. -/
def State.pendingState (s : State) : Option Nat :=
  [4, 3, 2, 1].find? fun i => decide (s.decodedState < i ∧ 1 ≤ s.fuses 2 i)

/-- R338: the partly burned state-group copies: copy and state. -/
def State.partGroups (s : State) : List (Nat × Nat) :=
  ([0, 1].flatMap fun c => [1, 2, 3, 4].map fun i => (c, i)).filter fun x =>
    decide (1 ≤ s.fuses x.1 x.2 ∧ s.fuses x.1 x.2 ≤ 4)

/-- R339: a state group is burned in one copy; a burn that fails ends with fewer than 5 fuses blown, which
FUSEFAIL reports. -/
def State.burnCopy (s : State) (copy i : Nat) (bad : Bool) : State :=
  if bad then
    let n := Nat.max (Nat.min 4 (s.fuses copy i)) (Config.freeValue s.free % 5)
    let s := { s with free := s.free + 1 }.setFuses copy i n
    (s.err pLCS LCS_E_FUSEFAIL).log pLCS 0x0B1 3 (i + 256 * copy)
  else s.setFuses copy i 8

/-! ## Wipes (R336, R337) -/

/-- R336: one logical block is erased; one that fails is retired. -/
def State.wipeBlock (env : FlashEnv) (s : State) (b : Nat) : State :=
  let p := s.physBlock b
  let s := s.eraseBegin p
  let s := (s.setFld pFLS FLS_LASTERS_PULSES (Nat.min 40 (pulsesOf env p))).setFld pFLS FLS_LASTERS_BLOCK p
  State.pendGone s (if 40 < pulsesOf env p then (s.retireBlock b p).1 else s.updFls fun f => blankBlock f p)

/-- R336, R337: units of the OTP row are programmed to 0x00. -/
def State.wipeOtp (s : State) (first count : Nat) : State :=
  (List.range count).foldl (fun s i => s.otpUnit (first + i) (List.replicate 16 0)) s

/-- R336: the RETURN wipe. -/
def State.returnWipe (s : State) (env : FlashEnv) : State :=
  let blocks := (List.range 512).filter fun b => decide (2 ≤ b % 128 ∧ b % 128 ≤ 122)
  let s := blocks.foldl (State.wipeBlock env) s
  let s := s.updFls fun f => { f with dir := [], zperm := 0, zsess := 0, pw := none, saves := [] }
  s.wipeOtp 18 46

/-- R337: the fuses of the trim, repair, device-ID and marker groups are blown. -/
def State.blowTrim (s : State) : State :=
  s.updPwr fun p => { p with fuse := SMap.put 0 p.fuse 12 8, trimGone := true }

/-- R337: the SCRAP wipe. -/
def State.scrapWipe (s : State) : State :=
  let s := s.updFls fun f => { Fls.reset with otp := f.otp, otpLock := f.otpLock }
  (s.wipeOtp 0 128).blowTrim

/-- R334 step 2: the wipe of a target. -/
def State.wipeFor (s : State) (tgt : Nat) (env : FlashEnv) : State :=
  if tgt = 3 then s.returnWipe env else if tgt = 4 then s.scrapWipe else s

/-! ## Transitions (R333 to R335, R339) -/

/-- R339: the first `n` fuses of a group are blown. -/
def State.blowFirst (s : State) (copy i n : Nat) : State :=
  s.setFuses copy i (Nat.max (s.fuses copy i) (Nat.min 8 n))

/-- R336: the blocks of one round of the RETURN wipe: eight of each plane. -/
def wipeRound (r : Nat) : List Nat :=
  (List.range 512).filter fun b => decide (2 + 8 * r ≤ b % 128 ∧ b % 128 < 10 + 8 * r ∧ b % 128 ≤ 122)

/-- R336: the RETURN wipe loses power: in a round of its erases, or after so many units of the OTP row. -/
def State.cutReturn (s : State) (env : FlashEnv) (n : Nat) : State :=
  let s := ((List.range (Nat.min n 16)).flatMap wipeRound).foldl (State.wipeBlock env) s
  if n < 16 then (wipeRound n).foldl (fun s b => s.cutErase (s.physBlock b)) s
  else
    (s.updFls fun f => { f with dir := [], zperm := 0, zsess := 0, pw := none, saves := [] }).wipeOtp 18
      (Nat.min (n - 16) 46)

/-- R337: a physical block is erased by the SCRAP wipe. -/
def State.scrapBlock (s : State) (p : Nat) : State := (s.eraseBegin p).updFls fun f => blankBlock f p

/-- R337: the physical blocks of one round of the SCRAP wipe: eight of each plane. -/
def scrapRound (r : Nat) : List Nat := (List.range 512).filter fun p => decide (p % 128 / 8 = r)

/-- R337: the SCRAP wipe loses power: in a round of its erases, after so many units of the OTP row, or, the row being
done, after fuse 0 of the marker group. -/
def State.cutScrap (s : State) (n : Nat) : State :=
  if n < 16 then (scrapRound n).foldl State.cutErase (((List.range n).flatMap scrapRound).foldl State.scrapBlock s)
  else
    let s := s.updFls fun f => { Fls.reset with otp := f.otp, otpLock := f.otpLock }
    let s := s.wipeOtp 0 (Nat.min (n - 16) 128)
    if n < 144 then s else s.updPwr fun p => { p with fuse := SMap.put 0 p.fuse 12 1, trimGone := true }

/-- R334, R341: VCC_MUS is lost in a step of a transition. -/
def State.cutTransition (s : State) (tgt : Nat) (env : FlashEnv) (bad : Bool × Bool) (x : LostIn) : State :=
  let intent := s.setFuses 2 tgt 8
  (match x.step with
  | 0 => s.blowFirst 2 tgt x.done
  | 1 => if tgt = 3 then intent.cutReturn env x.done else if tgt = 4 then intent.cutScrap x.done else intent
  | 2 => (intent.wipeFor tgt env).blowFirst 0 tgt x.done
  | 3 => ((intent.wipeFor tgt env).burnCopy 0 tgt bad.1).blowFirst 1 tgt x.done).powerOff

/-- R334: the steps of an accepted transition, the warm reset of step 5 included, or up to where power is lost. -/
def State.runTransition (s : State) (tgt : Nat) (env : FlashEnv) (bad : Bool × Bool) (lost : Option LostIn) : State :=
  match lost with
  | some x => s.cutTransition tgt env bad x
  | none =>
  let cur := s.pwr.lcs
  let s := s.setFuses 2 tgt 8
  let s := s.wipeFor tgt env
  let s := (s.setFld pLCS LCS_TSTAT_WIPEPCT (if 3 ≤ tgt then 100 else 0))
  let s := s.burnCopy 0 tgt bad.1
  let s := if bad.1 then s.contained else s
  let s := s.burnCopy 1 tgt bad.2
  let s := if bad.2 then s.contained else s
  let st := if s.fuses 0 tgt < 5 ∧ s.fuses 1 tgt < 5 then stVERIFY else stOK
  let s := (s.setFld pLCS LCS_TSTAT_STATUS st).setFld pLCS LCS_TSTAT_PHASE 0
  (s.log pLCS 0x0B2 0 (lcsCode cur * 256 + lcsCode tgt)).warmReset

/-- R333: the permitted transitions. -/
def permitted (cur tgt : Nat) : Bool :=
  [(0, 1), (0, 4), (1, 2), (1, 3), (1, 4), (2, 3), (2, 4), (3, 4)].contains (cur, tgt)

/-- R333: the checks of a request; the target, or the status of the first that fails. -/
def State.checkTransition (s : State) (v : Nat) : Nat ⊕ Nat :=
  match lcsIndex (LCS_TRANSITION_CUR.of v), lcsIndex (LCS_TRANSITION_TGT.of v) with
  | some cur, some tgt =>
    if 65536 ≤ v then .inr stBADARG
    else if s.pwr.gz ≠ 0 ∨ s.frmState ≠ 0 ∨ s.fls.run.isSome ∨ !s.fls.queue.isEmpty ∨
        s.role = 1 ∨ s.role = 2 then .inr stBUSY
    else if cur ≠ s.pwr.lcs ∨ !permitted cur tgt then .inr stLCS
    else if tgt = 2 ∧ !s.rootUsable 0 ∧ !s.rootUsable 1 then .inr stLCS
    else .inl tgt
  | _, _ => .inr stBADARG

/-- R333 to R335: a write of LCS.TRANSITION. -/
def State.doTransition (s : State) (v : Nat) (env : FlashEnv) (bad : Bool × Bool) (lost : Option LostIn) : State :=
  if s.pwr.trans.isSome then s.err pLCS LCS_E_TREF
  else
    let s := s.setFld pLCS LCS_TSTAT_TGT (LCS_TRANSITION_TGT.of v)
    match s.checkTransition v with
    | .inr st => (s.setFld pLCS LCS_TSTAT_STATUS st).err pLCS LCS_E_TREF
    | .inl tgt =>
      if s.fls.bg.isSome then
        (s.updPwr fun p => { p with trans := some (tgt, env, bad, lost) }).setFld pLCS LCS_TSTAT_STATUS stBUSY
      else s.runTransition tgt env bad lost

/-- R333, R334: LCS_TRANSITION. -/
def execLcsTransition (t : Time) (v : Dword) (env : FlashEnv) (bad : Bool × Bool) (lost : Option LostIn) (s : State) :
    Host.Outcome State Fault Refusal :=
  .next (s.hostWrite t (pLCS * 4096 + 0x44) v.toNat fun s => s.doTransition v.toNat env bad lost)

/-- R281, R334: BACKGROUND_OPERATION_END; a transition that waited for it runs. -/
def execBackgroundOperationEnd (t : Time) (env : FlashEnv) (s : State) : Host.Outcome State Fault Refusal :=
  let s := s.at_ t
  .next (match s.fls.bg with
    | none => s
    | some b =>
      if b.susp then s
      else
        let s := s.bgEnd env b
        match s.pwr.trans with
        | some (tgt, e, bad, lost) => s.runTransition tgt e bad lost
        | none => s)

/-! ## Certificates (R344, R345) -/

/-- R344: byte `n` of the certificate buffer. -/
def State.certByte (s : State) (n : Nat) : Nat :=
  s.fld pLCS (LCS_CERT_BYTES (n / 4)) / 2 ^ (8 * (n % 4)) % 256

/-- Bytes of the certificate buffer. -/
def State.certBytes (s : State) (off n : Nat) : List Nat := (List.range n).map fun i => s.certByte (off + i)

/-- R344: TARGET is defined for KIND, and the fields that must be 0 are 0. -/
def State.certFormat (s : State) : Bool :=
  let kind := s.certByte 4
  let target := s.certByte 0x18
  let perm := s.certByte 0x19
  let zero (off n : Nat) : Bool := (s.certBytes off n).all (· = 0)
  decide (s.certBytes 0 4 = [0x4B, 0x43, 0x52, 0x54] ∧ 1 ≤ s.certByte 5 ∧ s.certByte 5 ≤ 4) &&
    (match kind with
     | 1 => decide (target = 0 ∧ perm < 4)
     | 2 => decide (target ≤ 4 ∧ perm = 0)
     | 3 => decide ((target ≤ 1 ∨ target = 4) ∧ perm = 0)
     | _ => false) &&
    zero 6 2 && zero 0x1A 6 && zero 0xC0 64 && (decide (kind = 2) || zero 0x20 32) &&
    decide (s.certBytes 8 16 = s.otpBytes 0 16)

/-- R345: the state and the signer allow the certificate. -/
def State.certAllowed (s : State) : Bool :=
  let kind := s.certByte 4
  let signer := s.certByte 5
  let target := s.certByte 0x18
  match s.pwr.lcs, kind with
  | 2, 1 => decide (signer ≤ 3)
  | 3, 1 => decide (signer = 4)
  | 2, _ => decide (signer ≤ 2 ∧ (2 ≤ target ∨ signer ≠ target + 1))
  | _, _ => false

/-- R345: the signer's hash and the signature. -/
def State.certSigned (s : State) : Bool :=
  let key := sha256 (s.certBytes 0x40 64)
  let trusted := match s.certByte 5 with
    | 1 => s.rootUsable 0 && decide (key = beNum (s.otpBytes 0x120 32))
    | 2 => s.rootUsable 1 && decide (key = beNum (s.otpBytes 0x140 32))
    | 3 => s.debugUsable && decide (key = beNum (s.otpBytes 0x1A0 32))
    | _ => decide (key = Config.makerRoot)
  trusted && p256Verify (sha256 (s.certBytes 0 128)) (beNum (s.certBytes 0x40 32)) (beNum (s.certBytes 0x60 32))
    (beNum (s.certBytes 0x80 32)) (beNum (s.certBytes 0xA0 32))

/-- R345: a write of CERTCMD. -/
def State.doCertcmd (s : State) (v : Nat) : State :=
  let s := if LCS_CERTCMD_CLEAR.of v = 1 then s.updPwr fun p => { p with certIn := none } else s
  if LCS_CERTCMD_VERIFY.of v = 1 ∧ !s.pwr.certBusy then
    (s.updPwr fun p => { p with certBusy := true }).setFld pLCS LCS_CERTSTAT_STATUS stBUSY
  else s

/-- R345: CERTCMD_VERIFY. -/
def execCertcmdVerify (t : Time) (s : State) : Host.Outcome State Fault Refusal :=
  .next (s.hostWrite t (pLCS * 4096 + 0x60) 1 fun s => s.doCertcmd 1)

/-- R345: CERTCMD_CLEAR. -/
def execCertcmdClear (t : Time) (s : State) : Host.Outcome State Fault Refusal :=
  .next (s.hostWrite t (pLCS * 4096 + 0x60) 2 fun s => s.doCertcmd 2)

/-- R345: CERT_VERIFY_DONE. -/
def execCertVerifyDone (t : Time) (s : State) : Host.Outcome State Fault Refusal :=
  let s := s.at_ t
  .next (if s.pwr.certBusy then
    let st := if !s.certFormat then stBADARG else if !s.certAllowed then stLCS
      else if !s.certSigned then stSIGFAIL else stOK
    let s := (s.updPwr fun p => { p with certBusy := false }).setFld pLCS LCS_CERTSTAT_STATUS st
    let s := if st = stOK then
        s.updPwr fun p =>
          { p with certIn := some (s.certByte 4, s.certByte 5, s.certByte 0x18, s.certByte 0x19,
              beNum (s.certBytes 0x20 32)) }
      else s.err pLCS LCS_E_CERTREF
    s.irq pLCS LCS_E_CERTDONE
  else s)

/-! ## Debug access (R346) -/

/-- R346: a KIND 1 certificate in force carries a PERM bit. -/
def State.certPerm (s : State) (bit : Nat) : Bool :=
  match s.pwr.certIn with
  | some (1, _, _, perm, _) => perm.testBit bit
  | _ => false

/-- R346: boundary scan, internal debug, plane readback and maker test modes are open in a state. -/
def scanOpen (lcs : Nat) : Bool := decide (lcs ≠ 4)
def State.debugOpen (s : State) : Bool := decide (s.pwr.lcs ≤ 1) || (decide (s.pwr.lcs = 2) && s.certPerm 0)
def State.planeOpen (s : State) : Bool := decide (s.pwr.lcs ≤ 1) || (decide (s.pwr.lcs = 2) && s.certPerm 1)
def State.makerOpen (s : State) : Bool :=
  decide (s.pwr.lcs = 0) || (decide (s.pwr.lcs = 3) &&
    match s.pwr.certIn with
    | some (1, 4, _, _, _) => true
    | _ => false)

end Sys2Proof.Machine
end

