-- ==== Sys2Proof/Machine/Links.lean ====
section
/-! DEFINITION. Utausin actuator links (spec/07_links.md): symbols and their CRC, the commands of a
frame, its segments and resends, the upstream frame, training, and the loss of a link. -/

namespace Sys2Proof.Machine

/-! ## Symbols (R159 to R163) -/

/-- R160: one step of the scrambler. -/
def prbsStep (st : BitVec 15) : Bool × BitVec 15 :=
  let b := st.getLsbD 14 ^^ st.getLsbD 13
  (b, (st <<< 1) ||| BitVec.ofNat 15 b.toNat)

/-- R160: the scrambler after the twelve steps of a symbol. -/
def prbs12 (st : BitVec 15) : BitVec 15 := (List.range 12).foldl (fun st _ => (prbsStep st).2) st

/-- R160: the scrambler after `n` symbols; its sequence repeats after 32,767 steps. -/
def prbsAfter (st : BitVec 15) (n : Nat) : BitVec 15 :=
  (List.range (n * 12 % 32767)).foldl (fun st _ => (prbsStep st).2) st

/-- R159: the fourteen line bits of a symbol, the first bit sent at the top: the framing bits 0 and 1, then the bits of
the symbol, each XORed with the scrambler's next bit. The twelve bits of the steps are the low bits of the state after
them. -/
def lineSym (st : BitVec 15) (x : Symbol) : BitVec 14 := (1 : BitVec 2) ++ (x ^^^ (prbs12 st).setWidth 12)

/-- R161: the framing bits of line bits read 0 and 1. -/
def wellFramed (x : BitVec 14) : Bool := x.extractLsb' 12 2 == 1

/-- R160, R161: the receiver takes fourteen line bits. They descramble to SYNC where they are the next steps of a
generator loaded from the fifteen data bits before them; `train` asks for SYNC before it aligns. -/
def Rx.take (train : Bool) (g : Rx) (x : BitVec 14) : Rx :=
  let d := x.setWidth 12
  let sync := wellFramed x && decide (2 ≤ g.seen) && g.bits != 0 && (prbs12 g.bits).setWidth 12 == d
  let fr := if wellFramed x then g.framed + 1 else 0
  let sy := if sync then g.sync + 1 else 0
  { bits := (g.bits <<< 12) ||| d.setWidth 15
    seen := g.seen + 1
    framed := fr
    sync := sy
    good := g.good + sync.toNat
    lock := g.lock || decide (64 ≤ fr) && (!train || decide (48 ≤ sy)) }

/-- R163: one bit of the CRC. -/
def crc16Bit (crc : Nat) (b : Nat) : Nat :=
  let fb := (crc / 2 ^ 15 + b) % 2
  let c := crc * 2 % 65536
  if fb = 1 then c ^^^ 0x1021 else c

/-- R163: one symbol of the CRC, bit 11 first. -/
def crc16Sym (crc : Nat) (x : Symbol) : Nat :=
  (List.range 12).foldl (fun c i => crc16Bit c (bitsN x.toNat (11 - i) 1)) crc

/-- R163: the CRC-16/CCITT of a list of symbols. -/
def crc16 (xs : List Symbol) : Nat := xs.foldl crc16Sym 0xFFFF

/-- R162: a CTL symbol with its payload. -/
def symCtl (n : Nat) : Symbol := BitVec.ofNat 12 (n % 1024)
/-- R162: an OFS symbol. -/
def symOfs (n : Nat) : Symbol := BitVec.ofNat 12 (0x400 + n % 1024)
/-- R162: an SLT symbol. -/
def symSlt (stale : Bool) (slot : Nat) : Symbol :=
  BitVec.ofNat 12 (0x800 + stale.toNat * 512 + slot % 512)
/-- R162: a VAL symbol. -/
def symVal (n : Nat) : Symbol := BitVec.ofNat 12 (0xC00 + n % 1024)

/-- R163: the symbols with their CRC pair after them. -/
def withCrc (xs : List Symbol) : List Symbol :=
  let c := crc16 xs
  xs ++ [symCtl (0x100 + c / 256), symCtl (0x100 + c % 256)]

/-- R162: the code and the low four bits of a control symbol other than OFH and CRC. -/
def ctlOf (x : Symbol) : Option (Nat × Nat) :=
  if x.toNat < 256 then some (x.toNat / 16, x.toNat % 16) else none

/-- R162: the payload of a VAL symbol. -/
def valOf (x : Symbol) : Option Word := if 0xC00 ≤ x.toNat then some (x.setWidth 10) else none

/-- R162: the byte of a CRC symbol. -/
def crcOf (x : Symbol) : Option Nat := if x.toNat / 256 = 1 then some (x.toNat % 256) else none

/-- R162: a control symbol with this code. -/
def isCtl (code : Nat) (x : Symbol) : Bool := match ctlOf x with
  | some c => decide (c.1 = code)
  | none => false

/-- R161, R162: what is wrong with a received symbol: 1 its framing, 2 a reserved control code. -/
def symErr (x : RxSym) : Nat :=
  if !x.framed then 1 else match ctlOf x.sym with
    | some c => if 13 ≤ c.1 then 2 else 0
    | none => 0

/-- R161: alignment is lost when these are the errors of the latest symbols. -/
def loses (w : List Nat) : Bool := decide (4 ≤ w.count 1) || decide (8 ≤ w.count 2)

/-- R161: the symbols that are received up to a loss of alignment, the errors of the latest, and whether it is lost. -/
def rxScan : List Nat → List RxSym → List RxSym × List Nat × Bool
  | w, [] => ([], w, false)
  | w, x :: xs =>
    let w := (symErr x :: w).take 64
    if loses w then ([x], [], true)
    else
      let r := rxScan w xs
      (x :: r.1, r.2)

/-- R163: the upstream symbols that a CRC pair may cover, of those received: no NAK; nor SYNC, which fills the line. -/
def content (xs : List RxSym) : List Symbol :=
  ((xs.filter RxSym.framed).map RxSym.sym).filter fun x => !isCtl 5 x && x != 0

/-- R163: symbols that end in the CRC pair of those before it. -/
def crcGood (xs : List Symbol) : Bool :=
  let n := xs.length - 2
  decide (2 ≤ xs.length) && xs.drop n == (withCrc (xs.take n)).drop n

/-- A list cut before each symbol as told: what stands before the first of these, then the parts. -/
def cutAt (start : Symbol → Bool) : List Symbol → List (List Symbol)
  | [] => [[]]
  | x :: xs =>
    let r := cutAt start xs
    if start x then [] :: (x :: r.headD []) :: r.drop 1 else (x :: r.headD []) :: r.drop 1

/-- R175: the section that a part starting with SEC spells: a NOS symbol (an SLT of payload 0) is no sample, and a symbol
that a section cannot hold fails it (R162). -/
def sectionOf (xs : List Symbol) : Section :=
  let body := xs.drop 3 |>.take (xs.length - 5)
  let sound := ((xs.drop 1).take 2 ++ body.filter (· != 0x800)).all fun x => (valOf x).isSome
  { pos := Fin.ofNat 8 ((xs.headD 0).toNat)
    stat0 := (xs.getD 1 0).setWidth 10
    stat1 := (xs.getD 2 0).setWidth 10
    samples := body.map valOf
    good := sound && decide (5 ≤ xs.length) && crcGood xs }

/-- R174: the upstream frame that a part starting with UHDR spells. -/
def upFrameOf (xs : List Symbol) : UpFrame :=
  { hold := (xs.headD 0).getLsbD 0
    utag := (xs[1]?).bind valOf
    sections := ((cutAt (isCtl 7) ((xs.drop 2).takeWhile fun x => !isCtl 8 x)).drop 1).map sectionOf }

/-- R174: the upstream frames among received symbols. -/
def upFrames (xs : List RxSym) : List UpFrame := ((cutAt (isCtl 6) (content xs)).drop 1).map upFrameOf

/-- R186: the ID record that received symbols spell, if they start with one. -/
def idRecOf (xs : List RxSym) : Option IdRec :=
  match content xs with
  | x :: r => if isCtl 10 x then
      some { last := x.getLsbD 3
             pos := Fin.ofNat 8 x.toNat
             count := (r.getD 0 0).setWidth 10
             typ := (r.getD 1 0).setWidth 10
             rev := (r.getD 2 0).setWidth 10
             good := decide (r.length = 5) && ((r.take 3).all fun y => (valOf y).isSome) && crcGood (x :: r) }
    else none
  | [] => none

/-! ## Events and segments (R51, R169, R170) -/

/-- R169: the OFH symbols for an offset step `d`, and what is left of it. -/
def ofhSyms : Nat → Nat → List Symbol × Nat
  | 0, d => ([], d)
  | n + 1, d =>
    if d < 1024 then ([], d)
    else
      let k := Nat.min (d / 1024) 511
      let (xs, r) := ofhSyms n (d - k * 1024)
      (symCtl (0x200 + k) :: xs, r)

/-- R169: the symbols of the events of a segment, from the cursors (offset, slot, stale). -/
def eventSyms : Nat → Nat → Bool → List Cmd → List Symbol
  | _, _, _, [] => []
  | c, slot, stale, x :: xs =>
    let (o, r) := ofhSyms 3 (x.off - c)
    let o := if r = 0 then o else o ++ [symOfs r]
    let sl := if x.slot ≠ slot ∨ x.stale ≠ stale then [symSlt x.stale x.slot] else []
    o ++ sl ++ symVal x.val.toNat :: eventSyms x.off (x.slot + 1) x.stale xs

/-- R164: one copy of a segment. -/
def segSyms (resent : Bool) (k : Nat) (xs : List Cmd) : List Symbol :=
  withCrc (symCtl (0x30 + resent.toNat * 8 + k) :: eventSyms 0 0 false xs)

/-- R170: the events of segment `k`. -/
def segOf (xs : List Cmd) (k : Nat) : List Cmd :=
  (xs.zipIdx.filter fun x => 8 * x.2 / xs.length = k).map Prod.fst

/-- R170: the eight segments. -/
def segments (xs : List Cmd) : List (List Cmd) := (List.range 8).map (segOf xs)

/-- R164: the length of the original frame, from HDR to ENDSEG. -/
def frameLen (xs : List Cmd) : Nat :=
  6 + ((segments xs).zipIdx.map fun x => (segSyms false x.2 x.1).length).sum

/-- R164: the header of a RUN frame. -/
def headSyms (tag ph : Nat) : List Symbol := withCrc [symCtl 0x10, symVal tag, symCtl (0x20 + ph)]

/-- R164: a HOLD frame. -/
def holdSyms (ph : Nat) : List Symbol := withCrc [symCtl 0x11, symCtl (0x20 + ph)]

/-- R51: where a command stands: by offset, then by slot. -/
def cmdBefore (x y : Cmd) : Bool := decide (x.off < y.off ∨ x.off = y.off ∧ x.slot < y.slot)

/-- R51: a command joins a sorted list, before those that follow it and behind those equal to it. -/
def insertCmd (x : Cmd) : List Cmd → List Cmd
  | [] => [x]
  | y :: ys => if cmdBefore y x then y :: insertCmd x ys else x :: y :: ys

/-- R51: the list in the order in which it goes out; equal commands keep their order. -/
def sortCmds : List Cmd → List Cmd
  | [] => []
  | x :: xs => insertCmd x (sortCmds xs)

/-- R171: C at a minimum period in units of 10 ns. -/
def capOf (minper : Nat) : Nat := (minper * 10 - 1000) * 1000 / 35350

/-- R172: the longest part of the list from its front whose frame fits. -/
def fitCmds (cap : Nat) : Nat → List Cmd → List Cmd
  | 0, xs => xs
  | n + 1, xs => if frameLen xs ≤ cap then xs else fitCmds cap n (xs.take (xs.length - 1))

/-! ## Handover (R168, R172) -/

/-- R85: the slots of link `l` whose contexts are quarantined. -/
def State.safeOfLink (s : State) (l : Nat) : List Nat :=
  (s.ctx.safeSlots.filter fun x => x.2 / 384 = l).map fun x => x.2 % 384

/-- R168: the commands of link `l`; `carried` are the slots of the contexts carried. -/
def State.linkCmds (s : State) (l : Nat) (carried : List Nat) : List Cmd :=
  let p := s.link l
  let evs := (p.queue.filter fun e => !e.mute).map fun e => (⟨e.slot, e.off, e.val, false, false⟩ : Cmd)
  let stale := (carried.filter fun k => k / 384 = l).flatMap fun k =>
    (p.prev.filter fun c => c.slot = k % 384).map fun c => { c with stale := true, safe := false }
  let safe := (s.ctx.safeSlots.filter fun x => x.2 / 384 = l).filterMap fun x =>
    let e := SMap.get ⟨0, 0⟩ s.ctx.safe x.2
    if e.mode = 1 ∨ e.mode = 2 ∧ SMap.get false s.ctx.once x.1 = false then
      some (⟨x.2 % 384, 0, e.val, false, true⟩ : Cmd)
    else none
  sortCmds (evs ++ stale ++ safe)

/-- R172: the port builds the coming RUN frame. -/
def State.handoverLink (carried : List Nat) (s : State) (l : Nat) : State :=
  let all := s.linkCmds l carried
  let cap := capOf (s.fld pFRM FRM_MINPER_ACT_VALUE)
  let fit := fitCmds cap all.length all
  let s := s.updLink l fun p => { p with merged := all, built := fit, queue := [], safeOf := s.safeOfLink l }
  if s.fld (pUL l) UL_STAT_STATE < 2 then s
  else
    let s := s.raiseTo (pUL l) UL_DSMAX_MAX (frameLen all)
    let n := all.length - fit.length
    if n = 0 then s
    else (((s.addSat (pUL l) UL_ERRCNT2_DSOVF n).err (pUL l) UL_E_DSOVF).contained).log (pUL l) 0x060 3
      (Nat.min n 65535)

/-- R25: the event queues hand over to link transmit. -/
def State.handover (s : State) (carried : List Nat) : State :=
  (List.range 128).foldl (State.handoverLink carried) s

/-! ## Emission (R164 to R166, R173) -/

/-- R166: the latest symbol boundary of a port that is not after F. -/
def Lnk.boundary (p : Lnk) (f : Time) : Time := p.origin + (f - p.origin) / 35 * 35

/-- R166: PH. -/
def phaseOf (f g : Time) : Nat := (f - g) * 10 / 25

/-- R356, R365, R374: the device's ports may send frames. -/
def State.sendsFrames (s : State) : Bool :=
  s.pwr.up && s.clkOn (pUL 0) && s.mdllOn 1 && decide (s.role < 2) &&
  (!s.pwr.faultB || decide (s.role = 0))

/-- R67: link transmit reads the safe-table entries of these slots of link `l`: those whose parity is bad. -/
def State.safeReads (s : State) (l : Nat) : List Nat → State × List Nat
  | [] => (s, [])
  | k :: ks =>
    let r := s.safeRead (l * 384 + k)
    let q := State.safeReads r.2 l ks
    (q.1, if r.1.isSome then q.2 else k :: q.2)

/-- R173: a HOLD frame with nominal start F goes out. -/
def sendHold (f : Time) (p : Lnk) : Lnk :=
  let g := p.boundary f
  { p with
    txAt := g
    txHold := true
    txOn := true
    tx := holdSyms (phaseOf f g)
    parts := []
    segs := []
    resent := []
    holdAt := f + 50000 }

/-- R164, R165: a RUN frame with nominal start F goes out. -/
def sendRun (f : Time) (cmds : List Cmd) (p : Lnk) : Lnk :=
  let g := p.boundary f
  let segs := segments cmds
  let syms := segs.zipIdx.map fun x => segSyms false x.2 x.1
  let tag := p.emitFn % 1024
  { p with
    txAt := g
    txHold := false
    txOn := true
    tag := some tag
    segs := segs
    parts := (syms.zipIdx.map fun x => ⟨0, x.2, x.1.length⟩) ++ [⟨2, 0, 1⟩]
    tx := headSyms tag (phaseOf f g) ++ syms.flatten ++ [symCtl 0x40]
    prev := cmds
    resent := []
    holdAt := f + 50000 }

/-- R67, R164, R166: EMISSION_START. -/
def execEmissionStart (l : Link) (ups : List Upset) (s : State) : Host.Outcome State Fault Refusal :=
  let s := s.upsets ups
  let n := l.val
  .next (match (s.link n).emitAt with
    | none => s
    | some f =>
      let s := s.at_ ((s.link n).boundary f)
      let s := s.updLink n fun p => { p with emitAt := none }
      if !s.sendsFrames || decide (s.fld (pUL n) UL_STAT_STATE ≠ 3) then s
      else if (s.link n).emitRun && !s.pwr.faultB then
        let q := s.safeReads n (s.link n).safeOf
        let s := q.1.updLink n (sendRun f ((s.link n).built.filter fun c => !(c.safe && q.2.contains c.slot)))
        s.setFld (pUL n) UL_DSLAST_LEN (s.link n).tx.length
      else s.updLink n (sendHold f))

/-- What a port's transmitter puts on the line for one symbol time. -/
inductive LineOut where
  /-- R185: electrically idle. -/
  | idle
  /-- R185: SYNC in DOWN, where no scrambler runs. -/
  | sync
  /-- R159: fourteen line bits, the first at the top. -/
  | bits (x : BitVec 14)
  deriving DecidableEq, Repr

/-- The symbol of a port in transmission at `t`: SYNC fills the line (R164). -/
def Lnk.symAt (p : Lnk) (t : Time) : Symbol := if t < p.txAt then 0 else p.tx.getD ((t - p.txAt) / 35) 0

/-- R159, R160, R185: what port `l` has on its line at `t`: symbols follow one another from the start of training, and
so does the scrambler. -/
def State.lineOut (s : State) (l : Nat) (t : Time) : LineOut :=
  let p := s.link l
  if !s.bit (pUL l) HDR_PG_CTRL_EN || !s.pwr.up then .idle
  else if s.fld (pUL l) UL_STAT_STATE = 0 then .sync
  else .bits (lineSym (prbsAfter p.seed ((t - p.origin) / 35)) (p.symAt t))

/-- The end of the frame on the line. -/
def Lnk.txEnd (p : Lnk) : Time := p.txAt + p.tx.length * 35

/-- R173: HOLD_FRAME. -/
def execHoldFrame (l : Link) (s : State) : Host.Outcome State Fault Refusal :=
  let n := l.val
  let p := s.link n
  let st := s.fld (pUL n) UL_STAT_STATE
  .next (if s.sendsFrames && (decide (st = 2) || (decide (st = 3) && s.pwr.faultB)) then
    let f := if p.txOn && !p.txHold then Nat.max p.holdAt p.txEnd else p.holdAt
    (s.at_ f).updLink n (sendHold f)
  else s)

/-! ## What the receiver hears (R161, R187) -/

/-- R185, R187: a port enters DOWN. -/
def State.portDown (s : State) (l : Nat) : State :=
  let st := s.fld (pUL l) UL_STAT_STATE
  if st = 0 then s
  else
    let s := s.addSat (pUL l) UL_TRNCNT_DOWNCNT 1
    let s := if 2 ≤ st then s.err (pUL l) UL_E_DOWN else s
    let s := s.setFld (pUL l) UL_STAT_STATE 0
    s.updLink l fun p =>
      { p with
        step := 0
        autoAt := some (s.time + 10000000)
        txOn := false
        tx := []
        parts := []
        segs := []
        resent := []
        emitAt := none
        tag := none }

/-- R187: a port in HOLD or RUN is lost; `align` when its receiver lost alignment. -/
def State.linkLost (s : State) (l : Nat) (align : Bool) : State :=
  ((s.portDown l).contained).log (pUL l) 0x061 3 align.toNat

/-- R161: port `l` is aligned and its receiver runs. -/
def State.receives (s : State) (l : Nat) : Bool :=
  s.pwr.up && s.clkOn (pUL l) && decide (s.fld (pUL l) UL_STAT_RXALIGN = 1)

/-- R161, R187: a receiver's record of the symbols that it takes at `t`. -/
def Lnk.hear (p : Lnk) (t : Time) (xs : List RxSym) : Lnk :=
  let r := rxScan p.rxErrs xs
  { p with rxErrs := r.2.1, rxAt := if r.1.any RxSym.framed then t else p.rxAt }

/-- R161, R187: the symbols that an aligned port takes up to a loss of alignment, and the state after them: those in
error are counted, and a loss takes a trained port to DOWN. What the symbols say is not in it. -/
def State.hear (s : State) (l : Nat) (xs : List RxSym) : State :=
  let r := rxScan (s.link l).rxErrs xs
  let s := s.addSat (pUL l) UL_ERRCNT3_ALIGNERR (r.1.countP fun x => decide (symErr x ≠ 0))
  let s := s.updLink l fun p => p.hear s.time xs
  if r.2.2 then
    let s := (s.setFld (pUL l) UL_STAT_RXALIGN 0).updLink l fun p => { p with rx := Rx.none }
    if 2 ≤ s.fld (pUL l) UL_STAT_STATE then s.linkLost l true else s
  else s

/-- The symbols that port `l` takes of those that arrive. -/
def State.heard (s : State) (l : Nat) (xs : List RxSym) : List RxSym := (rxScan (s.link l).rxErrs xs).1

/-! ## Resending a segment (R178, R184) -/

/-- R184: the parts in order, with the position of the first symbol of each. -/
def placed : Nat → List Part → List (Nat × Part)
  | _, [] => []
  | n, x :: xs => (n, x) :: placed (n + x.len) xs

/-- R184: a resent copy goes in after the part in transmission and the resends that wait behind it. -/
def insertResend (pos : Nat) (x : Part) : List (Nat × Part) → List Part
  | [] => [x]
  | (n, y) :: ys =>
    if n ≤ pos ∨ y.kind = 1 then y :: insertResend pos x ys else x :: y :: ys.map Prod.snd

/-- R184: the parts with a resend of segment `k` of `len` symbols placed at position `pos`; SYNC fills
the line when the frame was already over. -/
def withResend (parts : List Part) (pos k len : Nat) : List Part :=
  let total := 5 + (parts.map Part.len).sum
  if total ≤ pos then parts ++ [⟨3, 0, pos + 1 - total⟩, ⟨1, k, len⟩]
  else insertResend pos ⟨1, k, len⟩ (placed 5 parts)

/-- R184: where the last resend of segment `k` starts. -/
def lastResend (parts : List Part) (k : Nat) : Nat :=
  (placed 5 parts).foldl (fun n x => if x.2.kind = 1 ∧ x.2.seg = k then x.1 else n) 0

/-- R178: U of a copy whose last CRC symbol is at a position of the frame. -/
def usable (pos : Nat) : Nat := ((pos - 2) * 3535 + 15000 + 999) / 1000

/-- The symbols of the parts of a RUN frame. -/
def partSyms (segs : List (List Cmd)) (x : Part) : List Symbol :=
  match x.kind with
  | 0 => segSyms false x.seg (segs.getD x.seg [])
  | 1 => segSyms true x.seg (segs.getD x.seg [])
  | 2 => [symCtl 0x40]
  | _ => List.replicate x.len (symCtl 0)

/-- R184: the resend of segment `k` that a NAK at position `pos` asks for, as the new parts, if it is
served. -/
def Lnk.resend (p : Lnk) (pos k cap : Nat) : Option (List Part) :=
  match p.segs.getD k [] with
  | [] => none
  | x :: _ =>
    let len := (segSyms true k (p.segs.getD k [])).length
    let waits := (placed 5 p.parts).any fun y => y.2.kind = 1 ∧ y.2.seg = k ∧ pos < y.1
    let parts := withResend p.parts pos k len
    let last := lastResend parts k + len - 1
    let total := 5 + (parts.map Part.len).sum
    if SMap.get 0 p.resent k < 3 ∧ waits = false ∧ usable last ≤ x.off ∧ total ≤ cap then some parts
    else none

/-- R184: port `l` is asked at `t` for a resend of segment `k`. A standby ignores it (R356). -/
def State.takeNak (s : State) (l : Nat) (k : Nat) : State :=
  if s.fld (pUL l) UL_STAT_STATE < 2 ∨ s.role = 2 then s
  else
    let s := (s.addSat (pUL l) UL_NAKCNT_NAKRX 1).err (pUL l) UL_E_NAK
    let p := s.link l
    if !p.txOn || p.txHold || (p.segs.getD k []).isEmpty then s
    else
      match p.resend ((s.time - p.txAt) / 35) k (capOf (s.fld pFRM FRM_MINPER_ACT_VALUE)) with
      | some parts =>
        let s := s.updLink l fun p =>
          { p with
            parts := parts
            tx := p.tx.take 5 ++ (parts.map (partSyms p.segs)).flatten
            resent := SMap.put 0 p.resent k (SMap.get 0 p.resent k + 1) }
        ((s.addSat (pUL l) UL_NAKCNT_RESENT 1).corrected).setFld (pUL l) UL_DSLAST_LEN
          (s.link l).tx.length
      | none => ((s.addSat (pUL l) UL_ERRCNT1_NORSND 1).err (pUL l) UL_E_NORSND).contained

/-- R162: the segment for whose resend a received symbol asks. -/
def symNak (x : RxSym) : Option Nat :=
  if !x.framed then none else match ctlOf x.sym with
    | some c => if c.1 = 5 ∧ c.2 < 8 then some c.2 else none
    | none => none

/-- R184: NAK: the symbol that a port receives. -/
def execNak (t : Time) (l : Link) (x : RxSym) (s : State) : Host.Outcome State Fault Refusal :=
  let s := s.at_ t
  let n := l.val
  .next (if !s.receives n then s
  else
    match symNak x with
    | some k => (s.hear n [x]).takeNak n k
    | none => s.hear n [x])

/-! ## The upstream frame (R174 to R176) -/

/-- The bits that are 1 in a word. -/
def popCount (w : Word) : Nat := ((List.range 10).filter fun i => w.getLsbD i).length

/-- R65, R356: a valid sample enters the filling half; at a standby, the local one. -/
def State.putSample (s : State) (k : Nat) (v : Word) : State :=
  if s.role = 2 then s.updTwn fun w => { w with local_ := SMap.put none w.local_ k (some v) }
  else s.updCtx fun c => { c with fill := SMap.put none c.fill k (some v) }

/-- R176: the samples of a section, from slot key `k` on. -/
def State.putSamples : State → Nat → List (Option Word) → State
  | s, _, [] => s
  | s, k, x :: xs =>
    State.putSamples (match x with | some v => s.putSample k v | none => s) (k + 1) xs

/-- R175, R176: STAT0 of a section. -/
def State.takeStat0 (s : State) (l : Nat) (w : Word) : State :=
  let bad := w &&& 0x1FF
  if bad = 0 then s
  else
    let s := s.addSat (pUL l) UL_ERRCNT1_UNREC (popCount bad)
    let s := if w.getLsbD 8 then s.err (pUL l) UL_E_MISSED else s
    (if w &&& 0xFF = 0 then s else s.err (pUL l) UL_E_UNREC).contained

/-- R176: one section; `valid` when its samples may count. The primary forwards such a section to its
standby as a sample batch (R354). -/
def State.takeSection (l : Nat) (valid : Bool) (s : State) (x : Section) : State :=
  let m := (s.link l).mods[x.pos.val]?
  match m with
  | none => ((s.addSat (pUL l) UL_ERRCNT2_USCRC 1).err (pUL l) UL_E_USCRC).contained
  | some m =>
    if x.good && decide (x.samples.length = m.count) then
      let s := s.updLink l fun p =>
        { p with mods := p.mods.set x.pos.val { m with stat0 := x.stat0, stat1 := x.stat1 } }
      let s := s.takeStat0 l x.stat0
      if valid then
        let s := if s.role = 1 then s.updTwn fun w => { w with batch := w.batch + 1 } else s
        s.putSamples (l * 384 + m.first) x.samples
      else s
    else ((s.addSat (pUL l) UL_ERRCNT2_USCRC 1).err (pUL l) UL_E_USCRC).contained

/-- R176, R356: the tag that an upstream frame must carry, if one is known. -/
def State.wantTag (s : State) (l : Nat) : Option Nat :=
  if s.role = 2 then some ((s.fn + 1023) % 1024) else (s.link l).tag

/-- R176: an upstream frame carries the tag of the RUN frame most recently sent. Where none has been sent, no answer to a
RUN frame does, and the tag of an answer to a HOLD frame is not tested (DEDUCED, log entry 46). -/
def State.tagOk (s : State) (l : Nat) (f : UpFrame) : Bool :=
  match s.wantTag l with
  | some tag => decide (f.utag.map BitVec.toNat = some tag)
  | none => f.hold

/-- R176: an upstream frame. -/
def State.takeUpFrame (l : Nat) (s : State) (f : UpFrame) : State :=
  if s.tagOk l f then
    f.sections.foldl (State.takeSection l (decide (s.fld (pUL l) UL_STAT_STATE = 3) && !f.hold)) s
  else ((s.addSat (pUL l) UL_ERRCNT3_TAGERR 1).err (pUL l) UL_E_TAGERR).contained

/-- R176: UPSTREAM_FRAME: the symbols of the frame as they arrive. A port that loses alignment in them goes down after
the symbols before the loss. -/
def execUpstreamFrame (t : Time) (l : Link) (xs : List RxSym) (s : State) :
    Host.Outcome State Fault Refusal :=
  let s := s.at_ t
  let n := l.val
  .next (if !s.receives n then s
  else
    let fs := if s.fld (pUL n) UL_STAT_STATE < 2 then [] else upFrames (s.heard n xs)
    (fs.foldl (State.takeUpFrame n) s).hear n xs)

/-! ## Link states and training (R185, R186) -/

/-- R160, R185, R186: training starts, and with it the scrambler, in a state that is never 0. -/
def State.startTraining (s : State) (l : Nat) : State :=
  let s := (s.setFld (pUL l) UL_STAT_STATE 1).addSat (pUL l) UL_TRNCNT_ATTEMPTS 1
  let s := (s.setFld (pUL l) UL_STAT_MODCNT 0).setFld (pUL l) UL_STAT_SLOTS 0
  let seed := Config.prbsSeed l (s.fld (pUL l) UL_TRNCNT_ATTEMPTS)
  s.updLink l fun p =>
    { p with
      mods := []
      step := 1
      stepAt := s.time
      recs := 0
      origin := s.time
      autoAt := none
      seed := if seed = 0 then 1 else seed
      rx := Rx.none }

/-- R185: a write of CMD. -/
def State.doUlCmd (s : State) (l v : Nat) : State :=
  match UL_CMD_TRAIN.of v, UL_CMD_DOWN.of v with
  | 0, 0 => s
  | 0, _ => s.portDown l
  | _, 0 =>
    if s.fld (pUL l) UL_STAT_STATE = 0 ∧ s.bit (pUL l) HDR_PG_CTRL_EN = true then s.startTraining l
    else s
  | _, _ => s

/-- R185: UL_CMD_TRAIN. -/
def execUlCmdTrain (t : Time) (l : Link) (s : State) : Host.Outcome State Fault Refusal :=
  .next (s.hostWrite t (pUL l.val * 4096 + 0x44) 2 fun s => s.doUlCmd l.val 2)

/-- R185: UL_CMD_DOWN. -/
def execUlCmdDown (t : Time) (l : Link) (s : State) : Host.Outcome State Fault Refusal :=
  .next (s.hostWrite t (pUL l.val * 4096 + 0x44) 1 fun s => s.doUlCmd l.val 1)

/-- R185: a write of PG_CTRL.EN of a UL page. -/
def State.setUlEn (s : State) (l : Nat) (en : Bool) : State :=
  let was := s.bit (pUL l) HDR_PG_CTRL_EN
  let s := s.setBit (pUL l) HDR_PG_CTRL_EN en
  if en && !was then s.updLink l fun p => { p with autoAt := some (s.time + 1000000) }
  else if was && !en then (s.portDown l).updLink l fun p => { p with autoAt := none }
  else s

/-- R185: AUTOTRAIN_TIMER. -/
def execAutotrainTimer (l : Link) (s : State) : Host.Outcome State Fault Refusal :=
  let n := l.val
  .next (match (s.link n).autoAt with
    | none => s
    | some t =>
      let s := s.at_ t
      if s.pwr.up && s.clkOn (pUL n) && s.bit (pUL n) HDR_PG_CTRL_EN &&
          s.bit (pUL n) UL_CTRL_AUTOTRAIN && decide (s.fld (pUL n) UL_STAT_STATE = 0) &&
          decide (s.role ≠ 2) then s.startTraining n
      else s)

/-- R186: a training step fails. -/
def State.trainingFails (s : State) (l err : Nat) : State :=
  (((s.setFld (pUL l) UL_STAT_TRNERR err).portDown l).err (pUL l) UL_E_TRNFAIL).contained

/-- The port of a link is in a step of training. -/
def State.inStep (s : State) (l k : Nat) : Bool :=
  decide (s.fld (pUL l) UL_STAT_STATE = 1) && decide ((s.link l).step = k)

/-- R161: the receiver of port `l` takes line bits, from its framing's position on; it is aligned once they show it. -/
def State.rxLine (s : State) (l : Nat) (train : Bool) (xs : List (BitVec 14)) : State :=
  let g := xs.foldl (Rx.take train) (s.link l).rx
  let s := s.updLink l fun p => { p with rx := g }
  if g.lock then s.setFld (pUL l) UL_STAT_RXALIGN 1 else s

/-- R161, R186: TRAINING_ALIGNED: the symbols that a port in step 1 receives. With 128 that descramble to SYNC, and
aligned, step 1 ends. -/
def execTrainingAligned (t : Time) (x : Heard) (s : State) : Host.Outcome State Fault Refusal :=
  let s := s.at_ t
  let n := x.link.val
  .next (if s.inStep n 1 && s.clkOn (pUL n) then
    let s := s.rxLine n true x.syms
    if (s.link n).rx.lock && decide (128 ≤ (s.link n).rx.good) then
      s.updLink n fun p => { p with step := 2, stepAt := s.time, recs := 0, rx := Rx.none, rxErrs := [] }
    else s
  else s)

/-- R161: RECEIVER_ALIGNED: the symbols that a port outside training receives. -/
def execReceiverAligned (t : Time) (x : Heard) (s : State) : Host.Outcome State Fault Refusal :=
  let s := s.at_ t
  let n := x.link.val
  .next (if s.pwr.up && s.clkOn (pUL n) && decide (s.fld (pUL n) UL_STAT_STATE ≠ 1) then s.rxLine n false x.syms else s)

/-- R186: DISC_REPEAT: DISC(0) every 1 µs. -/
def execDiscRepeat (l : Link) (s : State) : Host.Outcome State Fault Refusal :=
  let n := l.val
  .next (if s.inStep n 2 then
    let p := s.link n
    let f := p.stepAt + p.recs * 1000
    (s.at_ f).updLink n fun p =>
      { p with recs := p.recs + 1, txAt := p.boundary f, tx := [symCtl 0x90] }
  else s)

/-- R157: the slots that the modules report, first to last. -/
def slotSum (ms : List Module) : Nat := (ms.map Module.count).sum

/-- R186: a port in step 2 takes an ID record. -/
def State.takeId (s : State) (n : Nat) (r : IdRec) : State :=
  let ms := (s.link n).mods
  if !r.good || decide (r.pos.val ≠ ms.length) then s.trainingFails n 3
  else
    let ms := ms ++ [⟨r.count.toNat, r.typ, r.rev, slotSum ms, 0, 0, false⟩]
    let s := s.updLink n fun p => { p with mods := ms }
    if !r.last then s
    else if 384 < slotSum ms then s.trainingFails n 4
    else
      s.updLink n fun p =>
        { p with
          step := 3
          stepAt := s.time
          recs := 0
          trncfg := [s.fld (pUL n) UL_TRNCFG_MWDT, s.fld (pUL n) UL_TRNCFG_FWDT,
            s.fld (pUL n) UL_TRNCFG_LOSSMODE] }

/-- R186: ID_RECORD: the symbols of a record as they arrive. -/
def execIdRecord (t : Time) (l : Link) (xs : List RxSym) (s : State) : Host.Outcome State Fault Refusal :=
  let s := s.at_ t
  let n := l.val
  .next (if !s.receives n then s
  else
    match if s.inStep n 2 then idRecOf (s.heard n xs) else none with
    | some r => (s.hear n xs).takeId n r
    | none => s.hear n xs)

/-- R186: the CFG record of a position. -/
def cfgSyms (p : Nat) (m : Module) (cfg : List Nat) : List Symbol :=
  withCrc [symCtl (0xB0 + p), symVal m.first, symVal m.count, symVal (cfg.getD 0 0),
    symVal (cfg.getD 1 0), symVal (cfg.getD 2 0)]

/-- R186: CFG_REPEAT: the CFG records not yet acknowledged, every 2 µs. -/
def execCfgRepeat (l : Link) (s : State) : Host.Outcome State Fault Refusal :=
  let n := l.val
  .next (if s.inStep n 3 then
    let p := s.link n
    let f := p.stepAt + p.recs * 2000
    (s.at_ f).updLink n fun p =>
      { p with
        recs := p.recs + 1
        txAt := p.boundary f
        tx := ((p.mods.zipIdx.filter fun x => !x.1.acked).map fun x =>
          cfgSyms x.2 x.1 p.trncfg).flatten }
  else s)

/-- R185, R186: training completes; the primary tells its standby (R352). -/
def State.trained (s : State) (l : Nat) : State :=
  let ms := (s.link l).mods
  let s := ((s.setFld (pUL l) UL_STAT_STATE 2).setFld (pUL l) UL_STAT_MODCNT ms.length).setFld (pUL l)
    UL_STAT_SLOTS (slotSum ms)
  let s := s.updLink l fun p =>
    { p with
      step := 0
      rxAt := s.time
      holdAt := s.time
      tag := none
      tx := []
      txOn := false
      emitAt := none }
  (if s.role = 1 then s.parcel (.training l ms) else s).irq (pUL l) UL_E_TRNDONE

/-- R186: a port in step 3 takes the acknowledgement of position `k`. -/
def State.takeAck (s : State) (n k : Nat) : State :=
  let s := s.updLink n fun q =>
    { q with mods := q.mods.zipIdx.map fun x => if x.2 = k then { x.1 with acked := true } else x.1 }
  if (s.link n).mods.all (·.acked) then s.trained n else s

/-- R162: the position that a received symbol acknowledges. -/
def symAck (x : RxSym) : Option Nat :=
  if !x.framed then none else match ctlOf x.sym with
    | some c => if c.1 = 12 then some (c.2 % 8) else none
    | none => none

/-- R186: ACK: the symbol that a port receives. -/
def execAck (t : Time) (l : Link) (x : RxSym) (s : State) : Host.Outcome State Fault Refusal :=
  let s := s.at_ t
  let n := l.val
  .next (if !s.receives n then s
  else
    match if s.inStep n 3 then symAck x else none with
    | some k => (s.hear n [x]).takeAck n k
    | none => s.hear n [x])

/-- R186: TRAINING_TIMEOUT: the limit of the step has passed. -/
def execTrainingTimeout (l : Link) (s : State) : Host.Outcome State Fault Refusal :=
  let n := l.val
  let p := s.link n
  .next (if s.fld (pUL n) UL_STAT_STATE ≠ 1 then s
  else
    match p.step with
    | 1 => (s.at_ (p.stepAt + 500000)).trainingFails n 1
    | 2 => (s.at_ (p.stepAt + 1000000)).trainingFails n 2
    | 3 => (s.at_ (p.stepAt + 1000000)).trainingFails n 5
    | _ => s)

/-! ## Loss (R187) -/

/-- R161, R187: ALIGNMENT_LOSS: the symbols in which the receiver loses alignment, as they arrive. -/
def execAlignmentLoss (t : Time) (l : Link) (xs : List RxSym) (s : State) :
    Host.Outcome State Fault Refusal :=
  let s := s.at_ t
  .next (if s.receives l.val then s.hear l.val xs else s)

/-- R187: UPSTREAM_WATCHDOG: WDT µs without an upstream symbol with correct framing. -/
def execUpstreamWatchdog (l : Link) (s : State) : Host.Outcome State Fault Refusal :=
  let n := l.val
  .next (if s.pwr.up && s.clkOn (pUL n) && decide (2 ≤ s.fld (pUL n) UL_STAT_STATE) then
    (s.at_ ((s.link n).rxAt + s.fld (pUL n) UL_CTRL_WDT * 1000)).linkLost n false
  else s)

end Sys2Proof.Machine
end

