-- ==== Sys2Proof/Machine/Views.lean ====
section
/-! DEFINITION. What each register reads: a stored field as it stands, or a field that shows another part
of the state (the field tables of spec/02_frame.md to spec/18_host.md). Reads that themselves change
something stand with the read commands. -/

namespace Sys2Proof.Machine

/-! ## The fields of a page -/

/-- The fields of a page, header first. -/
def fieldsOf (p : Nat) : List Fld :=
  fieldsHDR ++ (match pgClass p with
    | .frm => fieldsFRM | .ctx => fieldsCTX
    | .je => if p = 32 then fieldsJE ++ fieldsJE00 else fieldsJE
    | .plc => fieldsPLC | .ul => fieldsUL | .ang => fieldsANG | .rgn => fieldsRGN | .tul => fieldsTUL
    | .iob => fieldsIOB | .cfg => fieldsCFG | .svc => fieldsSVC | .fls => fieldsFLS
    | .clk => if p = 16 then fieldsCLK ++ fieldsCLK0 else fieldsCLK
    | .pwr => fieldsPWR | .adc => fieldsADC | .lcs => fieldsLCS | .twn => fieldsTWN | .err => fieldsERR
    | .log => fieldsLOG | .sys => fieldsSYS | .pci => fieldsPCI | .reserved => [])

/-! ## The header (R414) -/

/-- R409: the class code of a page. -/
def classCode (p : Nat) : Nat :=
  match pgClass p with
  | .clk => 0x10 | .ang => 0x11 | .je => 0x12 | .rgn => 0x13 | .ul => 0x14 | .iob => 0x15
  | .reserved => 0 | _ => p + 1

/-- R316: PWR.STAT.STATE. -/
def State.pwrState (s : State) : Nat :=
  match s.pwr.gz with
  | 0 => if s.frmState = 2 then 1 else 0
  | n => n + 1

/-- R92, R93: JE.STAT.STATE of an engine. -/
def State.jeState (s : State) (e : Nat) : Nat :=
  if !s.bit (pJE e) HDR_PG_CTRL_EN then 3
  else if !s.frm.inFrame then 0
  else if !s.frm.computed ∧ ((s.engine e).visit.isSome ∨ (s.engine e).due ≠ []) then 1 else 2

/-- R414: the page's STAT.STATE, 0 where it has none. -/
def State.pageState (s : State) (p : Nat) : Nat :=
  match pgClass p with
  | .frm => s.frmState
  | .je => s.jeState (p - 32)
  | .ul => s.fld p UL_STAT_STATE
  | .ang => s.fld p ANG_STAT_STATE
  | .clk => s.fld p CLK_STAT_STATE
  | .pwr => s.pwrState
  | _ => 0

/-- R414: an operation started by a write to the page still runs, as a status register of the page shows:
its BUSY field or code, an activation set that is armed, a HOLD or a source switch that waits, a port in TRAIN
or an evacuation (DEDUCED, log entry 82). -/
def State.pageBusy (s : State) (p : Nat) : Bool :=
  match pgClass p with
  | .svc => s.fls.run.isSome || !s.fls.queue.isEmpty
  | .je => decide (p = 32) && s.bit p JE_CTSTAT_BUSY
  | .plc => s.bit p PLC_BTSTAT_BUSY || decide (s.fld p PLC_STAT_EXCLSTATE = 1)
  | .cfg => decide (s.fld p CFG_ASSTAT_STATE ≠ 0)
  | .frm => s.bit p FRM_STAT_HOLDREQ || s.frm.srcPend.isSome
  | .ul => decide (s.fld p UL_STAT_STATE = 1)
  | .pwr => decide (s.fld p PWR_CMDSTAT_STATUS = stBUSY)
  | .lcs => decide (s.fld p LCS_TSTAT_STATUS = stBUSY ∨ s.fld p LCS_CERTSTAT_STATUS = stBUSY)
  | _ => false

/-- R414: PG_ERR has a bit set that PG_ERRMSK does not mask. -/
def State.pageErr (s : State) (p : Nat) : Bool :=
  decide (s.fld p HDR_PG_ERR_ERR &&& (2 ^ 32 - 1 - s.fld p HDR_PG_ERRMSK_MASK) ≠ 0)

/-- The header fields that show other state. -/
def State.viewHdr (s : State) (p : Nat) (f : Fld) : Option Nat :=
  if f = HDR_PG_ID_CLASS then some (classCode p)
  else if f = HDR_PG_ID_INSTANCE then some (pgInstance p)
  else if f = HDR_PG_STAT_CLKON then some (s.clkOn p).toNat
  else if f = HDR_PG_STAT_PWRON then
    some (decide (s.pwr.gz ≠ 2 ∨ pgDomain p = 7)).toNat
  else if f = HDR_PG_STAT_BUSY then some (s.pageBusy p).toNat
  else if f = HDR_PG_STAT_ERR then some (s.pageErr p).toNat
  else if f = HDR_PG_STAT_READY then some s.pwr.up.toNat
  else if f = HDR_PG_STAT_STATE then some (s.pageState p)
  else none

/-! ## Frame controller and contexts -/

/-- R38: the engine with the highest peak load and that load; of equal loads the lowest engine. -/
def State.admPeak (s : State) : Nat × Nat :=
  let ls := s.loadList s.jer.inf s.ctx.load
  (List.range 32).foldl (fun best e => if best.2 < peakOf ls e then (e, peakOf ls e) else best) (0, 0)

/-- Fields of FRM. -/
def State.viewFrm (s : State) (f : Fld) : Option Nat :=
  if f = FRM_CTRL_ADMCHK then some s.admChecks.toNat
  else if (f = FRM_CTRL_SRC ∨ f = FRM_STAT_SRCACT) ∧ s.role = 2 then some 3
  else if f = FRM_STAT_APPLY then some s.windowOpen.toNat
  else if f = FRM_STAT_COMPUTE then some s.computing.toNat
  else if f = FRM_STAT_SRCSW then some s.frm.srcPend.isSome.toNat
  else if f = FRM_ADMCAP_B then some (budget (s.fld pFRM FRM_MINPER_ACT_VALUE))
  else if f = FRM_ADMPEAK_ENGINE then some s.admPeak.1
  else if f = FRM_ADMPEAK_LOAD then some s.admPeak.2
  else none

/-- R65: the entry that SMPIDX names, for a slot that exists. -/
def State.smpEntry (s : State) : Sample :=
  if 384 ≤ s.fld pCTX CTX_SMPIDX_SLOT then ⟨0, false, 0⟩
  else SMap.get Sample.none s.ctx.smp (s.fld pCTX CTX_SMPIDX_LINK * 384 + s.fld pCTX CTX_SMPIDX_SLOT)

/-- R62: the handle whose valid record is bound to the slot that SMPIDX names. -/
def State.slotHandle (s : State) : Option Nat :=
  if 384 ≤ s.fld pCTX CTX_SMPIDX_SLOT then none
  else
    let k := s.fld pCTX CTX_SMPIDX_LINK * 384 + s.fld pCTX CTX_SMPIDX_SLOT
    (List.range 49152).find? fun h => w0Valid (s.recWord h 0) && decide (s.boundSlot h = k)

/-- The entry of the safe table, as last written, that SAFEIDX names. -/
def State.safeEntry (s : State) : SafeEnt :=
  if 384 ≤ s.fld pCTX CTX_SAFEIDX_SLOT then ⟨0, 0⟩ else SMap.get ⟨0, 0⟩ s.ctx.safeW s.safeIdx

/-- Fields of CTX. -/
def State.viewCtx (s : State) (f : Fld) : Option Nat :=
  if f = CTX_GOPEN_WORDS then some s.ctx.open_.length
  else if f = CTX_GSTAT_QUEUED then some s.ctx.waiting.length
  else if f = CTX_SAFEDATA_PERR then
    some (decide (s.fld pCTX CTX_SAFEIDX_SLOT < 384) && SMap.get false s.ctx.perr s.safeIdx).toNat
  else if f = CTX_SAFEDATA_MODE then some s.safeEntry.mode
  else if f = CTX_SAFEDATA_VALUE then some s.safeEntry.val.toNat
  else if f = CTX_SMPDATA_AGE then some s.smpEntry.age
  else if f = CTX_SMPDATA_ABSENT then some s.smpEntry.absent.toNat
  else if f = CTX_SMPDATA_SAMPLE then some s.smpEntry.val.toNat
  else if f = CTX_SLOTH_BOUND then some s.slotHandle.isSome.toNat
  else if f = CTX_SLOTH_HANDLE then some (s.slotHandle.getD 0)
  else none

/-! ## Engines and microcode -/

/-- R102: the instruction stored at MCADDR. -/
def State.mcAtAddr (s : State) : Nat :=
  (s.mcWord (s.fld (pJE 0) JE_MCADDR_PLANE) (s.fld (pJE 0) JE_MCADDR_ADDR)).toNat

/-- The class-table entries that CTIDX names. -/
def State.ctPend (s : State) : ClsEnt := SMap.get ClsEnt.none s.jer.pend (s.fld (pJE 0) JE_CTIDX_CLASS)
def State.ctInf (s : State) : ClsEnt := SMap.get ClsEnt.none s.jer.inf (s.fld (pJE 0) JE_CTIDX_CLASS)

/-- Fields of JE00 to JE31. -/
def State.viewJe (s : State) (e : Nat) (f : Fld) : Option Nat :=
  if f = JE_STAT_STATE then some (s.jeState e)
  else if f = JE_STAT_GROUP then some (e / 4)
  else if f = JE_DUECNT_PLACED then
    some (s.ctx.due.filter fun x => x.2.valid && decide (bankOf x.1 = e)).length
  else if f = JE_MCSTAT_LIVEA then some (s.planeLive 0).toNat
  else if f = JE_MCSTAT_LIVEB then some (s.planeLive 1).toNat
  else if f = JE_MCDATA0_S2S1S0 then some (s.mcAtAddr % 2 ^ 30)
  else if f = JE_MCDATA1_S3 then some (s.mcAtAddr / 2 ^ 30)
  else if f = JE_CTDATA_VALID then some s.ctPend.valid.toNat
  else if f = JE_CTDATA_PLANE then some s.ctPend.plane
  else if f = JE_CTDATA_ENTRY then some s.ctPend.entry
  else if f = JE_CTDATA_W then some s.ctPend.w
  else if f = JE_CTINF_VALID then some s.ctInf.valid.toNat
  else if f = JE_CTINF_PLANE then some s.ctInf.plane
  else if f = JE_CTINF_ENTRY then some s.ctInf.entry
  else if f = JE_CTINF_W then some s.ctInf.w
  else none

/-! ## Placement -/

/-- R154, R155: base and size of the allocation of a region. -/
def State.allocOf (s : State) (r : Nat) : Nat × Nat :=
  let id := (s.region r).id
  if id = 1 then
    let rs := (List.range 64).filter fun r => (s.region r).id = 1
    (rs.headD 0, rs.length)
  else match s.plc.allocs.find? fun a => a.id = id with
    | some a => (a.base, a.k)
    | none => (0, 0)

/-- Fields of PLC. -/
def State.viewPlc (s : State) (f : Fld) : Option Nat :=
  let h := s.fld pPLC PLC_HIDX_HANDLE
  let b := s.fld pPLC PLC_BIDX_BANK
  let r := s.fld pPLC PLC_RIDX_REGION
  if f = PLC_STAT_MODE then some s.measured.toNat
  else if f = PLC_STAT_MIGPEND then some (Nat.min 127 s.plc.migs.length)
  else if f = PLC_HMAP_PINNED then some (decide (SMap.get 0 s.plc.pins h ≠ 0)).toNat
  else if f = PLC_HMAP_MIGRATING then some (s.plc.migs.any fun m => decide (m.handle = h)).toNat
  else if f = PLC_HMAP_BANK then some (bankOf (s.phys h))
  else if f = PLC_HMAP_SLOT then some (s.phys h % 1600)
  else if f = PLC_BINFO_FREE then some (s.freeSlots b)
  else if f = PLC_BINFO_HANDLES then some (1600 - s.freeSlots b)
  else if f = PLC_BLOAD_MEAS then some (if s.measured then (s.measLoad b).floor.toNat else 0)
  else if f = PLC_BSTATIC_STATIC then some (s.staticLoad b)
  else if f = PLC_RINFO_STATE then some (s.region r).state
  else if f = PLC_RINFO_ALLOCID then some (s.region r).id
  else if f = PLC_RINFO_K then some (s.allocOf r).2
  else if f = PLC_RINFO_BASE then some (s.allocOf r).1
  else none

/-! ## Links -/

/-- The module at a position. -/
def State.moduleAt (s : State) (l : Nat) : Module :=
  (s.link l).mods.getD (s.fld (pUL l) UL_MODIDX_POS) ⟨0, 0, 0, 0, 0, 0, false⟩

/-- Fields of UL000 to UL127. -/
def State.viewUl (s : State) (l : Nat) (f : Fld) : Option Nat :=
  let m := s.moduleAt l
  if f = UL_MODMAP_FIRST then some m.first
  else if f = UL_MODMAP_COUNT then some m.count
  else if f = UL_MODID_TYPE then some m.typ.toNat
  else if f = UL_MODID_REV then some m.rev.toNat
  else if f = UL_MODSTAT_STAT1 then some m.stat1.toNat
  else if f = UL_MODSTAT_STAT0 then some m.stat0.toNat
  else if f = UL_DSCAP_CAP then some (capOf (s.fld pFRM FRM_MINPER_ACT_VALUE))
  else none

/-! ## Fabric -/

/-- R220: a repair count and SPENT, which a part without its trim fuses does not have. -/
def State.repairAt (s : State) (n : Nat) : Bool × Nat :=
  if s.pwr.trimGone then (false, 0) else ((Config.repairs n).1, (Config.repairs n).2.toNat)

/-- The port that RGN.PORTIDX names. -/
def State.portAt (s : State) (r : Nat) : Port := (s.desc r).ports.getD (s.fld (pRGN r) RGN_PORTIDX_PORT) ⟨0, 0, 0, 0, 0⟩

/-- Fields of RGN00 to RGN63. -/
def State.viewRgn (s : State) (r : Nat) (f : Fld) : Option Nat :=
  let x := s.portAt r
  if f = RGN_STAT_CLKRUN then
    some (((List.range 4).map fun i => (s.clkRun r i).toNat * 2 ^ i).sum)
  else if f = RGN_STAT_QUAD then some (Config.quadrant r).toNat
  else if f = RGN_CLKSEL_CLK0 then some (s.clkSel r 0)
  else if f = RGN_CLKSEL_CLK1 then some (s.clkSel r 1)
  else if f = RGN_CLKSEL_CLK2 then some (s.clkSel r 2)
  else if f = RGN_CLKSEL_CLK3 then some (s.clkSel r 3)
  else if f = RGN_PORTCFG_KIND then some x.kind
  else if f = RGN_PORTCFG_PH then some x.ph
  else if f = RGN_PORTCFG_D then some x.d
  else if f = RGN_PORTCFG_TURN then some x.turn
  else if f = RGN_PORTCFG_PEER then some x.peer
  else if f = RGN_REPAIR_SPENT then some (s.repairAt (2 + r)).1.toNat
  else if f = RGN_REPAIR_BLOCKS then some (s.repairAt (2 + r)).2
  else none

/-- Fields of TUL. -/
def State.viewTul (s : State) (f : Fld) : Option Nat :=
  let id := s.fld pTUL TUL_FCQ_PORT
  let h := laneHops id
  if f = TUL_STAT_STREAMS then some s.fab.streams.length
  else if f = TUL_STAT_TARGETS then
    some ((List.range 16).filter fun n => s.bit (pJE 0) (JE_FCTGT_ENACT n)).length
  else if f = TUL_FCMIN_HOPS then some (h.getD 0x1F)
  else if f = TUL_FCMIN_LATMIN then
    some (match h with
      | some h => if id < 0x200 then 3 + 2 * h + s.fld pTUL TUL_FCQ_TURN else 0x3F
      | none => 0x3F)
  else none

/-- Fields of IOB0 to IOB7. -/
def State.viewIob (s : State) (b : Nat) (f : Fld) : Option Nat :=
  let c := s.pincfg b (s.fld (pIOB b) IOB_PINIDX_PIN)
  if f = IOB_STAT_HELD then some (s.iob b).held.toNat
  else if f = IOB_PINCFG_DRIVE then some (IOB_PINCFG_DRIVE.of c)
  else if f = IOB_PINCFG_SLEW then some (IOB_PINCFG_SLEW.of c)
  else if f = IOB_PINCFG_SCHMITT then some (IOB_PINCFG_SCHMITT.of c)
  else if f = IOB_PINCFG_PULL then some (IOB_PINCFG_PULL.of c)
  else if f = IOB_PINCFG_FILT then some (IOB_PINCFG_FILT.of c)
  else if f = IOB_LEVEL_LO_LEVEL then some ((s.iob b).level.toNat % 2 ^ 32)
  else if f = IOB_LEVEL_HI_LEVEL then some ((s.iob b).level.toNat / 2 ^ 32)
  else none

/-! ## Configuration, routines and flash -/

/-- Fields of CFG. -/
def State.viewCfg (s : State) (f : Fld) : Option Nat :=
  let r := s.fld pCFG CFG_RIDX_REGION
  if f = CFG_RPLANE_ACTIVE then some (Nat.min 1 (s.active r).state)
  else if f = CFG_RPLANE_VOILE then some (s.voile r).state
  else if f = CFG_RPLANE_PENDING then some (s.cfg.swapPend.testBit r).toNat
  else if f = CFG_RPLANE_ACKED then
    some (match s.cfg.as with
      | some a => a.acked.testBit r
      | none => false).toNat
  else if f = CFG_RPLANE_FORCED then some (s.cfg.forced.testBit r).toNat
  else if f = CFG_RPLANE_SLOT then some (s.voile r).slot
  else if f = CFG_RVER_AVER then some ((s.active r).ver % 65536)
  else if f = CFG_RVER_VVER then some ((s.voile r).ver % 65536)
  else if f = CFG_RQTO_QTO then some (s.rqto r)
  else none

/-- Fields of SVC. -/
def State.viewSvc (s : State) (f : Fld) : Option Nat :=
  let c := s.fls.cpls.headD ⟨0, 0, 0, 0⟩
  if f = SVC_ISSUE_QUEUED then some s.queued
  else if f = SVC_CPL_VALID then some (decide (s.fls.cpls ≠ [])).toNat
  else if f = SVC_CPL_TAG then some c.tag
  else if f = SVC_CPL_CODE then some c.code
  else if f = SVC_CPL_STATUS then some c.status
  else if f = SVC_CPLRES_RESULT then some c.result
  else none

/-- Entries of the bad-block table of a cause. -/
def State.badCount (s : State) (cause : Nat) : Nat := (s.fls.bad.filter fun b => b.cause = cause).length

/-- Fields of FLS. -/
def State.viewFls (s : State) (f : Fld) : Option Nat :=
  let b := s.fls.bad[s.fld pFLS FLS_BBIDX_ENTRY]?
  let b' := b.getD ⟨0, 0, 0, false⟩
  if f = FLS_POOL_PENDCNT then some s.pendCount
  else if f = FLS_POOL_GROWN then some (Nat.min 63 (s.badCount 2))
  else if f = FLS_POOL_FACTORY then some (s.badCount 1)
  else if f = FLS_POOL_SPARES then some s.spares.length
  else if f = FLS_BBENT_VALID then some b.isSome.toNat
  else if f = FLS_BBENT_CAUSE then some b'.cause
  else if f = FLS_BBENT_REPLACED then some b'.replaced.toNat
  else if f = FLS_BBENT_LOGICAL then some b'.logical
  else if f = FLS_BBENT_PHYSICAL then some b'.phys
  else if f = FLS_ZONE_PERM then some s.fls.zperm
  else if f = FLS_ZONE_LOCKED then
    some (((List.range 16).map fun z => (s.zoneLocked z).toNat * 2 ^ z).sum)
  else if f = FLS_LOGSAVE_USED then some s.fls.saves.length
  else if f = FLS_LOGSAVE_ERASED then some s.logErased
  else none

/-! ## Clocks, power and life cycle -/

/-- R297: the limits of the band that BANDIDX names. -/
def State.bandAt (s : State) (n : Nat) : Nat × Nat := s.bandOf n (s.fld (pCLK n) CLK_BANDIDX_BAND)

/-- R299: PLL_LKI is charging or discharging, so that its level is open: some MDLL is acquiring. -/
def State.lkiMoves (s : State) : Bool :=
  (List.range 8).any fun n => decide ((s.mdll n).acq = 1 ∨ (s.mdll n).acq = 2)

/-- Fields of CLK0 to CLK7. MDLL0 to MDLL2 have no divided outputs, so DIV is reserved there (R5, R294). -/
def State.viewClk (s : State) (n : Nat) (f : Fld) : Option Nat :=
  if n < 3 ∧ f.off = CLK_DIV_DIV0.off then some 0
  else if f = CLK_PHASE_PEND then some ((s.phaseNow n).1 % 128).toNat
  else if f = CLK_PHASE_PHPOS then some (s.phaseNow n).2
  else if f = CLK_STAT_LKIBELOW ∧ s.lkiMoves = true then some (Config.lkiLow s.time).toNat
  else if f = CLK_BANDDATA_FMIN then some (s.bandAt n).1
  else if f = CLK_BANDDATA_FMAX then some (s.bandAt n).2
  else if f = CLK_TIME_LO_TIME then some (s.time % 2 ^ 32)
  else if f = CLK_TIME_HI_TIME then some (s.time / 2 ^ 32 % 2 ^ 32)
  else none

/-- R328: some pad is held. -/
def State.padsHeld (s : State) : Bool := (List.range 8).any fun b => (s.iob b).held

/-- Fields of PWR. -/
def State.viewPwr (s : State) (f : Fld) : Option Nat :=
  if f = PWR_STAT_STATE then some s.pwrState
  else if f = PWR_STAT_STOPPED then some s.stoppedDoms
  else if f = PWR_STAT_PADHELD then some s.padsHeld.toNat
  else none

/-- Fields of ADC. -/
def State.viewAdc (s : State) (f : Fld) : Option Nat :=
  if f = ADC_STAT_RUNNING then
    some (s.bit pADC HDR_PG_CTRL_EN && decide (s.fld pADC ADC_CTRL_CHEN ≠ 0 ∨ s.pwr.adcMask ≠ 0)).toNat
  else none

/-- R341, R342: programmed OTP bytes. -/
def State.otpProgrammed (s : State) (a : Nat) : Bool := (s.otpBytes a 32).any (· ≠ 0xFF)

/-- R286, R337: the device ID as the LCS page and a certificate check read it. -/
def State.devIdByte (s : State) (n : Nat) : Nat := if s.pwr.trimGone then 0 else s.otpByte n

/-- R345: the certificate in force, with 0 for each field when there is none. -/
def State.certShown (s : State) : Nat × Nat × Nat × Nat :=
  match s.pwr.certIn with
  | some (k, g, t, p, _) => (k, g, t, p)
  | none => (0, 0, 0, 0)

/-- Fields of LCS. -/
def State.viewLcs (s : State) (f : Fld) : Option Nat :=
  if f = LCS_STATE_CPYA then some (s.copyState 0)
  else if f = LCS_STATE_CPYB then some (s.copyState 1)
  else if f = LCS_STATE_INDEX then some s.pwr.lcs
  else if f = LCS_STATE_CODE then some (lcsCode s.pwr.lcs)
  else if f.off = LCS_FUSEA_DEVELOP.off then some (s.fuses 0 (f.lo / 4 + 1))
  else if f.off = LCS_FUSEB_DEVELOP.off then some (s.fuses 1 (f.lo / 4 + 1))
  else if f.off = LCS_INTENT_DEVELOP.off then some (s.fuses 2 (f.lo / 4 + 1))
  else if f = LCS_KEYSTAT_DBGUSE then some s.debugUsable.toNat
  else if f = LCS_KEYSTAT_OEM1USE then some (s.rootUsable 1).toNat
  else if f = LCS_KEYSTAT_OEM0USE then some (s.rootUsable 0).toNat
  else if f = LCS_KEYSTAT_DBGREV then some (s.revoked 0x1E0).toNat
  else if f = LCS_KEYSTAT_DBGPRG then some (s.otpProgrammed 0x1A0).toNat
  else if f = LCS_KEYSTAT_AES1 then some (s.aesUsable 1).toNat
  else if f = LCS_KEYSTAT_AES0 then some (s.aesUsable 0).toNat
  else if f = LCS_KEYSTAT_OEM1REV then some (s.revoked 0x1D0).toNat
  else if f = LCS_KEYSTAT_OEM1PRG then some (s.otpProgrammed 0x140).toNat
  else if f = LCS_KEYSTAT_OEM0REV then some (s.revoked 0x1C0).toNat
  else if f = LCS_KEYSTAT_OEM0PRG then some (s.otpProgrammed 0x120).toNat
  else if f = LCS_DBGSTAT_MAKER then some s.makerOpen.toNat
  else if f = LCS_DBGSTAT_PLRD then some s.planeOpen.toNat
  else if f = LCS_DBGSTAT_INTDBG then some s.debugOpen.toNat
  else if f = LCS_DBGSTAT_BSCAN then some (scanOpen s.pwr.lcs).toNat
  else if f = LCS_CERTSTAT_KIND then some s.certShown.1
  else if f = LCS_CERTSTAT_SIGNER then some s.certShown.2.1
  else if f = LCS_CERTSTAT_TARGET then some s.certShown.2.2.1
  else if f = LCS_CERTSTAT_PERM then some s.certShown.2.2.2
  else if 0x68 ≤ f.off ∧ f.off < 0x78 then
    some (leNum ((List.range 4).map fun i => s.devIdByte (f.off - 0x68 + i)))
  else none

/-! ## Environment, log, system and host -/

/-- R5: the 32 bits of a map of pages: bit `b` of register `k` stands for page 32 k + b. -/
def pageMap (k : Nat) (f : Nat → Bool) : Nat :=
  ((List.range 32).map fun b => (f (32 * k + b)).toNat * 2 ^ b).sum

/-- Fields of ERR. -/
def State.viewErr (s : State) (f : Fld) : Option Nat :=
  if 0x80 ≤ f.off then some (pageMap ((f.off - 0x80) / 4) fun p => s.clkOn p && s.pageErr p) else none

/-- R378: the entry of the ring that IDX names. -/
def State.ringAt (s : State) : BitVec 128 := SMap.get 0 s.hst.ring (s.fld pLOG LOG_IDX_ENTRY)

/-- R378: what ENT1 to ENT3 show: the entry that the latest read of ENT0 captured. -/
def State.entShown (s : State) : BitVec 128 := s.hst.entCap.getD s.ringAt

/-- Fields of LOG. -/
def State.viewLog (s : State) (f : Fld) : Option Nat :=
  if f = LOG_ENT0_BITS then some (s.ringAt.toNat % 2 ^ 32)
  else if f = LOG_ENT1_BITS then some (s.entShown.toNat / 2 ^ 32 % 2 ^ 32)
  else if f = LOG_ENT2_BITS then some (s.entShown.toNat / 2 ^ 64 % 2 ^ 32)
  else if f = LOG_ENT3_BITS then some (s.entShown.toNat / 2 ^ 96)
  else if f = LOG_PFW_ASSERTED then some s.pwr.pfw.toNat
  else if f = LOG_PFW_BLOCKED then some s.pwr.pfwBlock.toNat
  else none

/-- Fields of SYS. -/
def State.viewSys (s : State) (f : Fld) : Option Nat :=
  if f = SYS_IOHOLD_HELD then some s.padsHeld.toNat
  else if f = SYS_VERSION_SILREV then some Config.silrev.toNat
  else if f = SYS_VERSION_ROMREV then some Config.romrev.toNat
  else if f = SYS_REPCTX_SPENT then some (s.repairAt 0).1.toNat
  else if f = SYS_REPCTX_BANKS then some (s.repairAt 0).2
  else if f = SYS_REPPAT_SPENT then some (s.repairAt 1).1.toNat
  else if f = SYS_REPPAT_REPLICAS then some ((s.repairAt 1).2 % 16)
  else if 0x80 ≤ f.off ∧ f.off < 0xC0 then some (pageMap ((f.off - 0x80) / 4) s.clkOn)
  else if 0xC0 ≤ f.off then some (pageMap ((f.off - 0xC0) / 4) fun p => s.clkOn p && s.requests p)
  else none

/-- Fields of PCI. -/
def State.viewPci (s : State) (f : Fld) : Option Nat :=
  if f = PCI_NPOUT_NOW then some s.npNow
  else if f = PCI_LINK_D3HOT then some s.pwr.d3.toNat
  else none

/-- R363: a partner LIVE pulse has come within the last heartbeat window. -/
def State.liveNow (s : State) : Bool :=
  match s.twn.liveAt with
  | some a => decide (s.time ≤ a + s.fld pTWN TWN_CTRL_HBWIN * 100)
  | none => false

/-- R362: the first cause of ineligibility. -/
def State.inelig (s : State) : Nat :=
  let st := s.fld pTWN TWN_STAT_SSTATE
  if s.role ≠ 2 then 15
  else if st ≠ 3 then (if st = 2 then 2 else 1)
  else if !s.twn.matched then 3
  else if !s.bit pTWN TWN_STAT_LINKUP || s.twn.missed then 4
  else if s.fld pTWN TWN_CTRL_LAGMAX * 100 < s.fld pTWN TWN_LAG_NOW then 5
  else if s.twn.angBad ≠ 0 then 6 else 0

/-- Fields of TWN. -/
def State.viewTwn (s : State) (f : Fld) : Option Nat :=
  if f = TWN_STAT_INELIG then some s.inelig
  else if f = TWN_STAT_ELIG then some (decide (s.inelig = 0)).toNat
  else if f = TWN_STAT_PLIVE then some s.liveNow.toNat
  else none

/-- A field that shows another part of the state. -/
def State.derived (s : State) (p : Nat) (f : Fld) : Option Nat :=
  if f.off < 0x40 then s.viewHdr p f
  else match pgClass p with
    | .frm => s.viewFrm f | .ctx => s.viewCtx f | .je => s.viewJe (p - 32) f | .plc => s.viewPlc f
    | .ul => s.viewUl (p - 128) f | .rgn => s.viewRgn (p - 64) f | .tul => s.viewTul f
    | .iob => s.viewIob (p - 256) f | .cfg => s.viewCfg f | .svc => s.viewSvc f | .fls => s.viewFls f
    | .clk => s.viewClk (p - 16) f | .pwr => s.viewPwr f | .adc => s.viewAdc f | .lcs => s.viewLcs f
    | .err => s.viewErr f | .log => s.viewLog f | .sys => s.viewSys f | .pci => s.viewPci f
    | .twn => s.viewTwn f | .ang => none | .reserved => none

/-- R5, R416: what a field reads: a write-only field 0, a field that shows other state that state, a
counter or record under FREEZE the snapshot, any other field its value. -/
def State.view (s : State) (p : Nat) (f : Fld) : Nat :=
  if f.acc = .wo then 0 else (s.derived p f).getD (s.look p f) % 2 ^ f.wid

/-- The 32 bits that a read of offset `o` of page `p` returns. -/
def State.regValue (s : State) (p o : Nat) : Nat :=
  (((fieldsOf p).filter fun f => f.off = o).map fun f => s.view p f * 2 ^ f.lo).sum

end Sys2Proof.Machine
end

