-- ==== Sys2Proof/Machine/Power.lean ====
section
/-! DEFINITION. Entry to GAUZE, wakes, the sampler, pad hold and the ADC (spec/13_power.md, R315 to R330). -/

namespace Sys2Proof.Machine

/-! ## Entry (R317 to R320) -/

/-- R318: some port satisfies a condition. -/
def somePort (f : Nat → Bool) : Bool := (List.range 128).any f

/-- R318: a port is sending a RUN frame or a resent segment. -/
def State.sendsRun (s : State) (l : Nat) : Bool :=
  let p := s.link l
  p.txOn && !p.txHold && decide (s.time < p.txEnd)

/-- R318: the reason for which a domain from 0 to 6 refuses to stop. -/
def State.refusal (s : State) (d : Nat) : Option Nat :=
  match d with
  | 0 => if s.frmState ≠ 2 then some 1 else none
  | 1 => if s.role = 1 ∨ s.role = 2 then some 1 else none
  | 2 =>
    if somePort fun l => decide (s.fld (pUL l) UL_STAT_STATE = 1) then some 1
    else if somePort s.sendsRun then some 2 else none
  | 3 =>
    if s.fld pCFG CFG_ASSTAT_STATE ≠ 0 then some 1
    else if (List.range 64).any fun r => decide ((s.voile r).state = 1) then some 2
    else if s.fab.hp ≠ [] then some 3 else none
  | 4 =>
    if s.ctx.open_ ≠ [] ∨ s.ctx.waiting ≠ [] then some 1
    else if s.plc.migs ≠ [] ∨ s.fld pPLC PLC_STAT_EXCLSTATE = 1 then some 2
    else if s.fld pPLC PLC_STAT_EXCLSTATE = 3 ∨ s.verifying = true then some 3 else none
  | 5 =>
    if s.fls.run.isSome = true ∨ s.fls.queue ≠ [] then some 1
    else if s.fls.bg.isSome then some 2 else none
  | _ => if s.hostBusy then some 1 else none

/-- R318: the first domain of a list that refuses, with its reason. -/
def State.firstRefusal (s : State) : List Nat → Option (Nat × Nat)
  | [] => none
  | d :: ds =>
    match s.refusal d with
    | some r => some (d, r)
    | none => s.firstRefusal ds

/-- R319: entry is undone: the stopped domains run again, the accesses that hung meanwhile are discarded,
and CMDSTAT names the domain and the reason. -/
def State.refuseEntry (s : State) (d r : Nat) : State :=
  let s := s.setFld pPWR PWR_STAT_STOPPED 0
  let s := s.updPwr fun p => { p with gz := 0, muslin := 0 }
  let s := s.discardHung
  let s := ((s.setFld pPWR PWR_CMDSTAT_STATUS stREFUSED).setFld pPWR PWR_CMDSTAT_DOMAIN d).setFld pPWR
    PWR_CMDSTAT_REASON r
  (s.err pPWR PWR_E_REFUSED).log pPWR 0x005 2 (d * 2 ^ 16 + r * 2 ^ 8)

/-- R317, R318: phase A up to the stop of domain 5. -/
def State.startEntry (s : State) : State :=
  let s := ((s.setFld pPWR PWR_CMDSTAT_STATUS stBUSY).setFld pPWR PWR_CMDSTAT_DOMAIN 0).setFld pPWR
    PWR_CMDSTAT_REASON 0
  match s.firstRefusal [0, 1, 2, 3, 4, 5] with
  | some (d, r) => s.refuseEntry d r
  | none =>
    (s.updPwr fun p => { p with gz := 1, gzAt := s.time, muslin := if p.pfw then 2 else 0 }).setFld pPWR
      PWR_STAT_STOPPED 0x3E

/-- R317: a write of PWR.CMD, over the service port or not. -/
def State.doPwrCmd (s : State) (sp : Bool) (v : Nat) : State :=
  let s := if PWR_CMD_GAUZE.of v = 0 then s
    else if s.pwr.gz ≠ 0 ∨ s.pwr.trans.isSome = true then s.err pPWR PWR_E_CFGERR
    else s.startEntry
  if PWR_CMD_WAKE.of v = 0 then s
  else if sp ∧ s.pwr.gz = 2 then s.wake 6 none none
  else s.err pPWR PWR_E_CFGERR

/-- R317: PWR_CMD_GAUZE. -/
def execPwrCmdGauze (t : Time) (s : State) : Host.Outcome State Fault Refusal :=
  .next (s.hostWrite t (pPWR * 4096 + 0x40) 1 fun s => s.doPwrCmd false 1)

/-- R328: the pulls at the pads of a bank. -/
def State.pulls (s : State) (b : Nat) : List Nat :=
  let x := s.iob b
  if x.held then x.heldPull
  else (List.range 48).map fun i =>
    if x.cfgd && !x.vmis && s.bit (pIOB b) HDR_PG_CTRL_EN then IOB_PINCFG_PULL.of (s.pincfg b i) else 2

/-- R328: every pad of a bank latches its output enable, value and pull. -/
def State.holdBank (s : State) (b : Nat) : State :=
  let (oe, out) := s.pads b
  let pull := s.pulls b
  s.updIob b fun x => { x with held := true, heldOe := oe, heldOut := out, heldPull := pull }

/-- R327: word `j` of canary `i` of bank `k`. -/
def canaryWord (cnt k i j : Nat) : Word := BitVec.ofNat 10 ((64 * k + 16 * i + j) ^^^ (cnt + 1))

/-- R320 step 2: the canaries of a bank are written. -/
def State.writeCanaries (s : State) (k : Nat) : State :=
  let cnt := s.fld pPWR PWR_WAKECNT_COUNT
  let ws := (List.range 16).map fun n => canaryWord cnt k (n / 4) (n % 4)
  s.updPwr fun p => { p with canary := SMap.putAll 0 p.canary (k * 16) ws }

/-- R320 step 3: an MDLL stops. -/
def State.stopMdll (s : State) (n : Nat) : State :=
  let p := pCLK n
  (((((s.setFld p CLK_STAT_STATE 0).setFld p CLK_STAT_MUTED 1).setFld p CLK_STAT_WINDOW 0).setFld p
    CLK_STAT_RAMP 0).setFld p CLK_STAT_BAND 0).updMdll n fun c => { c with acq := 0 }

/-- R308, R320: phase B, up to the end of the third slow-clock cycle of step 4: the MDLLs are stopped, so that
device time has been handed over to the slow clock. STOPPED shows phase A only, and reads 0 in GAUZE. -/
def State.phaseB (s : State) : State :=
  let s := (List.range 8).foldl State.holdBank s
  let kept := s.fld pPWR PWR_RETAIN_BANKS
  let s := (s.updPwr fun p => { p with up := false, wakeB := false, coastAt := none, kept := kept }).updFrm fun f =>
    { f with tickOut := false }
  let s := ((List.range 32).filter s.retains).foldl State.writeCanaries s
  let s := (List.range 8).foldl State.stopMdll s
  let s := s.setFld pPCI PCI_LINK_L0 0
  let s := s.at_ (s.time + slowNs s.inst.acc 3)
  let s := s.updPwr fun p => { p with gz := 2, gzAt := s.time, gzAcc := s.inst.acc, outOf := [], events := 0 }
  (s.setFld pPWR PWR_CMDSTAT_STATUS stOK).setFld pPWR PWR_STAT_STOPPED 0

/-- R318, R320: GAUZE_PHASE_B: the last queries of phase A, then phase B. -/
def execGauzePhaseB (t : Time) (s : State) : Host.Outcome State Fault Refusal :=
  let s := s.at_ t
  .next (if s.pwr.gz ≠ 1 then s
  else if s.pwr.muslin ≠ 0 then s.refuseEntry 7 s.pwr.muslin
  else match s.refusal 6 with
    | some r => s.refuseEntry 6 r
    | none => s.phaseB)

/-! ## Wake sources (R321 to R324) -/

/-- R324: a source that would have woken the device in the same slow-clock cycle as the one that did: the
lowest SRC and, within it, the lowest index is recorded. -/
def State.sameCycle (s : State) (src : Nat) (pin : Option Nat) : State :=
  let was := (s.fld pPWR PWR_WAKESRC_SRC, s.fld pPWR PWR_WAKESRC_INDEX)
  if s.pwr.gz = 3 ∧ s.time = s.pwr.gzAt ∧ (src < was.1 ∨ (src = was.1 ∧ pin.getD 0 < was.2)) then
    ((s.setFld pPWR PWR_WAKESRC_SRC src).setFld pPWR PWR_WAKESRC_INDEX (pin.getD was.2)).setFld pPWR
      PWR_WAKESRC_VALUE 1
  else s

/-- R321: a detection of a source at time `t`: in phase A it makes MUSLIN refuse; in GAUZE it wakes the
device, but for an edge that comes before the edge detectors are armed again. -/
def State.detected (s : State) (t : Time) (edge : Bool) (src : Nat) (pin : Option Nat) : State :=
  if s.pwr.gz = 1 then
    (s.at_ t).updPwr fun p => { p with muslin := if p.muslin = 0 then 1 else p.muslin }
  else if s.pwr.gz = 2 then
    if edge ∧ t < s.pwr.gzAt then s
    else (s.at_ t).wake src pin (some 1)
  else (s.at_ t).sameCycle src pin

/-- R321, R322: what a pin does is a detection of a source of mode `mode` and active level `pol`: an edge
towards that level of at least 200 ns width, or that level at 3 consecutive edges of the slow clock. -/
def detectCounts (d : Detect) (mode : Nat) (pol : Bool) : Bool :=
  match d with
  | .edge level width => decide (mode = 1 ∧ 200 ≤ width) && level == pol
  | .level level samples => decide (mode = 2 ∧ 3 ≤ samples) && level == pol

/-- The pin shows an edge, not a level. -/
def detectEdge : Detect → Bool
  | .edge _ _ => true
  | .level _ _ => false

/-- R321, R322: WAKE_IN. -/
def execWakeIn (t : Time) (d : Detect) (s : State) : Host.Outcome State Fault Refusal :=
  .next (if detectCounts d (s.fld pPWR PWR_WCFG_WIMODE) (s.bit pPWR PWR_WCFG_WIPOL) then
      s.detected t (detectEdge d) 1 none
    else s.at_ t)

/-- R322: the mode of a watch pin. -/
def State.pinMode (s : State) (i : Nat) : Nat := bitsN (s.fld pPWR PWR_WPMODE_MODE) (2 * i) 2

/-- R321, R322: WATCH_PIN: pin `i` in a continuous mode. -/
def execWatchPin (t : Time) (i : Fin 16) (d : Detect) (s : State) : Host.Outcome State Fault Refusal :=
  .next (if detectCounts d (s.pinMode i.val) ((s.fld pPWR PWR_WPPOL_POL).testBit i.val) then
      s.detected t (detectEdge d) 2 (some i.val)
    else s.at_ t)

/-- R308, R323: ns from the start of GAUZE to sampling event `n`, which comes at an edge of the slow clock. -/
def State.sampleAt (s : State) (n : Nat) : Nat :=
  slowNs s.pwr.gzAcc (n * ((s.fld pPWR PWR_CTRL_INTERVAL * 32768 + 999) / 1000))

/-- R322, R323: a sampled source is out of limit: pin `i` as `i`, channel `n` as 16 + n. -/
def State.outOfLimit (s : State) (pins : BitVec 16) (adc : List AdcIn) (k : Nat) : Bool :=
  if k < 16 then decide (s.pinMode k = 3) && pins.getLsbD k == (s.fld pPWR PWR_WPPOL_POL).testBit k
  else
    let n := k - 16
    let v := (adc.getD n ⟨0, 1⟩).result.toNat
    (s.fld pPWR PWR_ADCSEL_CH).testBit n &&
      decide (v < s.fld pPWR (PWR_THR_LO n) ∨ s.fld pPWR (PWR_THR_HI n) < v)

/-- R323: the counts of consecutive events out of limit after an event. -/
def State.countOut (s : State) (pins : BitVec 16) (adc : List AdcIn) : SMap Nat :=
  (List.range 32).foldl (fun m k =>
    SMap.put 0 m k (if s.outOfLimit pins adc k then SMap.get 0 m k + 1 else 0)) s.pwr.outOf

/-- R322 to R324: SAMPLING_EVENT: a wake by the lowest sampled pin, else the lowest channel, else the
timer. -/
def execSamplingEvent (pins : BitVec 16) (adc : List AdcIn) (s : State) : Host.Outcome State Fault Refusal :=
  .next (if s.pwr.gz ≠ 2 then s
  else
    let n := s.pwr.events + 1
    let s := (s.at_ (s.pwr.gzAt + s.sampleAt n)).addWrap pPWR PWR_SAMPCNT_COUNT 1
    let m := s.countOut pins adc
    let s := s.updPwr fun p => { p with events := n, outOf := m }
    match (List.range 32).find? fun k => decide (s.fld pPWR PWR_CTRL_CONSEC ≤ SMap.get 0 m k) with
    | some k =>
      if k < 16 then s.wake 3 (some k) (some 1)
      else s.wake 4 (some (k - 16)) (some (adc.getD (k - 16) ⟨0, 1⟩).result.toNat)
    | none =>
      if s.fld pPWR PWR_TWAKE_COUNT ≠ 0 ∧ s.fld pPWR PWR_TWAKE_COUNT ≤ n then s.wake 5 none none else s)

/-- R322: PWR_CMD_WAKE: the write of PWR.CMD.WAKE over the service port takes effect. -/
def execPwrCmdWake (t : Time) (s : State) : Host.Outcome State Fault Refusal :=
  let s := s.at_ t
  .next (if s.pwr.gz = 2 then s.doPwrCmd true 4
  else if !s.pwr.up then s
  else if s.pwr.pfwBlock then s.dropWrite
  else s.pageWrite (pPWR * 4096 + 0x40) 4 fun s => s.doPwrCmd true 4)

/-! ## Configuration writes (R317) -/

/-- R317: the offsets of PWR that ENTRY locks. -/
def entryLocked (o : Nat) : Bool := decide (0x4C ≤ o ∧ o ≤ 0xA4)

/-- A write of offset `o` of the PWR page, over the service port or not. -/
def State.doPwr (s : State) (sp : Bool) (o v : Nat) : State :=
  if s.pwr.gz = 1 ∧ entryLocked o = true then s.err pPWR PWR_E_CFGERR
  else match o with
  | 0x40 => s.doPwrCmd sp v
  | 0x4C =>
    let n := PWR_CTRL_INTERVAL.of v
    let s := s.setFld pPWR PWR_CTRL_INTERVAL (Nat.max 1 (Nat.min 60000 n))
    (s.setFld pPWR PWR_CTRL_CONSEC (Nat.max 1 (PWR_CTRL_CONSEC.of v))).store pPWR PWR_CTRL_WAKEB v
  | 0x50 => s.store pPWR PWR_RETAIN_BANKS v
  | 0x54 => (s.store pPWR PWR_WCFG_WIPOL v).store pPWR PWR_WCFG_WIMODE v
  | 0x58 => s.store pPWR PWR_WPMODE_MODE v
  | 0x5C => s.store pPWR PWR_WPPOL_POL v
  | 0x60 => s.store pPWR PWR_ADCSEL_CH v
  | 0xA4 => s.store pPWR PWR_TWAKE_COUNT v
  | _ =>
    if 0x64 ≤ o ∧ o < 0xA4 then
      (s.store pPWR (PWR_THR_HI ((o - 0x64) / 4)) v).store pPWR (PWR_THR_LO ((o - 0x64) / 4)) v
    else s

/-! ## Pad hold (R328) -/

/-- R328: every held pad is released. -/
def State.doIohold (s : State) (v : Nat) : State :=
  if SYS_IOHOLD_RELEASE.of v = 0 then s
  else (List.range 8).foldl (fun s b => s.updIob b fun x =>
    { x with held := false, heldOe := 0, heldOut := 0, heldPull := [] }) s

/-- R328: IOHOLD_RELEASE. -/
def execIoholdRelease (t : Time) (s : State) : Host.Outcome State Fault Refusal :=
  .next (s.hostWrite t (pSYS * 4096 + 0x44) 1 fun s => s.doIohold 1)

/-! ## The ADC (R330) -/

/-- The lowest channel of a mask. -/
def firstChannel (m : Nat) : Option Nat := (List.range 16).find? fun n => m.testBit n

/-- R330: the result of a channel. -/
def State.adcResult (s : State) (t : Time) (n : Nat) (v : Word) : State :=
  let old := s.fld pADC (ADC_RES_LANES (n / 3))
  let lanes := old - bitsN old (10 * (n % 3)) 10 * 2 ^ (10 * (n % 3)) + v.toNat * 2 ^ (10 * (n % 3))
  let s := if lanes = old then s
    else (s.setFld pADC (ADC_RES_LANES (n / 3)) lanes).setFld pADC (ADC_RES_NEW (n / 3)) 1
  let s := (s.setFld pADC ADC_STAT_LASTCH n).addWrap pADC ADC_CNVCNT_COUNT 1
  s.sendFrom 0x224 t (BitVec.ofNat 80 (v.toNat + n * 2 ^ 10 + (t - 1000) % 2 ^ 48 * 2 ^ 32))

/-- R330: ADC_CONVERSION: the conversion that ends at `t`. -/
def execAdcConversion (t : Time) (v : AdcIn) (s : State) : Host.Outcome State Fault Refusal :=
  let s := s.at_ t
  let m := if s.pwr.adcMask = 0 then s.fld pADC ADC_CTRL_CHEN else s.pwr.adcMask
  .next (if !s.pwr.up || !s.clkOn pADC || !s.bit pADC HDR_PG_CTRL_EN then s
  else match firstChannel m with
    | none => s
    | some n =>
      let s := s.adcResult t n v.result
      let s := s.updPwr fun p => { p with adcMask := m - 2 ^ n }
      if m = 2 ^ n then s.irq pADC ADC_E_SCAN else s)

/-- A write of offset `o` of the ADC page. -/
def State.doAdc (s : State) (o v : Nat) : State :=
  match o with
  | 0x40 => s.store pADC ADC_CTRL_CHEN v
  | _ => s

end Sys2Proof.Machine
end

