-- ==== Sys2Proof/Machine/Bringup.lean ====
section
/-! DEFINITION. Bring-up up to READY (spec/17_bringup.md, R398 to R403, with R250, R326, R327, R340 and R341),
and power failure (spec/16_errors.md, R383 to R385, with R329 and R401). -/

namespace Sys2Proof.Machine

/-! ## Step 3: fuses (R340, R341) -/

/-- R340: a partly burned state-group copy is reported. -/
def State.reportPart (s : State) (x : Nat × Nat) : State :=
  (s.err pLCS LCS_E_INCOMPLETE).log pLCS 0x0B0 2 (x.2 + 256 * x.1)

/-- R340: the decode of the fuses. -/
def State.decodeFuses (s : State) : State :=
  let s := s.updPwr fun p => { p with lcs := s.decodedState }
  let s := (s.setBit pLCS LCS_STATE_PENDING s.pendingState.isSome).setBit pLCS LCS_STATE_PARTIAL
    (decide (s.partGroups ≠ []))
  s.partGroups.foldl State.reportPart s

/-- R341: the copy whose state is earlier than the state in force is burned. -/
def State.burnLagging (s : State) (bad : Bool) : State :=
  let st := s.decodedState
  match [0, 1].find? fun c => decide (s.copyState c < st) with
  | some c => if bad then (s.burnCopy c st true).contained else s.burnCopy c st false
  | none => s

/-- R341: both copies of the state group of a pending target are burned; a failure of the repeated burn is
device-fatal. -/
def State.burnPending (s : State) (tgt : Nat) (bad : Bool) : State :=
  let s := (s.burnCopy 0 tgt bad).burnCopy 1 tgt bad
  let s := if bad ∧ s.decodedState < tgt then s.fatal pLCS 8 else s
  s.updPwr fun p => { p with lcs := s.decodedState }

/-- R341: a pending transition other than the case of step 3: the wipe, then the burns. -/
def State.finishPending (s : State) (tgt : Nat) (env : FlashEnv) (bad : Bool) : State :=
  let s := s.wipeFor tgt env
  let s := s.setFld pLCS LCS_TSTAT_WIPEPCT (if 3 ≤ tgt then 100 else 0)
  s.burnPending tgt bad

/-! ## Steps 9 and 10: images (R250, R403) -/

/-- R247, R403: the status of a load of an entry's image at bring-up, and its plaintext; `skip` when the
signature checks of step 9 are not made. -/
def State.bootImage (s : State) (env : FlashEnv) (e : DirEnt) (skip : Bool) : Nat × List Nat :=
  let bs := s.imageBytes e.slot e.length
  let (badHead, bad) := s.badSectors env e.slot e.length
  let st :=
    if skip then
      if badHead then stBADARG
      else if s.headStatus bs ≠ stOK then s.headStatus bs
      else if bad then stSIGFAIL
      else if imgEnc bs && !s.aesUsable (imgAesKey bs) then stBADARG else stOK
    else s.loadStatus bs badHead bad
  if st ≠ stOK then (st, [])
  else match s.opened bs with
    | some plain => (stOK, plain)
    | none => (stSIGFAIL, [])

/-- R250: the image of a slot goes into the active planes, but for the regions of its FREEMASK, and its
streams are scheduled. -/
def State.bootLoad (s : State) (e : DirEnt) (bs : List Nat) : State :=
  let rs := (List.range 64).filter fun r => !(hdr bs 0x100 8).testBit r
  let s := rs.foldl (fun s r => (s.setActive r (planeOf bs e.slot r)).setRegion r ⟨2, 1⟩) s
  let s := rs.foldl (fun s r => s.imageInForce r false) s
  let xs := match placeStreams [] ((allPorts s.desc).filterMap fun x => wantStream x.1 x.2) with
    | .inl xs => xs
    | .inr _ => []
  let s := s.updFab fun f => { f with streams := xs }
  ((s.setFld pCFG CFG_BOOT_SLOT e.slot).setFld pCFG CFG_BOOTSEQ_SEQ e.seq).setFld pCFG CFG_BOOTVER_IMGVER (imgVer bs)

/-- R250: the candidates, first and second. -/
def State.tryBoot (s : State) (env : FlashEnv) (skip : Bool) : List DirEnt → State
  | [] => s.setFld pCFG CFG_BOOT_NOIMG 1
  | a :: as =>
    let (st, bs) := s.bootImage env a skip
    if st = stOK then s.bootLoad a bs
    else
      let s := ((s.err pCFG CFG_E_BOOTFB).contained).log pCFG 0x081 2 (a.slot + 256 * st)
      match as with
      | [] => s.setFld pCFG CFG_BOOT_NOIMG 1
      | b :: _ =>
        let (st, bs) := s.bootImage env b false
        if st = stOK then (s.bootLoad b bs).setFld pCFG CFG_BOOT_FALLBACK 1
        else (s.contained).setFld pCFG CFG_BOOT_NOIMG 1

/-- R250: the newest microcode image of a boot plane. -/
def State.microcodeEntry (s : State) (plane : Nat) : Option DirEnt :=
  let es := ([4, 5, 6, 7].filterMap s.slotImage).filter fun e =>
    decide (e.typ = 3 ∧ hdr (s.imageBytes e.slot e.length) 8 4 / 65536 % 2 = plane)
  es.foldl (fun best e => match best with
    | none => some e
    | some b => if b.seq < e.seq then some e else some b) none

/-- R250: a microcode plane is loaded, or left all zero. -/
def State.bootMicrocode (s : State) (env : FlashEnv) (skip : Bool) (plane : Nat) : State :=
  match s.microcodeEntry plane with
  | none => s
  | some e =>
    let (st, bs) := s.bootImage env e skip
    if st = stOK then s.loadMicrocode plane (some bs) else s

/-- R250, R403: steps 8 to 10. -/
def State.bootImages (s : State) (env : FlashEnv) : State :=
  let cs := s.bootCandidates.take 2
  let seq := (cs.map DirEnt.seq).headD 0
  let skip := decide (s.pwr.kind = 3 ∧ seq = s.fls.bootSeq)
  let s := s.tryBoot env skip cs
  let s := if s.pwr.kind = 3 ∧ s.pwr.kept ≠ 0 then s
    else (s.bootMicrocode env skip 0).bootMicrocode env skip 1
  s.updFls fun f => { f with bootSeq := seq }

/-! ## Step 11 of a GAUZE wake (R326, R327) -/

/-- R327: a canary word of a bank differs. -/
def State.canaryLost (s : State) (k : Nat) : Bool :=
  let cnt := s.fld pPWR PWR_WAKECNT_COUNT + 2 ^ 32 - 1
  (List.range 16).any fun n =>
    decide (SMap.get 0 s.pwr.canary (k * 16 + n) ≠ canaryWord cnt k (n / 4) (n % 4))

/-- The ECC groups of a bank that hold an error of a kind, as slot × 16 + group. -/
def State.bankErrors (s : State) (k kind : Nat) : List Nat :=
  (s.ctx.ecc.filter fun e => decide (e.1 / 16 / 1600 = k ∧ e.2 = kind)).map Prod.fst

/-- R327: a bank is lost. -/
def State.loseBank (s : State) (k : Nat) : State :=
  let inBank (h : Nat) : Bool := decide (bankOf (s.phys h) = k)
  let lo := k * 1600
  let c := s.ctx
  let s := { s with
    ctx := { c with
      store := SMap.clearRange c.store (lo * 64) ((lo + 1600) * 64)
      flip := SMap.clearRange c.flip (lo * 64) ((lo + 1600) * 64)
      ecc := SMap.clearRange c.ecc (lo * 16) ((lo + 1600) * 16)
      due := SMap.clearRange c.due lo (lo + 1600)
      load := c.load.filter fun e => !inBank e.1
      quar := c.quar.filter fun e => !inBank e.1 } }
  let s := s.recount
  let s := s.setFld pPWR PWR_BANKLOST_BANKS (s.fld pPWR PWR_BANKLOST_BANKS ||| 2 ^ k)
  ((s.err pPWR PWR_E_BANKLOST).contained).log pCTX 0x033 3 k

/-- R327: an uncorrectable group of a bank that passes. -/
def State.wakeUe (s : State) (k : Nat) : State :=
  match s.owner (k / 16) with
  | some h => s.ueFound h (k % 16) 3 s.nextFn
  | none => s.ueSpare (k / 16) (k % 16)

/-- R327: the check of a retained bank. -/
def State.checkBank (s : State) (k : Nat) : State :=
  let s := (s.bankErrors k 1).foldl (fun s e => s.fixCe (e / 16) (e % 16)) s
  let ue := s.bankErrors k 2
  if s.canaryLost k || decide (4 < ue.length) then s.loseBank k else ue.foldl State.wakeUe s

/-- R326: an FCALL target whose port is not an FCALL target of a LOADED region is disabled. -/
def State.checkTarget (s : State) (n : Nat) : State :=
  let port := SMap.get 0 s.jer.portAct n
  if s.bit (pJE 0) (JE_FCTGT_ENACT n) = true ∧
      ¬ (port < 0x200 ∧ kindAt s.desc port = 3 ∧ (s.region (port / 8)).state = 2) then
    (((s.setFld (pJE 0) (JE_FCTGT_ENACT n) 0).setFld (pJE 0) (JE_FCTGT_EN n) 0)).log (pJE 0) 0x084 2 n
  else s

/-- R403: what a GAUZE wake checks. -/
def State.wakeChecks (s : State) : State :=
  if s.pwr.kept = 0 then s
  else
    let s := ((List.range 32).filter s.retains).foldl State.checkBank s
    (List.range 16).foldl State.checkTarget s

/-! ## READY (R402) -/

/-- R281, R284, R291: what step 7 finds in the flag cells, each of which makes its block ERASE_PENDING, and in the log-save
area. -/
def State.flagScan (s : State) : State :=
  let s := s.updFls fun f =>
    { f with returned := [], flag := f.cells.foldl (fun m e => SMap.put false m e.1 e.2) f.flag }
  let s := if s.pendCount ≠ 0 then s.err pFLS FLS_E_PENDING else s
  let s := if s.logErased < 160 then s.err pFLS FLS_E_LOGLOW else s
  s.poolCheck

/-- R292: what one check of step 5 selects from its counts of REFCLK and XTAL edges: 2 REFCLK, 1 the crystal. -/
def refOf (c : Nat × Nat) : Option Nat :=
  if 2900 ≤ c.1 ∧ c.1 ≤ 3200 then some 2 else if 700 ≤ c.2 ∧ c.2 ≤ 830 then some 1 else none

/-- R292: the checks of step 5, one every 1 ms, made when no reference is selected: what the first that passes
selects. -/
def State.refSel (s : State) (counts : List (Nat × Nat)) : Option Nat :=
  if s.fld (pCLK 0) CLK_STAT_REFSEL ≠ 0 then some (s.fld (pCLK 0) CLK_STAT_REFSEL) else counts.findSome? refOf

/-- R292: CLK0.STAT.REFSEL reports the reference selected. -/
def State.selectRef (s : State) (counts : List (Nat × Nat)) : State :=
  match s.refSel counts with
  | some v => s.setFld (pCLK 0) CLK_STAT_REFSEL v
  | none => s

/-- R391: the entry of an undervoltage reset. -/
def State.reportUvlo (s : State) : State :=
  match s.pwr.uvlo with
  | some r => ((s.err pERR ERR_E_UVLO).log pERR 0x002 3 r).updPwr fun p => { p with uvlo := none }
  | none => s

/-- R324: the entry of a wake, with the device time of the wake, logged as the log becomes writable again. -/
def State.reportWake (s : State) : State :=
  let arg := s.fld pPWR PWR_WAKESRC_VALUE + 2 ^ 16 * s.fld pPWR PWR_WAKESRC_INDEX + 2 ^ 24 * s.fld pPWR PWR_WAKESRC_SRC
  if s.pwr.woken then { (({ s with time := s.pwr.gzAt }).log pPWR 0x004 0 arg) with time := s.time } else s

/-- R402: READY rises. -/
def State.becomeReady (s : State) : State :=
  let s := s.reportWake.reportUvlo
  let kind := s.pwr.kind
  let woken := s.pwr.woken
  let s := s.updPwr fun p => { p with up := true, gz := 0, tripped := false, warm := false, woken := false }
  let s := (List.range 8).foldl State.vioCheck s
  let s := s.log pSYS 0x001 0 kind
  if woken then s.irq pPWR PWR_E_WAKEDONE else s

/-- R341: a pending transition is completed after step 7. -/
def State.stepSeven (s : State) (env : FlashEnv) (fuseBad : Bool) : State :=
  let s := s.flagScan
  match s.pendingState with
  | some tgt => if s.pwr.kind = 3 then s else s.finishPending tgt env fuseBad
  | none => s

/-- R341: no image is loaded until a pending target state is in force. -/
def State.noImages (s : State) : Bool := decide (s.pwr.kind ≠ 3) && s.pendingState.isSome

/-- R341, R399: the steps from 7 on, once MDLL0 and MDLL1 are locked. -/
def State.bringUp (s : State) (env : FlashEnv) (fuseBad : Bool) : State :=
  let s := s.stepSeven env fuseBad
  if s.pwr.lcs = 4 then s
  else
    let s := if s.noImages then s.setFld pCFG CFG_BOOT_NOIMG 1 else s.bootImages env
    (if s.pwr.kind = 3 then s.wakeChecks else s).becomeReady

/-- R341: SCRAP ends bring-up at step 3, after the burns of a pending transition to it whose wipe marker is
reached. -/
def State.scrapEnd (s : State) (fuseBad : Bool) : State :=
  match s.pendingState with
  | some 4 => s.blowTrim.burnPending 4 fuseBad
  | _ => s.burnLagging fuseBad

/-- R341: bring-up ends at step 3. -/
def State.endsAtStep3 (s : State) : Bool :=
  decide (s.decodedState = 4) || (decide (s.pendingState = some 4) && s.wipeMarked)

/-- R402: READY: bring-up runs to its end. It does not while READY is high already, in GAUZE or OFF, under
PFW_B (R401), before MDLL0 and MDLL1 lock (R399), or when no reference passes step 5 (R292); after a thermal trip it also waits for every region to
cool (R390). -/
def execReady (t : Time) (env : FlashEnv) (ups : List Upset) (x : ReadyIn) (s : State) :
    Host.Outcome State Fault Refusal :=
  let s := s.at_ t
  .next (if s.pwr.up || decide (s.pwr.gz ≠ 0 ∧ s.pwr.gz ≠ 3) || s.pwr.pfw then s
  else if s.pwr.kind ≠ 3 ∧ s.endsAtStep3 = true then
    if s.pwr.lcs = 4 ∧ s.copyState 0 = s.copyState 1 then s else s.decodeFuses.scrapEnd x.fuseBad
  else if !s.mdllOn 0 || !s.mdllOn 1 || (s.refSel x.refs).isNone then s
  else if s.pwr.kind ≠ 3 ∧ s.pwr.tripped = true ∧ s.pwr.warm = true then s
  else
    let s := (s.selectRef x.refs).upsets ups
    let s := if s.pwr.kind = 3 then s
      else
        let s := s.decodeFuses
        if s.pendingState.isSome then s else s.burnLagging x.fuseBad
    s.bringUp env x.fuseBad)

/-! ## Power failure (R383 to R385, R329, R401) -/

/-- R384: SAVESEQ of the next save. -/
def State.nextSaveSeq (s : State) : Nat :=
  match s.validSaves with
  | [] => 1
  | x :: _ => leNum ((x.2.drop 4).take 4) + 1

/-- R384, R385: the newest stored entries of the ring, at most 64, oldest first. -/
def State.newestEntries (s : State) : List (BitVec 128) :=
  let w := s.fld pLOG LOG_STAT_WRPTR
  let back := (List.range 64).map fun i => SMap.get 0 s.hst.ring ((w + 4095 - i) % 4096)
  (back.takeWhile fun e => decide (e ≠ 0)).reverse

/-- R384: the page that a save writes. -/
def State.saveBytes (s : State) (seq : Nat) : List Nat :=
  let es := s.newestEntries
  let regs := [(pFRM, 0x48), (pCTX, 0x4C), (pCTX, 0x50), (pPWR, 0x48), (pLCS, 0x40), (pTWN, 0x48), (pERR, 0x40),
    (pSVC, 0x68)]
  let head := leBytes 4 0x5A3C96E1 ++ leBytes 4 seq ++ leBytes 8 s.time ++ leBytes 8 s.fn ++
    (regs.flatMap fun r => leBytes 4 (s.regValue r.1 r.2)) ++ leBytes 2 es.length ++ List.replicate 198 0
  let body := head ++ (es.flatMap fun e => leBytes 16 e.toNat) ++ List.replicate (1788 - 16 * es.length) 0
  body ++ leBytes 4 (crc32 body)

/-- R291, R384: the last-gasp save: the sequencer aborts, and programs one page. -/
def State.lastGasp (s : State) (seq : Nat) : State :=
  let page := s.saveBytes seq
  let s := s.abortSeq
  if s.logErased = 0 then s
  else
    let s := s.updFls fun f => { f with saves := page :: f.saves }
    if s.logErased < 160 then s.err pFLS FLS_E_LOGLOW else s

/-- R329, R383, R401: whether this assertion makes a save, where the manual says so. -/
def State.pfwSaves (s : State) : Option Bool :=
  if s.pwr.gz = 1 then none
  else if s.pwr.up then some true
  else if s.mdllOn 0 && s.mdllOn 1 then none
  else some false

/-- R383: PFW_B asserts, low for 1.0 µs ± 0.2 µs. -/
def State.pfwAsserts (s : State) : State :=
  if s.pwr.gz = 4 ∨ s.pwr.pfw = true then s
  else if s.pwr.gz = 2 then s.updPwr fun p => { p with pfw := true }
  else
    let s := s.updPwr fun p =>
      { p with
        pfw := true, pfwBlock := true
        muslin := if p.gz = 1 ∧ p.muslin = 0 then 2 else p.muslin }
    let (free, s) := s.takeFree 1
    let (arg, s) := s.takeFree 32
    let saves := s.pfwSaves.getD (decide (free = 1))
    let seq := s.nextSaveSeq
    let s := s.log pLOG 0x006 0 (if saves then seq else arg)
    if saves then s.lastGasp seq else s

/-- R383: PFW_ASSERT: 1.2 µs are enough and less than 0.8 µs are not; the manual leaves open what lies between. -/
def execPfwAssert (x : PinFor) (s : State) : Host.Outcome State Fault Refusal :=
  let s := s.at_ x.t
  .next (if 1200 ≤ x.ns then s.pfwAsserts
  else if x.ns < 800 then s
  else
    let (b, s) := s.takeFree 1
    if b = 1 then s.pfwAsserts else s)

/-- R383: PFW_RELEASE: once PFW_B has been high for 1.0 ms with every rail within its limits, host writes are accepted
again. -/
def execPfwRelease (x : PfwHigh) (s : State) : Host.Outcome State Fault Refusal :=
  let s := s.at_ x.t
  .next (if 1000000 ≤ x.ns ∧ x.rails = true then s.updPwr fun p => { p with pfw := false, pfwBlock := false } else s)

end Sys2Proof.Machine
end

