-- ==== Sys2Proof/Machine/EngineIsa.lean ====
section
/-! DEFINITION. The operations of the engines (spec/05_engine_isa.md): each acts when its engine's
visit has come to that instruction, and otherwise changes nothing. -/

namespace Sys2Proof.Machine

/-- An operation with a destination Vd, two sources and the flags. -/
def State.runAlu (s : State) (e : Engine) (i : EInstr) (d : VReg) (a : Src) (b : SrcI)
    (f : Word → Word → Flags → Word × Flags) : State :=
  s.run e.val i fun x => .go (x.putV d (f (x.src s.jer.snap a) (x.srcI s.jer.snap b) x.fl))

/-- NOP. -/
def execNop (e : Engine) (s : State) : Host.Outcome State Fault Refusal :=
  .next (s.run e.val .nop .go)

/-- R134: END. -/
def execEndv (e : Engine) (s : State) : Host.Outcome State Fault Refusal :=
  .next (match s.fetch e.val with
    | some (x, .endv) => s.endVisit e.val x
    | _ => s)

/-- R125: LDW. -/
def execLdw (e : Engine) (d : VReg) (i : Idx) (base : Fin 64) (s : State) :
    Host.Outcome State Fault Refusal :=
  .next (s.run e.val (.ldw d i base) fun x =>
    let r := x.word (x.addr i base)
    .go (x.putV d (r, flagsZN x.fl r)))

/-- R125: STW. -/
def execStw (e : Engine) (src : Src) (i : Idx) (base : Fin 64) (s : State) :
    Host.Outcome State Fault Refusal :=
  .next (s.run e.val (.stw src i base) fun x =>
    if storable (x.addr i base) then .go (x.setWord (x.addr i base) (x.src s.jer.snap src))
    else .fault 2)

/-- R124: LDI. -/
def execLdi (e : Engine) (d : AReg) (u : Bool) (hi lo : Word) (s : State) :
    Host.Outcome State Fault Refusal :=
  .next (s.run e.val (.ldi d u hi lo) fun x => .go (x.setA d (aluLdi u hi lo)))

/-- R121: MOV. -/
def execMov (e : Engine) (d : VReg) (b : SrcI) (s : State) : Host.Outcome State Fault Refusal :=
  .next (s.run e.val (.mov d b) fun x =>
    let r := x.srcI s.jer.snap b
    .go (x.putV d (r, flagsZN x.fl r)))

/-- R121: ADD. -/
def execAdd (e : Engine) (x : Alu) (s : State) : Host.Outcome State Fault Refusal :=
  .next (s.runAlu e (.add x) x.d x.a x.b aluAdd)

/-- R121: SUB. -/
def execSub (e : Engine) (x : Alu) (s : State) : Host.Outcome State Fault Refusal :=
  .next (s.runAlu e (.sub x) x.d x.a x.b aluSub)

/-- R121: ADDS. -/
def execAdds (e : Engine) (x : AluU) (s : State) : Host.Outcome State Fault Refusal :=
  .next (s.runAlu e (.adds x) x.d x.a x.b (aluAdds x.u))

/-- R121: SUBS. -/
def execSubs (e : Engine) (x : AluU) (s : State) : Host.Outcome State Fault Refusal :=
  .next (s.runAlu e (.subs x) x.d x.a x.b (aluSubs x.u))

/-- R121: AND. -/
def execAnd (e : Engine) (x : Alu) (s : State) : Host.Outcome State Fault Refusal :=
  .next (s.runAlu e (.and x) x.d x.a x.b fun a b f => aluLogic (a &&& b) f)

/-- R121: OR. -/
def execOr (e : Engine) (x : Alu) (s : State) : Host.Outcome State Fault Refusal :=
  .next (s.runAlu e (.or x) x.d x.a x.b fun a b f => aluLogic (a ||| b) f)

/-- R121: XOR. -/
def execXor (e : Engine) (x : Alu) (s : State) : Host.Outcome State Fault Refusal :=
  .next (s.runAlu e (.xor x) x.d x.a x.b fun a b f => aluLogic (a ^^^ b) f)

/-- R122: SHL. -/
def execShl (e : Engine) (x : Alu) (s : State) : Host.Outcome State Fault Refusal :=
  .next (s.runAlu e (.shl x) x.d x.a x.b aluShl)

/-- R122: SHR. -/
def execShr (e : Engine) (x : Alu) (s : State) : Host.Outcome State Fault Refusal :=
  .next (s.runAlu e (.shr x) x.d x.a x.b aluShr)

/-- R122: ASR. -/
def execAsr (e : Engine) (x : Alu) (s : State) : Host.Outcome State Fault Refusal :=
  .next (s.runAlu e (.asr x) x.d x.a x.b aluAsr)

/-- R123: CMP. -/
def execCmp (e : Engine) (a : Src) (b : SrcI) (s : State) : Host.Outcome State Fault Refusal :=
  .next (s.run e.val (.cmp a b) fun x =>
    .go { x with fl := (aluSub (x.src s.jer.snap a) (x.srcI s.jer.snap b) x.fl).2 })

/-- R123: MIN. -/
def execMin (e : Engine) (x : AluU) (s : State) : Host.Outcome State Fault Refusal :=
  .next (s.runAlu e (.min x) x.d x.a x.b (aluMin x.u))

/-- R123: MAX. -/
def execMax (e : Engine) (x : AluU) (s : State) : Host.Outcome State Fault Refusal :=
  .next (s.runAlu e (.max x) x.d x.a x.b (aluMax x.u))

/-- R123: SEL. -/
def execSel (e : Engine) (c : Cond) (x : Alu) (s : State) : Host.Outcome State Fault Refusal :=
  .next (s.runAlu e (.sel c x) x.d x.a x.b fun a b f => (if condHolds c f then a else b, f))

/-- R124: MUL. -/
def execMul (e : Engine) (x : MulOp) (s : State) : Host.Outcome State Fault Refusal :=
  .next (s.run e.val (.mul x) fun v =>
    .go (v.putA x.d (aluMul x.mode (v.src s.jer.snap x.a) (v.srcI s.jer.snap x.b) v.fl)))

/-- R124: MAC. -/
def execMac (e : Engine) (x : MulOp) (s : State) : Host.Outcome State Fault Refusal :=
  .next (s.run e.val (.mac x) fun v =>
    .go (v.putA x.d (aluMac x.mode (v.areg x.d) (v.src s.jer.snap x.a) (v.srcI s.jer.snap x.b) v.fl)))

/-- R124: ACLR. -/
def execAclr (e : Engine) (d : AReg) (s : State) : Host.Outcome State Fault Refusal :=
  .next (s.run e.val (.aclr d) fun x => .go (x.setA d 0))

/-- R124: ASHR. -/
def execAshr (e : Engine) (d : AReg) (r : Bool) (n : SrcI) (s : State) :
    Host.Outcome State Fault Refusal :=
  .next (s.run e.val (.ashr d r n) fun x =>
    .go (x.putA d (aluAshr r (x.areg d) (x.srcI s.jer.snap n) x.fl)))

/-- R124: AST. -/
def execAst (e : Engine) (d : VReg) (u : Bool) (src : AReg) (s : State) :
    Host.Outcome State Fault Refusal :=
  .next (s.run e.val (.ast d u src) fun x => .go (x.putV d (aluAst u (x.areg src) x.fl)))

/-- R126: BR. -/
def execBr (e : Engine) (c : Cond) (target : BitVec 12) (s : State) :
    Host.Outcome State Fault Refusal :=
  .next (s.run e.val (.br c target) fun x =>
    .go (if condHolds c x.fl then { x with pc := target.toNat } else x))

/-- R126: SKIP. -/
def execSkip (e : Engine) (c : Cond) (count : Word) (s : State) : Host.Outcome State Fault Refusal :=
  .next (s.run e.val (.skip c count) fun x =>
    .go (if condHolds c x.fl then { x with pc := x.pc + count.toNat } else x))

/-- R127: LUT. -/
def execLut (e : Engine) (x : Alu) (s : State) : Host.Outcome State Fault Refusal :=
  .next (s.runAlu e (.lut x) x.d x.a x.b fun hi lo f =>
    let r := SMap.get 0 s.jer.pat (hi.toNat * 1024 + lo.toNat)
    (r, flagsZN f r))

/-- R129: ANG. -/
def execAng (e : Engine) (d : AReg) (unit : Unit8) (fraction : SrcI) (s : State) :
    Host.Outcome State Fault Refusal :=
  .next (s.run e.val (.ang d unit fraction) fun x =>
    let tpd := (SMap.get 0 s.jer.snap (unit.val * 8 + 4)).toNat * 1024 +
      (SMap.get 0 s.jer.snap (unit.val * 8 + 3)).toNat
    .go (x.putA d (aluAng tpd (x.srcI s.jer.snap fraction) x.fl)))

/-- R131, R132: an event joins the visit's buffer. -/
def Visit.addEvent (x : Visit) (snap : SMap Word) (o : Offs) (val : Word) (mute : Bool) : Visit :=
  let (off, fl) := aluOffset (x.base snap o.base) o.add x.fl
  { x with
    evs := x.evs ++ [⟨bitsN (SMap.get 0 x.fetched 2).toNat 0 9, x.handle, val, off, mute⟩]
    emits := x.emits + 1
    fl := fl }

/-- R131: EMIT. -/
def execEmit (e : Engine) (value : Src) (o : Offs) (s : State) : Host.Outcome State Fault Refusal :=
  .next (s.run e.val (.emit value o) fun x =>
    if 2 ≤ x.emits then .fault 6
    else .go (x.addEvent s.jer.snap o (x.src s.jer.snap value) false))

/-- R133: HOLD. -/
def execHold (e : Engine) (s : State) : Host.Outcome State Fault Refusal :=
  .next (s.run e.val .hold fun x => .go { x with held := true })

/-- R132: what SAFE reads: the safe value of the visit's slot; on a parity error the value is one that
the manual does not give, and the event sends no command. -/
def State.safeValue (s : State) (e : Nat) (x : Visit) : Word × Bool × State :=
  let k := slotOf (SMap.get 0 x.fetched 1) (SMap.get 0 x.fetched 2)
  match (if SMap.get false s.ctx.safeBad k then s.atCycle e (4 + x.cyc) else s).safeRead k with
  | (some v, s) => (v.val, false, s)
  | (none, s) =>
    let (v, s) := s.takeFree 10
    (BitVec.ofNat 10 v, true, s)

/-- R132: SAFE. -/
def execSafe (e : Engine) (o : Offs) (ups : List Upset) (s : State) :
    Host.Outcome State Fault Refusal :=
  let s := s.upsets ups
  .next (match s.fetch e.val with
    | some (x, .safe o') =>
      if o' = o then
        if 2 ≤ x.emits then s.run e.val (.safe o) fun _ => .fault 6
        else
          let (v, mute, s) := s.safeValue e.val x
          s.run e.val (.safe o) fun x => .go (x.addEvent s.jer.snap o v mute)
      else s
    | _ => s)

/-- R130: the request words of an FCALL. -/
def Visit.reqWords (x : Visit) (f : FcallOp) : List Word :=
  (List.range f.count.val).map fun i => SMap.get 0 x.v (f.first.val + i)

/-- R100, R130, R228: the first cycle of an FCALL: its request goes out to a target that is enabled, and any earlier request
of the engine is outstanding no more (R230: it has at most one). When the
W-th program cycle falls before the FCALL's last cycle, PATHOVR ends the visit there. -/
def State.fcallIssue (s : State) (e : Nat) (x : Visit) (f : FcallOp) : State :=
  let n := f.target.val
  let port := SMap.get 0 s.jer.portAct n
  let first := s.frm.start + 40 + 2 * ((s.engine e).cyc + 4 + x.cyc)
  let q : FcReq := ⟨e, x.handle, n, port, f.code, x.reqWords f, first + 2 * (1 + (laneHops port).getD 0), false⟩
  let s := s.updJer fun j =>
    { j with fcOut := (j.fcOut.filter fun r => decide (r.engine ≠ e)) ++
        if s.bit (pJE 0) (JE_FCTGT_ENACT n) then [q] else [] }
  if x.w < x.cyc + s.fld (pJE 0) (JE_FCTGT_LATACT n) then s.engineFault e x 4 x.pc x.w
  else s.putVisit e { x with fc := some none }

/-- R100, R130: the last cycle of an FCALL whose response has arrived. -/
def State.fcallFinish (s : State) (e : Nat) (x : Visit) (f : FcallOp) (w : Word × Word) : State :=
  let x := { x with v := SMap.put 0 x.v f.d.val w.1 }
  let x := if f.r2 then { x with v := SMap.put 0 x.v (f.d.val + 1) w.2 } else x
  s.retire e { x with pc := x.pc + 1, last := x.pc, fc := none }
    (s.fld (pJE 0) (JE_FCTGT_LATACT f.target.val))

/-- R130: FCALL: its first cycle and, given again, its last. -/
def execFcall (e : Engine) (x : FcallOp) (s : State) : Host.Outcome State Fault Refusal :=
  .next (match s.fetch e.val with
    | some (v, .fcall f) =>
      if f = x then
        match v.fc with
        | none => s.fcallIssue e.val v f
        | some (some w) => s.fcallFinish e.val v f w
        | some none =>
          s.engineFault e.val v 3 v.pc (v.cyc + s.fld (pJE 0) (JE_FCTGT_LATACT f.target.val))
      else s
    | _ => s)

end Sys2Proof.Machine
end

