-- ==== Sys2Proof/Machine/EnvLog.lean ====
section
/-! DEFINITION. Region temperatures, supply margins and the log's own commands (spec/16_errors.md, R379, R381,
R382, R389 to R392). -/

namespace Sys2Proof.Machine

/-! ## Temperatures (R389, R390) -/

/-- R389: RGN.STAT.TEMP of 115 °C and, R390, of 105 °C: units of 0.25 K from −40 °C. -/
def tripTemp : Nat := 620
def coolTemp : Nat := 580

/-- The regions, as a mask, whose reading meets a condition. -/
def tempMask (temps : List (Fin 1024)) (f : Nat → Bool) : Nat :=
  ((List.range 64).map fun r => (f (temps.getD r 0).val).toNat * 2 ^ r).sum

/-- R389: the region that reads highest, the lowest of equal ones, and its reading. -/
def hottest (temps : List (Fin 1024)) : Nat × Nat :=
  (List.range 64).foldl (fun best r => if best.2 < (temps.getD r 0).val then (r, (temps.getD r 0).val) else best)
    (0, (temps.getD 0 0).val)

/-- R389: the lowest reading of all regions, and the lowest region that reads it. -/
def coldest (temps : List (Fin 1024)) : Nat × Nat :=
  (List.range 64).foldl (fun best r => if (temps.getD r 0).val < best.2 then (r, (temps.getD r 0).val) else best)
    (0, (temps.getD 0 0).val)

/-- R389: a thermal trip of a region at a temperature. -/
def State.thermalTrip (s : State) (r temp : Nat) : State :=
  let s := s.setFld pERR ERR_THERM_TRIP 1
  let s := (s.err pERR ERR_E_THERM).log pERR 0x0D0 4 (r * 2 ^ 16 + temp)
  (s.fatal pERR 7).updPwr fun p => { p with tripped := true }

/-- R392: the temperature difference, with its warning. -/
def State.marginTemp (s : State) (temps : List (Fin 1024)) : State :=
  let (h, hi) := hottest temps
  let (c, lo) := coldest temps
  let d := hi - lo
  let s := ((s.setFld pERR ERR_MARGIN_DT (Nat.min 255 (d / 4))).setFld pERR ERR_MARGIN_HOT h).setFld pERR ERR_MARGIN_COLD c
  if 64 ≤ d ∧ s.pwr.armT = true then
    ((s.err pERR ERR_E_MARGIN).log pERR 0x0D1 2 (d % 65536)).updPwr fun p => { p with armT := false }
  else if d < 56 then s.updPwr fun p => { p with armT := true }
  else s

/-- R389, R390, R392: THERMAL_READ: every region's monitor is read. Outside bring-up the readings also fill
RGN.STAT.TEMP and ERR. -/
def execThermalRead (t : Time) (temps : List (Fin 1024)) (s : State) : Host.Outcome State Fault Refusal :=
  let s := s.at_ t
  let hot := tempMask temps fun v => decide (tripTemp ≤ v)
  let warm := (List.range 64).any fun r => decide (coolTemp ≤ (temps.getD r 0).val)
  .next (if s.pwr.gz = 2 ∨ s.pwr.gz = 4 then s
  else
    let twice := inMask (hot &&& s.pwr.hot)
    let s := s.updPwr fun p => { p with hot := hot, warm := warm }
    if !s.pwr.up then s
    else
      let s := (List.range 64).foldl (fun s r => s.setFld (pRGN r) RGN_STAT_TEMP (temps.getD r 0).val) s
      let (r, v) := hottest temps
      let s := (s.setFld pERR ERR_THERM_TMAX v).setFld pERR ERR_THERM_REGION r
      let s := s.marginTemp temps
      match twice.head? with
      | some r => if s.pwr.tripped then s else s.thermalTrip r (temps.getD r 0).val
      | none => s)

/-! ## Supply margins (R392) -/

/-- R392: MARGIN_CHECK: the four quadrant supply sense points read these numbers of 0.1 mV. -/
def execMarginCheck (t : Time) (mv : List Nat) (s : State) : Host.Outcome State Fault Refusal :=
  let s := s.at_ t
  let hi := mv.foldl Nat.max 0
  let d := hi - mv.foldl Nat.min hi
  .next (if !s.pwr.up then s
  else
    let s := s.setFld pERR ERR_MARGIN_DV (Nat.min 255 (d / 10))
    if 200 ≤ d ∧ s.pwr.armV = true then
      ((s.err pERR ERR_E_MARGIN).log pERR 0x0D1 2 (2 ^ 31 + d / 10 % 65536)).updPwr fun p => { p with armV := false }
    else if d < 175 then s.updPwr fun p => { p with armV := true }
    else s)

/-! ## The log (R379 to R382) -/

/-- A write of offset `o` of the LOG page. -/
def State.doLog (s : State) (o v : Nat) : State :=
  match o with
  | 0x40 =>
    let s := s.store pLOG LOG_CTRL_IRQSEV v
    if LOG_CTRL_UNFREEZE.of v = 1 then s.setFld pLOG LOG_STAT_FROZEN 0 else s
  | 0x50 => (s.store pLOG LOG_IDX_ENTRY v).updHst fun h => { h with entCap := none }
  | 0x64 => s.log pLOG 0x007 0 (v % 2 ^ 32)
  | _ => s

/-- R379: USER: a write of LOG.USER. -/
def execUser (t : Time) (v : Dword) (s : State) : Host.Outcome State Fault Refusal :=
  .next (s.hostWrite t (pLOG * 4096 + 0x64) v.toNat fun s => s.doLog 0x64 v.toNat)

/-- R381: UNFREEZE: the freeze of the ring ends. -/
def execUnfreeze (t : Time) (s : State) : Host.Outcome State Fault Refusal :=
  .next (s.hostWrite t (pLOG * 4096 + 0x40) 1 fun s => s.setFld pLOG LOG_STAT_FROZEN 0)

/-- R382: a read of ENT0 captures the entry at IDX. -/
def State.readEnt0 (s : State) : Nat × State :=
  let e := s.ringAt
  (e.toNat % 2 ^ 32, s.updHst fun h => { h with entCap := some e })

/-- R382: ENT0_READ. -/
def execEnt0Read (t : Time) (s : State) : Host.Outcome State Fault Refusal :=
  .next (s.hostRead t (pLOG * 4096 + 0x54) fun s => s.readEnt0.2.answer [s.readEnt0.1])

end Sys2Proof.Machine
end

