-- ==== Sys2Proof/Machine/Mirror.lean ====
section
/-! DEFINITION. Mirror before acknowledge (R55, R151, R264, R350): writes of the PLC page, and what the
standby's acknowledgement of a parcel lets the primary do. -/

namespace Sys2Proof.Machine

/-- A write of offset `o` of the PLC page, once it takes effect. -/
def State.doPlc (s : State) (o v : Nat) : State :=
  match o with
  | 0x40 =>
    let n := Nat.min 64 (Nat.max 1 (PLC_CTRL_MIGMAX.of v))
    ((s.setFld pPLC PLC_CTRL_MIGMAX n).store pPLC PLC_CTRL_AUTOPHASE v).store pPLC PLC_CTRL_BALEN v
  | 0x48 => s.doExcl v
  | 0x58 => s.setFld pPLC PLC_HIDX_HANDLE (Nat.min 49151 (PLC_HIDX_HANDLE.of v))
  | 0x60 => s.doPin v
  | 0x64 => s.store pPLC PLC_BIDX_BANK v
  | 0x74 => s.doBtcmd v
  | 0x7C => s.doRreq v
  | 0x84 => s.doRfree v
  | 0x88 => s.store pPLC PLC_RIDX_REGION v
  | _ => s

/-- R151: the PLC registers whose writes wait for the standby. -/
def mirrored (o : Nat) : Bool := decide (o = 0x48 ∨ o = 0x60 ∨ o = 0x7C ∨ o = 0x84)

/-- A write of the PLC page. -/
def State.writePlc (s : State) (o v : Nat) : State :=
  if mirrored o then s.plcWrite o v fun s => s.doPlc o v else s.doPlc o v

/-- R55: a held write of the PLC page takes effect, for the handle that HIDX held when it was written. -/
def State.heldWrite (s : State) (x : Nat × Nat × Nat × Nat) : State :=
  let now := s.fld pPLC PLC_HIDX_HANDLE
  let s := (s.setFld pPLC PLC_HIDX_HANDLE x.2.2.2).doPlc x.2.1 x.2.2.1
  s.setFld pPLC PLC_HIDX_HANDLE now

/-- R55, R74: the waiting groups that `f` names are mirrored. -/
def State.mirrorGroups (s : State) (f : Nat → Bool) : State :=
  let s := s.updCtx fun c =>
    { c with waiting := c.waiting.map fun g => if f g.id then { g with mirrored := true } else g }
  s.noteAccepted.flushRefused

/-- R264: the armed set is mirrored. -/
def State.mirrorSet (s : State) : State :=
  let s := (s.updAs fun a => { a with mirrored := true }).asShow
  if s.windowOpen then s.asPrepare else s

/-- R55, R144: map changes that were acknowledged commit at once in STOP and in an open apply window. -/
def State.mirrorMaps (s : State) : State :=
  if s.frmState = 0 ∨ s.windowOpen = true then s.commitMigs else s

/-- R151: writes that both units hold take effect at the next frame boundary, or at once where no frames run. -/
def State.holdWrites (s : State) (xs : List (Nat × Nat × Nat × Nat)) : State :=
  if s.frmState = 1 then s.updTwn fun w => { w with due := w.due ++ xs } else xs.foldl State.heldWrite s

/-- R55: what the acknowledgement of one parcel lets the primary do. -/
def State.acked (s : State) (x : Nat × Fwd) : State :=
  match x.2 with
  | .group id => s.mirrorGroups (· = id)
  | .actSet => s.mirrorSet
  | .place _ _ => s.mirrorMaps
  | .reg _ _ =>
    let now := s.twn.held.filter fun h => h.1 = x.1
    let s := s.updTwn fun w => { w with held := w.held.filter fun h => h.1 ≠ x.1 }
    s.holdWrites now
  | _ => s

/-- R350: PAIRED falls, and everything that waits for the standby is acknowledged at once. -/
def State.unpair (s : State) : State :=
  let s := s.setFld pTWN TWN_STAT_PAIRED 0
  let held := s.twn.held
  let s := held.foldl State.heldWrite (s.updTwn fun w => { w with held := [], out := [] })
  ((s.mirrorGroups fun _ => true).mirrorSet).mirrorMaps

end Sys2Proof.Machine
end

