-- ==== Sys2Proof/Machine/Frame.lean ====
section
/-! DEFINITION. Frames: what a frame boundary does (spec/02_frame.md, R12 to R35, R42 to R47, R448), with the
parts that other chapters give it: the digest of a frame (R357), samples (R65), the due list (R91) and the
start of emission (R166, R185). -/

namespace Sys2Proof.Machine

/-! ## The load table and the digest -/

/-- R168: the quarantined contexts whose slots follow the safe table in frame `n`: handle and slot. -/
def State.safeSlotsOf (s : State) (n : Nat) : List (Nat × Nat) :=
  (s.ctx.quar.filter fun e => s.quarIn e.1 n && w0Valid (s.recWord e.1 0)).map fun e => (e.1, s.boundSlot e.1)

/-- R85, R449: link transmit learns which valid contexts are quarantined in the frame in force. -/
def State.noteSafeSlots (s : State) : State :=
  let slots := s.safeSlotsOf s.fn
  (s.qmapCheckAll s.validHandles).updCtx fun c => { c with safeSlots := slots }

/-- R357: the bytes of one engine's write-backs. -/
def wbBytes (w : Wb) : List Nat :=
  w.groups.flatMap fun g => leBytes 2 w.handle ++ leBytes 1 g.1 ++ leBytes 5 g.2.toNat

/-- R357: the bytes of one event. -/
def eventBytes (c : Cmd) : List Nat :=
  leBytes 5 (c.slot + c.stale.toNat * 2 ^ 9 + c.off * 2 ^ 10 + c.val.toNat * 2 ^ 30)

/-- R357: the bytes over which the digest of the frame that ends is taken. -/
def State.digestBytes (s : State) : List Nat :=
  leBytes 6 s.fn ++
  ((List.range 32).flatMap fun e =>
    let ws := (s.engine e).wbs
    leBytes 2 ws.length ++ leBytes 4 (crc32 (ws.flatMap wbBytes))) ++
  ((List.range 128).flatMap fun l =>
    let xs := (s.link l).merged
    leBytes 2 xs.length ++ xs.flatMap eventBytes) ++
  s.twn.applied.flatMap (leBytes 2)

/-! ## End of compute and apply deadline (R29 to R33) -/

/-- R29: ns from the frame's start to the end of its compute, once every engine has finished. -/
def State.computeNs (s : State) : Nat :=
  40 + 2 * (List.range 32).foldl (fun n e => Nat.max n (s.engine e).cyc) 0

/-- R31: the actions of an apply window that ends `left` cycles from now, over the first `n` waiting
groups. -/
def State.applyFirst (s : State) (n left : Nat) : State :=
  let rest := s.ctx.waiting.drop n
  let s := s.updCtx fun c => { c with waiting := c.waiting.take n }
  let (s, hs) := State.applyWindow s.ctx.waiting left s
  let s := s.updCtx fun c => { c with waiting := c.waiting ++ rest }
  (s.updPlc fun p => { p with wrote := hs }).commitMigs.asPrepare

/-- R30: cycles from end of compute to the apply deadline. -/
def State.windowCycles (s : State) : Nat := (s.period - 2000 - s.computeNs) / 2

/-- R168, R35: the event queues hand over to link transmit. -/
def State.deadlineNow (s : State) : State :=
  ((s.handover []).uncopy).updFrm fun f => { f with deadline := true }

/-- R29, R30: compute ends. A standby leaves the window's actions to the arrival of the next record
(R352). -/
def State.endCompute (s : State) : State :=
  let n := s.computeNs
  let s := s.at_ (s.frm.start + n)
  let open_ := !s.frm.deadline && decide (n < s.period - 2000)
  let s := if s.frm.empty then s
    else (s.setFld pFRM FRM_CMPEND_END ((n + 9) / 10)).raiseTo pFRM FRM_CMPMAX_MAX ((n + 9) / 10)
  let s := s.noteSafeSlots
  let s := s.mcSlack.updFrm fun f => { f with computed := true, window := open_ }
  if s.role = 2 then s.updTwn fun w => { w with elig := s.ctx.waiting.length }
  else if open_ then s.applyFirst s.ctx.waiting.length s.windowCycles
  else s.deadlineNow

/-! ## Carried contexts (R43, R44) -/

/-- R44: a context is carried. -/
def State.carry (s : State) (p : Nat) : State :=
  let s := s.devWord p 10 (setBits (s.slotWord p 10) 1 1 1)
  s.devWord p 14 (BitVec.ofNat 10 (Nat.min 1023 ((s.slotWord p 14).toNat + 1)))

/-- R43: the physical slots of the contexts that an engine had still to finish and that are not
quarantined for the frame. -/
def State.unfinished (s : State) (e : Nat) : List Nat :=
  let g := s.engine e
  let ps := (match g.visit with
    | some x => [x.phys]
    | none => []) ++ g.due
  ps.filter fun p => match s.owner p with
    | some h => !s.quarIn h s.fn
    | none => false

/-- R42: an engine has not visited every due context. -/
def Eng.busy (g : Eng) : Bool := g.visit.isSome || !g.due.isEmpty

/-- R42: the cycles that engine `e` has used end no later than `t`; at a standby the primary's record decides (R355). -/
def State.cyclesBy (s : State) (t e : Nat) : Bool :=
  decide (s.role = 2) || decide (s.frm.start + 40 + 2 * (s.engine e).cyc ≤ t)

/-- R42: engine `e` has not reached end of compute at `t`. -/
def State.slow (s : State) (t e : Nat) : Bool := (s.engine e).busy || !s.cyclesBy t e

/-- R93: the record that engine `e` has prefetched when it stops at `t`, and whose visit it has not begun. -/
def State.prefetched (s : State) (t e : Nat) : Option Nat :=
  let g := s.engine e
  if g.visit.isSome && decide (t < s.frm.start + 40 + 2 * g.cyc + 8) then none else g.due.head?

/-- R84, R93: the check of a prefetched record, which an overrun leaves unvisited. -/
def State.prefetchCheck (t : Nat) (s : State) (e : Nat) : State :=
  match s.prefetched t e with
  | none => s
  | some p =>
    match s.owner p with
    | none => s
    | some h => (s.fixAllCe p).ueRecord h p 1 s.fn

/-- R43, R261: the engines stop; the visits in progress are abandoned and their FCALL requests dropped. -/
def State.abandon (s : State) : State :=
  s.updJer fun j =>
    { j with
      eng := j.eng.foldl (fun m e => SMap.put Eng.idle m e.1 { e.2 with visit := none, due := [] }) []
      fcOut := j.fcOut.map fun r =>
        if (SMap.get Eng.idle j.eng r.engine).visit.isSome then { r with dropped := true } else r }

/-- R43 to R45, R110: the frame overruns at `t`. -/
def State.overrun (s : State) (t : Nat) : State :=
  let slow := (List.range 32).filter fun e => s.slow t e
  let s := slow.foldl (State.prefetchCheck t) s
  let ps := slow.flatMap s.unfinished
  let keys := ps.filterMap fun p => (s.owner p).map s.boundSlot
  let s := ps.foldl State.carry s.abandon
  let s := s.noteSafeSlots.mcSlack
  let s := s.handover keys
  let n := Nat.min ps.length 65535
  let e := slow.headD 0
  let s := (s.addSat pFRM FRM_OVRCNT_CONSEC 1).addSat pFRM FRM_OVRTOT_TOTAL 1
  let s := ((s.setFld pFRM FRM_OVRLAST_FN_FN s.fn).setFld pFRM FRM_OVRLAST_CAR_CARRIED n).setFld pFRM
    FRM_OVRLAST_CAR_ENGINE e
  let s := (s.setFld pFRM FRM_CMPEND_END 0xFFFFF).raiseTo pFRM FRM_CMPMAX_MAX 0xFFFFF
  (((s.err pFRM FRM_E_OVR).contained).log pFRM 0x020 3 (e * 65536 + n)).uncopy

/-! ## The end of a frame -/

/-- LOADLAST, LOADMAX and DUECNT of the frame that ends; R139: what it measured. A compute phase is empty by R21 only, so a frame of a tick with no
context due counts (DEDUCED, log entry 105). -/
def State.measureFrame (s : State) : State :=
  let s := (List.range 32).foldl (fun s e =>
    ((s.setFld (pJE e) JE_LOADLAST_CYCLES (s.engine e).lastEnd).raiseTo (pJE e) JE_LOADMAX_CYCLES
      (s.engine e).lastEnd).setFld (pJE e) JE_DUECNT_DUE (s.engine e).nDue) s
  let s := if s.frm.empty then s
    else
      let loads := (List.range 32).foldl (fun m e => SMap.put 0 m e (s.engine e).lastEnd) []
      let s := s.updPlc fun p => { p with hist := (⟨loads, p.cur⟩ :: p.hist).take 64 }
      s.setFld pPLC PLC_STAT_HISTCNT (Nat.min 64 (s.fld pPLC PLC_STAT_HISTCNT + 1))
  s.updPlc fun p => { p with cur := [] }

/-- R42: every engine has finished, no later than `t`. -/
def State.computeOver (s : State) (t : Nat) : Bool := s.enginesDone && (List.range 32).all (s.cyclesBy t)

/-- R42: the frame in force overruns when it ends at `t`. -/
def State.overruns (s : State) (t : Nat) : Bool := s.computing && !s.computeOver t

/-- R42 to R45, R139, R140: the frame in force ends at `t`; its digest is taken and moves are planned. -/
def State.finishFrame (s : State) (t : Nat) : State :=
  if !s.frm.inFrame then s
  else
    let late := s.overruns t
    let s := if s.computing && !late then s.endCompute else s
    let s := if late then s.overrun t
      else (if s.frm.deadline then s else s.deadlineNow).setFld pFRM FRM_OVRCNT_CONSEC 0
    let s := s.measureFrame
    let s := if s.frm.window then s.planMoves else s
    let crc := crc32 s.digestBytes
    let s := s.updTwn fun w => { w with digest := crc }
    s.updFrm fun f => { f with computed := true, deadline := true }

/-- The placement controller's records of the frame that ended are dropped, and what waited for a
boundary is done (R146, R148, R149, R151). -/
def State.placeBoundary (s : State) : State :=
  let s := s.updPlc fun p => { p with done := [], made := 0, wrote := [] }
  let due := s.twn.due
  let s := due.foldl State.heldWrite (s.updTwn fun w => { w with due := [] })
  s.requestAgain.includeNow

/-! ## What every boundary puts into force -/

/-- R15: an admitted MINPER that waits. -/
def State.minperNow (s : State) : State :=
  match s.frm.minperPend with
  | some v =>
    ((s.setFld pFRM FRM_MINPER_ACT_VALUE v).noteFallback s.fallbackNs).updFrm fun f => { f with minperPend := none }
  | none => s

/-- R13: ns between ticks of the fixed timer. -/
def State.timerNs (s : State) : Nat :=
  Nat.max (s.fld pFRM FRM_TIMPER_VALUE) (s.fld pFRM FRM_MINPER_ACT_VALUE) * 10

/-- R13, R17: the fixed timer restarts at `t` when it is the source in force. -/
def State.startTimer (s : State) (t : Nat) : State :=
  let next := if s.fld pFRM FRM_STAT_SRCACT = 1 then some (t + s.timerNs) else none
  s.updFrm fun f => { f with timerNext := next }

/-- R17: a selection is in force. -/
def State.setSource (s : State) (x : Nat × Nat) : State :=
  ((s.setFld pFRM FRM_STAT_SRCACT x.1).setFld pFRM FRM_STAT_ANGACT x.2).updFrm fun f =>
    { f with srcPend := none }

/-- R17: a source switch that waits; ticks of the old source start no further frame. A switch of the angle unit alone,
while the fixed timer is the source in force, restarts the timer too (DESIGN CHOICE, log entry 117). -/
def State.sourceNow (s : State) (t : Nat) : State :=
  match s.frm.srcPend with
  | some x =>
    let s := (s.setSource x).updFrm fun f => { f with issued := [] }
    (s.startTimer t).irq pFRM FRM_E_SRCDONE
  | none => s

/-- R68: the safe table as written is in force, and so are the seed words. -/
def State.tablesNow (s : State) : State :=
  let seedOf (c : Nat) : Nat := match c % 4 with
    | 0 => s.fld pCTX (CTX_SEEDW_SEED0 (c / 4))
    | 1 => s.fld pCTX (CTX_SEEDW_SEED1 (c / 4))
    | 2 => s.fld pCTX (CTX_SEEDW_SEED2 (c / 4))
    | _ => s.fld pCTX (CTX_SEEDW_SEED3 (c / 4))
  let seeds := (List.range 64).foldl (fun m c => SMap.put 0 m c (seedOf c)) []
  s.updCtx fun c =>
    { c with
      safe := c.safeW
      safeBad := c.safeBad.filter fun e => !SMap.get false c.safeDirty e.1
      safeDirty := []
      seed := seeds }

/-! ## Entry to HOLD (R46, R47, R448) -/

/-- R448: the cause of HOLD that comes first, if one applies at this boundary; `late` when the frame that
ends overran. -/
def State.holdCause (s : State) (late : Bool) : Option Nat :=
  let lim := s.fld pFRM FRM_CTRL_OVRLIM
  if s.pwr.faultB then some (if s.pwr.tripped then 4 else 3)
  else if s.frm.roleHold then some 5
  else if late ∧ lim ≠ 0 ∧ lim ≤ s.fld pFRM FRM_OVRCNT_CONSEC then some 2
  else if s.bit pFRM FRM_STAT_HOLDREQ then some 1
  else none

/-- R185: a port leaves RUN at boundary `t`. -/
def portHold (t : Time) (p : Lnk) : Lnk := { p with emitAt := none, holdAt := t, queue := [] }

/-- R47, R452: HOLD is entered at boundary `t`, where a prepared activation set takes effect. HOLDLIM is set only where
the overrun limit is the cause recorded (DESIGN CHOICE, log entry 118). -/
def State.enterHold (s : State) (t cause : Nat) : State :=
  let s := (s.undoMigs.placeBoundary).asBoundary (s.fn + 1)
  let s := ((s.setFld pFRM FRM_STAT_STATE 2).setFld pFRM FRM_STAT_HOLDCAUSE cause).setFld pFRM FRM_STAT_HOLDREQ 0
  let s := if cause = 2 then s.err pFRM FRM_E_HOLDLIM else s
  let s := s.updFrm fun f =>
    { f with inFrame := false, held := false, issued := [], timerNext := none, roleHold := false, window := false }
  let s := s.setFld pFRM FRM_STAT_IDLE 0
  let s := (s.minperNow.sourceNow t).tablesNow
  let s := s.updFrm fun f => { f with timerNext := none }
  let s := s.updCtx fun c => { c with safeSlots := [] }
  let s := (List.range 128).foldl (fun s l =>
    if s.fld (pUL l) UL_STAT_STATE = 3 then (s.setFld (pUL l) UL_STAT_STATE 2).updLink l (portHold t) else s) s
  s.updTwn fun w => { w with applied := [] }

/-! ## A frame start (R25) -/

/-- R27, R65: the filling half of the sample table freezes. -/
def State.capture (s : State) : State :=
  s.updCtx fun c =>
    let keys := c.smp.map Prod.fst ++ c.fill.map Prod.fst
    let next (k : Nat) : Sample :=
      let old := SMap.get Sample.none c.smp k
      match SMap.get none c.fill k with
      | some v => ⟨v, false, 0⟩
      | none => ⟨old.val, true, Nat.min 255 (old.age + 1)⟩
    { c with smp := keys.foldl (fun m k => SMap.put Sample.none m k (next k)) [], fill := [] }

/-- R28, R91: the slots of engine `e` that are due in frame `n`, in ascending order. -/
def State.dueList (s : State) (e n : Nat) : List Nat :=
  if !s.bit (pJE e) HDR_PG_CTRL_EN then []
  else
    (s.ctx.due.filter fun x =>
      decide (bankOf x.1 = e) && x.2.valid && dueIn x.2.rate x.2.phase n &&
        (match s.owner x.1 with
         | some h => !s.quarIn h n
         | none => false)).map Prod.fst

/-- R91, R449: the handles of the due table's contexts of the frame in force, whose quarantine is looked up. -/
def State.dueHandles (s : State) : List Nat :=
  (s.ctx.due.filter fun x => x.2.valid && dueIn x.2.rate x.2.phase s.fn).filterMap fun x => s.owner x.1

/-- R25: compute starts on engine `e`. -/
def State.startEngine (s : State) (n e : Nat) : State :=
  let due := if s.frm.empty then [] else s.dueList e n
  s.updEng e fun _ => { Eng.idle with due := due, nDue := due.length }

/-- R19: the TICK_OUT pulse of a frame start at `t`. -/
def State.tickOutPulse (s : State) (t : Nat) (idle : Bool) : State :=
  let on := s.bit pFRM FRM_TIO_TOUT_EN && (!idle || s.bit pFRM FRM_TIO_TOUT_IDLE)
  let w := Nat.max 1 (s.fld pFRM FRM_TIO_TOUT_WIDTH)
  s.updFrm fun f => { f with tickOut := on, tickOutEnd := if on then t + 20 + w * 10 else f.tickOutEnd }

/-- R66, R185: the quarantined contexts for which the RUN frame of the frame that just ended is emitted: after it,
their slots send no ONCE command. A port that leaves HOLD emits it only with `full`. -/
def State.noteOnce (s : State) (full : Bool) : State :=
  s.ctx.safeSlots.foldl (fun s x =>
    let st := s.fld (pUL (x.2 / 384)) UL_STAT_STATE
    if st = 3 ∨ (st = 2 ∧ full = true) then
      s.updCtx fun c => { c with once := SMap.put false c.once x.1 true } else s) s

/-- R166, R185: a trained port is to emit, with `run` the RUN frame of frame `n` that just ended, else a HOLD
frame. A port that leaves HOLD sends the RUN frame only with `full`, where the frame computed. A standby only
notes what it would send (R356). -/
def State.portFrame (t n : Nat) (run full : Bool) (s : State) (l : Nat) : State :=
  if s.fld (pUL l) UL_STAT_STATE < 2 then s.updLink l fun p => { p with queue := [] }
  else
    let run := run && (full || decide (s.fld (pUL l) UL_STAT_STATE = 3))
    let f := t + 100 + s.fld (pUL l) UL_CTRL_TXDLY * 2
    let s := s.setFld (pUL l) UL_STAT_STATE 3
    let standby := decide (s.role = 2)
    s.updLink l fun p =>
      { p with
        emitRun := run
        emitFn := n
        emitAt := if standby then none else some f
        tag := if standby && run then some (n % 1024) else p.tag
        prev := if standby && run then p.built else p.prev }

/-- R227: the flit of the frame source. -/
def State.frameFlit (s : State) (t : Nat) (idle : Bool) : State :=
  s.sendFrom 0x221 t
    (BitVec.ofNat 80 (s.fn + idle.toNat * 2 ^ 48 + t / 2 % 2 ^ 31 * 2 ^ 49))

/-- R348: a LIVE pulse at `t`. -/
def Twn.pulse (t : Time) (w : Twn) : Twn := { w with pulses := w.pulses + 1, pulseAt := some t }

/-- R348, R353: what a primary sends at a frame start: the record, with the digest and the visits of the
frame before, and the LIVE pulse. -/
def State.sendRecord (s : State) (idle : Bool) (visits : List Nat) (sw set : Bool) : State :=
  if s.role ≠ 1 then s
  else
    s.updTwn fun w =>
      { Twn.pulse s.time w with
        sentRec := some ⟨s.time, s.fn, idle, SMap.getAll 0 s.jer.snap 0 64, w.batch, visits, w.digest, sw, set⟩ }

/-- R25, R27, R97: a frame starts at `t`. `ended` when a frame ends there; `snap` gives the primary's
snapshots at a standby (R354). -/
def State.startFrame (s : State) (t : Nat) (idle ended : Bool) (snap : Option (List Word)) : State :=
  let old := s.fn
  let full := !s.frm.empty
  let visits := (List.range 32).map fun e => (s.engine e).wbs.length
  let s := s.setFn s.nextFn
  let s := (s.minperNow.sourceNow t).placeBoundary
  let s := if ended then s.noteOnce full else s
  let set := s.asTakes
  let s := (s.asBoundary s.fn).tablesNow
  let s := (s.setBit pFRM FRM_STAT_IDLE idle)
  let s := if idle then s.addWrap pFRM FRM_IDLECNT_IDLE 1 else s
  let s := s.capture
  let s := match snap with
    | some ws => s.updJer fun j => { j with snap := SMap.putAll 0 [] 0 ws }
    | none => s.latchSnapshot idle
  let s := s.updCtx fun c =>
    { c with
      bstore := c.store
      becc := c.ecc
      bflip := c.flip
      bhome := s.plc.home
      bquar := c.quar
      bvalid := true
      safeSlots := [] }
  let s := s.updFrm fun f =>
    { f with
      start := t
      last := some t
      inFrame := true
      held := false
      fromStop := false
      empty := idle && !s.bit pFRM FRM_CTRL_IDLERUN
      computed := false
      deadline := false
      window := false }
  let s := (s.frameFlit t idle).tickOutPulse t idle
  let s := (List.range 128).foldl (State.portFrame t old ended full) s
  let s := s.qmapCheckAll s.dueHandles
  let s := (List.range 32).foldl (fun s e => s.startEngine s.fn e) s
  let s := s.sendRecord idle visits false set
  s.updTwn fun w => { w with applied := [] }

/-- R367: the primary's last boundary before a planned switch: its record carries the SWITCH mark and the
next number, no frame of the frame that ended is sent, and the unit is fenced. -/
def State.switchOver (s : State) (t : Nat) (idle : Bool) : State :=
  let visits := (List.range 32).map fun e => (s.engine e).wbs.length
  let s := s.latchSnapshot idle
  let n := s.nextFn
  let s := s.updTwn fun w =>
    { Twn.pulse t w with
      sentRec := some ⟨t, n, idle, SMap.getAll 0 s.jer.snap 0 64, w.batch, visits, w.digest, true, s.asTakes⟩
      switch := false }
  let s := (s.setFld pTWN TWN_STAT_ROLE 3).unpair
  s.enterHold t ((s.holdCause false).getD 5)

/-- R12, R25, R42: a frame boundary at `t`: the frame in force ends, and HOLD is entered or the next frame
starts. -/
def State.boundary (s : State) (t : Nat) (idle : Bool) (snap : Option (List Word)) : State :=
  let s := s.at_ t
  let ended := s.frm.inFrame
  let late := s.overruns t
  let s := s.finishFrame t
  match s.holdCause late with
  | some c => s.enterHold t c
  | none => if s.twn.switch then s.switchOver t idle else s.startFrame t idle ended snap

/-! ## Ticks (R14 to R18) -/

/-- R16, R25: a tick is registered at `t`. -/
def State.register (s : State) (t : Nat) : State :=
  let s := s.at_ t
  if s.frm.held then (s.addSat pFRM FRM_TICKCNT_LOST 1).err pFRM FRM_E_TLOST
  else
    match s.frm.last with
    | some l =>
      if t < l + s.period then
        ((s.updFrm fun f => { f with held := true }).addSat pFRM FRM_TICKCNT_EARLY 1).err pFRM FRM_E_TEARLY
      else s.boundary t false none
    | none => s.boundary t false none

/-- R363: the heartbeat window, in ns. -/
def State.hbWin (s : State) : Nat := s.fld pTWN TWN_CTRL_HBWIN * 100

/-- R363: a heartbeat at `a` came within the window of the expected start `e`. -/
def State.beatAt (s : State) (e : Time) (a : Option Time) : Bool :=
  match a with
  | some a => decide (a ≤ e + s.hbWin ∧ e ≤ a + s.hbWin)
  | none => false

/-- R363: a standby's own tick gives an expected frame start, unless its record has come already. -/
def State.expectStart (s : State) (e : Time) : State :=
  if s.beatAt e s.frm.last then s else s.updTwn fun w => { w with expect := w.expect ++ [e] }

/-- R14, R25: TICK_REGISTRATION: the oldest tick that its source has issued. A standby registers no tick of
its own (R353) but expects a frame start there (R363); a controller that is not in RUN does neither. -/
def execTickRegistration (s : State) : Host.Outcome State Fault Refusal :=
  .next (match s.frm.issued with
    | [] => s
    | k :: ks =>
      let s := s.updFrm fun f => { f with issued := ks }
      if s.frmState ≠ 1 then s.at_ k.registers
      else if s.role = 2 then (s.at_ k.registers).expectStart k.registers
      else s.register k.registers)

/-- R16: HELD_TICK: the held tick starts its frame. -/
def execHeldTick (s : State) : Host.Outcome State Fault Refusal :=
  .next (if s.frm.held ∧ s.frmState = 1 then
    let l := s.frm.last.getD s.frm.start
    (s.updFrm fun f => { f with held := false }).boundary (Nat.max s.time (l + s.period)) false none
  else s)

/-- R20, R204: FALLBACK_EXPIRY: an idle frame starts, but where a tick is registered by then. -/
def execFallbackExpiry (s : State) : Host.Outcome State Fault Refusal :=
  .next (if s.frmState = 1 ∧ s.role ≠ 2 ∧ s.frm.held = false ∧ s.tickFirst = false then
    s.boundary (Nat.max s.time s.fallbackDue) true none
  else s)

/-- R13: FIXED_TIMER_TICK. The next tick follows by the period as it is before this tick's boundary, where a
MINPER_ACT may come into force (DESIGN CHOICE, log entry 119). -/
def execFixedTimerTick (s : State) : Host.Outcome State Fault Refusal :=
  .next (match s.frm.timerNext with
    | some n =>
      let s := (s.at_ n).issueTick 1 0 n
      s.updFrm fun f => { f with timerNext := some (n + s.timerNs) }
    | none => s)

/-- R18: TICK_IN_EDGE: the pin takes a level at `t` and keeps it for `stable` ns. -/
def execTickInEdge (t : Time) (level : Bool) (stable : Time) (s : State) : Host.Outcome State Fault Refusal :=
  let s := s.at_ t
  let filt := s.fld pFRM FRM_TIO_TIN_FILT * 20
  .next (if !s.pwr.up || !s.clkOn pFRM || decide (stable < filt) || level == s.frm.tickIn then s
  else
    let s := s.updFrm fun f => { f with tickIn := level }
    if level == !s.bit pFRM FRM_TIO_TIN_POL then s.issueTick 2 0 (t + filt) else s)

/-- R19: TICK_OUT_END. -/
def execTickOutEnd (s : State) : Host.Outcome State Fault Refusal :=
  .next (if s.frm.tickOut then (s.at_ s.frm.tickOutEnd).updFrm fun f => { f with tickOut := false } else s)

/-- R30, R31: APPLY_DEADLINE: P − 2.0 µs after the frame's start. A standby does the window's work when the
next record arrives (R352). -/
def execApplyDeadline (s : State) : Host.Outcome State Fault Refusal :=
  .next (if s.frmState = 1 ∧ s.frm.inFrame = true ∧ s.frm.deadline = false ∧ s.role ≠ 2 then
    let s := s.at_ (s.frm.start + s.period - 2000)
    if s.frm.computed then s.deadlineNow
    else (s.uncopy).updFrm fun f => { f with deadline := true }
  else s)

/-! ## Commands (R11, R13, R15, R17, R20) -/

/-- R11, R376: RUN is refused in any case. -/
def State.runRefused (s : State) : Bool :=
  s.pwr.faultB || !s.bit pFRM HDR_PG_CTRL_EN || s.pwr.trans.isSome || decide (s.role = 3)

/-- R13: RUN is entered. -/
def State.enterRun (s : State) : State :=
  let s := (s.setFld pFRM FRM_STAT_STATE 1).setFld pFRM FRM_STAT_HOLDCAUSE 0
  let s := s.updFrm fun f => { f with issued := [], held := false, start := s.time, inFrame := false, roleHold := false }
  (s.updCtx fun c => { c with bvalid := false }).startTimer s.time

/-- R11: STOP is entered. -/
def State.enterStop (s : State) : State :=
  let s := (s.setFld pFRM FRM_STAT_STATE 0).setFld pFRM FRM_STAT_HOLDCAUSE 0
  (s.updFrm fun f => { f with fromStop := true, timerNext := none }).updCtx fun c => { c with bvalid := false }

/-- R11: a write of FRM.CMD. -/
def State.doFrmCmd (s : State) (v : Nat) : State :=
  match v % 8 with
  | 0 => s
  | 1 => if s.frmState = 2 ∧ s.role ≠ 3 then s.enterStop else s.err pFRM FRM_E_CMDERR
  | 2 => if s.frmState ≠ 1 ∧ s.runRefused = false then s.enterRun else s.err pFRM FRM_E_CMDERR
  | 4 => if s.frmState = 1 then s.setFld pFRM FRM_STAT_HOLDREQ 1 else s.err pFRM FRM_E_CMDERR
  | _ => s.err pFRM FRM_E_CMDERR

/-- R13: FRM_CMD_RUN. -/
def execFrmCmdRun (t : Time) (s : State) : Host.Outcome State Fault Refusal :=
  .next (s.hostWrite t (pFRM * 4096 + 0x44) 2 fun s => s.doFrmCmd 2)

/-- R12: FRM_CMD_HOLD. -/
def execFrmCmdHold (t : Time) (s : State) : Host.Outcome State Fault Refusal :=
  .next (s.hostWrite t (pFRM * 4096 + 0x44) 4 fun s => s.doFrmCmd 4)

/-- R11: FRM_CMD_STOP. -/
def execFrmCmdStop (t : Time) (s : State) : Host.Outcome State Fault Refusal :=
  .next (s.hostWrite t (pFRM * 4096 + 0x44) 1 fun s => s.doFrmCmd 1)

/-- R17: a selection is written. -/
def State.selectSource (s : State) (x : Nat × Nat) : State :=
  if s.role = 2 then s.updTwn fun w => { w with srcFwd := x.1 + 4 * x.2 }
  else
    let now := (s.fld pFRM FRM_STAT_SRCACT, s.fld pFRM FRM_STAT_ANGACT)
    if s.frmState ≠ 1 then s.setSource x
    else if x = now then s.updFrm fun f => { f with srcPend := none }
    else s.updFrm fun f => { f with srcPend := some x }

/-- R17, R41: a write of FRM.CTRL. -/
def State.doFrmCtrl (s : State) (v : Nat) : State :=
  let s := if 2 ≤ s.pwr.lcs then s else s.store pFRM FRM_CTRL_ADMCHK v
  let s := (s.store pFRM FRM_CTRL_OVRLIM v).store pFRM FRM_CTRL_IDLERUN v
  let s := (s.store pFRM FRM_CTRL_ANGSEL v).store pFRM FRM_CTRL_SRC v
  s.selectSource (FRM_CTRL_SRC.of v, FRM_CTRL_ANGSEL.of v)

/-- R17: SOURCE_SWITCH. -/
def execSourceSwitch (t : Time) (v : Dword) (s : State) : Host.Outcome State Fault Refusal :=
  .next (s.hostWrite t (pFRM * 4096 + 0x40) v.toNat fun s => s.doFrmCtrl v.toNat)

/-- R15: a write of FRM.MINPER. -/
def State.doMinper (s : State) (v : Nat) : State :=
  let n := Nat.max 5000 (FRM_MINPER_VALUE.of v)
  (s.setFld pFRM FRM_MINPER_VALUE n).updFrm fun f => { f with admQ := f.admQ ++ [.minper n] }

/-- R15: MINPER_WRITE. -/
def execMinperWrite (t : Time) (v : Dword) (s : State) : Host.Outcome State Fault Refusal :=
  .next (s.hostWrite t (pFRM * 4096 + 0x4C) v.toNat fun s => s.doMinper v.toNat)

/-- R20: a write of FRM.FBPER. -/
def State.doFbper (s : State) (v : Nat) : State :=
  (s.setFld pFRM FRM_FBPER_FBPER (Nat.max 100 (FRM_FBPER_FBPER.of v))).noteFallback s.fallbackNs

/-- R20: FBPER_WRITE. -/
def execFbperWrite (t : Time) (v : Dword) (s : State) : Host.Outcome State Fault Refusal :=
  .next (s.hostWrite t (pFRM * 4096 + 0x58) v.toNat fun s => s.doFbper v.toNat)

/-- A write of offset `o` of the FRM page. A TIMPER below 5,000 is stored as it is written: the period in force is the
larger of it and MINPER_ACT in any case (DESIGN CHOICE, log entry 120). -/
def State.doFrm (s : State) (o v : Nat) : State :=
  match o with
  | 0x40 => s.doFrmCtrl v
  | 0x44 => s.doFrmCmd v
  | 0x4C => s.doMinper v
  | 0x54 => s.store pFRM FRM_TIMPER_VALUE v
  | 0x58 => s.doFbper v
  | 0x64 => s.store pFRM FRM_FNLOAD_LO_FNLOAD v
  | 0x68 => s.store pFRM FRM_FNLOAD_HI_FNLOAD v
  | 0x94 =>
    let s := ((s.store pFRM FRM_TIO_TOUT_WIDTH v).store pFRM FRM_TIO_TOUT_IDLE v).store pFRM FRM_TIO_TIN_POL v
    let s := (s.store pFRM FRM_TIO_TOUT_EN v).store pFRM FRM_TIO_TIN_FILT v
    if FRM_TIO_TOUT_EN.of v = 0 then s.updFrm fun f => { f with tickOut := false } else s
  | _ => s

/-! ## Admission (R39, R40) -/

/-- R40, R74: a waiting group is refused with a result, and the groups `post` after it are checked without it, on the
records that `a` holds. -/
def State.refuseGroup (s a : State) (pre post : List Group) (g : Group) (result : Nat) : State :=
  let post := State.recheck a post
  let s := s.updCtx fun c => { c with waiting := pre ++ { g with evaluating := false, refused := result } :: post }
  let s := s.updFrm fun f => { f with admQ := queueEvals post f.admQ }
  s.noteAccepted.flushRefused

/-- R39, R40, R263: a waiting group is admitted or refused. Its classes are checked again, as a set may have been armed
since it closed. -/
def State.admitGroup (s : State) (id : Nat) : State :=
  let pre := s.ctx.waiting.takeWhile fun g => g.id ≠ id
  match s.ctx.waiting.dropWhile fun g => g.id ≠ id with
  | [] => s
  | g :: post =>
    let a := pre.foldl (fun s g => if g.refused = 0 then s.groupWords g.id g.entries else s) s
    let b := a.groupWords id g.entries
    let hs := loadChanges a b (touched g.entries)
    let load := hs.foldl (fun m h => SMap.put Load.none m h (b.loadOf h)) s.ctx.load
    if b.badClass g.entries then s.refuseGroup a pre post g 5
    else match if s.admChecks then s.excess load s.frm.minperAdm false else none with
    | some x => (s.admRefuse 1 x).refuseGroup a pre post g 2
    | none =>
      (s.updCtx fun c =>
        { c with load := load, waiting := pre ++ { g with evaluating := false } :: post }).noteAccepted

/-- R15, R39: a MINPER value is admitted or refused. -/
def State.admitMinper (s : State) (v : Nat) : State :=
  match if s.admChecks then s.excess s.ctx.load v false else none with
  | some x => s.admRefuse 2 x
  | none =>
    let s := s.updFrm fun f => { f with minperAdm := v }
    if s.frmState = 1 then s.updFrm fun f => { f with minperPend := some v }
    else s.setFld pFRM FRM_MINPER_ACT_VALUE v

/-- R39: an activation set that changes the class table is admitted or refused. -/
def State.admitSet (s : State) : State :=
  match s.cfg.as with
  | some a =>
    if !a.checking then s
    else match if s.admChecks then s.excess s.ctx.load s.frm.minperAdm true else none with
      | some x => (s.admRefuse 3 x).asRefuse (a.swap ||| a.unld) 6
      | none => s.asArmed
  | none => s

/-- R39: ADMISSION_EVALUATION of the oldest change that waits. -/
def execAdmissionEvaluation (t : Time) (s : State) : Host.Outcome State Fault Refusal :=
  let s := s.at_ t
  .next (match s.frm.admQ with
    | [] => s
    | q :: qs =>
      let s := s.updFrm fun f => { f with admQ := qs }
      match q with
      | .group id => s.admitGroup id
      | .minper v => s.admitMinper v
      | .asSet => s.admitSet)

/-! ## Reads (R24) -/

/-- R24: a read of FN_LO. -/
def State.readFnLo (s : State) : Nat × State :=
  (s.fld pFRM FRM_FN_LO_FN, s.updFrm fun f => { f with fnCap := some (s.fld pFRM FRM_FN_HI_FN) })

/-- R24: a read of FN_HI. -/
def State.readFnHi (s : State) : Nat × State :=
  match s.frm.fnCap with
  | some v => (v, s.updFrm fun f => { f with fnCap := none })
  | none => (s.fld pFRM FRM_FN_HI_FN, s)

/-- R24: FN_LO_READ. -/
def execFnLoRead (t : Time) (s : State) : Host.Outcome State Fault Refusal :=
  .next (s.hostRead t (pFRM * 4096 + 0x5C) fun s => s.readFnLo.2.answer [s.readFnLo.1])

end Sys2Proof.Machine
end

