-- ==== Sys2Proof/Machine/Twin.lean ====
section
/-! DEFINITION. Twin pairs (spec/15_twin.md): roles, the pair link, the standby's frames, resynchronising
and failover. What a forwarded write does stands with the host's writes. -/

namespace Sys2Proof.Machine

/-! ## Roles (R350, R369, R370) -/

/-- R369, R370: a join is refused with a cause. -/
def State.joinRefused (s : State) (cause : Nat) : State :=
  (s.setFld pTWN TWN_JOINSTAT_CAUSE cause).err pTWN TWN_E_JOINREF

/-- R370: a write of CMD.JOINPRI. -/
def State.joinPri (s : State) : State :=
  if s.role ≠ 0 then s.joinRefused 1
  else if s.pwr.faultB then s.joinRefused 7
  else s.setFld pTWN TWN_STAT_ROLE 1

/-- R369: partner LIVE pulses arrive: the latest one is no older than the longest time between two, which
is 50.0 µs ± 1 % outside RUN (R348) and the fallback period in it (R20). -/
def State.liveArrives (s : State) : Bool :=
  match s.twn.liveAt with
  | some a => decide (s.time ≤ a + Nat.max 50500 s.fallbackNs)
  | none => false

/-- R369: the first condition of a join as standby that fails, as JOINSTAT.CAUSE numbers them; `same` when
the partner reports the same allocations and digests. -/
def State.joinCause (s : State) (same : Bool) : Nat :=
  if s.role ≠ 0 then 1
  else if s.frmState ≠ 0 then 2
  else if (List.range 128).any fun l => s.bit (pUL l) HDR_PG_CTRL_EN then 3
  else if !s.bit pTWN TWN_STAT_LINKUP then 4
  else if !s.bit pTWN TWN_STAT_PHLTH || !s.liveArrives then 5
  else if !same then 6
  else if s.pwr.faultB then 7 else 0

/-- R350: the record of an earlier standby or primary is dropped. -/
def Twn.fresh (w : Twn) : Twn :=
  { w with
    gotRec := none, batches := [], local_ := [], applied := [], matched := false, missed := false, angBad := 0,
    miss := 0, xfer := 0, promo := 0, switch := false, asDue := false, replay := none, expect := [] }

/-- R369: a write of CMD.JOINSTBY. -/
def State.joinStby (s : State) (same : Bool) : State :=
  if s.joinCause same ≠ 0 then s.joinRefused (s.joinCause same)
  else
    let src := s.fld pFRM FRM_STAT_SRCACT + 4 * s.fld pFRM FRM_STAT_ANGACT
    let s := (s.setFld pTWN TWN_STAT_ROLE 2).setFld pTWN TWN_STAT_SSTATE 1
    (s.setFld pTWN TWN_JOINSTAT_PCT 0).updTwn fun w => { w.fresh with srcFwd := src }

/-- R356: what a unit that stops being a standby takes over: the forwarded source and its own samples. -/
def State.endStandby (s : State) : State :=
  let fill := s.twn.local_
  let src := s.twn.srcFwd
  let s := s.updCtx fun c => { c with fill := fill }
  ((s.setFld pTWN TWN_STAT_SSTATE 0).updTwn Twn.fresh).setSource (src % 4, src / 4)

/-- R350: a write of CMD.LEAVE. -/
def State.leave (s : State) : State :=
  match s.role with
  | 0 => s
  | 1 => (s.unpair.updTwn Twn.fresh).setFld pTWN TWN_STAT_ROLE 0
  | 2 => ((s.endStandby).setFld pTWN TWN_STAT_ROLE 0).startTimer s.time
  | _ => (s.updTwn Twn.fresh).setFld pTWN TWN_STAT_ROLE 0

/-- R367: a write of CMD.SWITCH; `eligible` when the standby is. -/
def State.planSwitch (s : State) (eligible : Bool) : State :=
  if s.role = 1 ∧ s.bit pTWN TWN_STAT_PAIRED = true ∧ eligible = true then
    s.updTwn fun w => { w with switch := true }
  else s.err pTWN TWN_E_JOINREF

/-- A write of TWN.CMD. -/
def State.doTwnCmd (s : State) (v : Nat) (same eligible : Bool) : State :=
  match v % 16 with
  | 0 => s
  | 1 => s.joinPri
  | 2 => s.joinStby same
  | 4 => s.leave
  | 8 => s.planSwitch eligible
  | _ => s.err pTWN TWN_E_JOINREF

/-- R370: JOINPRI. -/
def execJoinpri (t : Time) (s : State) : Host.Outcome State Fault Refusal :=
  .next (s.hostWrite t (pTWN * 4096 + 0x44) 1 fun s => s.doTwnCmd 1 false false)

/-- R369: JOINSTBY. -/
def execJoinstby (t : Time) (sameImages : Bool) (s : State) : Host.Outcome State Fault Refusal :=
  .next (s.hostWrite t (pTWN * 4096 + 0x44) 2 fun s => s.doTwnCmd 2 sameImages false)

/-- R350: LEAVE. -/
def execLeave (t : Time) (s : State) : Host.Outcome State Fault Refusal :=
  .next (s.hostWrite t (pTWN * 4096 + 0x44) 4 fun s => s.doTwnCmd 4 false false)

/-- R367: SWITCH. -/
def execSwitch (t : Time) (eligible : Bool) (s : State) : Host.Outcome State Fault Refusal :=
  .next (s.hostWrite t (pTWN * 4096 + 0x44) 8 fun s => s.doTwnCmd 8 false eligible)

/-! ## The pair link (R351) -/

/-- R351: the pair link goes down. -/
def State.pairFails (s : State) : State :=
  let s := s.setFld pTWN TWN_STAT_LINKUP 0
  let s := (if s.role = 1 then s.unpair else s).updTwn fun w => { w with out := [], resends := 0 }
  (s.err pTWN TWN_E_PAIRDOWN).contained

/-- R351: PAIRDOWN: the lanes that keep block lock. -/
def execPairdown (t : Time) (lanes : BitVec 4) (s : State) : Host.Outcome State Fault Refusal :=
  let s := s.at_ t
  .next (if !s.clkOn pTWN then s
  else
    let s := s.setFld pTWN TWN_STAT_LANES lanes.toNat
    if lanes ≠ 15 ∧ s.bit pTWN TWN_STAT_LINKUP = true then s.pairFails else s)

/-- R351: PARCEL_RESEND of the oldest parcel; the eighth in a row takes the link down. -/
def execParcelResend (t : Time) (s : State) : Host.Outcome State Fault Refusal :=
  let s := s.at_ t
  .next (if s.twn.out = [] ∨ s.bit pTWN TWN_STAT_LINKUP = false then s
  else
    let s := (s.addSat pTWN TWN_CNT2_RETRY 1).updTwn fun w => { w with resends := w.resends + 1 }
    if 8 ≤ s.twn.resends then s.pairFails else s)

/-- R351, R362: PAIR_LINK_UP, with the level of partner HLTH; a standby that had been in step asks for a
full state transfer. -/
def execPairLinkUp (t : Time) (hlth : Bool) (s : State) : Host.Outcome State Fault Refusal :=
  let s := s.at_ t
  .next (if !s.clkOn pTWN then s
  else
    let s := (s.setFld pTWN TWN_STAT_LANES 15).setBit pTWN TWN_STAT_PHLTH hlth
    if s.bit pTWN TWN_STAT_LINKUP then s
    else
      let s := (s.setFld pTWN TWN_STAT_LINKUP 1).updTwn fun w => { w with resends := 0 }
      if s.role = 2 ∧ 2 ≤ s.fld pTWN TWN_STAT_SSTATE then
        (s.setFld pTWN TWN_STAT_SSTATE 2).updTwn fun w =>
          { w with xfer := 0, matched := false, missed := false, gotRec := none }
      else s)

/-- R55: MIRROR_ACK of the oldest parcel. -/
def execMirrorAck (t : Time) (s : State) : Host.Outcome State Fault Refusal :=
  let s := s.at_ t
  .next (match s.twn.out with
    | [] => s
    | x :: xs => (s.updTwn fun w => { w with out := xs, resends := 0 }).acked x)

/-! ## The standby's frames (R353 to R358) -/

/-- R354: the samples of the batches up to number `n` are the filling half; later ones wait. -/
def State.takeBatches (s : State) (n : Nat) : State :=
  let now := (s.twn.batches.filter fun b => b.1 ≤ n).flatMap Prod.snd
  let s := s.updCtx fun c =>
    { c with fill := now.foldl (fun m x => SMap.put none m x.1 (some x.2)) [] }
  s.updTwn fun w => { w with batches := w.batches.filter fun b => n < b.1 }

/-- R355: a context's record is again as the frame found it. -/
def State.unvisit (s : State) (h : Nat) : State :=
  let p := s.phys h
  s.updCtx fun c =>
    { c with
      store := SMap.paste 0 (p * 64) (SMap.clearRange c.store (p * 64) (p * 64 + 64))
        (SMap.slice c.bstore (p * 64) (p * 64 + 64)) }

/-- R355: the visits of engine `e` after its first `n` are taken back, and are due again. -/
def State.trimEngine (s : State) (e n : Nat) : State :=
  let hs := ((s.engine e).wbs.drop n).map Wb.handle
  if hs = [] then s
  else
    let s := hs.foldl State.unvisit s
    let ps := hs.map s.phys
    let s := s.mapLinks fun p => { p with queue := p.queue.filter fun ev => !hs.contains ev.handle }
    let s := s.updEng e fun g => { g with wbs := g.wbs.take n, due := ps ++ g.due }
    let s := s.addWrap (pJE e) JE_VISITS_COUNT (2 ^ 32 - hs.length)
    s.updFrm fun f => { f with computed := false, window := false }

/-- R355, R360: the visits of engine `e` that the standby makes in a frame in which the primary completed `n`:
those, or in the frame that a transfer makes up for only the ones whose records were read before. -/
def State.visitsOwed (s : State) (e n : Nat) : Nat :=
  match s.twn.replay with
  | none => n
  | some (slots, full) => (((full.getD e []).take n).filter slots.contains).length

/-- R355: every engine has reached the count that the record gives for it, or cannot. -/
def State.countsReached (s : State) (r : FrameRec) : Bool :=
  (List.range 32).all fun e =>
    decide (s.visitsOwed e (r.visits.getD e 0) ≤ (s.engine e).wbs.length) || !(s.engine e).busy

/-- R352: the apply window of the frame that ends, with the groups closed before its end of compute. -/
def State.standbyWindow (s : State) : State :=
  let s := if s.computing && s.enginesDone then s.endCompute else s
  if s.frm.inFrame && s.frm.computed && s.frm.window && !s.frm.deadline then
    (s.applyFirst s.twn.elig s.windowCycles).deadlineNow
  else s

/-- R355: the lag of the frame start just made behind the primary's. -/
def State.noteLag (s : State) (reg : Nat) : State :=
  let n := Nat.min 65535 ((s.time - reg) / 10)
  let s := (s.setFld pTWN TWN_LAG_NOW n).raiseTo pTWN TWN_LAG_MAX n
  if s.fld pTWN TWN_CTRL_LAGMAX * 100 < n then (s.err pTWN TWN_E_LAG).contained else s

/-- R362: some enabled unit's own snapshot differs from the primary's in words 0 to 2 or 5 to 7. -/
def State.angDiffers (s : State) (own : SMap Word) (snap : List Word) : Bool :=
  (List.range 8).any fun u => s.bit (pANG u) HDR_PG_CTRL_EN &&
    [0, 1, 2, 5, 6, 7].any fun k => SMap.get 0 own (8 * u + k) != snap.getD (8 * u + k) 0

/-- R362: the comparison of the snapshots of a frame. -/
def State.noteAngles (s : State) (bad : Bool) : State :=
  let s := s.updTwn fun w => { w with angBad := if bad then 64 else w.angBad - 1 }
  if bad then (s.err pTWN TWN_E_ANGMIS).contained else s

/-- R358: the digests of frame `fn` differ. -/
def State.diverges (s : State) (fn : Nat) : State :=
  let s := ((s.err pTWN TWN_E_DIVERGE).contained).addSat pTWN TWN_CNT1_DIVCNT 1
  let s := if s.bit pTWN TWN_DIVLAST_VALID then s
    else (s.setFld pTWN TWN_DIVLAST_VALID 1).setFld pTWN TWN_DIVLAST_FN fn
  let s := (s.log pTWN 0x0C0 3 (fn % 2 ^ 32)).setFld pTWN TWN_STAT_SSTATE 2
  s.updTwn fun w => { w with xfer := 0, matched := false }

/-- R358, R361: a SYNCED standby compares the digest of frame `fn` with its own, from the frame that started as it
became SYNCED. -/
def State.compareDigest (s : State) (fn digest : Nat) : State :=
  if s.fld pTWN TWN_STAT_SSTATE ≠ 3 ∨ fn < s.twn.cmpFrom then s
  else if digest = s.twn.digest then
    ((s.setFld pTWN TWN_CONF_LO_CONF fn).setFld pTWN TWN_CONF_HI_CONF (fn / 2 ^ 32)).updTwn fun w =>
      { w with matched := true }
  else s.diverges fn

/-- R364: the ports whose receiver is not aligned go to DOWN. -/
def State.dropUnaligned (s : State) : State :=
  (List.range 128).foldl (fun s l => if s.bit (pUL l) UL_STAT_RXALIGN then s else s.portDown l) s

/-- R364: FOVLAST and the failover entry of the frame that comes next. -/
def State.noteFailover (s : State) (cause : Nat) : State :=
  let n := s.nextFn % 2 ^ 24
  let s := (s.addSat pTWN TWN_CNT2_FOVCNT 1).setFld pTWN TWN_FOVLAST_CAUSE cause
  (s.setFld pTWN TWN_FOVLAST_FN n).log pTWN 0x0C1 0 (cause * 2 ^ 29 + n)

/-- R151: the promoted unit goes on from the mirrored map: what pins and an exclusion still require is requested at
its next boundary. -/
def State.takePlacement (s : State) : State :=
  let pinned := (s.plc.pins.filter fun e => decide (bankOf (s.phys e.1) + 1 ≠ e.2)).map Prod.fst
  let evac := if s.fld pPLC PLC_STAT_EXCLSTATE = 1 then s.evacOrder (s.fld pPLC PLC_STAT_EXCLBANK) else []
  s.updPlc fun p => { p with again := p.again ++ pinned ++ evac }

/-- R364 steps 3 and 4: the standby becomes primary and, in RUN, registers its first frame. `rec` is the
record of a planned switch (R367). -/
def State.becomePrimary (s : State) (t cause : Nat) (rec : Option FrameRec) : State :=
  let s := (s.at_ t).standbyWindow
  let fill := s.ctx.fill
  let s := s.endStandby
  let s := if rec.isSome then s.updCtx fun c => { c with fill := fill } else s
  let s := (s.setFld pTWN TWN_STAT_ROLE 1).irq pTWN TWN_E_PROMOTED
  let s := ((s.dropUnaligned).noteFailover cause).takePlacement
  if s.frmState = 1 then
    let s := match rec with
      | some r => s.boundary t r.idle (some r.snap)
      | none => s.boundary t false none
    s.startTimer t
  else s.updTwn (Twn.pulse t)

/-- R353 to R358: the standby's frame of a record, when every engine has reached its count. -/
def State.standbyFrame (s : State) (t : Nat) (r : FrameRec) : State :=
  let s := (s.at_ t).updTwn fun w => { w with gotRec := none }
  if s.nextFn ≠ r.fn then s.updTwn fun w => { w with missed := true }
  else
    let s := (List.range 32).foldl (fun s e => s.trimEngine e (s.visitsOwed e (r.visits.getD e 0))) s
    let s := ((s.standbyWindow.takeBatches r.batch).asFollow r.set).updTwn fun w => { w with replay := none }
    if r.sw then s.becomePrimary t 3 (some r)
    else
      let ended := s.frm.inFrame
      let own := s.latchSnapshot r.idle
      let bad := s.angDiffers own.jer.snap r.snap
      let s := { s with free := own.free }
      let s := ((s.boundary t r.idle (some r.snap)).noteLag r.reg).noteAngles bad
      if ended then s.compareDigest (r.fn - 1) r.digest else s

/-- R353: a record has arrived at `t`. -/
def State.takeRecord (s : State) (t : Nat) (r : FrameRec) : State :=
  let s := s.updTwn fun w => { w with miss := 0, expect := [] }
  if s.twn.gotRec.isSome then s.updTwn fun w => { w with missed := true }
  else if s.countsReached r then s.standbyFrame t r
  else s.updTwn fun w => { w with gotRec := some r }

/-- The standby runs the primary's frames: it holds the items of a transfer and is in RUN. -/
def State.follows (s : State) : Bool :=
  decide (s.role = 2) && decide (s.twn.xfer = 1) && decide (s.frmState = 1) && s.bit pTWN TWN_STAT_LINKUP

/-- R353: a record as it arrives at `t`. -/
def recAt (r : RecIn) (t : Time) : FrameRec :=
  ⟨t - r.lat, r.fn.toNat, r.idle, r.snap, r.batch, r.visits, r.digest.toNat, r.sw, r.set⟩

/-- R353: FRAME_RECORD. -/
def execFrameRecord (t : Time) (r : RecIn) (s : State) : Host.Outcome State Fault Refusal :=
  let s := s.at_ t
  .next (if s.follows then s.takeRecord s.time (recAt r s.time) else s)

/-- R355: a record that waited for the engines starts its frame. -/
def State.waitingRecord (s : State) : State :=
  match s.twn.gotRec with
  | some r => if s.countsReached r then s.standbyFrame s.time r else s
  | none => s

/-- R29: COMPUTE_END: the last engine has finished. -/
def execComputeEnd (s : State) : Host.Outcome State Fault Refusal :=
  .next (if s.frmState = 1 ∧ s.computing = true ∧ s.enginesDone = true ∧
      s.beforeEnd (s.frm.start + s.computeNs) = true then s.endCompute.waitingRecord
  else s.waitingRecord)

/-- R354: SAMPLE_BATCH number `n` of link `l`. -/
def execSampleBatch (t : Time) (n : Nat) (l : Link) (x : Section) (s : State) :
    Host.Outcome State Fault Refusal :=
  let s := s.at_ t
  .next (if s.role = 2 ∧ s.bit pTWN TWN_STAT_LINKUP = true then
    match (s.link l.val).mods[x.pos.val]? with
    | some m =>
      let xs := x.samples.zipIdx.filterMap fun y => y.1.map fun v => (l.val * 384 + m.first + y.2, v)
      s.updTwn fun w => { w with batch := n, batches := w.batches ++ [(n, xs)] }
    | none => s
  else s)

/-! ## Resynchronising (R359 to R361) -/

/-- R359: registers of the FRM, CTX, PLC and JE00 pages take the primary's values. -/
def State.putReg (s : State) (off v : Nat) : State :=
  let p := off / 4096
  if (p = pFRM ∨ p = pCTX ∨ p = pPLC ∨ p = pJE 0) ∧ 0x40 ≤ off % 4096 then
    ((fieldsOf p).filter fun f => f.off = off % 4096).foldl (fun s f => s.store p f v) s
  else s

/-- R359: one entry of a waiting group. -/
def xferEntry (x : XferEntry) : GEntry :=
  match x.kind.val with
  | 0 => .put x.h.val x.w.val x.v
  | 1 => .set x.h.val x.w.val x.v
  | 2 => .clr x.h.val x.w.val x.v
  | _ => .rel x.h.val

/-- R359: a class table. -/
def xferTable (xs : List (Class × Bool × BitVec 12 × BitVec 12)) : SMap ClsEnt :=
  xs.foldl (fun m x => SMap.put ClsEnt.none m x.1.val
    ⟨true, x.2.1.toNat, x.2.2.1.toNat, x.2.2.2.toNat⟩) []

/-- R151: the regions of the primary's allocations: one that this unit holds under the same ID keeps its state, any
other of an allocation is RESERVED, and the rest but for the boot image's are FREE. -/
def putRegions (x : XferIn) (was : SMap RgnAlloc) : SMap RgnAlloc :=
  (List.range 64).foldl (fun m r =>
    let old := SMap.get RgnAlloc.free was r
    let own := x.allocs.find? fun a => decide (a.2.1.val ≤ r ∧ r < a.2.1.val + a.2.2.val)
    let now := match own with
      | some a => if old.id = a.1.val ∧ old.state ≠ 0 then old else ⟨1, a.1.val⟩
      | none => if old.id = 1 then old else RgnAlloc.free
    SMap.put RgnAlloc.free m r now) []

/-- R151, R359: the handle table, with pins, and the allocations. -/
def State.putMap (s : State) (x : XferIn) : State :=
  s.updPlc fun p =>
    { p with
      home := x.home.foldl (fun m e => SMap.put (homeSlot e.1.val) m e.1.val e.2.val) []
      pins := x.pins.foldl (fun m e => SMap.put 0 m e.1.val (e.2.val + 1)) []
      hmBad := []
      migs := []
      done := []
      again := []
      wrote := []
      allocs := x.allocs.map fun a => ⟨a.1.val, a.2.1.val, a.2.2.val⟩
      nextAlloc := x.nextAlloc.val
      rgn := putRegions x p.rgn }

/-- R359: the context store, the waiting groups, the quarantine map, the safe table and the samples. -/
def State.putContexts (s : State) (x : XferIn) : State :=
  let safe := x.safe.foldl (fun m e => SMap.put ⟨0, 0⟩ m e.1.val ⟨e.2.2, e.2.1.val⟩) []
  let s := s.updCtx fun c =>
    { c with
      store := x.words.foldl (fun m e => SMap.put 0 m e.1.val e.2) []
      ecc := []
      flip := []
      due := []
      load := []
      waiting := x.groups.map fun g => ⟨g.1.toNat, g.2.map xferEntry, 0, false, true⟩
      quar := x.quar.foldl (fun m e => SMap.put 0 m e.1.val (e.2.toNat + 1)) []
      qmapBad := []
      once := []
      safe := safe
      safeW := safe
      safeDirty := []
      safeBad := []
      perr := []
      smp := x.smps.foldl (fun m e => SMap.put Sample.none m e.1.val ⟨e.2.1, e.2.2.1, e.2.2.2.toNat⟩) []
      fill := [] }
  let s := s.updCtx fun c => { c with lastId := s.fld pCTX CTX_GSTAT_LASTID }
  let hs := (x.words.filter fun e => e.1.val % 64 = 0).filterMap fun e => s.owner (e.1.val / 64)
  hs.foldl (fun s h => (s.setDue h).updCtx fun c =>
    { c with load := SMap.put Load.none c.load h (s.loadOf h) }) s

/-- R359: the class tables, FCALL ports, microcode and pattern RAM. -/
def State.putTables (s : State) (x : XferIn) : State :=
  s.updJer fun j =>
    { j with
      inf := xferTable x.inf
      pend := xferTable x.pend
      portAct := x.ports.foldl (fun m e => SMap.put 0 m e.1.val e.2.toNat) []
      mc := x.mc.foldl (fun m e => SMap.put 0 m e.1.val e.2) []
      mcBad := []
      mcRepair := []
      pat := x.pat.foldl (fun m e => SMap.put 0 m e.1.toNat e.2) [] }

/-- R359: the frame controller's state that no register shows. -/
def State.putFrm (s : State) : State :=
  let src := s.fld pFRM FRM_CTRL_SRC + 4 * s.fld pFRM FRM_CTRL_ANGSEL
  let s := s.updFrm fun f =>
    { f with
      issued := []
      held := false
      inFrame := false
      fromStop := decide (s.frmState = 0)
      timerNext := none
      minperPend := none
      minperAdm := s.fld pFRM FRM_MINPER_ACT_VALUE
      srcPend := none
      admQ := [] }
  (s.updCtx fun c => { c with bvalid := false }).updTwn fun w =>
    { w.fresh with local_ := w.local_, batches := w.batches, srcFwd := src, xfer := 1, xferAt := s.time }

/-- R360: the frame N in which records were read is made up for: the visits of those read before their visits are
due, from the forwarded record of that frame; the apply actions follow when the next record comes (log entry 135). -/
def State.replayFrame (s : State) (r : FrameRec) (tags : List (Handle × Fin 3)) : State :=
  let s := s.setFn r.fn
  let slots := (tags.filter fun x => x.2 = 0).map fun x => s.phys x.1.val
  let full := (List.range 32).map fun e => if r.idle && !s.bit pFRM FRM_CTRL_IDLERUN then [] else s.dueList e r.fn
  let s := s.updJer fun j => { j with snap := SMap.putAll 0 [] 0 r.snap }
  let s := s.updCtx fun c =>
    { c with
      bstore := c.store, becc := c.ecc, bflip := c.flip, bhome := s.plc.home, bquar := c.quar, bvalid := true
      safeSlots := [] }
  let s := s.updFrm fun f =>
    { f with
      start := s.time, last := some s.time, inFrame := true, fromStop := false
      empty := r.idle && !s.bit pFRM FRM_CTRL_IDLERUN, computed := false, deadline := false, window := false }
  let s := (List.range 32).foldl (fun s e =>
    let due := (full.getD e []).filter slots.contains
    s.updEng e fun _ => { Eng.idle with due := due, nDue := due.length }) s
  s.updTwn fun w => { w with replay := some (slots, full) }

/-- R359: STATE_TRANSFER: at the standby, with the items; at the primary, whose partner is then in RESYNC. -/
def execStateTransfer (t : Time) (x : Option XferIn) (s : State) : Host.Outcome State Fault Refusal :=
  let s := s.at_ t
  .next (if s.bit pTWN TWN_STAT_LINKUP = false then s
  else if s.role = 1 then s.setFld pTWN TWN_STAT_PAIRED 1
  else
    match x with
    | some x =>
      if s.role = 2 ∧ s.fld pTWN TWN_STAT_SSTATE ≠ 3 then
        let s := x.regs.foldl (fun s e => s.putReg e.1.toNat e.2.toNat) s
        let s := (((s.putMap x).putContexts x).putTables x).putFrm
        let s := match x.frame with
          | some r => if s.frmState = 1 then s.replayFrame (recAt r s.time) x.tags else s
          | none => s
        ((s.recount).setFld pTWN TWN_STAT_SSTATE 2).setFld pTWN TWN_JOINSTAT_PCT 100
      else s
    | none => s)

/-- R361: the frame that starts at the boundary of now, or that starts next. -/
def State.syncFn (s : State) : Nat := if s.frm.inFrame ∧ s.frm.start = s.time then s.fn else s.nextFn

/-- R361: SYNCED: every item is held and brought up to date. -/
def execSynced (t : Time) (s : State) : Host.Outcome State Fault Refusal :=
  let s := s.at_ t
  .next (if s.role = 2 ∧ s.fld pTWN TWN_STAT_SSTATE = 2 ∧ s.twn.xfer = 1 ∧ s.twn.replay = none then
    let s := (s.setFld pTWN TWN_STAT_SSTATE 3).updTwn fun w => { w with matched := false, cmpFrom := s.syncFn }
    let s := s.setFld pTWN TWN_RSYNC_LAST (Nat.min 65535 ((s.time - s.twn.xferAt) / 10000))
    (s.addWrap pTWN TWN_RSYNC_COUNT 1).irq pTWN TWN_E_SYNCDONE
  else s)

/-! ## Failover (R363 to R367) -/

/-- R47: a standby enters HOLD where the primary did. -/
def State.standbyHold (s : State) (t : Nat) : State :=
  let s := (s.at_ t).standbyWindow
  let late := s.overruns t
  let s := s.finishFrame t
  s.enterHold t ((s.holdCause late).getD 1)

/-- R363: a heartbeat is missed. -/
def State.missHeartbeat (s : State) : State :=
  let s := ((s.addSat pTWN TWN_CNT1_HBMISS 1).err pTWN TWN_E_HBMISS).contained
  let s := s.updTwn fun w => { w with miss := w.miss + 1 }
  if 2 ≤ s.twn.miss ∧ s.bit pTWN TWN_CTRL_AUTOPROMO = true ∧ s.inelig = 0 then
    s.updTwn fun w => { w with promo := 1, promoAt := s.time }
  else s

/-- R363: the next expected frame start by the standby's own fallback timer, which restarts at every record. -/
def State.ownFallback (s : State) : Time := Nat.max s.twn.expAt s.frm.start + s.fallbackNs

/-- R363: the earliest expected frame start that no record has met. -/
def State.expected (s : State) : Time :=
  match s.twn.expect with
  | e :: _ => Nat.min e s.ownFallback
  | [] => s.ownFallback

/-- R363: the expected start `e` is over. -/
def State.passStart (s : State) (e : Time) : State :=
  let fb := s.ownFallback
  s.updTwn fun w => { w with expect := w.expect.filter (e < ·), expAt := if e = fb then e else w.expAt }

/-- R363: HEARTBEAT_MISS: HBWIN after an expected frame start of a standby in RUN. A pulse without a record
shows HOLD, where a cause of HOLD waits, and else is cause 4 of R362. -/
def execHeartbeatMiss (t : Time) (s : State) : Host.Outcome State Fault Refusal :=
  let s := s.at_ t
  let e := s.expected
  .next (if s.role ≠ 2 ∨ s.frmState ≠ 1 ∨ s.twn.xfer = 0 ∨ s.time < e + s.hbWin then s
  else
  let s := s.passStart e
  if s.twn.gotRec.isSome || s.beatAt e s.frm.last then s
  else if s.beatAt e s.twn.liveAt then
    if (s.holdCause false).isSome then s.standbyHold s.time
    else s.updTwn fun w => { w with missed := true, miss := 0 }
  else s.missHeartbeat)

/-- R364: PARTNER_HLTH_LOW: it has stayed low for so long; 1.0 µs promotes. -/
def execPartnerHlthLow (x : PinFor) (s : State) : Host.Outcome State Fault Refusal :=
  let s := s.at_ x.t
  .next (if !s.clkOn pTWN then s
  else
    let s := s.setFld pTWN TWN_STAT_PHLTH 0
    if 1000 ≤ x.ns ∧ s.bit pTWN TWN_CTRL_FLTPROMO = true ∧ s.inelig = 0 then
      s.updTwn fun w => { w with promo := 2, promoAt := s.time }
    else s)

/-- R364: when a standby that is about to promote itself starts to watch partner LIVE: once its compute is complete. -/
def State.watchFrom (s : State) : Time :=
  if s.frm.inFrame then Nat.max s.twn.promoAt (s.frm.start + s.computeNs) else s.twn.promoAt

/-- R364: PROMOTION: the compute is complete and partner LIVE has been watched for 2.0 µs; `pulse` when a
pulse came. -/
def execPromotion (t : Time) (pulse : Bool) (s : State) : Host.Outcome State Fault Refusal :=
  let s := s.at_ t
  let live := match s.twn.liveAt with
    | some a => decide (s.watchFrom ≤ a)
    | none => false
  .next (if s.role ≠ 2 ∨ s.twn.promo = 0 ∨ (s.computing && !s.enginesDone) = true then s
  else if pulse || live then
    ((s.err pTWN TWN_E_SPLIT).contained).updTwn fun w => { w with promo := 0, miss := 0, missed := true }
  else if s.time < s.watchFrom + 2000 then s
  else s.becomePrimary s.time s.twn.promo none)

/-- R365: a port stops sending frames. -/
def fencePort (p : Lnk) : Lnk := { p with txOn := false, emitAt := none, parts := [], segs := [] }

/-- R365: a primary fences itself: its frame controller enters HOLD at the next boundary, or at once when it
is not in RUN. -/
def State.fence (s : State) : State :=
  let s := (s.setFld pTWN TWN_STAT_ROLE 3).unpair.mapLinks fencePort
  let s := ((s.err pTWN TWN_E_FENCED).contained).log pTWN 0x0C2 3 0
  match s.frmState with
  | 1 => s.updFrm fun f => { f with roleHold := true }
  | 2 => s.holdCauseArises 5
  | _ => (s.setFld pFRM FRM_STAT_STATE 2).setFld pFRM FRM_STAT_HOLDCAUSE 5

/-- R348, R365: PARTNER_LIVE: a high level, which from 40 ns on counts as a pulse, with the level of partner HLTH. -/
def execPartnerLive (t : Time) (x : LiveIn) (s : State) : Host.Outcome State Fault Refusal :=
  let s := s.at_ t
  .next (if !s.clkOn pTWN then s
  else
    let s := s.setBit pTWN TWN_STAT_PHLTH x.hlth
    if x.width < 40 then s
    else
      let s := s.updTwn fun w => { w with liveAt := some s.time }
      if s.role = 1 then s.fence else s)

/-- R348: the shortest time between two pulses in STOP and HOLD, 50.0 µs less 1 %, has passed. -/
def State.pulseDue (s : State) : Bool :=
  match s.twn.pulseAt with
  | some a => decide (a + 49500 ≤ s.time)
  | none => true

/-- R348: LIVE_PULSE: every 50.0 µs in STOP and HOLD. -/
def execLivePulse (t : Time) (s : State) : Host.Outcome State Fault Refusal :=
  let s := s.at_ t
  .next (if s.role = 1 ∧ s.frmState ≠ 1 ∧ s.pulseDue = true then s.updTwn (Twn.pulse s.time) else s)

end Sys2Proof.Machine
end

