-- ==== Sys2Proof/Machine/Router.lean ====
section
/-! DEFINITION. What a write or a read of any register does (spec/18_host.md): the common header (R414 to
R418), the registers of each page under their access types (R5), and the windows of BAR2 (R412). -/

namespace Sys2Proof.Machine

/-! ## Snapshots (R416) -/

/-- R416: a write of 1 to FREEZE: the counters and records of the page as they stand. -/
def State.freezePage (s : State) (p : Nat) : State :=
  let m := ((fieldsOf p).filter Fld.snap).foldl
    (fun m f => SMap.put 0 m (fldKey p f) ((s.derived p f).getD (s.fld p f) % 2 ^ f.wid)) s.hst.frozen
  (s.updHst fun h => { h with frozen := m }).setFld p HDR_PG_CTRL_FREEZE 1

/-- R416: a write of 0 to FREEZE. -/
def State.thawPage (s : State) (p : Nat) : State :=
  (s.updHst fun h => { h with frozen := SMap.clearRange h.frozen (p * 131072) ((p + 1) * 131072) }).setFld p
    HDR_PG_CTRL_FREEZE 0

/-- R416: FREEZE has no effect in these pages, and reads 0. -/
def noFreeze (p : Nat) : Bool :=
  match pgClass p with
  | .sys => true | .lcs => true | .svc => true | .fls => true | .log => true | .pwr => true | .err => true
  | .je => true
  | _ => false

/-- R416: a write of PG_CTRL.FREEZE. -/
def State.doFreeze (s : State) (p : Nat) (on : Bool) : State :=
  if noFreeze p then s else if on then s.freezePage p else s.thawPage p

/-! ## Enables (R112, R417) -/

/-- PG_CTRL.EN of these pages reads 1 and ignores writes. -/
def fixedEn (p : Nat) : Bool :=
  match pgClass p with
  | .sys => true | .lcs => true | .svc => true | .fls => true | .log => true | .pwr => true | .err => true
  | .pci => true | .tul => true | .rgn => true | .clk => true | .twn => true | .reserved => true
  | _ => false

/-- R417: a write of EN = 0 is accepted. -/
def State.mayDisable (s : State) (p : Nat) : Bool :=
  match pgClass p with
  | .frm => decide (s.frmState = 0)
  | .ctx => decide (s.frmState = 0) && s.ctx.open_.isEmpty && s.ctx.waiting.isEmpty
  | .plc => decide (s.frmState = 0) && s.plc.migs.isEmpty && decide (s.fld pPLC PLC_STAT_EXCLSTATE = 0)
  | .cfg => decide (s.fld pCFG CFG_ASSTAT_STATE = 0) && s.cfg.voile.all fun x => decide (x.2.state ≠ 1)
  | .je => decide (s.fld pPLC PLC_STAT_EXCLSTATE = 2) && decide (s.fld pPLC PLC_STAT_EXCLBANK = p - 32)
  | _ => true

/-- R112, R417: a write of PG_CTRL.EN. -/
def State.doEn (s : State) (p : Nat) (en : Bool) : State :=
  if fixedEn p then s
  else if !en && !s.mayDisable p then (if pgClass p = .je then s.err p JE_E_ENBUSY else s)
  else match pgClass p with
    | .ul => s.setUlEn (p - 128) en
    | .ang => s.setAngEn (p - 24) en
    | .adc =>
      let s := s.setBit p HDR_PG_CTRL_EN en
      if en then s else s.updPwr fun x => { x with adcMask := 0 }
    | _ => s.setBit p HDR_PG_CTRL_EN en

/-! ## Soft reset (R112, R416, R417) -/

/-- R416: the registers of a page return to their reset values, but for EN and PG_LOCK and the fields that
`keep` names. -/
def State.softRegs (s : State) (p : Nat) (keep : Fld → Bool) : State :=
  let stay := (fieldsOf p).filter fun f =>
    f.off = HDR_PG_CTRL_EN.off ∧ f.lo = HDR_PG_CTRL_EN.lo ∨ f.off = HDR_PG_LOCK_LOCKED.off ∨ keep f
  let n := (s.thawPage p).resetPage p
  (stay.foldl (fun n f => n.setFld p f (s.fld p f)) n).noteVec (vecOf p)

/-- R417: the counters and recorded fields of a page are cleared. -/
def State.clearRecords (s : State) (p : Nat) : State :=
  ((fieldsOf p).filter Fld.snap).foldl (fun s f => s.setFld p f (resetVal p f)) s

/-- R417: the soft reset of the FRM page. -/
def State.softFrm (s : State) : State :=
  let s := s.softRegs pFRM fun f => decide (0x5C ≤ f.off ∧ f.off ≤ 0x68)
  s.updFrm fun f =>
    { Frm.reset with
      tickIn := f.tickIn
      fromStop := f.fromStop
      last := f.last
      admQ := f.admQ.filter fun q => match q with
        | .minper _ => false
        | _ => true }

/-- R89, R417: the soft reset of the CTX page. -/
def State.softCtx (s : State) : State :=
  let s := (s.softRegs pCTX fun _ => false).updCtx fun _ => Ctx.reset
  s.updFrm fun f =>
    { f with admQ := f.admQ.filter fun q => match q with
        | .group _ => false
        | _ => true }

/-- R417: the soft reset of the PLC page. -/
def State.softPlc (s : State) : State := (s.clearRecords pPLC).clearHistory

/-- R417: the soft reset of the CFG page. -/
def State.softCfg (s : State) : State :=
  let s := s.softRegs pCFG fun f => decide (f.off ≤ CFG_BOOTVER_IMGVER.off ∧ CFG_BOOT_SLOT.off ≤ f.off)
  s.updCfg fun c => { c with rqto := [], chk := 0, forced := 0 }

/-- R417: the soft reset of an IOB page. -/
def State.softIob (s : State) (b : Nat) : State :=
  let s := s.setFld (pIOB b) IOB_CTRL_VIO 0
  (s.updFab fun f => { f with pincfg := SMap.clearRange f.pincfg (b * 48) (b * 48 + 48) }).vioCheck b

/-- R112: the soft reset of a JE page. -/
def State.softJe (s : State) (p : Nat) : State :=
  let fs := [JE_FLTCNT_COUNT, JE_FLTLAST_VALID, JE_FLTLAST_CAUSE, JE_FLTLAST_PLANE, JE_FLTLAST_ADDR,
    JE_FLTHDL_HANDLE, JE_VISITS_COUNT, JE_LOADMAX_CYCLES]
  let fs := if p = 32 then fs ++ [JE_MCSTAT_REPAIRS] else fs
  fs.foldl (fun s f => s.setFld p f 0) s

/-- R112, R416, R417: a write of 1 to PG_CTRL.SRST. -/
def State.doSrst (s : State) (p : Nat) : State :=
  match pgClass p with
  | .je => s.softJe p
  | .tul => s.clearRecords p
  | .rgn => s.clearRecords p
  | .clk => s.clearRecords p
  | .twn => if s.role = 0 then s.clearRecords p else s
  | c =>
    if s.bit p HDR_PG_CTRL_EN then s
    else match c with
      | .frm => s.softFrm
      | .ctx => s.softCtx
      | .plc => s.softPlc
      | .cfg => s.softCfg
      | .iob => s.softIob (p - 256)
      | .ul => (s.softRegs p fun _ => false).updLink (p - 128) fun _ => Lnk.down
      | .ang =>
        (s.softRegs p fun _ => false).updAng (p - 24) fun g => { Ang.off with a := g.a, b := g.b }
      | .adc => (s.softRegs p fun _ => false).updPwr fun x => { x with adcMask := 0 }
      | _ => s

/-- R416: a write of PG_CTRL: EN acts first, then SRST, then FREEZE. -/
def State.doPgCtrl (s : State) (p v : Nat) : State :=
  let s := s.doEn p (decide (HDR_PG_CTRL_EN.of v = 1))
  let s := if HDR_PG_CTRL_SRST.of v = 1 then s.doSrst p else s
  s.doFreeze p (decide (HDR_PG_CTRL_FREEZE.of v = 1))

/-! ## The rest of the header (R415, R418, R420) -/

/-- A write of 1 clears, but a bit that an event sets in the same instant stays set (R7). -/
def State.w1c (s : State) (p : Nat) (f : Fld) (v : Nat) : State :=
  s.setFld p f (s.fld p f &&& ((2 ^ 32 - 1 - v % 2 ^ 32) ||| s.freshBits p f))

/-- R420: a write of PG_IRQST; the vector's message goes again while it is still asserted. -/
def State.doIrqst (s : State) (p v : Nat) : State :=
  let s := (s.w1c p HDR_PG_IRQST_ST v).noteVec (vecOf p)
  if s.vecOn (vecOf p) then s.sendOrPend (vecOf p) else s

/-- R418: a write of PG_LOCK. -/
def State.doLock (s : State) (p v : Nat) : State :=
  if HDR_PG_LOCK_KEY.of v ≠ 0xC10C then s.setFld p HDR_PG_LOCK_VIOL 1
  else
    let s := if HDR_PG_LOCK_VIOL.of v = 1 then s.setFld p HDR_PG_LOCK_VIOL 0 else s
    s.store p HDR_PG_LOCK_LOCKED v

/-- A write of a header offset. -/
def State.doHdr (s : State) (p o v : Nat) : State :=
  match o with
  | 0x08 => s.doPgCtrl p v
  | 0x0C => s.w1c p HDR_PG_ERR_ERR v
  | 0x10 => (s.setFld p HDR_PG_ERRMSK_MASK (v &&& errMask (pgClass p))).noteVec (vecOf p)
  | 0x14 => (s.setFld p HDR_PG_IRQEN_EN v).noteVec (vecOf p)
  | 0x18 => s.doIrqst p v
  | 0x1C => s.doLock p v
  | _ => s

/-! ## Registers of the pages -/

/-- R64: a seed word as it is stored. -/
def seedOf (v : Nat) : Nat := if 16 ≤ v ∧ v ≤ 63 then v else 0

/-- A write of offset `o` of the CTX page. -/
def State.doCtx (s : State) (o v : Nat) : State :=
  match o with
  | 0x40 => ((s.store pCTX CTX_CTRL_SCRUBRATE v).store pCTX CTX_CTRL_SAFEINC v).store pCTX CTX_CTRL_SCRUBEN v
  | 0x48 => s.doCommit v
  | 0x58 => s.doQrel v
  | 0x6C => (s.store pCTX CTX_SAFEIDX_LINK v).store pCTX CTX_SAFEIDX_SLOT v
  | 0x70 => s.doSafedata v
  | 0x74 => (s.store pCTX CTX_SMPIDX_LINK v).store pCTX CTX_SMPIDX_SLOT v
  | _ =>
    if 0x80 ≤ o ∧ o < 0xC0 then
      let i := (o - 0x80) / 4
      [CTX_SEEDW_SEED0 i, CTX_SEEDW_SEED1 i, CTX_SEEDW_SEED2 i, CTX_SEEDW_SEED3 i].foldl
        (fun s f => s.setFld pCTX f (seedOf (f.of v))) s
    else s

/-- A write of offset `o` of the JE00 page. -/
def State.doJe (s : State) (o v : Nat) : State :=
  match o with
  | 0x80 => ((s.store (pJE 0) JE_MCADDR_AUTOINC v).store (pJE 0) JE_MCADDR_PLANE v).store (pJE 0) JE_MCADDR_ADDR v
  | 0x84 => s.doMcdata0 v
  | 0x88 => s.doMcdata1 v
  | 0x90 => s.store (pJE 0) JE_CTIDX_CLASS v
  | 0x94 => s.doCtdata v
  | 0x9C => s.doCtcmd v
  | _ => if 0xC0 ≤ o ∧ o < 0x100 then s.doFctgt ((o - 0xC0) / 4) v else s

/-- A write of offset `o` of a UL page. -/
def State.doUl (s : State) (l o v : Nat) : State :=
  let p := pUL l
  match o with
  | 0x40 =>
    let s := (s.store p UL_CTRL_TXDLY v).setFld p UL_CTRL_WDT (Nat.max 2 (UL_CTRL_WDT.of v))
    (s.store p UL_CTRL_SLEW v).store p UL_CTRL_AUTOTRAIN v
  | 0x44 => s.doUlCmd l v
  | 0x48 =>
    let s := (s.store p UL_TRNCFG_LOSSMODE v).setFld p UL_TRNCFG_FWDT (Nat.max 1 (UL_TRNCFG_FWDT.of v))
    s.setFld p UL_TRNCFG_MWDT (Nat.max 2 (UL_TRNCFG_MWDT.of v))
  | 0x50 => s.store p UL_MODIDX_POS v
  | _ => s

/-- A write of offset `o` of the CFG page. -/
def State.doCfg (s : State) (o v : Nat) : State :=
  let mask (f : Fld) : State := if s.cfg.as.isSome then s else s.store pCFG f v
  match o with
  | 0x4C => s.doAscmd v
  | 0x50 => mask CFG_ASSWAP_LO_MASK
  | 0x54 => mask CFG_ASSWAP_HI_MASK
  | 0x58 => mask CFG_ASUNLD_LO_MASK
  | 0x5C => mask CFG_ASUNLD_HI_MASK
  | 0x60 => s.store pCFG CFG_ASOPT_CT v
  | 0x64 => s.store pCFG CFG_ASFN_LO_FN v
  | 0x68 => s.store pCFG CFG_ASFN_HI_FN v
  | 0x74 => s.store pCFG CFG_RIDX_REGION v
  | 0x80 =>
    let r := s.fld pCFG CFG_RIDX_REGION
    s.updCfg fun c => { c with rqto := SMap.put 100 c.rqto r (Nat.max 1 (CFG_RQTO_QTO.of v)) }
  | 0x88 => s.doStgctl v
  | 0x8C => s.setFld pCFG CFG_STGTO_TIME (Nat.max 1 (CFG_STGTO_TIME.of v))
  | _ => s

/-- A write of offset `o` of the SVC page. -/
def State.doSvc (s : State) (o v : Nat) : State :=
  if o = 0x60 then s.doSvcCmd v
  else if 0x40 ≤ o ∧ o < 0x60 then s.store pSVC (SVC_ARG_VALUE ((o - 0x40) / 4)) v
  else s

/-- A write of offset `o` of the FLS page. -/
def State.doFls (s : State) (o v : Nat) : State :=
  match o with
  | 0x40 =>
    let s := s.setFld pFLS FLS_CTRL_SUSPMIN (Nat.max 400 (FLS_CTRL_SUSPMIN.of v))
    let s := s.setFld pFLS FLS_CTRL_MWTHR (Nat.min 8 (Nat.max 1 (FLS_CTRL_MWTHR.of v)))
    s.setFld pFLS FLS_CTRL_ERSLOW (Nat.min 39 (Nat.max 1 (FLS_CTRL_ERSLOW.of v)))
  | 0x4C => s.store pFLS FLS_BBIDX_ENTRY v
  | _ => s

/-- A write of offset `o` of a CLK page. -/
def State.doClk (s : State) (n o v : Nat) : State :=
  match o with
  | 0x40 => s.doClkCtrl n v
  | 0x48 => s.doMult n v
  | 0x50 => s.doDiv n v
  | 0x54 => s.doPhase n v
  | 0x58 => s.store (pCLK n) CLK_BANDIDX_BAND v
  | 0x5C => s.doBanddata n v
  | 0x60 => if n = 0 then s.setFld (pCLK 0) CLK_REFMON_COASTLIM (Nat.max 1 (CLK_REFMON_COASTLIM.of v)) else s
  | _ => s

/-- Cells that do everything asked of them: a write that comes by a path without a row of its own carries no
outcome of the flash. -/
def soundCells : FlashEnv := ⟨[], 0, [], [], []⟩

/-- A write of offset `o` of the LCS page. -/
def State.doLcs (s : State) (o v : Nat) : State :=
  match o with
  | 0x44 => s.doTransition v soundCells (false, false) none
  | 0x60 => s.doCertcmd v
  | _ =>
    if 0x100 ≤ o ∧ o < 0x200 then
      if s.pwr.certBusy then s.err pLCS LCS_E_LCSWR else s.store pLCS (LCS_CERT_BYTES ((o - 0x100) / 4)) v
    else s

/-- A write of offset `o` of the TWN page; what the partner reports is open on this path. -/
def State.doTwn (s : State) (o v : Nat) : State :=
  match o with
  | 0x40 =>
    let s := s.setFld pTWN TWN_CTRL_LAGMAX (Nat.max 1 (TWN_CTRL_LAGMAX.of v))
    let s := s.setFld pTWN TWN_CTRL_HBWIN (Nat.min 100 (Nat.max 5 (TWN_CTRL_HBWIN.of v)))
    (s.store pTWN TWN_CTRL_FLTPROMO v).store pTWN TWN_CTRL_AUTOPROMO v
  | 0x44 =>
    let (a, s) := s.takeFree 1
    let (b, s) := s.takeFree 1
    s.doTwnCmd v (decide (a = 1)) (decide (b = 1))
  | _ => s

/-- A write of offset `o` of the SYS page. -/
def State.doSys (s : State) (o v : Nat) : State :=
  match o with
  | 0x40 => s.doReset v
  | 0x44 => s.doIohold v
  | 0x58 => s.store pSYS SYS_SCRATCH_VALUE v
  | _ => s

/-- R420: vector `v` is unmasked: one message for a pending bit whose vector is still asserted. -/
def State.unmasked (s : State) (v : Nat) : State :=
  if s.hst.pba.testBit v && !s.vecMasked v then
    let s := s.updHst fun h => { h with pba := h.pba - 2 ^ v }
    if s.vecOn v then s.sendOrPend v else s
  else s

/-- R405: a write of dword `k` of the MSI-X table. -/
def State.doMsix (s : State) (k v : Nat) : State :=
  let x := if k % 4 = 3 then v % 2 else v
  (s.updHst fun h => { h with msix := SMap.put (msixReset k) h.msix k x }).unmasked (k / 4)

/-- A write of offset `o` of the PCI page: the MSI-X table. -/
def State.doPci (s : State) (o v : Nat) : State :=
  if 0x800 ≤ o ∧ o < 0xA00 then s.doMsix ((o - 0x800) / 4) v else s

/-- A write of offset `o` from 0x040 of a page; `sp` over the service port. -/
def State.doBlock (s : State) (sp : Bool) (p o v : Nat) : State :=
  match pgClass p with
  | .frm => s.doFrm o v | .ctx => s.doCtx o v | .je => if p = 32 then s.doJe o v else s
  | .plc => s.writePlc o v | .ul => s.doUl (p - 128) o v | .ang => s.doAng (p - 24) o v
  | .rgn => if o = 0x48 then s.store p RGN_PORTIDX_PORT v else s
  | .tul => s.doTul o v | .iob => s.doIob (p - 256) o v | .cfg => s.doCfg o v | .svc => s.doSvc o v
  | .fls => s.doFls o v | .clk => s.doClk (p - 16) o v | .pwr => s.doPwr sp o v | .adc => s.doAdc o v
  | .lcs => s.doLcs o v | .twn => s.doTwn o v | .log => s.doLog o v | .sys => s.doSys o v
  | .pci => s.doPci o v | .err => s | .reserved => s

/-- What a write of BAR0 offset `off` does once nothing drops it. -/
def State.regEffect (s : State) (sp : Bool) (off v : Nat) : State :=
  let p := off / 4096
  let o := off % 4096
  if o < 0x40 then s.doHdr p o v else s.doBlock sp p o v

/-! ## Addresses that name nothing (R410 to R412) -/

/-- R411, R412: an access to a reserved page or an unmapped offset. -/
def State.badAddr (s : State) (bar2 write : Bool) (off : Nat) : State :=
  let s := s.err pPCI PCI_E_UNMAPPED
  if s.bit pPCI PCI_BADADDR_VALID then s
  else (((s.setFld pPCI PCI_BADADDR_VALID 1).setBit pPCI PCI_BADADDR_BAR2 bar2).setBit pPCI PCI_BADADDR_WRITE
    write).setFld pPCI PCI_BADADDR_OFFSET off

/-- R411: the offset lies in a reserved page. -/
def reservedAt (off : Nat) : Bool := decide (pgClass (off / 4096) = .reserved)

/-- A host write of BAR0 offset `off`, with all four byte enables. -/
def State.hostReg (s : State) (t : Time) (off v : Nat) : State :=
  if reservedAt off then
    let s := s.at_ t
    if !s.hostUp then s else if s.pwr.pfwBlock then s.dropWrite else s.badAddr false true off
  else s.hostWrite t off v fun s => s.regEffect false off v

/-! ## Reads (R5, R24, R416) -/

/-- R7: a field as it stood when the present instant began. -/
def State.before (s : State) (p : Nat) (f : Fld) : Nat := SMap.get (resetVal p f) s.inst.flds (fldKey p f)

/-- The read-clear fields that hold the largest value since their last read, and no count or record. -/
def isMax (f : Fld) : Bool :=
  [FRM_CMPMAX_MAX, JE_LOADMAX_CYCLES, UL_DSMAX_MAX, TWN_LAG_MAX, PCI_NPOUT_MAX].contains f

/-- R7: what a read-clear field holds after a read: 0, or the update of an event of the same instant, which
is what it has added to a counter and the whole of any other field. -/
def rcHolds (f : Fld) (before now : Nat) : Nat :=
  if now = before then 0 else if isMax f ∨ now < before then now else now - before

/-- The read-clear fields of a register. -/
def rcFields (p o : Nat) : List Fld := (fieldsOf p).filter fun f => f.off = o ∧ f.acc = .rc

/-- R5, R7: a read clears one field; a further read of the same instant takes it as it now stands. -/
def State.clearOne (p : Nat) (s : State) (f : Fld) : State :=
  let s' := s.setFld p f (rcHolds f (s.before p f) (s.fld p f))
  { s' with inst := { s'.inst with flds := SMap.put (resetVal p f) s'.inst.flds (fldKey p f) 0 } }

/-- R5, R7: the read-clear fields of a register clear, but under FREEZE. FLTHDL clears with FLTLAST.VALID. -/
def State.clearRc (s : State) (p o : Nat) : State :=
  if s.fld p HDR_PG_CTRL_FREEZE ≠ 0 then s
  else
    let s' := (rcFields p o).foldl (State.clearOne p) s
    if pgClass p = .je ∧ o = 0x54 ∧ s'.fld p JE_FLTLAST_VALID = 0 then s'.setFld p JE_FLTHDL_HANDLE 0 else s'

/-- R7: a register as a read returns it that coincides with events: its read-clear fields as before them. -/
def State.rewind (s : State) (p o : Nat) : State :=
  (rcFields p o).foldl (fun s f => s.setFld p f (s.before p f)) s

/-- R7, R40: a read of ADMREF clears ADMREF and ADMREQ, but under FREEZE. -/
def State.readAdmref (s : State) : Nat × State :=
  ((s.rewind pFRM 0x8C).regValue pFRM 0x8C, (s.clearRc pFRM 0x8C).clearRc pFRM 0x90)

/-- R40: ADMREF_READ. -/
def execAdmrefRead (t : Time) (s : State) : Host.Outcome State Fault Refusal :=
  .next (s.hostRead t (pFRM * 4096 + 0x8C) fun s => s.readAdmref.2.answer [s.readAdmref.1])

/-- R137: a read of HMAP uses the entry of the handle in HIDX. -/
def State.readHmap (s : State) : Nat × State :=
  let s := s.hmCheck (s.fld pPLC PLC_HIDX_HANDLE)
  (s.regValue pPLC 0x5C, s)

/-- R24: CONF_LO captures CONF_HI. -/
def State.readConfLo (s : State) : Nat × State :=
  (s.fld pTWN TWN_CONF_LO_CONF, s.updHst fun h => { h with confCap := some (s.fld pTWN TWN_CONF_HI_CONF) })

/-- R24: CONF_HI. -/
def State.readConfHi (s : State) : Nat × State :=
  match s.hst.confCap with
  | some v => (v, s.updHst fun h => { h with confCap := none })
  | none => (s.fld pTWN TWN_CONF_HI_CONF, s)

/-- A plain read: the value, then the read-clear fields clear. -/
def State.readPlain (s : State) (p o : Nat) : Nat × State := ((s.rewind p o).regValue p o, s.clearRc p o)

/-- R405: dword reads of the MSI-X table and the pending bits. -/
def State.readPci (s : State) (o : Nat) : Nat × State :=
  if 0x800 ≤ o ∧ o < 0xA00 then
    let k := (o - 0x800) / 4
    (SMap.get (msixReset k) s.hst.msix k, s)
  else if o = 0xC00 then (s.hst.pba % 2 ^ 32, s)
  else s.readPlain pPCI o

/-- Reads of the CTX page: an index past the last slot is an error (R68). -/
def State.readCtx (s : State) (o : Nat) : Nat × State :=
  if o = 0x70 then s.readSafedata
  else if (o = 0x78 ∨ o = 0x7C) ∧ 383 < s.fld pCTX CTX_SMPIDX_SLOT then (0, s.err pCTX CTX_E_ADDR)
  else s.readPlain pCTX o

/-- A read of BAR0 offset `off`, of a page that is not reserved. -/
def State.readReg (s : State) (off : Nat) : Nat × State :=
  let p := off / 4096
  let o := off % 4096
  match pgClass p, o with
  | .frm, 0x5C => s.readFnLo
  | .frm, 0x60 => s.readFnHi
  | .frm, 0x8C => s.readAdmref
  | .plc, 0x5C => s.readHmap
  | .ctx, _ => s.readCtx o
  | .ang, 0x74 => s.readTslastLo (p - 24)
  | .ang, 0x78 => s.readTslastHi (p - 24)
  | .clk, 0x4C => s.readMact (p - 16)
  | .clk, 0x68 => if p = 16 then s.readTimeLo else s.readPlain p o
  | .clk, 0x6C => if p = 16 then s.readTimeHi else s.readPlain p o
  | .svc, 0x6C => s.readCpl
  | .log, 0x54 => s.readEnt0
  | .twn, 0x4C => s.readConfLo
  | .twn, 0x50 => s.readConfHi
  | .pci, _ => s.readPci o
  | _, _ => s.readPlain p o

/-- R410: the enabled bytes of a dword. -/
def maskBytes (v be : Nat) : Nat :=
  ((List.range 4).map fun i => if be.testBit i then v / 2 ^ (8 * i) % 256 * 2 ^ (8 * i) else 0).sum

/-- A host read of BAR0 offset `off`. -/
def State.hostRegRead (s : State) (t : Time) (off be : Nat) : State :=
  if reservedAt off then
    let s := s.at_ t
    if !s.hostUp then s.answer [] else (s.badAddr false false off).answer [0]
  else
    s.hostRead t off fun s =>
      let (v, s) := s.readReg off
      s.answer [maskBytes v be]

/-! ## BAR2 (R412) -/

/-- R412: the windows. -/
inductive Window where
  | ctx | pat | staging | fabric | none
  deriving DecidableEq, Repr

/-- R412: the window of an offset, the operation that a write of it makes (plain, set or clear) and the
offset within the window. -/
def windowOf (off : Nat) : Window × RamOp × Nat :=
  let area := off / 0x1000000
  let low := off % 0x1000000
  if off < 0x2A00000 ∧ low < 0xA00000 then
    let op : RamOp := if area = 0 then .write else if area = 1 then .set else .clear
    if low < 0x800000 then (.ctx, op, low) else (.pat, op, low - 0x800000)
  else if 0x2C00000 ≤ off ∧ off < 0x2C40000 then (.staging, .write, off - 0x2C00000)
  else if 0x3000000 ≤ off ∧ off < 0x4000000 then (.fabric, .write, off - 0x3000000)
  else (.none, .write, off)

/-- R69: the group entry that an operation of the context window makes. -/
def entryOf (op : RamOp) (h w : Nat) (v : Word) : GEntry :=
  match op with
  | .set => .set h w v
  | .clear => .clr h w v
  | _ => .put h w v

/-- The two halfwords of a dword with its byte enables. -/
def halvesOf (v : Dword) (be : BitVec 4) : List Hw :=
  [⟨v.extractLsb' 0 16, be.extractLsb' 0 2⟩, ⟨v.extractLsb' 16 16, be.extractLsb' 2 2⟩]

/-- R233: the halfwords that a dword write gives whole. -/
def wholeHalves (off : Nat) (hs : List Hw) : List (Nat × Nat) :=
  (hs.zipIdx.filter fun x => x.1.be = 3).map fun x => (off + 2 * x.2, x.1.data.toNat)

/-- R412: a write of a dword of BAR2 by whatever path: `gate` lets it reach the window of a page at its offset, with
what a primary forwards and the effect; `none` is a write of no window. An access to the fabric window never hangs
(R312): it passes as if its clock ran, and R233 completes it. -/
def State.bar2Write (s : State) (gate : Nat → Bool → List (Nat × Nat) → (State → State) → State) (none : State)
    (off : Nat) (v : Dword) (be : BitVec 4) : State :=
  let hs := halvesOf v be
  match windowOf off with
  | (.ctx, op, o) => gate pCTX true (s.ctxWords off hs) (State.ctxEffect (entryOf op) o hs)
  | (.pat, op, o) => gate pCTX true (patParcels off hs) fun s => s.patHalves op [] (o / 2) 0 hs
  | (.staging, _, o) => gate pCFG false [] fun s => s.doStaging o v.toNat be.toNat
  | (.fabric, _, o) =>
    gate pSYS false [] fun s => (wholeHalves o hs).foldl (fun s x => s.fabricAccess true x.1 x.2) s
  | (.none, _, _) => none

/-- A host write of a dword of BAR2. -/
def State.hostBar2 (s : State) (t : Time) (off : Nat) (v : Dword) (be : BitVec 4) : State :=
  s.bar2Write (fun pg fwd words eff => s.hostWrite2 t pg off fwd words eff)
    (let s := s.at_ t
     if !s.hostUp then s else if s.pwr.pfwBlock then s.dropWrite else s.badAddr true true off) off v be

/-- A dword of the staging window. -/
def State.stagingWord (s : State) (o : Nat) : Nat :=
  leNum ((List.range 4).map fun i => (SMap.get 0 s.cfg.stg (o + i)).toNat)

/-- A word of pattern RAM. -/
def State.patAt (s : State) (a : Nat) : Nat := (SMap.get 0 s.jer.pat a).toNat

/-- R412: a read of a dword of BAR2 by whatever path, as `bar2Write`. -/
def bar2Read (gate : Nat → (State → State) → State) (none : State) (off be : Nat) : State :=
  match windowOf off with
  | (.ctx, _, o) =>
    gate pCTX fun s =>
      if !s.bit pCTX HDR_PG_CTRL_EN then s.answer [0]
      else
        let (s, vs) := s.readHalves o 0 2
        s.answer [maskBytes (vs.getD 0 0 + 2 ^ 16 * vs.getD 1 0) be]
  | (.pat, _, o) => gate pCTX fun s => s.answer [maskBytes (s.patAt (o / 2) + 2 ^ 16 * s.patAt (o / 2 + 1)) be]
  | (.staging, _, o) => gate pCFG fun s => s.answer [maskBytes (s.stagingWord o) be]
  | (.fabric, _, o) =>
    gate pSYS fun s =>
      ((if be % 4 ≠ 0 then [o] else []) ++ (if be / 4 ≠ 0 then [o + 2] else [])).foldl
        (fun s x => s.fabricAccess false x 0) s
  | (.none, _, _) => none

/-- A host read of a dword of BAR2. -/
def State.hostBar2Read (s : State) (t : Time) (off be : Nat) : State :=
  bar2Read (fun pg eff => s.hostRead2 t pg off eff)
    (let s := s.at_ t
     if !s.hostUp then s.answer [] else (s.badAddr true false off).answer [0]) off be

/-- R352: a forwarded halfword of a BAR2 window, at the standby. -/
def State.bar2Half (s : State) (off : Nat) (v : Half) : State :=
  match windowOf off with
  | (.ctx, op, o) => s.ctxHalf (entryOf op) o ⟨v, 3⟩
  | (.pat, op, o) => s.patHalf op (o / 2) ⟨v, 3⟩ false
  | _ => s

end Sys2Proof.Machine
end

