-- ==== Sys2Proof/Machine/Host.lean ====
section
/-! DEFINITION. The host interface (spec/18_host.md): register accesses over PCI Express, the service port
(R421 to R424), MSI-X (R420), the PCI Express link, the JTAG port (R346, R443), and what a standby does with a
forwarded write (R352, R361). -/

namespace Sys2Proof.Machine

/-! ## Register pages over PCI Express -/

/-- R5, R410: REGISTER_WRITE: a dword of BAR0 or BAR2 with its byte enables. -/
def execRegisterWrite (t : Time) (bar2 : Bool) (off : BitVec 26) (v : Dword) (be : BitVec 4) (s : State) :
    Host.Outcome State Fault Refusal :=
  let o := off.toNat / 4 * 4
  .next (if bar2 then s.hostBar2 t o v be
  else if be = 15 then s.hostReg t (o % 0x200000) v.toNat
  else
    let s := s.at_ t
    if !s.hostUp then s else if s.pwr.pfwBlock then s.dropWrite else s.err pPCI PCI_E_PARTIAL)

/-- R5, R410: REGISTER_READ. -/
def execRegisterRead (t : Time) (bar2 : Bool) (off : BitVec 26) (be : BitVec 4) (s : State) :
    Host.Outcome State Fault Refusal :=
  let o := off.toNat / 4 * 4
  .next (if bar2 then s.hostBar2Read t o be.toNat else s.hostRegRead t (o % 0x200000) be.toNat)

/-- R420: PG_IRQST_WRITE. -/
def execPgIrqstWrite (t : Time) (page : Fin 512) (v : Dword) (s : State) : Host.Outcome State Fault Refusal :=
  .next (s.hostReg t (page.val * 4096 + 0x18) v.toNat)

/-- R418: PG_LOCK_WRITE. -/
def execPgLockWrite (t : Time) (page : Fin 512) (v : Dword) (s : State) : Host.Outcome State Fault Refusal :=
  .next (s.hostReg t (page.val * 4096 + 0x1C) v.toNat)

/-- A host write of PG_CTRL of a page that does `eff` and leaves the page's other bits as they are; `v` is what
the primary forwards (R352). -/
def State.hostCtrl (s : State) (t : Time) (page v : Nat) (eff : State → State) : State :=
  if reservedAt (page * 4096) then s.hostReg t (page * 4096 + 8) v
  else s.hostWrite t (page * 4096 + 8) v eff

/-- R416: FREEZE of a page, at its place in PG_CTRL. -/
def State.freezeBit (s : State) (p : Nat) : Nat := 4 * s.fld p HDR_PG_CTRL_FREEZE

/-- R417: PG_CTRL_EN. -/
def execPgCtrlEn (t : Time) (page : Fin 512) (en : Bool) (s : State) : Host.Outcome State Fault Refusal :=
  .next (s.hostCtrl t page.val (en.toNat + s.freezeBit page.val) fun s => s.doEn page.val en)

/-- R416: PG_CTRL_SRST. -/
def execPgCtrlSrst (t : Time) (page : Fin 512) (s : State) : Host.Outcome State Fault Refusal :=
  .next (s.hostCtrl t page.val (2 + s.fld page.val HDR_PG_CTRL_EN + s.freezeBit page.val) fun s =>
    s.doSrst page.val)

/-- R416: PG_CTRL_FREEZE. -/
def execPgCtrlFreeze (t : Time) (page : Fin 512) (on : Bool) (s : State) : Host.Outcome State Fault Refusal :=
  .next (s.hostCtrl t page.val (4 * on.toNat + s.fld page.val HDR_PG_CTRL_EN) fun s => s.doFreeze page.val on)

/-- R420: MSIX_UNMASK: of one vector, by its entry in the table, or of the function, with MSI-X enabled. -/
def execMsixUnmask (t : Time) (entry : Option (Fin 32)) (s : State) : Host.Outcome State Fault Refusal :=
  .next (match entry with
    | some v => s.hostReg t (pPCI * 4096 + 0x80C + 16 * v.val) 0
    | none =>
      let s := s.at_ t
      if !s.pwr.up || s.pwr.perst || !s.bit pPCI PCI_LINK_L0 then s
      else
        let s := s.updHst fun h => { h with msixEn := true, msixMask := false }
        (List.range 32).foldl State.unmasked s)

/-! ## The PCI Express link (R325, R372, R408) -/

/-- R325: PCIE_LINK_UP, with the code of the width (1, 2 or 4 lanes) and of the speed. -/
def execPcieLinkUp (t : Time) (width speed : Fin 3) (s : State) : Host.Outcome State Fault Refusal :=
  let s := s.at_ t
  .next (if s.pwr.gz = 4 ∨ s.clkOn pPCI = false then s
  else
    let s := (s.setFld pPCI PCI_LINK_L0 1).setFld pPCI PCI_LINK_WIDTH (2 ^ width.val)
    let s := (s.setFld pPCI PCI_LINK_SPEED (speed.val + 1)).updPwr fun p => { p with wakeB := false }
    s.irq pPCI PCI_E_LINKUP)

/-- R372: PCIE_LINK_DOWN. -/
def execPcieLinkDown (t : Time) (s : State) : Host.Outcome State Fault Refusal :=
  let s := s.at_ t
  .next (if s.bit pPCI PCI_LINK_L0 then
    let s := ((s.setFld pPCI PCI_LINK_L0 0).setFld pPCI PCI_LINK_WIDTH 0).setFld pPCI PCI_LINK_SPEED 0
    (s.err pPCI PCI_E_LINKDOWN).contained
  else s)

/-- R405: what the configuration space of the endpoint holds. -/
structure PciConfig where
  vendor : Nat
  device : Nat
  revision : Nat
  class_ : Nat
  subVendor : Nat
  subsystem : Nat
  serial : Nat
  /-- The MSI-X table and the pending bits: offset in BAR0 and length in bytes. -/
  table : Nat × Nat
  pba : Nat × Nat
  deriving DecidableEq, Repr

/-- R405: the configuration values; the serial number is bits 63:0 of the device ID of the OTP row. -/
def State.pciConfig (s : State) : PciConfig :=
  { vendor := 0x1F3E
    device := 0x0E48
    revision := Config.silrev.toNat
    class_ := 0x118000
    subVendor := 0x1F3E
    subsystem := 0x0001
    serial := leNum (s.otpBytes 0 8)
    table := (0xC800, 512)
    pba := (0xCC00, 8) }

/-- R408: D3HOT_TRANSITION. -/
def execD3hotTransition (t : Time) (into : Bool) (s : State) : Host.Outcome State Fault Refusal :=
  let s := s.at_ t
  .next (if s.pwr.up && !s.pwr.perst && s.bit pPCI PCI_LINK_L0 then s.updPwr fun p => { p with d3 := into } else s)

/-! ## The service port (R421 to R424) -/

/-- R400, R422: a pending wipe runs before READY. -/
def State.wiping (s : State) : Bool := !s.pwr.up && decide (s.pwr.gz = 0) && s.pendingState.isSome

/-- R422, R424: this transaction is ignored but for its status byte: bring-up, SCRAP, or a write pending in
GAUZE. -/
def State.spBusy (s : State) : Bool :=
  if s.pwr.gz = 2 then
    match s.hst.spPend with
    | some (due, _) => decide (s.time < due)
    | none => false
  else !s.pwr.up

/-- R422: the status byte. -/
def State.spByte (s : State) : Nat :=
  if s.pwr.gz = 2 then 16 + 64 * s.spBusy.toNat + 32 * s.hst.spErr.toNat
  else if !s.pwr.up then (if s.wiping then 0x44 else 0x40)
  else 128 + 32 * s.hst.spErr.toNat + 8 * s.pwr.pfwBlock.toNat

/-- R421: a transaction starts: its status byte goes out, and what ERR reported is past. -/
def State.spStart (s : State) (t : Time) : State :=
  let s := s.at_ t
  s.updHst fun h =>
    { h with
      spStatus := s.spByte
      spErr := false
      spPend := if s.spBusy then h.spPend else none }

/-- ERR of the next status byte. -/
def State.spErrs (s : State) : State := s.updHst fun h => { h with spErr := true }

/-- R421: where an address leads: an offset of BAR0, one of the staging window, or nowhere. -/
inductive SpAt where
  | bar0 (off : Nat) | staging (off : Nat) | none
  deriving DecidableEq, Repr

/-- R421: the service-port address map. -/
def spAt (addr : Nat) : SpAt :=
  if addr % 4 ≠ 0 then .none
  else if addr < 0x200000 then .bar0 addr
  else if 0x800000 ≤ addr ∧ addr < 0x840000 then .staging (addr - 0x800000)
  else .none

/-- R424: the pages that the service port reaches in GAUZE. -/
def gauzePage (p : Nat) : Bool := decide (p = pSYS ∨ p = pLCS ∨ p = pPWR)

/-- R312, R423: the service port finds a page's clock stopped: the access is logged and does nothing. -/
def State.spStopped (s : State) (off : Nat) (write : Bool) : State :=
  (s.contained).log (off / 4096) 0x003 3 (write.toNat + 256 * (off % 2 ^ 24))

/-- A write of BAR0 offset `off` over the service port, or by internal debug, of a device that is up. -/
def State.spReg (s : State) (sp : Bool) (off v : Nat) : State :=
  if s.pwr.pfwBlock then s.dropWrite
  else if reservedAt off then s.badAddr false true off
  else if s.role = 2 ∧ forwarded off then s.err pTWN TWN_E_STBYWR
  else if !s.clkOn (off / 4096) then s.spStopped off true
  else s.pageWrite off v fun s => s.regEffect sp off v

/-- R308, R424: a write in GAUZE takes effect at the second edge of the slow clock from now. -/
def State.gauzeWrite (s : State) (off v : Nat) : State :=
  let due := s.time + slowNs s.inst.acc 2
  let s := (s.updHst fun h => { h with spPend := some (due, off) }).at_ due
  s.pageWrite off v fun s => s.regEffect true off v

/-- R421: a transaction that is malformed or cut short: ERR, SPERR of SPSTAT and of PG_ERR. -/
def State.spMalformed (s : State) : State := ((s.addSat pSYS SYS_SPSTAT_SPERR 1).err pSYS SYS_E_SPERR).spErrs

/-- R421: the clocks of a transaction of `full` clocks to an address: fewer, or more, are an error of its own, which
counts unless the address is unmapped. DEDUCED: an address cut short is no unmapped address (log entry 147). -/
def State.spClocks (s : State) (x : SpIn) (full : Nat) : State :=
  if x.clocks = full then s
  else if 32 ≤ x.clocks ∧ spAt x.addr.toNat = .none then s.spErrs
  else s.spMalformed

/-- R421, R424: a WRITE of all its clocks. -/
def State.spPut (s : State) (addr : Nat) (v : Dword) : State :=
  match spAt addr with
  | .none => s.spErrs
  | .bar0 off =>
    if s.pwr.gz = 2 then (if gauzePage (off / 4096) then s.gauzeWrite off v.toNat else s.spErrs)
    else s.spReg true off v.toNat
  | .staging off =>
    if s.pwr.gz = 2 then s.spErrs
    else if s.pwr.pfwBlock then s.dropWrite
    else if !s.clkOn pCFG then s.spStopped (pCFG * 4096) true
    else s.doStaging off v.toNat 15

/-- R421: SP_WRITE takes effect after its 64th clock; cut short, it has none. -/
def execSpWrite (t : Time) (x : SpIn) (v : Dword) (s : State) : Host.Outcome State Fault Refusal :=
  let busy := (s.at_ t).spBusy
  let u := s.spStart t
  .next (if s.pwr.gz = 4 then s.at_ t
  else if busy then u.spErrs
  else if x.clocks < 64 then u.spClocks x 64
  else (u.spPut x.addr.toNat v).spClocks x 64)

/-- R422: an LCS read that the service port serves before READY. -/
def State.spEarly (s : State) (addr : Nat) : Bool :=
  decide (addr % 4 = 0 ∧ addr / 4096 = pLCS) && decide (s.pwr.gz = 0) && !s.pwr.up &&
    (s.wiping || decide (s.decodedState = 4))

/-- R423: a late read. -/
def State.spLate (s : State) : State :=
  ((s.addSat pSYS SYS_SPSTAT_LATE 1).spErrs).answer [0xFFFFFFFF]

/-- A read of a register over the service port. -/
def State.spReadReg (s : State) (off : Nat) : State :=
  let (v, s) := s.readReg off
  s.answer [v]

/-- R423: twice the time in ns in which the data of an address is ready: 400 ns for TWN and PCI, else 150 ns. -/
def spReady2 (off : Nat) : Nat := if off / 4096 = pTWN ∨ off / 4096 = pPCI then 800 else 300

/-- R423: the first data bit is 8.5 periods of SVC_SCK, `period` ns each, after the last address bit. Data that R423
lets be later than that is late or not, which the manual leaves open. -/
def State.spTimed (s : State) (ready2 period : Nat) (f : State → State) : State :=
  if ready2 ≤ 17 * period then f s
  else
    let (b, s) := s.takeFree 1
    if b = 1 then s.spLate else f s

/-- R421, R423, R424: a READ of all its clocks; before READY only the LCS page gets here. -/
def State.spGet (s : State) (addr period : Nat) : State :=
  match spAt addr with
  | .none => (s.spErrs).answer [0]
  | .bar0 off =>
    if s.pwr.gz = 2 ∨ s.pwr.up = false then
      if !gauzePage (off / 4096) then (s.spErrs).answer [0]
      else s.spTimed (spReady2 off) period fun s => s.spReadReg off
    else if reservedAt off then (s.badAddr false false off).answer [0]
    else if !s.clkOn (off / 4096) then (s.spStopped off false).spLate
    else s.spTimed (spReady2 off) period fun s => s.spReadReg off
  | .staging off =>
    if s.pwr.gz = 2 then (s.spErrs).answer [0]
    else if !s.clkOn pCFG then (s.spStopped (pCFG * 4096) false).spLate
    else s.spTimed 300 period fun s => s.answer [s.stagingWord off]

/-- R421, R423: SP_READ, with SVC_SCK at `period` ns; cut short, it has no effect. -/
def execSpRead (t : Time) (x : SpIn) (period : Nat) (s : State) : Host.Outcome State Fault Refusal :=
  let busy := (s.at_ t).spBusy
  let u := s.spStart t
  .next (if s.pwr.gz = 4 then s.at_ t
  else if busy && !u.spEarly x.addr.toNat then (u.spErrs).answer []
  else if x.clocks < 72 then (u.spClocks x 72).answer []
  else (u.spGet x.addr.toNat period).spClocks x 72)

/-- R421, R422: SP_STATUS: a STATUS of 8 clocks, and any transaction whose command byte is undefined or that ends or
goes on past its clocks. -/
def execSpStatus (x : SpCmd) (s : State) : Host.Outcome State Fault Refusal :=
  let busy := (s.at_ x.t).spBusy
  let u := s.spStart x.t
  .next (if s.pwr.gz = 4 then s.at_ x.t
  else if x.cmd = 0x05 ∧ x.clocks = 8 then u
  else if busy then u.spErrs
  else u.spMalformed)

/-! ## JTAG (R346, R400, R443) -/

/-- R443: the boundary-scan instructions. -/
def scanCode (c : Nat) : Bool := decide (1 ≤ c ∧ c ≤ 7)

/-- R346, R400: the state that decides what is open: that of the fuses until READY. -/
def State.jtagState (s : State) : Nat := if s.pwr.up then s.pwr.lcs else s.decodedState

/-- R400: bring-up steps 2 to 5 are over, which the MDLLs show: they are enabled in step 6. -/
def State.pastStep5 (s : State) : Bool := s.pwr.up || s.pwr.sixAt.isSome || decide ((s.mdll 0).acq ≠ 0) || s.mdllOn 0

/-- R346: a boundary-scan instruction is open; during bring-up steps 1 to 5 that depends on how far they are. -/
def State.scanNow (s : State) : Bool × State :=
  if !scanOpen s.jtagState then (false, s)
  else if s.pastStep5 then (true, s)
  else
    let (b, s) := s.takeFree 1
    (decide (b = 1), s)

/-- R443: IDCODE. -/
def idcode : Nat := Config.silrev.toNat % 16 * 2 ^ 28 + 0xE48A3C7

/-- R443: a data shift through the register that the instruction in force selects: the identity code, the boundary
register, or else the one bit of BYPASS. What the cells of the boundary register have captured is open, for the manual
lays out none of them. PRESUMED from IEEE 1149.1, which R443 names (log entry 148). -/
def State.jtagShift (s : State) (bits : List Bool) : State :=
  let out (xs : List Bool) : List Nat := ((xs ++ bits).take bits.length).map Bool.toNat
  let code := if scanOpen s.jtagState then s.hst.jtag else 0xFF
  if code = 1 then s.answer (out ((List.range 32).map idcode.testBit))
  else if code = 2 ∨ code = 3 ∨ code = 6 ∨ code = 7 then
    let (v, s) := s.takeFree bits.length
    (s.updHst fun h => { h with scan := bits }).answer ((List.range bits.length).map fun i => (v.testBit i).toNat)
  else s.answer (out [false])

/-- R443: an instruction code is in force. -/
def State.jtagIr (s : State) (code : Nat) : State :=
  let (ok, s) := if scanCode code then s.scanNow else (false, s)
  let s := s.updHst fun h => { h with jtag := if ok then code else 0xFF }
  if ok && decide (code = 1) then s.answer [idcode] else s.answer []

/-- R346: a read of one byte of a plane. -/
def State.planeByte (s : State) (r : Nat) (voile : Bool) (off : Nat) : Nat :=
  (SMap.get 0 (if voile then s.voile r else s.active r).bytes off).toNat

/-- R346: internal debug reads a register. -/
def State.debugReg (s : State) (off : Nat) : State :=
  if reservedAt off then (s.badAddr false false off).answer [0]
  else if !s.clkOn (off / 4096) then (s.spStopped off false).answer []
  else s.spReadReg off

/-- R346: internal debug reads a window of BAR2. -/
def State.debugWindow (s : State) (off : Nat) : State :=
  bar2Read (fun pg eff => if s.clkOn pg then eff s else (s.spStopped (pg * 4096) false).answer [])
    ((s.badAddr true false off).answer [0]) off 15

/-- R346, R352, R383: internal debug writes a window of BAR2. -/
def State.debugWrite2 (s : State) (off : Nat) (v : Dword) : State :=
  if s.pwr.pfwBlock then s.dropWrite
  else
    s.bar2Write (fun pg fwd words eff =>
        if s.role = 2 ∧ fwd then s.err pTWN TWN_E_STBYWR
        else if !s.clkOn pg then s.spStopped (pg * 4096) true
        else s.windowWrite fwd words eff)
      (s.badAddr true true off) off v 15

/-- R346, R443: JTAG_INSTRUCTION. An instruction that is not open acts as BYPASS. -/
def execJtagInstruction (t : Time) (op : JtagOp) (s : State) : Host.Outcome State Fault Refusal :=
  let s := s.at_ t
  if s.pwr.gz = 4 then .next s
  else match op with
    | .ir code => .next (s.jtagIr code.toNat)
    | .shift bits => .next (s.jtagShift bits)
    | .debugRead off =>
      .next (if s.pwr.up && s.debugOpen then s.debugReg (off.toNat / 4 * 4) else s.answer [])
    | .debugWrite off v =>
      .next (if s.pwr.up && s.debugOpen then s.spReg false (off.toNat / 4 * 4) v.toNat else s)
    | .windowRead off =>
      .next (if s.pwr.up && s.debugOpen then s.debugWindow (off.toNat / 4 * 4) else s.answer [])
    | .windowWrite off v =>
      .next (if s.pwr.up && s.debugOpen then s.debugWrite2 (off.toNat / 4 * 4) v else s)
    | .plane r voile off =>
      .next (if s.pwr.up && s.planeOpen && s.clkOn pCFG then s.answer [s.planeByte r.val voile off.toNat]
        else s.answer [])
    | .maker => if s.makerOpen then .refused .makerTestMode else .next (s.answer [])

/-! ## Forwarded writes at the standby (R352, R361) -/

/-- R361: a forwarded write cannot be applied: the transfer is abandoned. -/
def State.abandonTransfer (s : State) (page : Nat) (set : Bool) : State :=
  let s := (s.log pTWN 0x0C3 3 (page + set.toNat * 2 ^ 31)).setFld pTWN TWN_STAT_SSTATE 1
  s.updTwn fun w => { w with xfer := 0, matched := false, gotRec := none }

/-- R352, R353: a forwarded register write. A command that leaves HOLD shows that the primary has entered it. -/
def State.fwdReg (s : State) (off v : Nat) : State :=
  if !s.clkOn (off / 4096) then s.abandonTransfer (off / 4096) false
  else
    let s := if off = pFRM * 4096 + 0x44 ∧ s.frmState = 1 ∧ (v % 8 = 1 ∨ v % 8 = 2) then s.standbyHold s.time else s
    if off / 4096 = pPLC ∧ mirrored (off % 4096) = true then
      s.holdWrites [(0, off % 4096, v, s.fld pPLC PLC_HIDX_HANDLE)]
    else s.regEffect false off v

/-- R151, R264: the standby holds a migration that the primary has copied. -/
def State.fwdPlace (s : State) (h slot : Nat) : State :=
  let m : Mig := { newMig h slot .balance with copied := true }
  let s := s.updPlc fun p => { p with migs := (p.migs.filter fun x => x.handle ≠ h) ++ [m] }
  if s.frmState = 0 then s.commitMig m else s

/-- R264, R361: the primary has armed a set. The forwarded write of ASCMD has armed it here too, unless this
unit cannot take it. -/
def State.fwdSet (s : State) : State := if s.cfg.as.isSome then s else s.abandonTransfer pCFG true

/-- R186, R352: the result of a link training. -/
def State.fwdTraining (s : State) (l : Nat) (recs : List IdRec) : State :=
  let ms := recs.foldl (fun ms r => ms ++ [⟨r.count.toNat, r.typ, r.rev, slotSum ms, 0, 0, true⟩]) ([] : List Module)
  let s := ((s.setFld (pUL l) UL_STAT_STATE 2).setFld (pUL l) UL_STAT_MODCNT ms.length).setFld (pUL l)
    UL_STAT_SLOTS (slotSum ms)
  s.updLink l fun p => { p with mods := ms, step := 0, rxAt := s.time, holdAt := s.time, tag := none }

/-- R352: FORWARDED_WRITE. -/
def execForwardedWrite (t : Time) (op : FwdOp) (s : State) : Host.Outcome State Fault Refusal :=
  let s := s.at_ t
  .next (if s.role ≠ 2 ∨ s.bit pTWN TWN_STAT_LINKUP = false then s
  else match op with
    | .reg off v => if forwarded off.toNat then s.fwdReg off.toNat v.toNat else s
    | .bar2 off v => s.bar2Half off.toNat v
    | .group id =>
      if s.twn.xfer = 1 ∧ nextGroupId s.ctx.lastId = id.toNat then s.closeGroup else s
    | .place h slot => if s.twn.xfer = 1 then s.fwdPlace h.val slot.val else s
    | .actSet => if s.twn.xfer = 1 then s.fwdSet else s
    | .training l recs => s.fwdTraining l.val recs)

end Sys2Proof.Machine
end

