-- ==== Sys2Proof/Machine/Dispatch.lean ====
section
/-! DEFINITION. The dispatch of a command to its meaning: one arm for each constructor of `Instr`. -/

namespace Sys2Proof.Machine

open Sys2Proof

/-- The effect of a command on everything but the queue. -/
def exec (i : Instr) (s : State) : Host.Outcome State Fault Refusal :=
  match i with
  | .frmCmdRun t => Sys2Proof.Machine.execFrmCmdRun t s
  | .frmCmdHold t => Sys2Proof.Machine.execFrmCmdHold t s
  | .frmCmdStop t => Sys2Proof.Machine.execFrmCmdStop t s
  | .sourceSwitch t v => Sys2Proof.Machine.execSourceSwitch t v s
  | .minperWrite t v => Sys2Proof.Machine.execMinperWrite t v s
  | .fbperWrite t v => Sys2Proof.Machine.execFbperWrite t v s
  | .admissionEvaluation t => Sys2Proof.Machine.execAdmissionEvaluation t s
  | .fixedTimerTick => Sys2Proof.Machine.execFixedTimerTick s
  | .tickInEdge t level stable => Sys2Proof.Machine.execTickInEdge t level stable s
  | .tickRegistration => Sys2Proof.Machine.execTickRegistration s
  | .heldTick => Sys2Proof.Machine.execHeldTick s
  | .fallbackExpiry => Sys2Proof.Machine.execFallbackExpiry s
  | .tickOutEnd => Sys2Proof.Machine.execTickOutEnd s
  | .computeEnd => Sys2Proof.Machine.execComputeEnd s
  | .applyDeadline => Sys2Proof.Machine.execApplyDeadline s
  | .admrefRead t => Sys2Proof.Machine.execAdmrefRead t s
  | .fnLoRead t => Sys2Proof.Machine.execFnLoRead t s
  | .contextWindowWrite t off data => Sys2Proof.Machine.execContextWindowWrite t off data s
  | .contextSetAlias t off data => Sys2Proof.Machine.execContextSetAlias t off data s
  | .contextClearAlias t off data => Sys2Proof.Machine.execContextClearAlias t off data s
  | .contextWindowRead t off count ups => Sys2Proof.Machine.execContextWindowRead t off count ups s
  | .qrelWrite t v => Sys2Proof.Machine.execQrelWrite t v s
  | .commitGo t => Sys2Proof.Machine.execCommitGo t s
  | .commitAbandon t => Sys2Proof.Machine.execCommitAbandon t s
  | .groupApplyStop t => Sys2Proof.Machine.execGroupApplyStop t s
  | .safedataWrite t v => Sys2Proof.Machine.execSafedataWrite t v s
  | .safedataRead t => Sys2Proof.Machine.execSafedataRead t s
  | .scrubRead t bank ups => Sys2Proof.Machine.execScrubRead t bank ups s
  | .qmapParityCheck t ups => Sys2Proof.Machine.execQmapParityCheck t ups s
  | .visit e ups => Sys2Proof.Machine.execVisit e ups s
  | .nop e => Sys2Proof.Machine.execNop e s
  | .endv e => Sys2Proof.Machine.execEndv e s
  | .ldw e d i_ base => Sys2Proof.Machine.execLdw e d i_ base s
  | .stw e src i_ base => Sys2Proof.Machine.execStw e src i_ base s
  | .ldi e d u hi lo => Sys2Proof.Machine.execLdi e d u hi lo s
  | .mov e d b => Sys2Proof.Machine.execMov e d b s
  | .add e x => Sys2Proof.Machine.execAdd e x s
  | .sub e x => Sys2Proof.Machine.execSub e x s
  | .adds e x => Sys2Proof.Machine.execAdds e x s
  | .subs e x => Sys2Proof.Machine.execSubs e x s
  | .and e x => Sys2Proof.Machine.execAnd e x s
  | .or e x => Sys2Proof.Machine.execOr e x s
  | .xor e x => Sys2Proof.Machine.execXor e x s
  | .shl e x => Sys2Proof.Machine.execShl e x s
  | .shr e x => Sys2Proof.Machine.execShr e x s
  | .asr e x => Sys2Proof.Machine.execAsr e x s
  | .cmp e a b => Sys2Proof.Machine.execCmp e a b s
  | .min e x => Sys2Proof.Machine.execMin e x s
  | .max e x => Sys2Proof.Machine.execMax e x s
  | .sel e c x => Sys2Proof.Machine.execSel e c x s
  | .mul e x => Sys2Proof.Machine.execMul e x s
  | .mac e x => Sys2Proof.Machine.execMac e x s
  | .aclr e d => Sys2Proof.Machine.execAclr e d s
  | .ashr e d r n => Sys2Proof.Machine.execAshr e d r n s
  | .ast e d u src => Sys2Proof.Machine.execAst e d u src s
  | .br e c target => Sys2Proof.Machine.execBr e c target s
  | .skip e c count => Sys2Proof.Machine.execSkip e c count s
  | .lut e x => Sys2Proof.Machine.execLut e x s
  | .ang e d unit fraction => Sys2Proof.Machine.execAng e d unit fraction s
  | .emit e value o => Sys2Proof.Machine.execEmit e value o s
  | .hold e => Sys2Proof.Machine.execHold e s
  | .fcall e x => Sys2Proof.Machine.execFcall e x s
  | .safe e o ups => Sys2Proof.Machine.execSafe e o ups s
  | .mcdata0Write t v => Sys2Proof.Machine.execMcdata0Write t v s
  | .mcdata1Write t v => Sys2Proof.Machine.execMcdata1Write t v s
  | .ctdataWrite t v => Sys2Proof.Machine.execCtdataWrite t v s
  | .fctgtWrite t n v => Sys2Proof.Machine.execFctgtWrite t n v s
  | .ctcmdVerify t => Sys2Proof.Machine.execCtcmdVerify t s
  | .ctcmdRevert t => Sys2Proof.Machine.execCtcmdRevert t s
  | .verifyComplete t => Sys2Proof.Machine.execVerifyComplete t s
  | .mcParityCheck t ups => Sys2Proof.Machine.execMcParityCheck t ups s
  | .hmapParityCheck t ups => Sys2Proof.Machine.execHmapParityCheck t ups s
  | .stopBalanceTimer t => Sys2Proof.Machine.execStopBalanceTimer t s
  | .migrationCopy ups => Sys2Proof.Machine.execMigrationCopy ups s
  | .pin t bank => Sys2Proof.Machine.execPin t bank s
  | .unpin t => Sys2Proof.Machine.execUnpin t s
  | .exclude t bank => Sys2Proof.Machine.execExclude t bank s
  | .include t => Sys2Proof.Machine.execInclude t s
  | .btcmdStart t => Sys2Proof.Machine.execBtcmdStart t s
  | .selftestEnd fail => Sys2Proof.Machine.execSelftestEnd fail s
  | .rreq t v => Sys2Proof.Machine.execRreq t v s
  | .rfree t v => Sys2Proof.Machine.execRfree t v s
  | .ulCmdTrain t l => Sys2Proof.Machine.execUlCmdTrain t l s
  | .ulCmdDown t l => Sys2Proof.Machine.execUlCmdDown t l s
  | .autotrainTimer l => Sys2Proof.Machine.execAutotrainTimer l s
  | .trainingAligned t x => Sys2Proof.Machine.execTrainingAligned t x s
  | .discRepeat l => Sys2Proof.Machine.execDiscRepeat l s
  | .idRecord t l xs => Sys2Proof.Machine.execIdRecord t l xs s
  | .cfgRepeat l => Sys2Proof.Machine.execCfgRepeat l s
  | .ack t l x => Sys2Proof.Machine.execAck t l x s
  | .trainingTimeout l => Sys2Proof.Machine.execTrainingTimeout l s
  | .emissionStart l ups => Sys2Proof.Machine.execEmissionStart l ups s
  | .nak t l x => Sys2Proof.Machine.execNak t l x s
  | .upstreamFrame t l xs => Sys2Proof.Machine.execUpstreamFrame t l xs s
  | .holdFrame l => Sys2Proof.Machine.execHoldFrame l s
  | .alignmentLoss t l xs => Sys2Proof.Machine.execAlignmentLoss t l xs s
  | .upstreamWatchdog l => Sys2Proof.Machine.execUpstreamWatchdog l s
  | .encoderEdge t u ab stable => Sys2Proof.Machine.execEncoderEdge t u ab stable s
  | .indexEvent t x => Sys2Proof.Machine.execIndexEvent t x s
  | .stoptimeExpiry u => Sys2Proof.Machine.execStoptimeExpiry u s
  | .angCoast u => Sys2Proof.Machine.execAngCoast u s
  | .angCmdHome t u => Sys2Proof.Machine.execAngCmdHome t u s
  | .angCmdRehome t u => Sys2Proof.Machine.execAngCmdRehome t u s
  | .cprWrite t u v => Sys2Proof.Machine.execCprWrite t u v s
  | .dprWrite t u v => Sys2Proof.Machine.execDprWrite t u v s
  | .angCtrlWrite t u v => Sys2Proof.Machine.execAngCtrlWrite t u v s
  | .tslastLoRead t u => Sys2Proof.Machine.execTslastLoRead t u s
  | .ramWrite x => Sys2Proof.Machine.execRamWrite x s
  | .ramSet x => Sys2Proof.Machine.execRamSet x s
  | .ramClear x => Sys2Proof.Machine.execRamClear x s
  | .ramRead x flip => Sys2Proof.Machine.execRamRead x flip s
  | .patternRamHostWrite t off data lost => Sys2Proof.Machine.execPatternRamHostWrite t off data lost s
  | .patternSetAlias t off data lost => Sys2Proof.Machine.execPatternSetAlias t off data lost s
  | .patternClearAlias t off data lost => Sys2Proof.Machine.execPatternClearAlias t off data lost s
  | .patternFabricRead x => Sys2Proof.Machine.execPatternFabricRead x s
  | .patternFabricWrite x => Sys2Proof.Machine.execPatternFabricWrite x s
  | .patternFabricSet x => Sys2Proof.Machine.execPatternFabricSet x s
  | .patternFabricClear x => Sys2Proof.Machine.execPatternFabricClear x s
  | .streamFlitAccept t src flit => Sys2Proof.Machine.execStreamFlitAccept t src flit s
  | .streamFlitPresent => Sys2Proof.Machine.execStreamFlitPresent s
  | .fcallResponse t e r w0 w1 => Sys2Proof.Machine.execFcallResponse t e r w0 w1 s
  | .fabricWindowAccess t write off data => Sys2Proof.Machine.execFabricWindowAccess t write off data s
  | .fabricWindowTimeout => Sys2Proof.Machine.execFabricWindowTimeout s
  | .iobInputChange t b x => Sys2Proof.Machine.execIobInputChange t b x s
  | .vioMismatch t b vdet => Sys2Proof.Machine.execVioMismatch t b vdet s
  | .pincfgWrite t b v => Sys2Proof.Machine.execPincfgWrite t b v s
  | .planeCheck t bad => Sys2Proof.Machine.execPlaneCheck t bad s
  | .stagingWrite t off v be => Sys2Proof.Machine.execStagingWrite t off v be s
  | .stgctlDone t v => Sys2Proof.Machine.execStgctlDone t v s
  | .stagingTimeout => Sys2Proof.Machine.execStagingTimeout s
  | .asArm t mode => Sys2Proof.Machine.execAsArm t mode s
  | .asCancel t => Sys2Proof.Machine.execAsCancel t s
  | .asClear t => Sys2Proof.Machine.execAsClear t s
  | .swapAck t r => Sys2Proof.Machine.execSwapAck t r s
  | .quiesceTimeout r => Sys2Proof.Machine.execQuiesceTimeout r s
  | .asInternalBoundary t => Sys2Proof.Machine.execAsInternalBoundary t s
  | .svcCmdWrite t v => Sys2Proof.Machine.execSvcCmdWrite t v s
  | .cplRead t => Sys2Proof.Machine.execCplRead t s
  | .flRead t env => Sys2Proof.Machine.execFlRead t env s
  | .flProg t env => Sys2Proof.Machine.execFlProg t env s
  | .flErase t env => Sys2Proof.Machine.execFlErase t env s
  | .flVerify t env => Sys2Proof.Machine.execFlVerify t env s
  | .flScan t env => Sys2Proof.Machine.execFlScan t env s
  | .flRefresh t env => Sys2Proof.Machine.execFlRefresh t env s
  | .flInfo t => Sys2Proof.Machine.execFlInfo t s
  | .otpRead t => Sys2Proof.Machine.execOtpRead t s
  | .otpProg t env => Sys2Proof.Machine.execOtpProg t env s
  | .zoneLock t => Sys2Proof.Machine.execZoneLock t s
  | .zoneUnlock t => Sys2Proof.Machine.execZoneUnlock t s
  | .zoneSetpw t => Sys2Proof.Machine.execZoneSetpw t s
  | .imgInstall t env => Sys2Proof.Machine.execImgInstall t env s
  | .imgSelect t env => Sys2Proof.Machine.execImgSelect t env s
  | .imgLoad t env => Sys2Proof.Machine.execImgLoad t env s
  | .logReadsave t env => Sys2Proof.Machine.execLogReadsave t env s
  | .routineTimeout t => Sys2Proof.Machine.execRoutineTimeout t s
  | .backgroundOperation t => Sys2Proof.Machine.execBackgroundOperation t s
  | .backgroundOperationEnd t env => Sys2Proof.Machine.execBackgroundOperationEnd t env s
  | .bgSuspend t => Sys2Proof.Machine.execBgSuspend t s
  | .bgResume t => Sys2Proof.Machine.execBgResume t s
  | .mdllEnable t n => Sys2Proof.Machine.execMdllEnable t n s
  | .mdllDisable t n => Sys2Proof.Machine.execMdllDisable t n s
  | .forcedPeriodEnd t n => Sys2Proof.Machine.execForcedPeriodEnd t n s
  | .mdllLock t n => Sys2Proof.Machine.execMdllLock t n s
  | .lockTimeout n => Sys2Proof.Machine.execLockTimeout n s
  | .mdllUnlock t n => Sys2Proof.Machine.execMdllUnlock t n s
  | .windowRestore t n => Sys2Proof.Machine.execWindowRestore t n s
  | .multWrite t n v => Sys2Proof.Machine.execMultWrite t n v s
  | .rampDone t n => Sys2Proof.Machine.execRampDone t n s
  | .spreadWrite t n v => Sys2Proof.Machine.execSpreadWrite t n v s
  | .divWrite t n v => Sys2Proof.Machine.execDivWrite t n v s
  | .phaseStepsWrite t n v => Sys2Proof.Machine.execPhaseStepsWrite t n v s
  | .banddataWrite t n v => Sys2Proof.Machine.execBanddataWrite t n v s
  | .refLoss t => Sys2Proof.Machine.execRefLoss t s
  | .refReturn t => Sys2Proof.Machine.execRefReturn t s
  | .coastLimit => Sys2Proof.Machine.execCoastLimit s
  | .timeLoRead t => Sys2Proof.Machine.execTimeLoRead t s
  | .stoppedClockAccess t addr write => Sys2Proof.Machine.execStoppedClockAccess t addr write s
  | .pwrCmdGauze t => Sys2Proof.Machine.execPwrCmdGauze t s
  | .gauzePhaseB t => Sys2Proof.Machine.execGauzePhaseB t s
  | .wakeIn t d => Sys2Proof.Machine.execWakeIn t d s
  | .watchPin t i_ d => Sys2Proof.Machine.execWatchPin t i_ d s
  | .samplingEvent pins adc => Sys2Proof.Machine.execSamplingEvent pins adc s
  | .pwrCmdWake t => Sys2Proof.Machine.execPwrCmdWake t s
  | .ioholdRelease t => Sys2Proof.Machine.execIoholdRelease t s
  | .adcConversion t v => Sys2Proof.Machine.execAdcConversion t v s
  | .por x => Sys2Proof.Machine.execPor x s
  | .sysReset t v => Sys2Proof.Machine.execSysReset t v s
  | .undervoltageReset t x => Sys2Proof.Machine.execUndervoltageReset t x s
  | .ready t env ups x => Sys2Proof.Machine.execReady t env ups x s
  | .perst t => Sys2Proof.Machine.execPerst t s
  | .pfwAssert x => Sys2Proof.Machine.execPfwAssert x s
  | .pfwRelease x => Sys2Proof.Machine.execPfwRelease x s
  | .lcsTransition t v env bad lost => Sys2Proof.Machine.execLcsTransition t v env bad lost s
  | .certcmdVerify t => Sys2Proof.Machine.execCertcmdVerify t s
  | .certVerifyDone t => Sys2Proof.Machine.execCertVerifyDone t s
  | .certcmdClear t => Sys2Proof.Machine.execCertcmdClear t s
  | .joinpri t => Sys2Proof.Machine.execJoinpri t s
  | .joinstby t sameImages => Sys2Proof.Machine.execJoinstby t sameImages s
  | .leave t => Sys2Proof.Machine.execLeave t s
  | .switch t eligible => Sys2Proof.Machine.execSwitch t eligible s
  | .frameRecord t r => Sys2Proof.Machine.execFrameRecord t r s
  | .sampleBatch t n l x => Sys2Proof.Machine.execSampleBatch t n l x s
  | .forwardedWrite t op => Sys2Proof.Machine.execForwardedWrite t op s
  | .mirrorAck t => Sys2Proof.Machine.execMirrorAck t s
  | .parcelResend t => Sys2Proof.Machine.execParcelResend t s
  | .pairdown t lanes => Sys2Proof.Machine.execPairdown t lanes s
  | .stateTransfer t x => Sys2Proof.Machine.execStateTransfer t x s
  | .synced t => Sys2Proof.Machine.execSynced t s
  | .heartbeatMiss t => Sys2Proof.Machine.execHeartbeatMiss t s
  | .partnerHlthLow x => Sys2Proof.Machine.execPartnerHlthLow x s
  | .promotion t pulse => Sys2Proof.Machine.execPromotion t pulse s
  | .partnerLive t x => Sys2Proof.Machine.execPartnerLive t x s
  | .livePulse t => Sys2Proof.Machine.execLivePulse t s
  | .thermalRead t temps => Sys2Proof.Machine.execThermalRead t temps s
  | .marginCheck t mv => Sys2Proof.Machine.execMarginCheck t mv s
  | .user t v => Sys2Proof.Machine.execUser t v s
  | .unfreeze t => Sys2Proof.Machine.execUnfreeze t s
  | .ent0Read t => Sys2Proof.Machine.execEnt0Read t s
  | .spWrite t x v => Sys2Proof.Machine.execSpWrite t x v s
  | .spRead t x period => Sys2Proof.Machine.execSpRead t x period s
  | .spStatus x => Sys2Proof.Machine.execSpStatus x s
  | .pgIrqstWrite t page v => Sys2Proof.Machine.execPgIrqstWrite t page v s
  | .msixUnmask t entry => Sys2Proof.Machine.execMsixUnmask t entry s
  | .pgCtrlEn t page en => Sys2Proof.Machine.execPgCtrlEn t page en s
  | .pgCtrlSrst t page => Sys2Proof.Machine.execPgCtrlSrst t page s
  | .pgCtrlFreeze t page on => Sys2Proof.Machine.execPgCtrlFreeze t page on s
  | .pgLockWrite t page v => Sys2Proof.Machine.execPgLockWrite t page v s
  | .registerWrite t bar2 off v be => Sys2Proof.Machine.execRegisterWrite t bar2 off v be s
  | .registerRead t bar2 off be => Sys2Proof.Machine.execRegisterRead t bar2 off be s
  | .fabricWindowResponse t r data => Sys2Proof.Machine.execFabricWindowResponse t r data s
  | .vioAgreement t b => Sys2Proof.Machine.execVioAgreement t b s
  | .arithmeticBlockOperation x => Sys2Proof.Machine.execArithmeticBlockOperation x s
  | .receiverAligned t x => Sys2Proof.Machine.execReceiverAligned t x s
  | .pairLinkUp t hlth => Sys2Proof.Machine.execPairLinkUp t hlth s
  | .vccMusLoss t => Sys2Proof.Machine.execVccMusLoss t s
  | .pcieLinkUp t width speed => Sys2Proof.Machine.execPcieLinkUp t width speed s
  | .pcieLinkDown t => Sys2Proof.Machine.execPcieLinkDown t s
  | .perstRelease t => Sys2Proof.Machine.execPerstRelease t s
  | .d3hotTransition t into => Sys2Proof.Machine.execD3hotTransition t into s
  | .jtagInstruction t op => Sys2Proof.Machine.execJtagInstruction t op s

end Sys2Proof.Machine
end

