-- ==== Sys2Proof/Machine/Tiles.lean ====
section
/-! DEFINITION. The logic tiles of the fabric (spec/09_fabric.md, R206 to R209): LUTs, carry chains, flip-flops and
boundary wires, and what one edge of a fabric user clock does to them. -/

namespace Sys2Proof.Machine

/-! ## One region (R206 to R208) -/

/-- R206, R207: LUTs and flip-flops of a region: 512 tiles of two slices of ten LUTs, with two flip-flops for each LUT. -/
def lutCount : Nat := 512 * 20
def ffCount : Nat := 512 * 40

/-- What the logic of a region sees in a cycle: its slices, and the values of what drives it. `loop` is the value of a
path through LUTs that never ends, which the manual leaves open. -/
structure Logic where
  slice : Nat → SliceCfg
  ff : Nat → Bool
  leaf : Sig → Bool
  loop : Bool

/-- R207: one LUT of a region. -/
def Logic.lutOf (g : Logic) (i : Nat) : LutCfg := (g.slice (i / 10)).luts.getD (i % 10) ⟨0, false, [], .const false⟩

/-- R207: the table of a LUT6 at its six inputs, or of two functions of five inputs at the five they share. -/
def lutOut (c : LutCfg) (x : Nat → Bool) (second : Bool) : Bool :=
  let low := ((List.range 5).map fun i => (x i).toNat * 2 ^ i).sum
  if c.dual then c.table.getLsbD (low + 32 * second.toNat) else c.table.getLsbD (low + 32 * (x 5).toNat)

/-- A point inside the logic: what drives an input, an output of a LUT's tables, or the carry into a LUT's place of the
chain. -/
inductive LogicNode where
  | sig (s : Sig)
  | table (i : Nat) (second : Bool)
  | carry (i : Nat)

/-- R207, R208: the value at a point, found through at most `n` others. In a chain a LUT's two functions are the bits that
it adds, its first output is their sum with the carry, and the carry goes on to the LUT above; bit 0 of a slice follows
bit 9 of the slice below it in the column (DESIGN CHOICE, log entry 126). -/
def Logic.value (g : Logic) : Nat → LogicNode → Bool
  | 0, _ => g.loop
  | _ + 1, .sig (.ff i) => g.ff i
  | n + 1, .sig (.lut i second) =>
    let own := Logic.value g n (.table i second)
    if (g.slice (i / 10)).chain && !second then
      (own ^^ Logic.value g n (.table i true)) ^^ Logic.value g n (.carry i)
    else own
  | _ + 1, .sig s => g.leaf s
  | n + 1, .table i second =>
    let c := g.lutOf i
    lutOut c (fun k => Logic.value g n (.sig (c.ins.getD k (.const false)))) second
  | n + 1, .carry i =>
    let above (j : Nat) : Bool :=
      let a := Logic.value g n (.table j false)
      let b := Logic.value g n (.table j true)
      let c := Logic.value g n (.carry j)
      (a && b) || (c && (a ^^ b))
    if i % 10 ≠ 0 then above (i - 1)
    else match (g.slice (i / 10)).carryIn with
      | .const b => b
      | .lut j second => Logic.value g n (.table j second)
      | .below => if i / 10 % 64 = 0 then false else above (i - 1)

/-- The points of a region: no path without a loop passes more. -/
def nodeCount : Nat := 4 * lutCount + ffCount + 2

/-- R207: what drives an input of the logic. -/
def Logic.input (g : Logic) (s : Sig) : Bool := g.value nodeCount (.sig s)

/-- R207: what a flip-flop registers: its LUT's output, or the bypass input. -/
def Logic.next (g : Logic) (i : Nat) : Bool :=
  if i % 2 = 0 then g.input (.lut (i / 2) false) else g.input (g.lutOf (i / 2)).bypass

/-- R207: a flip-flop at an edge of the clocks whose lines are `on`: its reset acts with the clock, or at once where the
image selects an asynchronous one. -/
def Logic.ffAfter (g : Logic) (on : Nat → Bool) (i : Nat) : Bool :=
  let c := g.slice (i / 20)
  let reset := g.input c.reset
  if reset && (c.async || on c.clk) then c.resetTo.getLsbD (i % 20)
  else if on c.clk && g.input c.enable then g.next i
  else g.ff i

/-! ## The regions together (R209, R210) -/

/-- R209, R223: the region beyond an edge: 0 north, 1 east, 2 south, 3 west. -/
def neighbour (r edge : Nat) : Option Nat :=
  match edge with
  | 0 => if 8 ≤ r then some (r - 8) else none
  | 1 => if r % 8 < 7 then some (r + 1) else none
  | 2 => if r < 56 then some (r + 8) else none
  | 3 => if 0 < r % 8 then some (r - 1) else none
  | _ => none

/-- The edge of the region beyond that faces this one. -/
def facing (edge : Nat) : Nat := (edge + 2) % 4

/-- What drives the logic of a region from outside its flip-flops and LUTs. -/
def State.leaf (s : State) (r : Nat) : Sig → Bool
  | .const b => b
  | .wire edge i => SMap.get false s.fab.wireRx ((r * 4 + edge) * 320 + i)
  | .ram b portB i =>
    let k := (r * 40 + b) * 2 + portB.toNat
    if i = 20 then SMap.get false s.fab.perr k
    else if i = 21 then SMap.get false s.fab.collide (r * 40 + b)
    else (SMap.get 0 s.fab.ramQ k).testBit i
  | .acc b i => if i = 30 then SMap.get false s.fab.satOut (r * 20 + b) else (SMap.get 0 s.fab.acc (r * 20 + b)).getLsbD i
  | .port q i => ((s.fab.shown.find? fun x => x.1 = r * 8 + q).map fun x => x.2.getLsbD i).getD false
  | .swapPending => s.cfg.swapPend.testBit r
  | _ => false

/-- The logic of a region as its image and the state give it. -/
def State.logic (s : State) (loop : Bool) (r : Nat) : Logic :=
  { slice := Config.slice (s.active r).payload
    ff := fun i => SMap.get false s.fab.ff (r * ffCount + i)
    leaf := s.leaf r
    loop := loop }

/-- R210: a clock line of a region carries this fabric user clock and runs. -/
def State.lineOn (s : State) (c r line : Nat) : Bool := s.clkRun r line && decide (s.clkSel r line = c)

/-- R209: the configuration of a boundary wire that a region drives. -/
def State.wireCfg (s : State) (r edge i : Nat) : WireCfg := Config.wire (s.active r).payload (edge * 320 + i)

/-- R209: a wire from a region over an edge moves at an edge of clock `c`: both regions belong to one allocation, and both
clock the wire from that output of an MDLL. -/
def State.wireMoves (s : State) (c r edge i : Nat) : Bool :=
  match neighbour r edge with
  | none => false
  | some q =>
    decide (2 ≤ (s.region r).state) && decide ((s.region r).id = (s.region q).id) &&
      s.lineOn c r (s.wireCfg r edge i).clk && s.lineOn c q (s.wireCfg q (facing edge) i).clk

/-- R209: the registers of the boundary wires after an edge of clock `c`: the driving side takes its source, the
receiving side takes what the driving side held. -/
def State.moveWires (s : State) (c : Nat) (loop : Bool) : SMap Bool × SMap Bool :=
  let all := (List.range 64).flatMap fun r => (List.range 4).flatMap fun e => (List.range 320).map fun i => (r, e, i)
  (all.filter fun x => s.wireMoves c x.1 x.2.1 x.2.2).foldl (fun m x =>
    let k := (x.1 * 4 + x.2.1) * 320 + x.2.2
    let q := (neighbour x.1 x.2.1).getD 0
    (SMap.put false m.1 k ((s.logic loop x.1).input (s.wireCfg x.1 x.2.1 x.2.2).source),
      SMap.put false m.2 ((q * 4 + facing x.2.1) * 320 + x.2.2) (SMap.get false s.fab.wireTx k)))
    (s.fab.wireTx, s.fab.wireRx)

/-- R207: the flip-flops of a region after an edge of clock `c`. -/
def State.regionAfter (s : State) (c : Nat) (loop : Bool) (m : SMap Bool) (r : Nat) : SMap Bool :=
  if s.rgnClocked r then
    SMap.putAll false m (r * ffCount) ((List.range ffCount).map ((s.logic loop r).ffAfter (s.lineOn c r)))
  else m

/-- R207 to R210: an edge of fabric user clock `c`. -/
def State.clockEdge (s : State) (c : Nat) (loop : Bool) : State :=
  let w := s.moveWires c loop
  let ff := (List.range 64).foldl (s.regionAfter c loop) s.fab.ff
  s.updFab fun f => { f with ff := ff, wireTx := w.1, wireRx := w.2 }

/-- What the block does while no command waits: where the clocks of some region run, one of the twenty fabric user clocks
has an edge, or none; which one is left open (DESIGN CHOICE, log entry 127). -/
def State.idle (s : State) : State :=
  if (List.range 64).any s.rgnClocked then
    let c := s.takeFree 5
    let b := c.2.takeFree 1
    if c.1 < 20 then b.2.clockEdge c.1 (decide (b.1 = 1)) else b.2
  else s

end Sys2Proof.Machine
end

