-- ==== Sys2Proof/Safety.lean ====
section
/-! DEFINITION. The terms in which statements speak of states: the canonical form of the block's
stores, when a host access reaches its page, what a command completes with, and what it leaves alone. -/

namespace Sys2Proof.Machine

/-- Every addressed store of the block is in its canonical form. -/
def State.wf (s : State) : Bool :=
  SMap.wf (fun _ => 0) s.ctx.store && SMap.wf (fun _ => 0) s.ctx.bstore &&
  SMap.wf (fun _ => 0) s.ctx.ecc && SMap.wf (fun _ => 0) s.ctx.quar &&
  SMap.wf (fun _ => 0) s.jer.mc && SMap.wf (fun _ => 0) s.jer.pat &&
  SMap.wf (fun _ => ClsEnt.none) s.jer.pend && SMap.wf (fun _ => ClsEnt.none) s.jer.inf &&
  SMap.wf (fun _ => 0) s.fab.ram && SMap.wf (fun _ => 0xFF) s.fls.mem &&
  SMap.wf homeSlot s.plc.home

/-! ## Completion -/

/-- The command completes at `s`, with a next state of which `P` holds. -/
def Completes (c : Instr) (s : State) (P : State → Prop) : Prop := ∃ u, exec c s = .next u ∧ P u

/-! ## Frames -/

/-- The parts of the state beside its register fields. -/
inductive Piece where
  | pending | time | frm | ctx | jer | plc | lnk | ang | fab | cfg | fls | pwr | twn | hst | free
  /-- Of the host interface: the MSI-X vectors asserted, pending bits and messages, with the bits of PG_ERR and
  PG_IRQST set in this instant (R7); the log ring; the data of the latest read. -/
  | msi | ring | rdata
  deriving DecidableEq, Repr

/-- The state with one part set back. -/
def State.drop (s : State) : Piece → State
  | .pending => { s with pending := [] }
  | .time => { s with time := 0, inst := ⟨[], [], 0⟩ }
  | .frm => { s with frm := Frm.reset }
  | .ctx => { s with ctx := Ctx.reset }
  | .jer => { s with jer := Jer.reset }
  | .plc => { s with plc := Plc.reset }
  | .lnk => { s with lnk := [] }
  | .ang => { s with ang := [] }
  | .fab => { s with fab := Fab.reset }
  | .cfg => { s with cfg := Cfg.reset }
  | .fls => { s with fls := Fls.reset }
  | .pwr => { s with pwr := Pwr.reset }
  | .twn => { s with twn := Twn.reset }
  | .hst => { s with hst := Hst.reset }
  | .free => { s with free := 0 }
  | .msi => { s with inst := { s.inst with set := [] }, hst := { s.hst with pba := 0, asserted := 0, msgs := [] } }
  | .ring => { s with hst := { s.hst with ring := [] } }
  | .rdata => { s with hst := { s.hst with rdata := [] } }

/-- The state without its register fields and without the parts named. -/
def State.blank (s : State) (ps : List Piece) : State := ps.foldl State.drop { s with flds := [] }

/-- From `s` to `u` at most the parts `ps` and the register fields whose keys are in `K` have changed. -/
def Changes (s u : State) (ps : List Piece) (K : Nat → Bool) : Prop :=
  u.blank ps = s.blank ps ∧ ∀ p f, K (fldKey p f) = false → u.fld p f = s.fld p f

/-- No register field. -/
def noField (_ : Nat) : Bool := false

/-- The register fields of these pages. -/
def pages (ps : List Nat) (k : Nat) : Bool := ps.contains (k / 131072)

/-- These register fields, each with its page. -/
def fields (xs : List (Nat × Fld)) (k : Nat) : Bool := xs.any fun x => decide (fldKey x.1 x.2 = k)

/-- PG_ERR and PG_IRQST of a page. -/
def errFields (p : Nat) : List (Nat × Fld) := [(p, HDR_PG_ERR_ERR), (p, HDR_PG_IRQST_ST)]

/-- PG_IRQST of a page. -/
def irqField (p : Nat) : List (Nat × Fld) := [(p, HDR_PG_IRQST_ST)]

/-- From `s` to `u` bit `b` of PG_ERR and of PG_IRQST of page `p` has been set (R415), and nothing else has
changed but MSI-X (R420). -/
def RaisesOnly (s u : State) (p b : Nat) : Prop :=
  u.fld p HDR_PG_ERR_ERR = (s.fld p HDR_PG_ERR_ERR ||| 2 ^ b) % 2 ^ 32 ∧
  u.fld p HDR_PG_IRQST_ST = (s.fld p HDR_PG_IRQST_ST ||| 2 ^ b) % 2 ^ 32 ∧
  Changes s u [.msi] (fields (errFields p))

/-- `u` has a counter of `s` counted up by one, held at its largest value. -/
def State.counts (s u : State) (p : Nat) (f : Fld) : Prop := u.fld p f = Nat.min (s.fld p f + 1) (2 ^ f.wid - 1)

/-- `u` has bit `b` of PG_ERR of page `p` set (R415). -/
def State.flags (s u : State) (p b : Nat) : Prop :=
  u.fld p HDR_PG_ERR_ERR = (s.fld p HDR_PG_ERR_ERR ||| 2 ^ b) % 2 ^ 32

/-- `u` has the bits `m` of PG_ERR of page `p` set (R415). -/
def State.flagsMask (s u : State) (p m : Nat) : Prop :=
  u.fld p HDR_PG_ERR_ERR = (s.fld p HDR_PG_ERR_ERR ||| m) % 2 ^ 32

/-- `u` has bit `b` of PG_IRQST of page `p` set (R415). -/
def State.asserts (s u : State) (p b : Nat) : Prop :=
  u.fld p HDR_PG_IRQST_ST = (s.fld p HDR_PG_IRQST_ST ||| 2 ^ b) % 2 ^ 32

/-- These register fields, and those of the LOG page that a log entry changes. -/
def andLog (xs : List (Nat × Fld)) : Nat → Bool :=
  fields (xs ++ [(pLOG, LOG_STAT_WRPTR), (pLOG, LOG_TOTAL_COUNT), (pLOG, LOG_DROPPED_COUNT),
    (pLOG, HDR_PG_ERR_ERR), (pLOG, HDR_PG_IRQST_ST)])

/-! ## Host accesses -/

/-- A host write reaches BAR0 offset `off` at the present time (R400, R383, R352, R312, R418): the host interface is up,
PFW_B does not block it, the device is no standby for a forwarded register, the page's clock runs and
its lock does not cover the register. -/
def State.writeOpen (s : State) (off : Nat) : Bool :=
  s.hostUp && !s.pwr.pfwBlock && !(decide (s.role = 2) && forwarded off) && s.clkOn (off / 4096) &&
  !(s.bit (off / 4096) HDR_PG_LOCK_LOCKED && lockCovers (off % 4096))

/-- What a host write that reaches BAR0 offset `off` acts on: device time has moved on, and a primary has
handed the write to the pair link (R352). -/
def State.arrive (s : State) (t : Time) (off v : Nat) : State :=
  if s.role = 1 ∧ forwarded off then (s.at_ t).parcel (.reg off v) else s.at_ t

/-- A host read of BAR0 offset `off` reaches its page (R400, R312, R313). -/
def State.readOpen (s : State) (off : Nat) : Bool :=
  s.hostUp && decide (s.npNow < 32) && s.clkOn (off / 4096)

/-- A host write to a BAR2 window that page `pg` clocks reaches it; `fwd` when the primary forwards the window. -/
def State.writeOpen2 (s : State) (pg : Nat) (fwd : Bool) : Bool :=
  s.hostUp && !s.pwr.pfwBlock && !(decide (s.role = 2) && fwd) && s.clkOn pg

/-! ## Frame boundaries -/

/-- `s` with these ticks still to register. -/
def State.withIssued (s : State) (ks : List Tick) : State := s.updFrm fun f => { f with issued := ks }

/-- `s` with its held tick taken. -/
def State.unheld (s : State) : State := s.updFrm fun f => { f with held := false }

/-- `s` once the frame in force has ended at a boundary at `t` (R42 to R45). -/
def State.ended (s : State) (t : Time) : State := (s.at_ t).finishFrame t

/-- The cause of HOLD that applies at a boundary at `t`, if one does (R448). -/
def State.holdAt (s : State) (t : Time) : Option Nat :=
  (s.ended t).holdCause (s.overruns t)

/-- At a boundary at `t` the next frame starts: neither HOLD nor a planned switch is due. -/
def State.startsAt (s : State) (t : Time) : Prop := s.holdAt t = none ∧ (s.ended t).twn.switch = false

/-- `u` is `s` after the start of a frame at `t` (R22, R23, R25). -/
def State.started (s u : State) (t : Time) (idle : Bool) : Prop :=
  u.fn = (s.ended t).nextFn % 2 ^ 48 ∧ u.fld pFRM FRM_STAT_IDLE = idle.toNat ∧
  u.frm.start = t ∧ u.frm.last = some t ∧ u.frm.inFrame = true ∧ u.frm.held = false ∧
  u.frm.computed = false ∧ u.frm.deadline = false ∧ u.frm.window = false ∧ u.frm.fromStop = false

/-! ## Contexts -/

/-- `u` is `s` after a write at `t` to the context window or an alias has put its halfwords into the open group. -/
def joined (s : State) (t : Time) (mk : Nat → Nat → Word → GEntry) (off : Nat) (data : List Hw) (u : State) : Prop :=
  u.ctx = { s.ctx with
    open_ := s.ctx.open_ ++ data.zipIdx.map fun x =>
      mk ((off + 2 * x.2) / 128) ((off + 2 * x.2) % 128 / 2) (x.1.data.setWidth 10) } ∧
  Changes (s.at_ t) u [.ctx, .twn] noField ∧ (s.role ≠ 1 → u.twn = s.twn)

/-- `u` has SAFEIDX advanced as R68 says, where SAFEINC asks for it. -/
def State.indexAdvanced (s u : State) : Prop :=
  let slot := s.fld pCTX CTX_SAFEIDX_SLOT
  let link := s.fld pCTX CTX_SAFEIDX_LINK
  if s.bit pCTX CTX_CTRL_SAFEINC = true then
    if slot = 383 then u.fld pCTX CTX_SAFEIDX_SLOT = 0 ∧ u.fld pCTX CTX_SAFEIDX_LINK = (link + 1) % 128
    else u.fld pCTX CTX_SAFEIDX_SLOT = slot + 1 ∧ u.fld pCTX CTX_SAFEIDX_LINK = link
  else u.fld pCTX CTX_SAFEIDX_SLOT = slot ∧ u.fld pCTX CTX_SAFEIDX_LINK = link

/-- The slot and the ECC group that scrub reads next in a bank. -/
def scrubSlot (s : State) (b : Engine) : Nat := b.val * 1600 + SMap.get 0 s.ctx.scrub b.val / 16
def scrubGrp (s : State) (b : Engine) : Nat := SMap.get 0 s.ctx.scrub b.val % 16

/-! ## Placement -/

/-- No migration waits to be cancelled, requested again or made from the next frame on (R144). -/
def State.settled (s : State) : Prop := s.plc.again = [] ∧ ∀ m ∈ s.plc.migs, m.cancel = 0

/-! ## Engines -/

/-- Engine `e` is about to execute `i` in visit `x`, and the cycles of `i` end before the W-th program cycle. -/
def State.atInstr (s : State) (e : Engine) (i : EInstr) (x : Visit) : Prop :=
  s.fetch e.val = some (x, i) ∧ x.cyc + s.cost i < x.w

/-- The visit has executed an instruction of `n` cycles and is at the next address. -/
def Visit.stepped (x : Visit) (n : Nat) : Visit := { x with pc := x.pc + 1, last := x.pc, cyc := x.cyc + n }

/-- A value held to a range (R119). -/
def clamp (lo hi t : Int) : Int := max lo (min hi t)

/-- R124: the product of two words. -/
def product (m : MulMode) (a b : Word) : Int :=
  match m with
  | .ss => a.toInt * b.toInt
  | .uu => a.toNat * b.toNat
  | .su => a.toInt * b.toNat

/-- `u` is `s` after an engine fault ended visit `x` with a cause, an address and so many program cycles (R109). -/
def State.faulted (s u : State) (e : Engine) (x : Visit) (cause addr cycles : Nat) : Prop :=
  (u.engine e.val).visit = none ∧ (u.engine e.val).cyc = (s.engine e.val).cyc + (4 + cycles) ∧
  (u.engine e.val).lastEnd = (s.engine e.val).lastEnd ∧
  u.ctx.quar = SMap.put 0 s.ctx.quar x.handle (s.fn + 1) ∧ u.lnk = s.lnk ∧ u.plc.home = s.plc.home ∧
  (s.bit (pJE e.val) JE_FLTLAST_VALID = false →
    u.fld (pJE e.val) JE_FLTLAST_CAUSE = cause % 2 ^ JE_FLTLAST_CAUSE.wid ∧
    u.fld (pJE e.val) JE_FLTLAST_ADDR = addr % 2 ^ JE_FLTLAST_ADDR.wid ∧
    u.fld (pJE e.val) JE_FLTHDL_HANDLE = x.handle % 2 ^ JE_FLTHDL_HANDLE.wid) ∧
  u.fld (pJE e.val) HDR_PG_ERR_ERR = (s.fld (pJE e.val) HDR_PG_ERR_ERR ||| 2 ^ JE_E_FLT) % 2 ^ 32 ∧
  (∀ k, (∀ p ∈ [x.phys, s.phys x.handle], k ≠ p * 64 + 13 ∧ k ≠ p * 64 + 15) →
    SMap.get 0 u.ctx.store k = SMap.get 0 s.ctx.store k)

/-! ## The fabric -/

/-- A word of a RAM block has good parity. -/
def State.ramSound (s : State) (k : Nat) : Prop :=
  SMap.get false s.fab.ramBad (2 * k) = false ∧ SMap.get false s.fab.ramBad (2 * k + 1) = false

/-- `u` is `s` after an access of a RAM block in one cycle (R213 to R217): the word at `k` left as `new`, every other
word and its parity as they were, `q` without a parity error at the outputs of the port that the access names, COLLIDE as told, and the outputs
of every other block as they were; so are those of the other port where it makes no access (`alone`). -/
def State.ramDone (s u : State) (x : RamAcc) (k : Nat) (new q : BitVec 20) (collide alone : Bool) : Prop :=
  let b := x.region.val * 40 + x.block.val
  u.fab = { s.fab with
    ram := SMap.put 0 s.fab.ram k new
    ramBad := SMap.put false (SMap.put false s.fab.ramBad (2 * k) false) (2 * k + 1) false
    ramQ := u.fab.ramQ, perr := u.fab.perr, collide := SMap.put false s.fab.collide b collide } ∧
  SMap.get 0 u.fab.ramQ (2 * b + x.portB.toNat) = q.toNat ∧
  SMap.get false u.fab.perr (2 * b + x.portB.toNat) = false ∧
  (∀ j, j ≠ 2 * b + x.portB.toNat → j / 2 ≠ b ∨ alone = true →
    SMap.get 0 u.fab.ramQ j = SMap.get 0 s.fab.ramQ j ∧ SMap.get false u.fab.perr j = SMap.get false s.fab.perr j) ∧
  Changes s u [.fab] noField

/-- `u` is `s` after the halfwords of a host write at `t`, from word `a0` of pattern RAM on, have each changed their
word as `f` says, from its old value and the data written. -/
def State.patterned (s u : State) (t : Time) (a0 : Nat) (data : List Hw) (f : Word → Word → Word) : Prop :=
  u.jer = { s.jer with pat := u.jer.pat } ∧
  (∀ a < 1048576, SMap.get 0 u.jer.pat a = match data[(a + 1048576 - a0) % 1048576]? with
    | some x => f (SMap.get 0 s.jer.pat a) (x.data.setWidth 10)
    | none => SMap.get 0 s.jer.pat a) ∧
  Changes (s.at_ t) u [.jer, .twn] noField ∧ (s.role ≠ 1 → u.twn = s.twn)

/-- A stream's flights with `flit`, accepted at `t`, among them; an earlier one for the same presentation gives way. -/
def launched (x : Stream) (t : Nat) (flit : Flit) (fs : List Flight) : List Flight :=
  fs.filter (fun y => y.be || !(y.src = x.src ∧ y.dst = x.dst ∧ y.due = t + 2 * x.d)) ++
    [⟨x.src, x.dst, t + 2 * x.d, flit, false⟩]

/-- Bits `lo` to `lo + n - 1` of a flit. -/
def flitBits (x : Flit) (lo n : Nat) : Nat := bitsN x.toNat lo n

/-! ## Configuration and flash -/

/-- `u` is `s` with the activation set refused with a result (R154, R257): no set, and its PENDING members FREE. -/
def State.refusedSet (s u : State) (result members : Nat) : Prop :=
  u.cfg.as = none ∧ u.fld pCFG CFG_ASSTAT_RESULT = result ∧ u.fld pCFG CFG_ASSTAT_STATE = 0 ∧
  s.flags u pCFG CFG_E_ASREF ∧ u.cfg.act = s.cfg.act ∧ u.cfg.voile = s.cfg.voile ∧ u.fab = s.fab ∧
  (∀ r < 64, members.testBit r = true → (s.region r).state = 1 → u.region r = RgnAlloc.free) ∧
  (∀ r, (s.region r).state ≠ 1 → u.region r = s.region r)

/-- Routine `r` of this code is at this step of its work at `t`, within its limit, and may go on (R269, R271, R272,
R383). -/
def State.runs (s : State) (t : Time) (code step : Nat) (r : Run) : Prop :=
  s.fls.run = some r ∧ r.req.code = code ∧ r.step = step ∧ s.timeAt t ≤ r.since + limitOf r ∧
  s.pwr.pfwBlock = false ∧ s.pwr.lcs ≠ 4

/-- `u` is `s` after routine `r` has posted its completion (R270), whose RESULT is as `res` says. -/
def State.posts (s u : State) (r : Run) (st : Nat) (res : Nat → Prop) : Prop :=
  (∃ v, res v ∧ u.fls.cpls = s.fls.cpls ++ [⟨r.req.code, r.req.tag, st, v⟩]) ∧
  (u.fld pSVC HDR_PG_IRQST_ST).testBit SVC_E_CPL = true ∧ (s.fls.queue = [] → u.fls.run = none)

/-- No claim on a RESULT. -/
def anyResult (_ : Nat) : Prop := True

/-- `u` is `s` after the running routine has asked for a staging chunk (R251 step 1). -/
def State.asksChunk (s u : State) (r : Run) (slot n : Nat) : Prop :=
  u.fld pCFG CFG_STGSTAT_REQ = 1 ∧ u.fld pCFG CFG_STGSTAT_SLOT = slot % 2 ^ CFG_STGSTAT_SLOT.wid ∧
  u.fld pCFG CFG_STGSTAT_CHUNK = n % 2 ^ CFG_STGSTAT_CHUNK.wid ∧
  (∃ w, u.fls.run = some { r with step := 1, chunk := n, warn := w }) ∧
  (u.fld pCFG HDR_PG_IRQST_ST).testBit CFG_E_STGREQ = true ∧ u.fls.cpls = s.fls.cpls

/-! ## Clocks, power and reset -/

/-- The fields of STAT of a CLK page. -/
def clkStat (n : Nat) : List (Nat × Fld) :=
  [(pCLK n, CLK_STAT_STATE), (pCLK n, CLK_STAT_MUTED), (pCLK n, CLK_STAT_BAND), (pCLK n, CLK_STAT_WINDOW),
   (pCLK n, CLK_STAT_RAMP)]

/-- `u` is the state in which bring-up starts after a reset of kind 1 or 2 of `s` (R394): the Muslin domain,
the flash, the OTP row, the fuses and held pads are kept, and everything else is as after POR. -/
def State.restarted (s u : State) (kind : Nat) : Prop :=
  u.pwr.up = false ∧ u.pwr.kind = kind ∧ u.frmState = 0 ∧ u.frm = { Frm.reset with tickIn := s.frm.tickIn } ∧
  u.ctx = Ctx.reset ∧ u.jer = Jer.reset ∧ u.plc = Plc.reset ∧ u.lnk = [] ∧ u.cfg = Cfg.reset ∧ u.twn = Twn.reset ∧
  u.fls.run = none ∧ u.fls.queue = [] ∧ u.fls.cpls = [] ∧ u.fls.otp = s.fls.otp ∧ u.fls.dir = s.fls.dir ∧
  u.pwr.fuse = s.pwr.fuse ∧ u.pwr.faultB = false ∧ u.fn = s.fn ∧ u.fnLoad = s.fnLoad ∧
  u.fld pSYS SYS_RSTINFO_KIND = kind ∧ u.fld pPWR PWR_STAT_STOPPED = 0 ∧ (∀ b < 8, (u.iob b).held = (s.iob b).held)

/-- `u` is `s` woken from GAUZE by a source (R322 to R326): bring-up starts, the contents of retained banks are
kept, and the other words of the context store read 0. -/
def State.woke (s u : State) (src : Nat) : Prop :=
  u.pwr.kind = 3 ∧ u.pwr.gz = 3 ∧ u.pwr.up = false ∧ u.fld pPWR PWR_WAKESRC_SRC = src ∧
  u.pwr.wakeB = s.bit pPWR PWR_CTRL_WAKEB ∧ u.frmState = 0 ∧ u.fls.mem = s.fls.mem ∧ u.pwr.fuse = s.pwr.fuse ∧
  u.fn = s.fn ∧
  u.fld pPWR PWR_WAKECNT_COUNT = (s.fld pPWR PWR_WAKECNT_COUNT + 1) % 2 ^ PWR_WAKECNT_COUNT.wid ∧
  (∀ p w, w < 64 → u.slotWord p w = if s.retains (bankOf p) then s.slotWord p w else 0)

/-- `u` is `s` with entry to GAUZE refused by a domain for a reason (R319). -/
def State.entryRefused (s u : State) (d r : Nat) : Prop :=
  u.pwr.gz = 0 ∧ u.fld pPWR PWR_STAT_STOPPED = 0 ∧ u.fld pPWR PWR_CMDSTAT_STATUS = stREFUSED ∧
  u.fld pPWR PWR_CMDSTAT_DOMAIN = d % 2 ^ PWR_CMDSTAT_DOMAIN.wid ∧
  u.fld pPWR PWR_CMDSTAT_REASON = r % 2 ^ PWR_CMDSTAT_REASON.wid ∧ s.flags u pPWR PWR_E_REFUSED ∧
  u.ctx = s.ctx ∧ u.frm = s.frm ∧ u.fab = s.fab ∧ u.lnk = s.lnk ∧ u.fls = s.fls

/-! ## Twin pairs -/

/-- `u` is `s` with a join refused for a cause (R369, R370): the role and the pair link are as before. -/
def State.notJoined (s : State) (cause : Nat) (u : State) : Prop :=
  u.fld pTWN TWN_JOINSTAT_CAUSE = cause ∧ s.flags u pTWN TWN_E_JOINREF ∧ u.role = s.role ∧
  Changes s u [.msi] (fields ((pTWN, TWN_JOINSTAT_CAUSE) :: errFields pTWN))

/-! ## Links -/

/-- `u` is `s` with training of the port started (R160, R185, R186). -/
def State.trains (s u : State) (l : Link) : Prop :=
  let p := pUL l.val
  u.fld p UL_STAT_STATE = 1 ∧ u.fld p UL_STAT_MODCNT = 0 ∧ u.fld p UL_STAT_SLOTS = 0 ∧
  u.fld p UL_TRNCNT_ATTEMPTS = Nat.min (s.fld p UL_TRNCNT_ATTEMPTS + 1) (2 ^ UL_TRNCNT_ATTEMPTS.wid - 1) ∧
  u.link l.val = { s.link l.val with
    mods := [], step := 1, stepAt := s.time, recs := 0, origin := s.time, autoAt := none
    seed := (u.link l.val).seed, rx := Rx.none } ∧ (u.link l.val).seed ≠ 0 ∧
  (∀ k, k ≠ l.val → u.link k = s.link k) ∧
  Changes s u [.lnk] (fields [(p, UL_STAT_STATE), (p, UL_STAT_MODCNT), (p, UL_STAT_SLOTS), (p, UL_TRNCNT_ATTEMPTS)])

/-- `u` is `s` with the port in DOWN, to which it has gone (R185). -/
def State.goesDown (s u : State) (l : Link) : Prop :=
  let p := pUL l.val
  u.fld p UL_STAT_STATE = 0 ∧
  u.fld p UL_TRNCNT_DOWNCNT = Nat.min (s.fld p UL_TRNCNT_DOWNCNT + 1) (2 ^ UL_TRNCNT_DOWNCNT.wid - 1) ∧
  u.link l.val = { s.link l.val with
    step := 0, autoAt := some (s.time + 10000000), txOn := false, tx := [], parts := [], segs := [], resent := []
    emitAt := none, tag := none } ∧ (∀ k, k ≠ l.val → u.link k = s.link k) ∧
  (2 ≤ s.fld p UL_STAT_STATE → u.fld p HDR_PG_ERR_ERR = (s.fld p HDR_PG_ERR_ERR ||| 2 ^ UL_E_DOWN) % 2 ^ 32) ∧
  Changes s u [.lnk, .msi] (fields ([(p, UL_STAT_STATE), (p, UL_TRNCNT_DOWNCNT)] ++ errFields p))

/-- `u` is `s` with the training of the port failed for a reason (R186). -/
def State.trainingFailed (s u : State) (l : Link) (err : Nat) : Prop :=
  let p := pUL l.val
  u.fld p UL_STAT_STATE = 0 ∧ u.fld p UL_STAT_TRNERR = err ∧ (u.link l.val).step = 0 ∧
  (u.link l.val).autoAt = some (s.time + 10000000) ∧
  u.fld p HDR_PG_ERR_ERR = (s.fld p HDR_PG_ERR_ERR ||| 2 ^ UL_E_TRNFAIL) % 2 ^ 32 ∧
  (∀ k, k ≠ l.val → u.link k = s.link k) ∧
  Changes s u [.lnk, .msi] (fields ([(p, UL_STAT_STATE), (p, UL_STAT_TRNERR), (p, UL_TRNCNT_DOWNCNT),
    (pERR, ERR_CLASSCNT_CONTAINED)] ++ errFields p))

/-- A write of a register page by the host as a command with a row of its own: when, and at which offset of
BAR0. -/
def hostWriteOf (c : Instr) : Option (Time × Nat) :=
  match c with
  | .frmCmdRun t => some (t, pFRM * 4096 + 0x44)
  | .frmCmdHold t => some (t, pFRM * 4096 + 0x44)
  | .frmCmdStop t => some (t, pFRM * 4096 + 0x44)
  | .sourceSwitch t _ => some (t, pFRM * 4096 + 0x40)
  | .minperWrite t _ => some (t, pFRM * 4096 + 0x4C)
  | .fbperWrite t _ => some (t, pFRM * 4096 + 0x58)
  | .qrelWrite t _ => some (t, pCTX * 4096 + 0x58)
  | .commitGo t => some (t, pCTX * 4096 + 0x48)
  | .commitAbandon t => some (t, pCTX * 4096 + 0x48)
  | .safedataWrite t _ => some (t, pCTX * 4096 + 0x70)
  | .mcdata0Write t _ => some (t, pJE 0 * 4096 + 0x84)
  | .mcdata1Write t _ => some (t, pJE 0 * 4096 + 0x88)
  | .ctdataWrite t _ => some (t, pJE 0 * 4096 + 0x94)
  | .fctgtWrite t n _ => some (t, pJE 0 * 4096 + 0xC0 + 4 * n.val)
  | .ctcmdVerify t => some (t, pJE 0 * 4096 + 0x9C)
  | .ctcmdRevert t => some (t, pJE 0 * 4096 + 0x9C)
  | .pin t _ => some (t, pPLC * 4096 + 0x60)
  | .unpin t => some (t, pPLC * 4096 + 0x60)
  | .exclude t _ => some (t, pPLC * 4096 + 0x48)
  | .include t => some (t, pPLC * 4096 + 0x48)
  | .btcmdStart t => some (t, pPLC * 4096 + 0x74)
  | .rreq t _ => some (t, pPLC * 4096 + 0x7C)
  | .rfree t _ => some (t, pPLC * 4096 + 0x84)
  | .ulCmdTrain t l => some (t, pUL l.val * 4096 + 0x44)
  | .ulCmdDown t l => some (t, pUL l.val * 4096 + 0x44)
  | .angCmdHome t u => some (t, pANG u.val * 4096 + 0x68)
  | .angCmdRehome t u => some (t, pANG u.val * 4096 + 0x68)
  | .cprWrite t u _ => some (t, pANG u.val * 4096 + 0x44)
  | .dprWrite t u _ => some (t, pANG u.val * 4096 + 0x48)
  | .angCtrlWrite t u _ => some (t, pANG u.val * 4096 + 0x40)
  | .pincfgWrite t b _ => some (t, pIOB b.val * 4096 + 0x4C)
  | .stgctlDone t _ => some (t, pCFG * 4096 + 0x88)
  | .asArm t _ => some (t, pCFG * 4096 + 0x4C)
  | .asCancel t => some (t, pCFG * 4096 + 0x4C)
  | .asClear t => some (t, pCFG * 4096 + 0x4C)
  | .svcCmdWrite t _ => some (t, pSVC * 4096 + 0x60)
  | .mdllEnable t n => some (t, pCLK n.val * 4096 + 0x40)
  | .mdllDisable t n => some (t, pCLK n.val * 4096 + 0x40)
  | .multWrite t n _ => some (t, pCLK n.val * 4096 + 0x48)
  | .spreadWrite t n _ => some (t, pCLK n.val * 4096 + 0x40)
  | .divWrite t n _ => some (t, pCLK n.val * 4096 + 0x50)
  | .phaseStepsWrite t n _ => some (t, pCLK n.val * 4096 + 0x54)
  | .banddataWrite t n _ => some (t, pCLK n.val * 4096 + 0x5C)
  | .pwrCmdGauze t => some (t, pPWR * 4096 + 0x40)
  | .ioholdRelease t => some (t, pSYS * 4096 + 0x44)
  | .sysReset t _ => some (t, pSYS * 4096 + 0x40)
  | .lcsTransition t _ _ _ _ => some (t, pLCS * 4096 + 0x44)
  | .certcmdVerify t => some (t, pLCS * 4096 + 0x60)
  | .certcmdClear t => some (t, pLCS * 4096 + 0x60)
  | .joinpri t => some (t, pTWN * 4096 + 0x44)
  | .joinstby t _ => some (t, pTWN * 4096 + 0x44)
  | .leave t => some (t, pTWN * 4096 + 0x44)
  | .switch t _ => some (t, pTWN * 4096 + 0x44)
  | .user t _ => some (t, pLOG * 4096 + 0x64)
  | .unfreeze t => some (t, pLOG * 4096 + 0x40)
  | _ => none

/-- A read of a register of BAR0 by the host as a command with a row of its own. -/
def hostReadOf (c : Instr) : Option (Time × Nat) :=
  match c with
  | .fnLoRead t => some (t, pFRM * 4096 + 0x5C)
  | .admrefRead t => some (t, pFRM * 4096 + 0x8C)
  | .safedataRead t => some (t, pCTX * 4096 + 0x70)
  | .tslastLoRead t u => some (t, pANG u.val * 4096 + 0x74)
  | .cplRead t => some (t, pSVC * 4096 + 0x6C)
  | .timeLoRead t => some (t, pCLK 0 * 4096 + 0x68)
  | .ent0Read t => some (t, pLOG * 4096 + 0x54)
  | _ => none

end Sys2Proof.Machine
end

