-- ==== Sys2Proof/Certificates/Slice0/Obligations.lean ====
section
/-! DEFINITION. The statements. -/

open Sys2Proof Sys2Proof.Machine

/-! ## Frame controller (spec/02_frame.md) -/

/-- R11, R13: RUN is accepted in STOP and HOLD, HOLD in RUN and STOP in HOLD; a command that is not accepted sets CMDERR
and has no other effect. Log entry 17 adds that CMDERR answers RUN as well where R376, R334 or R350 refuses it, and
where PG_CTRL.EN is 0. R15, R17, R20, R41: a written MINPER stores at least 5,000 and waits for admission; a written
selection takes effect at once outside RUN, waits in RUN where it differs from the one in force, and cancels a waiting
switch where it does not; FBPER stores at least 100, and where that changes the fallback period in force, the time of
the change is noted. Where the manual leaves a point open, this states the model's
choice (log entry 17). -/
def Obligations.FrameCommandsAndSelection : Prop :=
  (∀ (s : State) (t : Time), (s.at_ t).writeOpen 0x6044 = true →
    (s.frmState ≠ 1 → s.runRefused = false → Completes (.frmCmdRun t) s fun u =>
      u.frmState = 1 ∧ u.fld pFRM FRM_STAT_HOLDCAUSE = 0 ∧
      u.frm = { s.frm with
        issued := [], held := false, start := s.timeAt t, inFrame := false, roleHold := false
        timerNext := if s.fld pFRM FRM_STAT_SRCACT = 1 then
          some (s.timeAt t + Nat.max (s.fld pFRM FRM_TIMPER_VALUE) (s.fld pFRM FRM_MINPER_ACT_VALUE) * 10)
          else none } ∧
      u.ctx = { s.ctx with bvalid := false } ∧
      Changes (s.arrive t 0x6044 2) u [.frm, .ctx] (fields [(pFRM, FRM_STAT_STATE), (pFRM, FRM_STAT_HOLDCAUSE)])) ∧
    (s.frmState = 1 ∨ s.runRefused = true → Completes (.frmCmdRun t) s fun u =>
      RaisesOnly (s.arrive t 0x6044 2) u pFRM FRM_E_CMDERR) ∧
    (s.frmState = 1 → Completes (.frmCmdHold t) s fun u =>
      u.fld pFRM FRM_STAT_HOLDREQ = 1 ∧
      Changes (s.arrive t 0x6044 4) u [] (fields [(pFRM, FRM_STAT_HOLDREQ)])) ∧
    (s.frmState ≠ 1 → Completes (.frmCmdHold t) s fun u =>
      RaisesOnly (s.arrive t 0x6044 4) u pFRM FRM_E_CMDERR) ∧
    (s.frmState = 2 → s.role ≠ 3 → Completes (.frmCmdStop t) s fun u =>
      u.frmState = 0 ∧ u.fld pFRM FRM_STAT_HOLDCAUSE = 0 ∧
      u.frm = { s.frm with fromStop := true, timerNext := none } ∧ u.ctx = { s.ctx with bvalid := false } ∧
      Changes (s.arrive t 0x6044 1) u [.frm, .ctx] (fields [(pFRM, FRM_STAT_STATE), (pFRM, FRM_STAT_HOLDCAUSE)])) ∧
    (s.frmState ≠ 2 ∨ s.role = 3 → Completes (.frmCmdStop t) s fun u =>
      RaisesOnly (s.arrive t 0x6044 1) u pFRM FRM_E_CMDERR)) ∧
  (∀ (s : State) (t : Time) (v : Dword),
    ((s.at_ t).writeOpen 0x6040 = true → Completes (.sourceSwitch t v) s fun u =>
      u.fld pFRM FRM_CTRL_SRC = bitsN v.toNat FRM_CTRL_SRC.lo 2 ∧
      u.fld pFRM FRM_CTRL_ANGSEL = bitsN v.toNat FRM_CTRL_ANGSEL.lo 3 ∧
      u.fld pFRM FRM_CTRL_OVRLIM = FRM_CTRL_OVRLIM.of v.toNat ∧
      u.fld pFRM FRM_CTRL_IDLERUN = FRM_CTRL_IDLERUN.of v.toNat ∧
      u.fld pFRM FRM_CTRL_ADMCHK =
        (if 2 ≤ s.pwr.lcs then s.fld pFRM FRM_CTRL_ADMCHK else FRM_CTRL_ADMCHK.of v.toNat) ∧
      (s.role ≠ 2 → s.frmState ≠ 1 →
        u.fld pFRM FRM_STAT_SRCACT = FRM_CTRL_SRC.of v.toNat ∧
        u.fld pFRM FRM_STAT_ANGACT = FRM_CTRL_ANGSEL.of v.toNat ∧ u.frm = { s.frm with srcPend := none }) ∧
      (s.role ≠ 2 → s.frmState = 1 →
        u.fld pFRM FRM_STAT_SRCACT = s.fld pFRM FRM_STAT_SRCACT ∧
        u.fld pFRM FRM_STAT_ANGACT = s.fld pFRM FRM_STAT_ANGACT ∧
        u.frm = { s.frm with
          srcPend := if FRM_CTRL_SRC.of v.toNat = s.fld pFRM FRM_STAT_SRCACT ∧
            FRM_CTRL_ANGSEL.of v.toNat = s.fld pFRM FRM_STAT_ANGACT then none
          else some (FRM_CTRL_SRC.of v.toNat, FRM_CTRL_ANGSEL.of v.toNat) }) ∧
      Changes (s.arrive t 0x6040 v.toNat) u [.frm, .twn] (fields [(pFRM, FRM_CTRL_SRC), (pFRM, FRM_CTRL_ANGSEL),
        (pFRM, FRM_CTRL_OVRLIM), (pFRM, FRM_CTRL_IDLERUN), (pFRM, FRM_CTRL_ADMCHK), (pFRM, FRM_STAT_SRCACT),
        (pFRM, FRM_STAT_ANGACT)])) ∧
    ((s.at_ t).writeOpen 0x604C = true → Completes (.minperWrite t v) s fun u =>
      u.fld pFRM FRM_MINPER_VALUE = Nat.max 5000 (v.toNat % 2 ^ 20) ∧
      u.frm = { s.frm with admQ := s.frm.admQ ++ [.minper (Nat.max 5000 (v.toNat % 2 ^ 20))] } ∧
      Changes (s.arrive t 0x604C v.toNat) u [.frm] (fields [(pFRM, FRM_MINPER_VALUE)])) ∧
    ((s.at_ t).writeOpen 0x6058 = true → Completes (.fbperWrite t v) s fun u =>
      u.fld pFRM FRM_FBPER_FBPER = Nat.max 100 (FRM_FBPER_FBPER.of v.toNat) ∧
      u.frm = { s.frm with fbAt := if u.fallbackNs = s.fallbackNs then s.frm.fbAt else s.timeAt t } ∧
      Changes (s.arrive t 0x6058 v.toNat) u [.frm] (fields [(pFRM, FRM_FBPER_FBPER)])))

/-- R13, R14, R18, R19: the fixed timer issues a tick when its time comes and sets its next; an accepted active edge of
TICK_IN issues a tick after the filter's time, which is registered 6 ns or 8 ns later; a source that is not selected issues none; the TICK_OUT pulse ends at its
time. R13, R16, R20, R22, R23, R25: a tick that is registered at `t` with none held and at least MINPER_ACT × 10 ns
after the latest start begins a frame at `t`, a held tick begins its frame exactly that long after the latest start, and
the fallback period, or the cycle after a change that makes it passed, begins an idle frame where no tick is registered
by then, each with the next frame number, unless HOLD or a planned switch is due there. Where the manual leaves a point
open, this states the model's choice (log entries 19, 20, 119). -/
def Obligations.TicksAndFrameStarts : Prop :=
  (∀ (s : State),
    (∀ n, s.frm.timerNext = some n → Completes .fixedTimerTick s fun u =>
      u.frm = { s.frm with
        issued := if s.fld pFRM FRM_STAT_SRCACT = 1 then s.frm.issued ++ [⟨n, 1, 0, 0⟩] else s.frm.issued
        timerNext := some (n + Nat.max (s.fld pFRM FRM_TIMPER_VALUE) (s.fld pFRM FRM_MINPER_ACT_VALUE) * 10) } ∧
      Changes (s.at_ n) u [.frm] noField) ∧
    (∀ t level stable, s.pwr.up = true → s.clkOn pFRM = true → level ≠ s.frm.tickIn →
      s.fld pFRM FRM_TIO_TIN_FILT * 20 ≤ stable →
      (s.fld pFRM FRM_STAT_SRCACT = 2 → level = (!s.bit pFRM FRM_TIO_TIN_POL) →
        Completes (.tickInEdge t level stable) s fun u => ∃ d, (d = 6 ∨ d = 8) ∧
          u.frm = { s.frm with
            tickIn := level, issued := s.frm.issued ++ [⟨t + s.fld pFRM FRM_TIO_TIN_FILT * 20, 2, 0, d⟩] } ∧
          Changes (s.at_ t) u [.frm, .free] noField) ∧
      (s.fld pFRM FRM_STAT_SRCACT ≠ 2 ∨ level ≠ (!s.bit pFRM FRM_TIO_TIN_POL) →
        Completes (.tickInEdge t level stable) s fun u =>
          u.frm = { s.frm with tickIn := level } ∧ Changes (s.at_ t) u [.frm] noField)) ∧
    (∀ t level stable, stable < s.fld pFRM FRM_TIO_TIN_FILT * 20 →
      Completes (.tickInEdge t level stable) s fun u => u = s.at_ t) ∧
    (s.frm.tickOut = true → Completes .tickOutEnd s fun u =>
      u.frm = { s.frm with tickOut := false } ∧ Changes (s.at_ s.frm.tickOutEnd) u [.frm] noField)) ∧
  (∀ (s : State), s.frmState = 1 →
    (∀ k ks, s.frm.issued = k :: ks → s.role ≠ 2 → s.frm.held = false →
      (∀ l, s.frm.last = some l → l + s.period ≤ k.registers) →
      (s.withIssued ks).startsAt k.registers →
      Completes .tickRegistration s fun u => (s.withIssued ks).started u k.registers false) ∧
    (∀ l, s.frm.held = true → s.frm.last = some l → s.time ≤ l + s.period →
      s.unheld.startsAt (l + s.period) →
      Completes .heldTick s fun u => s.unheld.started u (l + s.period) false) ∧
    (∀ t, s.role ≠ 2 → s.frm.held = false →
      let due := s.frm.start +
        Nat.max (s.fld pFRM FRM_FBPER_FBPER) (Nat.max ((s.fld pFRM FRM_MINPER_ACT_VALUE + 99) / 100) 100) * 1000
      t = Nat.max s.time (if due ≤ s.frm.fbAt then s.frm.fbAt + 2 else due) →
      (∀ k ∈ s.frm.issued.head?, t < k.registers) →
      s.startsAt t → Completes .fallbackExpiry s fun u => s.started u t true))

/-- R16: a tick less than MINPER_ACT × 10 ns after the latest frame start is held, counted as EARLY and flagged; one
that comes while a tick is held merges with it, counted as LOST and flagged. Neither starts a frame. R47: where a cause
of HOLD applies at the boundary of a tick, no frame starts, the frame number stays, the cause is recorded, and no tick,
no emission and no event stays behind. Where the manual leaves a point open, this states the model's choice (log entries
20, 23). -/
def Obligations.HeldTicksAndHold : Prop :=
  (∀ (s : State) (k : Tick) (ks : List Tick),
    s.frm.issued = k :: ks → s.frmState = 1 → s.role ≠ 2 →
    (s.frm.held = true → Completes .tickRegistration s fun u =>
      u.frm = { s.frm with issued := ks } ∧ u.time = s.timeAt k.registers ∧
      u.fld pFRM FRM_TICKCNT_LOST = Nat.min (s.fld pFRM FRM_TICKCNT_LOST + 1) 65535 ∧
      u.fld pFRM HDR_PG_ERR_ERR = (s.fld pFRM HDR_PG_ERR_ERR ||| 2 ^ FRM_E_TLOST) % 2 ^ 32 ∧
      Changes s u [.time, .frm, .msi] (fields ((pFRM, FRM_TICKCNT_LOST) :: errFields pFRM))) ∧
    (∀ l, s.frm.held = false → s.frm.last = some l → k.registers < l + s.period →
      Completes .tickRegistration s fun u =>
        u.frm = { s.frm with issued := ks, held := true } ∧ u.time = s.timeAt k.registers ∧
        u.fld pFRM FRM_TICKCNT_EARLY = Nat.min (s.fld pFRM FRM_TICKCNT_EARLY + 1) 65535 ∧
        u.fld pFRM HDR_PG_ERR_ERR = (s.fld pFRM HDR_PG_ERR_ERR ||| 2 ^ FRM_E_TEARLY) % 2 ^ 32 ∧
        Changes s u [.time, .frm, .msi] (fields ((pFRM, FRM_TICKCNT_EARLY) :: errFields pFRM)))) ∧
  (∀ (s : State) (k : Tick) (ks : List Tick) (c : Nat),
    s.frmState = 1 → s.frm.issued = k :: ks → s.role ≠ 2 → s.frm.held = false →
    (∀ l, s.frm.last = some l → l + s.period ≤ k.registers) →
    (s.withIssued ks).holdAt k.registers = some c →
    Completes .tickRegistration s fun u =>
      u.frmState = 2 ∧ u.fld pFRM FRM_STAT_HOLDCAUSE = c ∧ u.fld pFRM FRM_STAT_HOLDREQ = 0 ∧
      u.fld pFRM FRM_STAT_IDLE = 0 ∧ u.fn = ((s.withIssued ks).ended k.registers).fn ∧
      u.frm.inFrame = false ∧ u.frm.held = false ∧ u.frm.issued = [] ∧ u.frm.timerNext = none ∧
      u.frm.start = s.frm.start ∧ u.frm.last = s.frm.last ∧
      (∀ l < 128, u.fld (pUL l) UL_STAT_STATE ≠ 3))

/-- R29, R30: compute ends 40 ns plus two per cycle of the longest engine after the frame's start; CMPEND shows it in
units of 10 ns, rounded up; the frame has an apply window when that comes before P − 2.0 µs; at the apply deadline every
unfinished copy is dropped, and a frame whose compute has ended hands its queues over. R15, R38 to R41: admission of the
oldest change that waits. An admitted MINPER becomes the basis of later changes and, outside RUN, MINPER_ACT; an
admitted group keeps no refusal and its load joins the load table, while a refused one completes with result 2 and
changes no record; an admitted activation set whose class table is still verified no longer waits for its evaluation.
Where the manual leaves a point open, this states the model's choice (log entries 22, 25, 106, 113). -/
def Obligations.DeadlineAndAdmission : Prop :=
  (∀ (s : State), s.frmState = 1 → s.frm.inFrame = true →
    s.frm.deadline = false → s.role ≠ 2 →
    (s.frm.computed = false → s.enginesDone = true → s.frm.start + s.computeNs ≤ s.boundaryDue →
      s.twn.gotRec = none → Completes .computeEnd s fun u =>
      u.time = s.timeAt (s.frm.start + s.computeNs) ∧ u.frm.computed = true ∧
      u.frm.window = decide (s.computeNs < s.period - 2000) ∧
      (s.period - 2000 ≤ s.computeNs → u.frm.deadline = true) ∧
      (s.frm.empty = false → u.fld pFRM FRM_CMPEND_END = (s.computeNs + 9) / 10 % 2 ^ 20 ∧
        u.fld pFRM FRM_CMPMAX_MAX = Nat.max (s.fld pFRM FRM_CMPMAX_MAX) (Nat.min ((s.computeNs + 9) / 10) (2 ^ 20 - 1))
          % 2 ^ 20) ∧
      (s.frm.empty = true → u.fld pFRM FRM_CMPEND_END = s.fld pFRM FRM_CMPEND_END) ∧
      u.fn = s.fn ∧ u.frm.start = s.frm.start ∧ u.frm.inFrame = true ∧ u.frm.issued = s.frm.issued) ∧
    (Completes .applyDeadline s fun u =>
      u.time = s.timeAt (s.frm.start + s.period - 2000) ∧
      u.frm = { s.frm with deadline := true } ∧ u.ctx.store = s.ctx.store ∧ u.plc.home = s.plc.home ∧
      (∀ m ∈ u.plc.migs, m.copied = false) ∧
      (s.frm.computed = true → ∀ l < 128, (u.link l).queue = [] ∧ (u.link l).merged = s.linkCmds l []) ∧
      (s.frm.computed = false → u.lnk = s.lnk))) ∧
  (∀ (s : State) (t : Time),
    (∀ v qs, s.frm.admQ = .minper v :: qs →
      (s.admChecks = true → s.excess s.ctx.load v false = none) → Completes (.admissionEvaluation t) s fun u =>
        u.frm = { s.frm with
          admQ := qs, minperAdm := v, minperPend := if s.frmState = 1 then some v else s.frm.minperPend } ∧
        (s.frmState ≠ 1 → u.fld pFRM FRM_MINPER_ACT_VALUE = v % 2 ^ 20) ∧
        (s.frmState = 1 → u.fld pFRM FRM_MINPER_ACT_VALUE = s.fld pFRM FRM_MINPER_ACT_VALUE) ∧
        Changes (s.at_ t) u [.frm] (fields [(pFRM, FRM_MINPER_ACT_VALUE)])) ∧
    (∀ v qs, s.frm.admQ = .minper v :: qs → s.admChecks = true → s.excess s.ctx.load v false ≠ none →
      Completes (.admissionEvaluation t) s fun u =>
        u.frm = { s.frm with admQ := qs } ∧
        u.fld pFRM FRM_MINPER_ACT_VALUE = s.fld pFRM FRM_MINPER_ACT_VALUE ∧
        u.bit pFRM FRM_ADMREF_VALID = true ∧
        u.fld pFRM HDR_PG_ERR_ERR = (s.fld pFRM HDR_PG_ERR_ERR ||| 2 ^ FRM_E_ADMREF) % 2 ^ 32 ∧
        Changes (s.at_ t) u [.frm, .msi, .ring] (andLog ([(pFRM, FRM_ADMREF_VALID), (pFRM, FRM_ADMREF_CAUSE),
          (pFRM, FRM_ADMREF_RESIDUE), (pFRM, FRM_ADMREF_ENGINE), (pFRM, FRM_ADMREF_TABLE), (pFRM, FRM_ADMREQ_LOAD)] ++
          errFields pFRM))) ∧
    (∀ g gs qs, s.frm.admQ = .group g.id :: qs → s.ctx.waiting = g :: gs → g.refused = 0 →
      let a := (s.at_ t).updFrm fun f => { f with admQ := qs }
      let b := a.groupWords g.id g.entries
      let hs := loadChanges a b (touched g.entries)
      let load := hs.foldl (fun m h => SMap.put Load.none m h (b.loadOf h)) s.ctx.load
      b.badClass g.entries = false →
      (a.admChecks = false ∨ a.excess load s.frm.minperAdm false = none → Completes (.admissionEvaluation t) s fun u =>
        u.ctx.waiting = { g with evaluating := false } :: gs ∧ u.ctx.store = s.ctx.store ∧
        (∀ h, SMap.get Load.none u.ctx.load h = if h ∈ hs then b.loadOf h else SMap.get Load.none s.ctx.load h) ∧
        u.frm = { s.frm with admQ := qs } ∧
        Changes (s.at_ t) u [.frm, .ctx] (fields [(pCTX, CTX_GSTAT_ACCEPTED)])) ∧
      (gs = [] → a.admChecks = true → a.excess load s.frm.minperAdm false ≠ none →
        Completes (.admissionEvaluation t) s fun u =>
          u.ctx.waiting = [] ∧ u.ctx.store = s.ctx.store ∧ u.ctx.load = s.ctx.load ∧ u.frm = { s.frm with admQ := qs } ∧
          u.fld pCTX CTX_GDONE_ID = g.id % 2 ^ 16 ∧ u.fld pCTX CTX_GDONE_RESULT = 2 ∧
          u.bit pFRM FRM_ADMREF_VALID = true ∧ s.flags u pFRM FRM_E_ADMREF)) ∧
    (∀ a qs, s.frm.admQ = .asSet :: qs → s.cfg.as = some a → a.checking = true → s.admChecks = false →
      (a.ct = true → s.bit (pJE 0) JE_CTSTAT_VERIFIED = true) → Completes (.admissionEvaluation t) s fun u =>
        u.frm = { s.frm with admQ := qs } ∧ u.cfg.as.isSome = true ∧ u.ctx = s.ctx ∧
        ∀ b, u.cfg.as = some b → b.checking = false))

/-! ## Contexts (spec/03_contexts.md) -/

/-- R57, R59, R69, R76: the halfwords of a write that reaches the context window, or one of its aliases, whole and at
words that the host may write, join the open group in ascending order, and no record changes; a released handle joins it
as well. R56, R57, R59, R70: a halfword written in part, to a word that the host does not write, beyond the handles, or
to a full group joins no group: each has its error, and one written in part has that of its address too; a halfword
without byte enables does nothing. Where the manual
leaves a point open, this states the model's choice (log entries 27, 28). -/
def Obligations.WindowWrites : Prop :=
  (∀ (s : State) (t : Time) (off : BitVec 23) (data : List Hw),
    s.ctxBlocked = none → s.bit pCTX CTX_GOPEN_OVF = false →
    ((s.at_ t).writeOpen2 pCTX true = true → s.ctx.open_.length + data.length ≤ 4096 → (∀ x ∈ data, x.be = 3) →
      (∀ i < data.length, (off.toNat + 2 * i) / 128 < 49152 ∧ hostWord ((off.toNat + 2 * i) % 128 / 2) = true) →
      Completes (.contextWindowWrite t off data) s (joined s t .put off.toNat data) ∧
      Completes (.contextSetAlias t off data) s (joined s t .set off.toNat data) ∧
      Completes (.contextClearAlias t off data) s (joined s t .clr off.toNat data)) ∧
    (∀ v : Dword, (s.at_ t).writeOpen 0x7058 = true → s.ctx.open_.length < 4096 → CTX_QREL_HANDLE.of v.toNat < 49152 →
      Completes (.qrelWrite t v) s fun u =>
        u.ctx = { s.ctx with open_ := s.ctx.open_ ++ [.rel (CTX_QREL_HANDLE.of v.toNat)] } ∧
        Changes (s.arrive t 0x7058 v.toNat) u [.ctx] noField)) ∧
  (∀ (s : State) (t : Time) (off : BitVec 23) (x : Hw),
    s.role = 0 → (s.at_ t).writeOpen2 pCTX true = true → s.ctxBlocked = none →
    ∀ i, i = .contextWindowWrite t off [x] ∨ i = .contextSetAlias t off [x] ∨ i = .contextClearAlias t off [x] →
    (x.be = 0 → Completes i s fun u => u = s.at_ t) ∧
    (x.be = 1 ∨ x.be = 2 → off.toNat / 128 < 49152 → hostWord (off.toNat % 128 / 2) = true → Completes i s fun u =>
      RaisesOnly (s.at_ t) u pCTX CTX_E_PARTIAL) ∧
    (x.be = 1 ∨ x.be = 2 → 49152 ≤ off.toNat / 128 ∨ hostWord (off.toNat % 128 / 2) = false → Completes i s fun u =>
      s.flagsMask u pCTX (2 ^ CTX_E_PARTIAL + if 49152 ≤ off.toNat / 128 then 2 ^ CTX_E_ADDR else 2 ^ CTX_E_ROWR) ∧
      Changes (s.at_ t) u [.msi] (fields (errFields pCTX))) ∧
    (x.be = 3 → 49152 ≤ off.toNat / 128 → Completes i s fun u =>
      RaisesOnly (s.at_ t) u pCTX CTX_E_ADDR) ∧
    (x.be = 3 → off.toNat / 128 < 49152 → hostWord (off.toNat % 128 / 2) = false →
      Completes i s fun u => RaisesOnly (s.at_ t) u pCTX CTX_E_ROWR) ∧
    (x.be = 3 → off.toNat / 128 < 49152 → hostWord (off.toNat % 128 / 2) = true → 4096 ≤ s.ctx.open_.length →
      Completes i s fun u =>
        u.fld pCTX CTX_GOPEN_OVF = 1 ∧
        u.fld pCTX HDR_PG_ERR_ERR = (s.fld pCTX HDR_PG_ERR_ERR ||| 2 ^ CTX_E_GOVF) % 2 ^ 32 ∧
        Changes (s.at_ t) u [.msi] (fields ((pCTX, CTX_GOPEN_OVF) :: errFields pCTX))))

/-- R81: a read of the window returns each word in its halfword, as the records stand, or in RUN as they stood at the
latest frame boundary, and changes no record; no error is found. -/
def Obligations.WindowReads : Prop := ∀ (s : State) (t : Time) (off : BitVec 23) (n : Nat),
  (s.at_ t).hostUp = true → s.npNow < 32 → s.clkOn pCTX = true → s.bit pCTX HDR_PG_CTRL_EN = true → n ≤ 256 →
  off.toNat + 2 * n ≤ 49152 * 128 → s.ctx.ecc = [] → s.plc.hmBad = [] → s.ctx.qmapBad = [] →
  Completes (.contextWindowRead t off n []) s fun u =>
    u.hst.rdata = (List.range n).map (fun i =>
      (s.hostRecWord ((off.toNat + 2 * i) / 128) ((off.toNat + 2 * i) % 128 / 2)).toNat) ∧
    Changes (s.at_ t) u [.rdata] (fields [(pPCI, PCI_NPOUT_MAX)])

/-- R71 to R73: GO closes the open group under the next ID, which skips 0; with 16 groups waiting it does nothing but
raise QFULL; ABANDON discards the open group. No record changes. R75, R76, R79: in STOP the first waiting group applies
once it is admitted and mirrored: it completes with result 1, its written word reads as written, and no word of another
slot changes. Where the manual leaves a point open, this states the model's choice (log entry 35). -/
def Obligations.CommitGroups : Prop :=
  (∀ (s : State) (t : Time), (s.at_ t).writeOpen 0x7048 = true →
    (s.ctx.waiting.length < 16 → Completes (.commitGo t) s fun u =>
      u.ctx.lastId = (if s.ctx.lastId = 65535 then 1 else s.ctx.lastId + 1) ∧
      u.fld pCTX CTX_GSTAT_LASTID = u.ctx.lastId % 65536 ∧ u.ctx.open_ = [] ∧ u.bit pCTX CTX_GOPEN_OVF = false ∧
      u.ctx.store = s.ctx.store ∧ u.ctx.quar = s.ctx.quar ∧ u.plc = s.plc ∧ u.jer = s.jer ∧ u.lnk = s.lnk) ∧
    (16 ≤ s.ctx.waiting.length → Completes (.commitGo t) s fun u =>
      RaisesOnly (s.arrive t 0x7048 1) u pCTX CTX_E_QFULL) ∧
    (Completes (.commitAbandon t) s fun u =>
      u.ctx = { s.ctx with open_ := [] } ∧ u.fld pCTX CTX_GOPEN_OVF = 0 ∧
      Changes (s.arrive t 0x7048 2) u [.ctx] (fields [(pCTX, CTX_GOPEN_OVF)]))) ∧
  (∀ (s : State) (t : Time) (id h w : Nat) (v : Word) (gs : List Group),
    s.frmState = 0 → s.ctx.waiting = ⟨id, [.put h w v], 0, false, true⟩ :: gs → (∀ g ∈ gs, g.refused = 0) →
    h < 49152 → hostWord w = true → w < 64 → s.ctx.ecc = [] → s.plc.hmBad = [] → s.plc.home = [] →
    Completes (.groupApplyStop t) s fun u =>
      u.ctx.waiting = gs ∧ u.fld pCTX CTX_GDONE_ID = id % 65536 ∧ u.fld pCTX CTX_GDONE_RESULT = 1 ∧
      u.recWord h w = (if w = 8 then v &&& 0x7F else v) ∧ u.recWord h 9 = BitVec.ofNat 10 id ∧
      (∀ p x, p ≠ homeSlot h → x < 64 → u.slotWord p x = s.slotWord p x) ∧
      u.twn.applied = s.twn.applied ++ [id] ∧ u.plc.home = s.plc.home ∧ u.lnk = s.lnk)

/-- R66 to R68: a write of SAFEDATA stores the entry that SAFEIDX names, a read returns it, and SAFEIDX advances over
the slots of a link and then to the next link; an index above 383 writes nothing, reads 0 and raises ADDR. R82 to R85, R88,
R449: a scrub batch comes in the slack of an engine's frame or every 50 µs outside RUN and at no other time; it corrects a correctable group and clears its error; on an uncorrectable one it quarantines the context,
from the next frame on, with cause 3; a parity error in the quarantine map is device-fatal. Where the manual leaves a
point open, this states the model's choice (log entries 29, 32, 108). -/
def Obligations.SafeTableAndScrub : Prop :=
  (∀ (s : State) (t : Time) (v : Dword),
    ((s.at_ t).writeOpen 0x7070 = true → s.fld pCTX CTX_SAFEIDX_SLOT ≤ 383 → Completes (.safedataWrite t v) s fun u =>
      u.ctx = { s.ctx with
        safeW := SMap.put ⟨0, 0⟩ s.ctx.safeW s.safeIdx
          ⟨BitVec.ofNat 10 (CTX_SAFEDATA_VALUE.of v.toNat), CTX_SAFEDATA_MODE.of v.toNat⟩
        safeDirty := SMap.put false s.ctx.safeDirty s.safeIdx true
        perr := SMap.put false s.ctx.perr s.safeIdx false } ∧ s.indexAdvanced u ∧
      Changes (s.arrive t 0x7070 v.toNat) u [.ctx] (fields [(pCTX, CTX_SAFEIDX_SLOT), (pCTX, CTX_SAFEIDX_LINK)])) ∧
    ((s.at_ t).writeOpen 0x7070 = true → 383 < s.fld pCTX CTX_SAFEIDX_SLOT → Completes (.safedataWrite t v) s fun u =>
      RaisesOnly (s.arrive t 0x7070 v.toNat) u pCTX CTX_E_ADDR) ∧
    ((s.at_ t).readOpen 0x7070 = true → s.fld pCTX CTX_SAFEIDX_SLOT ≤ 383 → Completes (.safedataRead t) s fun u =>
      u.hst.rdata = [(SMap.get false s.ctx.perr s.safeIdx).toNat * 2 ^ 31 +
        (SMap.get ⟨0, 0⟩ s.ctx.safeW s.safeIdx).mode * 1024 + (SMap.get ⟨0, 0⟩ s.ctx.safeW s.safeIdx).val.toNat] ∧
      s.indexAdvanced u ∧
      Changes (s.at_ t) u [.rdata] (fields [(pPCI, PCI_NPOUT_MAX), (pCTX, CTX_SAFEIDX_SLOT), (pCTX, CTX_SAFEIDX_LINK)])) ∧
    ((s.at_ t).readOpen 0x7070 = true → 383 < s.fld pCTX CTX_SAFEIDX_SLOT → Completes (.safedataRead t) s fun u =>
      u.hst.rdata = [0] ∧ s.flags u pCTX CTX_E_ADDR ∧
      Changes (s.at_ t) u [.rdata, .msi] (fields ((pPCI, PCI_NPOUT_MAX) :: errFields pCTX)))) ∧
  (∀ (s : State) (t : Time) (b : Engine),
    s.pwr.up = true → s.clkOn pCTX = true →
    (s.bit pCTX CTX_CTRL_SCRUBEN = true → s.bit pCTX HDR_PG_CTRL_EN = true → s.excluded b.val = false →
      (s.at_ t).scrubOpen b.val = true → s.fld pCTX CTX_CTRL_SCRUBRATE = 1 → SMap.get 0 s.ctx.scrub b.val < 25599 →
      (s.eccAt (scrubSlot s b) (scrubGrp s b) = 0 → Completes (.scrubRead t b []) s fun u =>
        u.ctx = { s.ctx with
          scrub := SMap.put 0 s.ctx.scrub b.val (SMap.get 0 s.ctx.scrub b.val + 1)
          scrubAt := SMap.put 0 s.ctx.scrubAt b.val (s.timeAt t + 1) } ∧
        Changes (s.at_ t) u [.ctx] (fields [(pCTX, CTX_SCRUBPOS_BANK), (pCTX, CTX_SCRUBPOS_SLOT)])) ∧
      (s.eccAt (scrubSlot s b) (scrubGrp s b) = 1 → Completes (.scrubRead t b []) s fun u =>
        u.eccAt (scrubSlot s b) (scrubGrp s b) = 0 ∧
        u.fld pCTX CTX_ECCCNT_CE = Nat.min (s.fld pCTX CTX_ECCCNT_CE + 1) (2 ^ CTX_ECCCNT_CE.wid - 1) ∧
        u.ctx.quar = s.ctx.quar ∧ u.plc = s.plc) ∧
      (∀ h, s.eccAt (scrubSlot s b) (scrubGrp s b) = 2 → s.owner (scrubSlot s b) = some h → s.isQuar h = false →
        s.ctx.qmapBad = [] → Completes (.scrubRead t b []) s fun u =>
          u.ctx.quar = SMap.put 0 s.ctx.quar h (s.fn + 2) ∧ u.ctx.store = (s.devWord (s.phys h) 15
            (setBits (s.slotWord (s.phys h) 15) 0 3 3)).ctx.store ∧
          u.eccAt (scrubSlot s b) (scrubGrp s b) = 2)) ∧
    ((s.at_ t).scrubOpen b.val = false → Completes (.scrubRead t b []) s fun u => u = s.at_ t) ∧
    ((s.frmState ≠ 1 → SMap.get 0 s.ctx.scrubAt b.val + 49999 ≤ s.timeAt t → (s.at_ t).scrubOpen b.val = true) ∧
      (s.frmState = 1 → s.frm.inFrame = false ∨ (s.engine b.val).busy = true → (s.at_ t).scrubOpen b.val = false)) ∧
    (s.ctx.qmapBad ≠ [] → s.pwr.faultB = false → Completes (.qmapParityCheck t []) s fun u =>
      u.pwr.faultB = true ∧ u.bit pERR ERR_FSTAT_VALID = true ∧ u.ctx = s.ctx) ∧
    (s.ctx.qmapBad = [] → Completes (.qmapParityCheck t []) s fun u => u = s.at_ t))

/-! ## Engines (spec/04_engines.md, spec/05_engine_isa.md) -/

/-- R118, R121: ADD, SUB, ADDS, SUBS, AND, OR, XOR and MOV. Carry is the unsigned carry or the absence of a borrow,
overflow the signed result that does not fit, and the clamping forms clamp the exact result. -/
def Obligations.WordArithmetic : Prop := ∀ (s : State) (e : Engine) (x : Visit),
  (∀ o : Alu, s.atInstr e (.add o) x → let a := x.src s.jer.snap o.a; let b := x.srcI s.jer.snap o.b
    let r := BitVec.ofNat 10 (a.toNat + b.toNat)
    exec (.add e o) s = .next (s.putVisit e.val { x.stepped 1 with
      v := SMap.put 0 x.v o.d.val r
      fl := ⟨decide (r = 0), r.getLsbD 9, decide (1023 < a.toNat + b.toNat),
        decide (a.toInt + b.toInt < -512 ∨ 511 < a.toInt + b.toInt), x.fl.sat⟩ })) ∧
  (∀ o : Alu, s.atInstr e (.sub o) x → let a := x.src s.jer.snap o.a; let b := x.srcI s.jer.snap o.b
    let r := BitVec.ofInt 10 (a.toNat - b.toNat)
    exec (.sub e o) s = .next (s.putVisit e.val { x.stepped 1 with
      v := SMap.put 0 x.v o.d.val r
      fl := ⟨decide (r = 0), r.getLsbD 9, decide (b.toNat ≤ a.toNat),
        decide (a.toInt - b.toInt < -512 ∨ 511 < a.toInt - b.toInt), x.fl.sat⟩ })) ∧
  (∀ o : AluU, s.atInstr e (.adds o) x → let a := x.src s.jer.snap o.a; let b := x.srcI s.jer.snap o.b
    let t : Int := if o.u then a.toNat + b.toNat else a.toInt + b.toInt
    let c := if o.u then clamp 0 1023 t else clamp (-512) 511 t
    let r := BitVec.ofInt 10 c
    exec (.adds e o) s = .next (s.putVisit e.val { x.stepped 1 with
      v := SMap.put 0 x.v o.d.val r
      fl := ⟨decide (r = 0), r.getLsbD 9, false, decide (c ≠ t), x.fl.sat || decide (c ≠ t)⟩ })) ∧
  (∀ o : AluU, s.atInstr e (.subs o) x → let a := x.src s.jer.snap o.a; let b := x.srcI s.jer.snap o.b
    let t : Int := if o.u then a.toNat - b.toNat else a.toInt - b.toInt
    let c := if o.u then clamp 0 1023 t else clamp (-512) 511 t
    let r := BitVec.ofInt 10 c
    exec (.subs e o) s = .next (s.putVisit e.val { x.stepped 1 with
      v := SMap.put 0 x.v o.d.val r
      fl := ⟨decide (r = 0), r.getLsbD 9, false, decide (c ≠ t), x.fl.sat || decide (c ≠ t)⟩ })) ∧
  (∀ o : Alu, s.atInstr e (.and o) x → let r := x.src s.jer.snap o.a &&& x.srcI s.jer.snap o.b
    exec (.and e o) s = .next (s.putVisit e.val { x.stepped 1 with
      v := SMap.put 0 x.v o.d.val r, fl := ⟨decide (r = 0), r.getLsbD 9, false, false, x.fl.sat⟩ })) ∧
  (∀ o : Alu, s.atInstr e (.or o) x → let r := x.src s.jer.snap o.a ||| x.srcI s.jer.snap o.b
    exec (.or e o) s = .next (s.putVisit e.val { x.stepped 1 with
      v := SMap.put 0 x.v o.d.val r, fl := ⟨decide (r = 0), r.getLsbD 9, false, false, x.fl.sat⟩ })) ∧
  (∀ o : Alu, s.atInstr e (.xor o) x → let r := x.src s.jer.snap o.a ^^^ x.srcI s.jer.snap o.b
    exec (.xor e o) s = .next (s.putVisit e.val { x.stepped 1 with
      v := SMap.put 0 x.v o.d.val r, fl := ⟨decide (r = 0), r.getLsbD 9, false, false, x.fl.sat⟩ })) ∧
  (∀ d b, s.atInstr e (.mov d b) x → let r := x.srcI s.jer.snap b
    exec (.mov e d b) s = .next (s.putVisit e.val { x.stepped 1 with
      v := SMap.put 0 x.v d.val r, fl := ⟨decide (r = 0), r.getLsbD 9, x.fl.c, x.fl.v, x.fl.sat⟩ }))

/-- R122: SHL, SHR and ASR by any amount: the value multiplied or divided by that power of two, the last bit shifted out
in C, and V cleared. -/
def Obligations.Shifts : Prop := ∀ (s : State) (e : Engine) (x : Visit) (o : Alu),
  let a := x.src s.jer.snap o.a
  let n := (x.srcI s.jer.snap o.b).toNat
  (s.atInstr e (.shl o) x → let r := BitVec.ofNat 10 (if 10 ≤ n then 0 else a.toNat * 2 ^ n)
    exec (.shl e o) s = .next (s.putVisit e.val { x.stepped 1 with
      v := SMap.put 0 x.v o.d.val r
      fl := ⟨decide (r = 0), r.getLsbD 9, decide (1 ≤ n ∧ n ≤ 10) && a.getLsbD (10 - n), false, x.fl.sat⟩ })) ∧
  (s.atInstr e (.shr o) x → let r := BitVec.ofNat 10 (a.toNat / 2 ^ n)
    exec (.shr e o) s = .next (s.putVisit e.val { x.stepped 1 with
      v := SMap.put 0 x.v o.d.val r
      fl := ⟨decide (r = 0), r.getLsbD 9, decide (1 ≤ n ∧ n ≤ 10) && a.getLsbD (n - 1), false, x.fl.sat⟩ })) ∧
  (s.atInstr e (.asr o) x → let r := BitVec.ofInt 10 (a.toInt / 2 ^ Nat.min n 9)
    exec (.asr e o) s = .next (s.putVisit e.val { x.stepped 1 with
      v := SMap.put 0 x.v o.d.val r
      fl := ⟨decide (r = 0), r.getLsbD 9, decide (n ≠ 0) && a.getLsbD (Nat.min n 10 - 1), false, x.fl.sat⟩ }))

/-- R119, R123: CMP sets the flags of SUB and writes no register; MIN and MAX write the smaller and the larger of the
two; SEL writes the first source where its condition holds, else the second, and no flag. -/
def Obligations.CompareAndSelect : Prop := ∀ (s : State) (e : Engine) (x : Visit),
  (∀ a b, s.atInstr e (.cmp a b) x → let p := x.src s.jer.snap a; let q := x.srcI s.jer.snap b
    exec (.cmp e a b) s = .next (s.putVisit e.val { x.stepped 1 with
      fl := ⟨decide (p = q), (p - q).getLsbD 9, decide (q.toNat ≤ p.toNat),
        decide (p.toInt - q.toInt < -512 ∨ 511 < p.toInt - q.toInt), x.fl.sat⟩ })) ∧
  (∀ o : AluU, s.atInstr e (.min o) x → let a := x.src s.jer.snap o.a; let b := x.srcI s.jer.snap o.b
    let r := if o.u then BitVec.ofNat 10 (min a.toNat b.toNat) else BitVec.ofInt 10 (min a.toInt b.toInt)
    exec (.min e o) s = .next (s.putVisit e.val { x.stepped 1 with
      v := SMap.put 0 x.v o.d.val r, fl := ⟨decide (r = 0), r.getLsbD 9, false, false, x.fl.sat⟩ })) ∧
  (∀ o : AluU, s.atInstr e (.max o) x → let a := x.src s.jer.snap o.a; let b := x.srcI s.jer.snap o.b
    let r := if o.u then BitVec.ofNat 10 (max a.toNat b.toNat) else BitVec.ofInt 10 (max a.toInt b.toInt)
    exec (.max e o) s = .next (s.putVisit e.val { x.stepped 1 with
      v := SMap.put 0 x.v o.d.val r, fl := ⟨decide (r = 0), r.getLsbD 9, false, false, x.fl.sat⟩ })) ∧
  (∀ c (o : Alu), s.atInstr e (.sel c o) x →
    exec (.sel e c o) s = .next (s.putVisit e.val { x.stepped 1 with
      v := SMap.put 0 x.v o.d.val
        (if condHolds c x.fl = true then x.src s.jer.snap o.a else x.srcI s.jer.snap o.b) }))

/-- R124: the accumulator operations on exact integers: MUL never clamps, MAC clamps to 30 bits, ASHR divides by a power
of two rounding down or to nearest, AST clamps to a word, LDI and ACLR load a constant. Where the manual leaves a point
open, this states the model's choice (log entry 37). -/
def Obligations.Accumulators : Prop := ∀ (s : State) (e : Engine) (x : Visit),
  (∀ o : MulOp, s.atInstr e (.mul o) x → let p := product o.mode (x.src s.jer.snap o.a) (x.srcI s.jer.snap o.b)
    p.natAbs < 2 ^ 20 ∧
    exec (.mul e o) s = .next (s.putVisit e.val { x.stepped 1 with
      a := SMap.put 0 x.a o.d.val (BitVec.ofInt 30 p)
      fl := ⟨decide (p = 0), decide (p < 0), x.fl.c, x.fl.v, x.fl.sat⟩ })) ∧
  (∀ o : MulOp, s.atInstr e (.mac o) x → let p := product o.mode (x.src s.jer.snap o.a) (x.srcI s.jer.snap o.b)
    let t := (x.areg o.d).toInt + p
    let c := clamp (-2 ^ 29) (2 ^ 29 - 1) t
    exec (.mac e o) s = .next (s.putVisit e.val { x.stepped 1 with
      a := SMap.put 0 x.a o.d.val (BitVec.ofInt 30 c)
      fl := ⟨decide (c = 0), decide (c < 0), x.fl.c, decide (c ≠ t), x.fl.sat || decide (c ≠ t)⟩ })) ∧
  (∀ d, s.atInstr e (.aclr d) x →
    exec (.aclr e d) s = .next (s.putVisit e.val { x.stepped 1 with a := SMap.put 0 x.a d.val 0 })) ∧
  (∀ d round n, s.atInstr e (.ashr d round n) x →
    let k := Nat.min (x.srcI s.jer.snap n).toNat 29
    let c := ((x.areg d).toInt + (if round = true ∧ k ≠ 0 then 2 ^ (k - 1) else 0)) / 2 ^ k
    exec (.ashr e d round n) s = .next (s.putVisit e.val { x.stepped 1 with
      a := SMap.put 0 x.a d.val (BitVec.ofInt 30 c)
      fl := ⟨decide (c = 0), decide (c < 0), x.fl.c, x.fl.v, x.fl.sat⟩ })) ∧
  (∀ d u r, s.atInstr e (.ast d u r) x → let t := (x.areg r).toInt
    let c := if u then clamp 0 1023 t else clamp (-512) 511 t
    exec (.ast e d u r) s = .next (s.putVisit e.val { x.stepped 1 with
      v := SMap.put 0 x.v d.val (BitVec.ofInt 10 c)
      fl := ⟨decide (c = 0), (BitVec.ofInt 10 c).getLsbD 9, x.fl.c, decide (c ≠ t), x.fl.sat || decide (c ≠ t)⟩ })) ∧
  (∀ d u hi lo, s.atInstr e (.ldi d u hi lo) x → let t : Int := hi.toNat * 1024 + lo.toNat
    exec (.ldi e d u hi lo) s = .next (s.putVisit e.val { x.stepped 1 with
      a := SMap.put 0 x.a d.val (BitVec.ofInt 30 (if u = false ∧ 2 ^ 19 ≤ t then t - 2 ^ 20 else t)) }))

/-- R94, R99, R125, R127, R129: LDW and STW address the record buffer modulo 64, LUT reads pattern RAM in four cycles,
ANG scales the last division's time by a fraction of 1/1,024, NOP does nothing. R119, R126: BR continues at its target
and SKIP at its own address + 1 + count where the condition holds, else at the next address; every condition is the one
of the table. Where the manual leaves a point open, this states the model's choice (log entry 37). -/
def Obligations.LoadsAndBranches : Prop :=
  (∀ (s : State) (e : Engine) (x : Visit),
    (s.atInstr e .nop x → exec (.nop e) s = .next (s.putVisit e.val (x.stepped 1))) ∧
    (∀ d i (base : Fin 64), s.atInstr e (.ldw d i base) x →
      let n := match i with
        | .v k => ((x.vreg k).toNat + base.val) % 64
        | .zero => base.val
      let r := SMap.get 0 x.cur n
      exec (.ldw e d i base) s = .next (s.putVisit e.val { x.stepped 1 with
        v := SMap.put 0 x.v d.val r, fl := ⟨decide (r = 0), r.getLsbD 9, x.fl.c, x.fl.v, x.fl.sat⟩ })) ∧
    (∀ src i (base : Fin 64), s.atInstr e (.stw src i base) x →
      let n := match i with
        | .v k => ((x.vreg k).toNat + base.val) % 64
        | .zero => base.val
      n = 3 ∨ 16 ≤ n →
      exec (.stw e src i base) s = .next (s.putVisit e.val { x.stepped 1 with
        cur := SMap.put 0 x.cur n (x.src s.jer.snap src) })) ∧
    (∀ o : Alu, s.atInstr e (.lut o) x →
      let r := SMap.get 0 s.jer.pat ((x.src s.jer.snap o.a).toNat * 1024 + (x.srcI s.jer.snap o.b).toNat)
      exec (.lut e o) s = .next (s.putVisit e.val { x.stepped 4 with
        v := SMap.put 0 x.v o.d.val r, fl := ⟨decide (r = 0), r.getLsbD 9, x.fl.c, x.fl.v, x.fl.sat⟩ })) ∧
    (∀ d (unit : Unit8) fr, s.atInstr e (.ang d unit fr) x →
      let tpd := (SMap.get 0 s.jer.snap (unit.val * 8 + 4)).toNat * 1024 + (SMap.get 0 s.jer.snap (unit.val * 8 + 3)).toNat
      let r := tpd * (x.srcI s.jer.snap fr).toNat / 1024
      r ≤ 1047551 ∧
      exec (.ang e d unit fr) s = .next (s.putVisit e.val { x.stepped 1 with
        a := SMap.put 0 x.a d.val (BitVec.ofNat 30 r), fl := ⟨decide (r = 0), false, x.fl.c, x.fl.v, x.fl.sat⟩ }))) ∧
  (∀ (s : State) (e : Engine) (x : Visit),
    (∀ c (target : BitVec 12), s.atInstr e (.br c target) x →
      exec (.br e c target) s = .next (s.putVisit e.val { x.stepped 1 with
        pc := if condHolds c x.fl = true then target.toNat else x.pc + 1 })) ∧
    (∀ c (count : Word), s.atInstr e (.skip c count) x →
      exec (.skip e c count) s = .next (s.putVisit e.val { x.stepped 1 with
        pc := if condHolds c x.fl = true then x.pc + 1 + count.toNat else x.pc + 1 })) ∧
    (∀ f : Flags, condHolds .al f = true ∧ condHolds .eq f = f.z ∧ condHolds .hs f = f.c ∧ condHolds .mi f = f.n ∧
      condHolds .vs f = f.v ∧ condHolds .hi f = (f.c && !f.z) ∧ condHolds .ge f = (f.n == f.v) ∧
      condHolds .gt f = (!f.z && f.n == f.v) ∧ condHolds .sat f = f.sat ∧
      (condHolds .ne f = !condHolds .eq f) ∧ (condHolds .lo f = !condHolds .hs f) ∧
      (condHolds .pl f = !condHolds .mi f) ∧ (condHolds .vc f = !condHolds .vs f) ∧
      (condHolds .ls f = !condHolds .hi f) ∧ (condHolds .lt f = !condHolds .ge f) ∧
      (condHolds .le f = !condHolds .gt f)))

/-- R131 to R133: EMIT and SAFE add an event with the offset clamped to 20 bits, SAFE with the value of the bound slot's
safe-table entry; HOLD marks the visit. R100, R130, R228, R230: FCALL waits, and where its target is enabled the target
is shown the request 1 + h cycles later, while no earlier request of the engine is outstanding any more; once the
response has arrived it writes Vd, or Vd and Vd + 1, in the last of its LAT cycles, and no flag. Where the manual leaves
a point open, this states the model's choice (log entries 37, 38). -/
def Obligations.OutputsAndFcall : Prop :=
  (∀ (s : State) (e : Engine) (x : Visit),
    (∀ value (o : Offs), s.atInstr e (.emit value o) x → x.emits < 2 →
      let t := x.base s.jer.snap o.base + o.add.toNat
      let c := clamp 0 (2 ^ 20 - 1) t
      exec (.emit e value o) s = .next (s.putVisit e.val { x.stepped 1 with
        evs := x.evs ++ [⟨bitsN (SMap.get 0 x.fetched 2).toNat 0 9, x.handle, x.src s.jer.snap value, c.toNat, false⟩]
        emits := x.emits + 1
        fl := ⟨x.fl.z, x.fl.n, x.fl.c, decide (c ≠ t), x.fl.sat || decide (c ≠ t)⟩ })) ∧
    (s.atInstr e .hold x → exec (.hold e) s = .next (s.putVisit e.val { x.stepped 1 with held := true })) ∧
    (∀ o : Offs, s.atInstr e (.safe o) x → x.emits < 2 →
      let k := slotOf (SMap.get 0 x.fetched 1) (SMap.get 0 x.fetched 2)
      let t := x.base s.jer.snap o.base + o.add.toNat
      let c := clamp 0 (2 ^ 20 - 1) t
      SMap.get false s.ctx.safeBad k = false →
      exec (.safe e o []) s = .next (s.putVisit e.val { x.stepped 1 with
        evs := x.evs ++ [⟨bitsN (SMap.get 0 x.fetched 2).toNat 0 9, x.handle, (SMap.get ⟨0, 0⟩ s.ctx.safe k).val,
          c.toNat, false⟩]
        emits := x.emits + 1
        fl := ⟨x.fl.z, x.fl.n, x.fl.c, decide (c ≠ t), x.fl.sat || decide (c ≠ t)⟩ }))) ∧
  (∀ (s : State) (e : Engine) (x : Visit) (f : FcallOp),
    s.atInstr e (.fcall f) x →
    (x.fc = none → Completes (.fcall e f) s fun u =>
      let port := SMap.get 0 s.jer.portAct f.target.val
      u.jer.fcOut = (s.jer.fcOut.filter fun q => q.engine ≠ e.val) ++
        (if s.bit (pJE 0) (JE_FCTGT_ENACT f.target.val) = true then
          [⟨e.val, x.handle, f.target.val, port, f.code,
            (List.range f.count.val).map fun i => SMap.get 0 x.v (f.first.val + i),
            s.frm.start + 40 + 2 * ((s.engine e.val).cyc + 4 + x.cyc) + 2 * (1 + (laneHops port).getD 0), false⟩]
        else []) ∧
      (u.engine e.val).visit = some { x with fc := some none } ∧
      Changes s u [.jer] noField) ∧
    (∀ a b, x.fc = some (some (a, b)) → f.r2 = false →
      exec (.fcall e f) s = .next (s.putVisit e.val { x.stepped (s.fld (pJE 0) (JE_FCTGT_LATACT f.target.val)) with
        v := SMap.put 0 x.v f.d.val a, fc := none })) ∧
    (∀ a b, x.fc = some (some (a, b)) → f.r2 = true →
      exec (.fcall e f) s = .next (s.putVisit e.val { x.stepped (s.fld (pJE 0) (JE_FCTGT_LATACT f.target.val)) with
        v := SMap.put 0 (SMap.put 0 x.v f.d.val a) (f.d.val + 1) b, fc := none })))

/-- R84, R91, R92: a visit starts on the next due slot: the record is fetched and the class's program begins at its
entry; a context whose class has no entry in force spends its 4 overhead cycles; one whose record holds an uncorrectable
error is quarantined for this frame and not visited. R63, R94, R133, R134: END writes the record back, with good check
bits in every group that it changes, releases the events to their link in EMIT order and closes the visit; a held visit
releases none and keeps no program store. No other slot of the context store changes. Where the manual leaves a point open, this states the model's choice (log entries 30,
37, 107). -/
def Obligations.Visits : Prop :=
  (∀ (s : State) (e : Engine) (p h : Nat) (due : List Nat),
    s.computing = true → (s.engine e.val).visit = none → (s.engine e.val).due = p :: due → s.owner p = some h →
    s.cycleIn e.val 1 = true →
    ((∀ g < 16, s.eccAt p g = 0) → let c := SMap.get ClsEnt.none s.jer.inf (w0Class (s.slotWord p 0))
      (c.valid = true → Completes (.visit e []) s fun u => ∃ x, (u.engine e.val).visit = some x ∧
        (u.engine e.val).due = due ∧ x.handle = h ∧ x.phys = p ∧ x.plane = c.plane ∧ x.pc = c.entry ∧ x.w = c.w ∧
        x.cyc = 0 ∧ x.evs = [] ∧ x.held = false ∧ x.fl = ⟨false, false, false, false, false⟩ ∧ x.v = [] ∧ x.a = [] ∧
        (∀ w < 64, SMap.get 0 x.fetched w = s.slotWord p w) ∧
        Changes s u [.jer] (fields [(pJE e.val, JE_STAT_CURSLOT)])) ∧
      (c.valid = false → Completes (.visit e []) s fun u => (u.engine e.val).visit = none ∧
        (u.engine e.val).due = due ∧ (u.engine e.val).cyc = (s.engine e.val).cyc + 4 ∧
        Changes s u [.jer] (fields [(pJE e.val, JE_STAT_CURSLOT)]))) ∧
    ((∀ g < 16, s.eccAt p g ≠ 1) → (∃ g < 16, s.eccAt p g = 2) → s.isQuar h = false → s.ctx.qmapBad = [] →
      Completes (.visit e []) s fun u => (u.engine e.val).visit = none ∧
        (u.engine e.val).cyc = (s.engine e.val).cyc + 4 ∧ u.ctx.quar = SMap.put 0 s.ctx.quar h (s.fn + 1))) ∧
  (∀ (s : State) (e : Engine) (x : Visit),
    s.fetch e.val = some (x, .endv) →
    (∀ w < 64, s.slotWord x.phys w = SMap.get 0 x.fetched w) →
    Completes (.endv e) s fun u =>
      (u.engine e.val).visit = none ∧ (u.engine e.val).cyc = (s.engine e.val).cyc + 5 + x.cyc ∧
      (u.engine e.val).lastEnd = (u.engine e.val).cyc ∧ (u.engine e.val).due = (s.engine e.val).due ∧
      u.slotWord x.phys 11 = BitVec.ofNat 10 s.fn ∧ u.slotWord x.phys 12 = BitVec.ofNat 10 (s.fn / 1024) ∧
      (∀ w, 16 ≤ w → w < 64 → u.slotWord x.phys w = SMap.get 0 (if x.held then x.dev else x.cur) w) ∧
      (∀ ev, x.held = false → x.evs = [ev] → u.slotWord x.phys 4 = ev.val ∧
        u.slotWord x.phys 5 = SMap.get 0 x.cur 4 ∧ u.slotWord x.phys 6 = BitVec.ofNat 10 s.fn) ∧
      (x.held = true → u.lnk = s.lnk) ∧
      (x.held = false → x.evs ≠ [] → (u.link (bitsN (SMap.get 0 x.fetched 1).toNat 0 7)).queue =
        (s.link (bitsN (SMap.get 0 x.fetched 1).toNat 0 7)).queue ++ x.evs) ∧
      (∀ p w, p ≠ x.phys → w < 64 → u.slotWord p w = s.slotWord p w) ∧
      (∀ w < 64, u.slotWord x.phys w ≠ s.slotWord x.phys w → u.eccAt x.phys (w / 4) = 0) ∧
      Changes s u [.ctx, .jer, .plc, .lnk] (fields [(pJE e.val, JE_VISITS_COUNT)]))

/-- R109, R125, R130, R132, R450: a store outside W3 and W16 to W63, a third event, an FCALL whose response has not come
by its last cycle, and the use of the last cycle of W by an instruction that is no END each end the visit with their fault: nothing of the visit reaches the record or a link, the
context is quarantined from this frame on, and the first fault of the engine is recorded. Where the manual leaves a
point open, this states the model's choice (log entries 29, 107). -/
def Obligations.EngineFaults : Prop := ∀ (s : State) (e : Engine) (x : Visit), s.isQuar x.handle = false →
  (∀ src i base, s.fetch e.val = some (x, .stw src i base) → ¬(x.addr i base = 3 ∨ 16 ≤ x.addr i base) →
    Completes (.stw e src i base) s fun u => s.faulted u e x 2 x.pc (x.cyc + 1)) ∧
  (∀ value o, s.fetch e.val = some (x, .emit value o) → 2 ≤ x.emits →
    Completes (.emit e value o) s fun u => s.faulted u e x 6 x.pc (x.cyc + 1)) ∧
  (∀ f : FcallOp, s.fetch e.val = some (x, .fcall f) → x.fc = some none →
    let n := x.cyc + s.fld (pJE 0) (JE_FCTGT_LATACT f.target.val)
    s.cycleIn e.val (4 + n) = true → Completes (.fcall e f) s fun u => s.faulted u e x 3 x.pc n) ∧
  (s.fetch e.val = some (x, .nop) → x.w ≤ x.cyc + 1 → Completes (.nop e) s fun u => s.faulted u e x 4 x.pc x.w)

/-! ## Microcode and placement (spec/04_engines.md, spec/06_placement.md) -/

/-- R102, R103, R332: MCDATA0 is held, MCDATA1 stores the whole instruction at MCADDR in every copy with good parity and
moves the address on where AUTOINC asks for it; a live plane, a verification that runs and the states SECURE and RETURN
each turn the write away with their error. R101, R104: a written class entry has W = 0 and, like a written FCALL target,
whose latency is held to 4 to 24, leaves the pending table unverified; VERIFY starts a verification; REVERT copies what
is in force back. -/
def Obligations.MicrocodeAndClasses : Prop :=
  (∀ (s : State) (t : Time) (v : Dword),
    ((s.at_ t).writeOpen 0x20084 = true → s.mcForbidden = false → s.verifying = false → Completes (.mcdata0Write t v) s fun u =>
      u.jer = { s.jer with mcHold := v.toNat % 2 ^ 30 } ∧ Changes (s.arrive t 0x20084 v.toNat) u [.jer] noField) ∧
    ((s.at_ t).writeOpen 0x20088 = true → s.mcForbidden = false → s.verifying = false →
      (s.planeLive (s.fld (pJE 0) JE_MCADDR_PLANE) = false → Completes (.mcdata1Write t v) s fun u =>
        (∀ p a, p < 2 → a < 4096 → s.fld (pJE 0) JE_MCADDR_PLANE < 2 → s.fld (pJE 0) JE_MCADDR_ADDR < 4096 →
          u.mcWord p a = if p = s.fld (pJE 0) JE_MCADDR_PLANE ∧ a = s.fld (pJE 0) JE_MCADDR_ADDR then
            BitVec.ofNat 40 (s.jer.mcHold + v.toNat % 1024 * 2 ^ 30) else s.mcWord p a) ∧
        (∀ g < 8, u.mcBadAt g (s.fld (pJE 0) JE_MCADDR_PLANE) (s.fld (pJE 0) JE_MCADDR_ADDR) = false) ∧
        u.fld (pJE 0) JE_MCADDR_ADDR = (if s.bit (pJE 0) JE_MCADDR_AUTOINC = true then
          (s.fld (pJE 0) JE_MCADDR_ADDR + 1) % 4096 else s.fld (pJE 0) JE_MCADDR_ADDR) ∧
        Changes (s.arrive t 0x20088 v.toNat) u [.jer] (fields [(pJE 0, JE_MCADDR_ADDR)])) ∧
      (s.planeLive (s.fld (pJE 0) JE_MCADDR_PLANE) = true → Completes (.mcdata1Write t v) s fun u =>
        RaisesOnly (s.arrive t 0x20088 v.toNat) u (pJE 0) JE_E_MCLIVE)) ∧
    ((s.at_ t).writeOpen 0x20088 = true → s.mcForbidden = true → Completes (.mcdata1Write t v) s fun u =>
      RaisesOnly (s.arrive t 0x20088 v.toNat) u pLCS LCS_E_LCSWR) ∧
    ((s.at_ t).writeOpen 0x20088 = true → s.mcForbidden = false → s.verifying = true → Completes (.mcdata1Write t v) s fun u =>
      RaisesOnly (s.arrive t 0x20088 v.toNat) u (pJE 0) JE_E_CTBUSY)) ∧
  (∀ (s : State) (t : Time), s.verifying = false → s.wf = true →
    (∀ v : Dword, (s.at_ t).writeOpen 0x20094 = true → Completes (.ctdataWrite t v) s fun u =>
      SMap.get ClsEnt.none u.jer.pend (s.fld (pJE 0) JE_CTIDX_CLASS) =
        ⟨decide (JE_CTDATA_VALID.of v.toNat = 1), JE_CTDATA_PLANE.of v.toNat, JE_CTDATA_ENTRY.of v.toNat, 0⟩ ∧
      (∀ k, k ≠ s.fld (pJE 0) JE_CTIDX_CLASS → SMap.get ClsEnt.none u.jer.pend k =
        { SMap.get ClsEnt.none s.jer.pend k with w := 0 }) ∧
      u.fld (pJE 0) JE_CTSTAT_VERIFIED = 0 ∧ u.jer = { s.jer with pend := u.jer.pend } ∧
      Changes (s.arrive t 0x20094 v.toNat) u [.jer] (fields [(pJE 0, JE_CTSTAT_VERIFIED)])) ∧
    (∀ (n : Fin 16) (v : Dword), (s.at_ t).writeOpen (0x200C0 + 4 * n.val) = true → Completes (.fctgtWrite t n v) s fun u =>
      u.fld (pJE 0) (JE_FCTGT_EN n.val) = v.toNat / 2 ^ 31 % 2 ∧
      u.fld (pJE 0) (JE_FCTGT_LAT n.val) = Nat.min 24 (Nat.max 4 (v.toNat / 2 ^ 16 % 32)) ∧
      u.fld (pJE 0) (JE_FCTGT_PORT n.val) = v.toNat % 1024 ∧ u.fld (pJE 0) JE_CTSTAT_VERIFIED = 0 ∧
      u.jer = { s.jer with pend := u.jer.pend } ∧
      Changes (s.arrive t (0x200C0 + 4 * n.val) v.toNat) u [.jer] (fields [(pJE 0, JE_FCTGT_EN n.val),
        (pJE 0, JE_FCTGT_LAT n.val), (pJE 0, JE_FCTGT_PORT n.val), (pJE 0, JE_CTSTAT_VERIFIED)])) ∧
    ((s.at_ t).writeOpen 0x2009C = true →
      (Completes (.ctcmdVerify t) s fun u =>
        u.fld (pJE 0) JE_CTSTAT_BUSY = 1 ∧ u.fld (pJE 0) JE_CTSTAT_VERIFIED = 0 ∧ u.jer.inf = s.jer.inf ∧
        Changes (s.arrive t 0x2009C 1) u [.jer] (fields [(pJE 0, JE_CTSTAT_BUSY), (pJE 0, JE_CTSTAT_VERIFIED)])) ∧
      (Completes (.ctcmdRevert t) s fun u =>
        u.jer = { s.jer with pend := s.jer.inf } ∧ u.fld (pJE 0) JE_CTSTAT_VERIFIED = 1 ∧
        (∀ n < 16, u.fld (pJE 0) (JE_FCTGT_LAT n) = s.fld (pJE 0) (JE_FCTGT_LATACT n) % 32 ∧
          u.fld (pJE 0) (JE_FCTGT_EN n) = s.fld (pJE 0) (JE_FCTGT_ENACT n) % 2 ∧
          u.fld (pJE 0) (JE_FCTGT_PORT n) = SMap.get 0 s.jer.portAct n % 1024))))

/-- R104, R107 to R109: a verification that finds no failure leaves the pending table verified with its W values, and
one that does records its first failure and raises VERR; either ends with VDONE. An entry whose first instruction is END
has W = 1. R110: the background check reads 16 addresses of every copy; where one copy alone has a parity error it is
repaired and counted; where no copy is good the device stops for good. Where the manual leaves a point open, this states
the model's choice (log entry 41). -/
def Obligations.VerificationAndParity : Prop :=
  (∀ (s : State) (t : Time), s.verifying = true →
    (∀ tbl, s.verify s.jer.pend s.jer.pend = .inl tbl → Completes (.verifyComplete t) s fun u =>
      u.jer = { s.jer with pend := tbl } ∧ u.fld (pJE 0) JE_CTSTAT_BUSY = 0 ∧ u.fld (pJE 0) JE_CTSTAT_VERIFIED = 1 ∧
      u.fld (pJE 0) JE_CTSTAT_ERRCODE = 0 ∧
      u.fld (pJE 0) HDR_PG_IRQST_ST = (s.fld (pJE 0) HDR_PG_IRQST_ST ||| 2 ^ JE_E_VDONE) % 2 ^ 32) ∧
    (∀ k plane r a, s.verify s.jer.pend s.jer.pend = .inr (k, plane, r, a) → Completes (.verifyComplete t) s fun u =>
      u.jer = s.jer ∧ u.fld (pJE 0) JE_CTSTAT_BUSY = 0 ∧ u.fld (pJE 0) JE_CTSTAT_ERRCODE = r % 16 ∧
      u.fld (pJE 0) JE_CTSTAT_ERRCLASS = k % 64 ∧ u.fld (pJE 0) JE_CTSTAT_ERRPC = a % 4096 ∧
      u.fld (pJE 0) HDR_PG_ERR_ERR = (s.fld (pJE 0) HDR_PG_ERR_ERR ||| 2 ^ JE_E_VERR) % 2 ^ 32) ∧
    (∀ k plane entry, entry < 4096 → (∀ g < 8, s.mcBadAt g plane entry = false) →
      decodeE (s.mcWord plane entry) = some .endv →
      s.verify [(k, ⟨true, plane, entry, 0⟩)] [] = .inl [(k, ⟨true, plane, entry, 1⟩)])) ∧
  (∀ (s : State) (t : Time), s.pwr.up = true → s.clkOn (pJE 0) = true →
    s.computing = false → s.jer.mcPos + 16 ≤ 8192 →
    (s.jer.mcBad = [] → Completes (.mcParityCheck t []) s fun u =>
      u.jer = { s.jer with mcPos := (s.jer.mcPos + 16) % 8192 } ∧ Changes (s.at_ t) u [.jer] noField) ∧
    (∀ (g : Fin 8) (i : Fin 16), s.jer.mcBad = [(g.val * 8192 + s.jer.mcPos + i.val, true)] →
      Completes (.mcParityCheck t []) s fun u =>
        u.jer = { s.jer with mcPos := (s.jer.mcPos + 16) % 8192, mcBad := [] } ∧
        u.fld (pJE 0) JE_MCSTAT_REPAIRS = Nat.min (s.fld (pJE 0) JE_MCSTAT_REPAIRS + 1) 65535) ∧
    (∀ i : Fin 16, s.pwr.faultB = false → (∀ g < 8, SMap.get false s.jer.mcBad (g * 8192 + s.jer.mcPos + i.val) = true) →
      Completes (.mcParityCheck t []) s fun u => u.pwr.faultB = true))

/-- R55, R151: on a paired primary a write of PIN, EXCL, RREQ or RFREE waits for the standby, with the handle that HIDX
holds, and does nothing else. R146 to R149: a pin records its bank and requests the move of a handle that stands
elsewhere; a pin to an excluded bank is refused; the pin that stands already changes nothing; UNPIN removes a pin;
EXCLUDE begins the evacuation of a bank without pinned handles and is at its end when the bank holds none; INCLUDE waits for a boundary. None of them moves a record.
Where the manual leaves a point open, this states the model's choice (log entries 33, 44, 90). -/
def Obligations.PinsAndExclusion : Prop :=
  (∀ (s : State) (t : Time), s.mirrors = true →
    (∀ (c : Instr) (o v : Nat), (∃ b : Engine, c = .pin t b ∧ o = 0x60 ∧ v = 256 + b.val) ∨ (c = .unpin t ∧ o = 0x60 ∧ v = 128) ∨
        (∃ b : Engine, c = .exclude t b ∧ o = 0x48 ∧ v = 128 + b.val) ∨ (c = .include t ∧ o = 0x48 ∧ v = 256) ∨
        (∃ x : Dword, c = .rreq t x ∧ o = 0x7C ∧ v = x.toNat) ∨ (∃ x : Dword, c = .rfree t x ∧ o = 0x84 ∧ v = x.toNat) →
      (s.at_ t).writeOpen (0x5000 + o) = true → Completes c s fun u =>
        let a := s.arrive t (0x5000 + o) v
        u.twn = { a.twn with held := a.twn.held ++ [((a.twn.seq + 65535) % 65536, o, v, s.fld pPLC PLC_HIDX_HANDLE)] } ∧
        Changes a u [.twn] noField)) ∧
  (∀ (s : State) (t : Time), s.mirrors = false →
    (∀ b : Engine, (s.at_ t).writeOpen 0x5060 = true → s.plc.hmBad = [] →
      SMap.get 0 s.plc.pins (s.fld pPLC PLC_HIDX_HANDLE) = b.val + 1 → Completes (.pin t b) s fun u =>
      u = s.arrive t 0x5060 (256 + b.val)) ∧
    (∀ b : Engine, (s.at_ t).writeOpen 0x5060 = true → s.plc.hmBad = [] →
      SMap.get 0 s.plc.pins (s.fld pPLC PLC_HIDX_HANDLE) ≠ b.val + 1 → s.excluded b.val = true →
      Completes (.pin t b) s fun u => RaisesOnly (s.arrive t 0x5060 (256 + b.val)) u pPLC PLC_E_PINREF) ∧
    (∀ b : Engine, (s.at_ t).writeOpen 0x5060 = true → s.plc.hmBad = [] →
      SMap.get 0 s.plc.pins (s.fld pPLC PLC_HIDX_HANDLE) ≠ b.val + 1 → s.excluded b.val = false → s.plc.migs = [] →
      bankOf (s.phys (s.fld pPLC PLC_HIDX_HANDLE)) = b.val → Completes (.pin t b) s fun u =>
        u.plc = { s.plc with pins := SMap.put 0 s.plc.pins (s.fld pPLC PLC_HIDX_HANDLE) (b.val + 1) } ∧
        Changes (s.arrive t 0x5060 (256 + b.val)) u [.plc] noField) ∧
    (∀ (b : Engine) (p : Nat), (s.at_ t).writeOpen 0x5060 = true → s.plc.hmBad = [] →
      SMap.get 0 s.plc.pins (s.fld pPLC PLC_HIDX_HANDLE) ≠ b.val + 1 → s.excluded b.val = false → s.plc.migs = [] →
      bankOf (s.phys (s.fld pPLC PLC_HIDX_HANDLE)) ≠ b.val → s.freeSlot b.val = some p →
      (SMap.get Load.none s.ctx.load (s.fld pPLC PLC_HIDX_HANDLE)).valid = false → Completes (.pin t b) s fun u =>
        u.plc = { s.plc with
          pins := SMap.put 0 s.plc.pins (s.fld pPLC PLC_HIDX_HANDLE) (b.val + 1)
          migs := [newMig (s.fld pPLC PLC_HIDX_HANDLE) p .pin] } ∧
        Changes (s.arrive t 0x5060 (256 + b.val)) u [.plc] noField) ∧
    ((s.at_ t).writeOpen 0x5060 = true → s.plc.migs = [] → SMap.get 0 s.plc.pins (s.fld pPLC PLC_HIDX_HANDLE) ≠ 0 →
      Completes (.unpin t) s fun u =>
      u.plc = { s.plc with pins := SMap.put 0 s.plc.pins (s.fld pPLC PLC_HIDX_HANDLE) 0 } ∧
      Changes (s.arrive t 0x5060 128) u [.plc] noField) ∧
    ((s.at_ t).writeOpen 0x5060 = true → SMap.get 0 s.plc.pins (s.fld pPLC PLC_HIDX_HANDLE) = 0 →
      Completes (.unpin t) s fun u => u = s.arrive t 0x5060 128) ∧
    (∀ b : Engine, (s.at_ t).writeOpen 0x5048 = true → s.plc.hmBad = [] → s.fld pPLC PLC_STAT_EXCLSTATE = 0 →
      (s.plc.pins.any fun e => bankOf (s.phys e.1) = b.val) = false → Completes (.exclude t b) s fun u =>
        u.fld pPLC PLC_STAT_EXCLBANK = b.val ∧
        u.fld pPLC PLC_STAT_EXCLSTATE = (if s.freeSlots b.val = 1600 then 2 else 1) ∧
        u.ctx = s.ctx ∧ u.plc.home = s.plc.home ∧ u.plc.pins = s.plc.pins) ∧
    (∀ b : Engine, (s.at_ t).writeOpen 0x5048 = true → s.fld pPLC PLC_STAT_EXCLSTATE = 0 →
      (s.plc.pins.any fun e => bankOf (s.phys e.1) = b.val) = true → Completes (.exclude t b) s fun u =>
        RaisesOnly (s.arrive t 0x5048 (128 + b.val)) u pPLC PLC_E_EXCLREF) ∧
    ((s.at_ t).writeOpen 0x5048 = true → Completes (.include t) s fun u =>
      u.plc = { s.plc with include_ := s.plc.include_ || decide (s.fld pPLC PLC_STAT_EXCLSTATE ≠ 0) } ∧
      Changes (s.arrive t 0x5048 256) u [.plc] noField))

/-- R142 to R144: in STOP, once the migrations that wait to be cancelled or requested again have been settled, the next
migration is copied and committed: the handle is in its target slot with its record word for word, every other handle
where it was, and every other slot as it was. R137, R145: a parity error in one copy
of a handle-table entry is corrected, one in both is device-fatal; planning in STOP never moves a record or a handle.
Where the manual leaves a point open, this states the model's choice (log entries 26, 30, 43, 45, 105). -/
def Obligations.MigrationAndPlanning : Prop :=
  (∀ (s : State) (m : Mig), let a := s.settleStop
    a.wf = true → a.pwr.up = true → a.clkOn pPLC = true →
    a.bit pPLC HDR_PG_CTRL_EN = true → a.plc.made < a.fld pPLC PLC_CTRL_MIGMAX → a.frmState = 0 → a.role ≠ 2 →
    a.mirrors = false → a.nextCopy = some m → m.target ≠ a.phys m.handle → a.ctx.ecc = [] → a.plc.hmBad = [] →
    a.ctx.qmapBad = [] →
    Completes (.migrationCopy []) s fun u =>
      u.phys m.handle = m.target ∧ (∀ w < 64, u.recWord m.handle w = a.recWord m.handle w) ∧
      (∀ h, h ≠ m.handle → u.phys h = a.phys h) ∧
      (∀ p w, p ≠ m.target → p ≠ a.phys m.handle → w < 64 → u.slotWord p w = a.slotWord p w) ∧
      (∀ m' ∈ u.plc.migs, m'.handle = m.handle → m' ∈ a.plc.migs) ∧
      u.fld pPLC PLC_MIGCNT_COUNT = (a.fld pPLC PLC_MIGCNT_COUNT + 1) % 2 ^ 32 ∧
      u.fld pPLC PLC_MIGLAST_RESULT = 1 ∧ u.fld pPLC PLC_MIGLAST_HANDLE = m.handle % 65536 ∧
      u.lnk = a.lnk ∧ u.jer = a.jer ∧ u.frm = a.frm) ∧
  (∀ s : State, s.settled → s.settleStop = s) ∧
  (∀ (s : State) (t : Time), s.pwr.up = true → s.clkOn pPLC = true →
    (s.plc.hmBad = [] → Completes (.hmapParityCheck t []) s fun u => u = s.at_ t) ∧
    (∀ h c, s.plc.hmBad = [(h, c)] → c = 1 ∨ c = 2 → Completes (.hmapParityCheck t []) s fun u =>
      u.plc = { s.plc with hmBad := [] } ∧
      u.fld pPLC HDR_PG_ERR_ERR = (s.fld pPLC HDR_PG_ERR_ERR ||| 2 ^ PLC_E_HMPAR) % 2 ^ 32 ∧
      u.fld pERR ERR_CLASSCNT_CORRECTED =
        Nat.min (s.fld pERR ERR_CLASSCNT_CORRECTED + 1) (2 ^ ERR_CLASSCNT_CORRECTED.wid - 1) ∧ u.pwr = s.pwr) ∧
    (∀ h, s.plc.hmBad = [(h, 3)] → Completes (.hmapParityCheck t []) s fun u => u.pwr.faultB = true) ∧
    (s.frmState = 0 → s.settled → s.plc.hmBad = [] → s.ctx.qmapBad = [] → Completes (.stopBalanceTimer t) s fun u =>
      u.time = s.timeAt t ∧ u.plc.made = 0 ∧ u.plc.home = s.plc.home ∧ u.plc.pins = s.plc.pins ∧ u.ctx = s.ctx ∧
      u.jer = s.jer ∧ u.lnk = s.lnk))

/-- R150: the self-test of an excluded bank whose engine is off runs for 153.6 µs; at its end every word of the bank
reads 0, no word of another bank has changed, and its result and first failure stand in BTSTAT. R152 to R155: a request
for a legal number of regions takes the lowest legal run of FREE regions under a fresh ID and makes them PENDING; one
that is illegal or finds no run fails with its status; RFREE of an ID whose regions are all PENDING frees them. Where
the manual leaves a point open, this states the model's choice (log entry 42). -/
def Obligations.SelfTestAndRegions : Prop :=
  (∀ (s : State),
    (∀ t, (s.at_ t).writeOpen 0x5074 = true → s.fld pPLC PLC_STAT_EXCLSTATE = 2 →
      s.bit (pJE (s.fld pPLC PLC_STAT_EXCLBANK)) HDR_PG_CTRL_EN = false → Completes (.btcmdStart t) s fun u =>
        u.fld pPLC PLC_STAT_EXCLSTATE = 3 ∧ u.fld pPLC PLC_BTSTAT_BUSY = 1 ∧
        u.plc = { s.plc with btEnd := s.timeAt t + 153600 } ∧
        Changes (s.arrive t 0x5074 1) u [.plc] (fields [(pPLC, PLC_STAT_EXCLSTATE), (pPLC, PLC_BTSTAT_BUSY)])) ∧
    (∀ t, (s.at_ t).writeOpen 0x5074 = true → s.fld pPLC PLC_STAT_EXCLSTATE ≠ 2 → Completes (.btcmdStart t) s fun u =>
      RaisesOnly (s.arrive t 0x5074 1) u pPLC PLC_E_EXCLREF) ∧
    (∀ fail : Option (Fin 6400 × Fin 188), s.fld pPLC PLC_STAT_EXCLSTATE = 3 → s.fld pPLC PLC_STAT_EXCLBANK < 32 →
      Completes (.selftestEnd fail) s fun u =>
        (∀ p w, w < 64 → u.slotWord p w = if bankOf p = s.fld pPLC PLC_STAT_EXCLBANK then 0 else s.slotWord p w) ∧
        u.time = s.timeAt s.plc.btEnd ∧ u.fld pPLC PLC_STAT_EXCLSTATE = 2 ∧ u.fld pPLC PLC_BTSTAT_BUSY = 0 ∧
        (fail = none → u.fld pPLC PLC_BTSTAT_RESULT = 1) ∧
        (∀ a k, fail = some (a, k) → u.fld pPLC PLC_BTSTAT_RESULT = 2 ∧ u.fld pPLC PLC_BTSTAT_ADDR = a.val ∧
          u.fld pPLC PLC_BTSTAT_BIT = k.val) ∧ u.plc = s.plc ∧ u.jer = s.jer)) ∧
  (∀ (s : State) (t : Time) (v : Dword), s.mirrors = false →
    (∀ b, (s.at_ t).writeOpen 0x507C = true → s.bit pPLC HDR_PG_CTRL_EN = true → legalK (PLC_RREQ_K.of v.toNat) = true →
      PLC_RREQ_NAMED.of v.toNat = 0 → b < 64 → legalBase (PLC_RREQ_K.of v.toNat) b = true →
      s.runFree (PLC_RREQ_K.of v.toNat) b = true →
      (∀ c < b, legalBase (PLC_RREQ_K.of v.toNat) c = true → s.runFree (PLC_RREQ_K.of v.toNat) c = false) →
      Completes (.rreq t v) s fun u =>
        u.fld pPLC PLC_RRES_STATUS = 0 ∧ u.fld pPLC PLC_RRES_BASE = b ∧ u.fld pPLC PLC_RRES_K = PLC_RREQ_K.of v.toNat ∧
        (∀ n, u.region n = if b ≤ n ∧ n < b + PLC_RREQ_K.of v.toNat then
          ⟨1, s.freeAllocId 254 s.plc.nextAlloc⟩ else s.region n) ∧
        Changes (s.arrive t 0x507C v.toNat) u [.plc] (fields [(pPLC, PLC_RRES_STATUS), (pPLC, PLC_RRES_ALLOCID),
          (pPLC, PLC_RRES_K), (pPLC, PLC_RRES_BASE)])) ∧
    ((s.at_ t).writeOpen 0x507C = true → s.bit pPLC HDR_PG_CTRL_EN = true → legalK (PLC_RREQ_K.of v.toNat) = false →
      Completes (.rreq t v) s fun u =>
        u.fld pPLC PLC_RRES_STATUS = stBADARG ∧ u.plc = s.plc ∧
        u.fld pPLC HDR_PG_ERR_ERR = (s.fld pPLC HDR_PG_ERR_ERR ||| 2 ^ PLC_E_RAREF) % 2 ^ 32) ∧
    ((s.at_ t).writeOpen 0x507C = true → s.bit pPLC HDR_PG_CTRL_EN = true → legalK (PLC_RREQ_K.of v.toNat) = true →
      PLC_RREQ_NAMED.of v.toNat = 0 →
      (∀ c < 64, legalBase (PLC_RREQ_K.of v.toNat) c = true → s.runFree (PLC_RREQ_K.of v.toNat) c = false) →
      Completes (.rreq t v) s fun u => u.fld pPLC PLC_RRES_STATUS = stBUSY ∧ u.plc = s.plc) ∧
    ((s.at_ t).writeOpen 0x5084 = true → PLC_RFREE_ALLOCID.of v.toNat ≠ 0 → s.regionsOf (PLC_RFREE_ALLOCID.of v.toNat) ≠ [] →
      (∀ n ∈ s.regionsOf (PLC_RFREE_ALLOCID.of v.toNat), (s.region n).state = 1) →
      Completes (.rfree t v) s fun u =>
        (∀ n, u.region n = if n ∈ s.regionsOf (PLC_RFREE_ALLOCID.of v.toNat) then RgnAlloc.free else s.region n) ∧
        Changes (s.arrive t 0x5084 v.toNat) u [.plc] noField) ∧
    ((s.at_ t).writeOpen 0x5084 = true → s.regionsOf (PLC_RFREE_ALLOCID.of v.toNat) = [] → Completes (.rfree t v) s fun u =>
      RaisesOnly (s.arrive t 0x5084 v.toNat) u pPLC PLC_E_RAREF))

/-! ## Links (spec/07_links.md) -/

/-- R51, R170: the events of a frame go out by offset and then by slot, none is lost, and the eight segments together
are the list in its order. -/
def Obligations.EventsSortedAndSegmented : Prop := ∀ (xs : List Cmd),
  (sortCmds xs).Perm xs ∧
  (sortCmds xs).Pairwise (fun x y => x.off < y.off ∨ (x.off = y.off ∧ x.slot ≤ y.slot)) ∧
  (segments xs).length = 8 ∧ (segments xs).flatten = xs

/-- R185: TRAIN starts training of an enabled port in DOWN and nothing else; DOWN takes a port that is not there to
DOWN, from where it may train again by itself after 10 ms; the automatic start follows AUTOTRAIN. R161, R186: training
goes from alignment, once the receiver is aligned and has taken 128 SYNC symbols, through the ID records to the CFG
records; DISC goes out every 1 µs and CFG every 2 µs; the modules get their slots in the order of their records. R185,
R186: the last acknowledgement ends training in HOLD with the modules and slots counted; a step that takes too long ends
it in DOWN with its error. Where the manual leaves a point open, this states the model's choice (log entries 47, 109). -/
def Obligations.LinkTraining : Prop :=
  (∀ (s : State) (t : Time) (l : Link),
    ((s.at_ t).writeOpen (pUL l.val * 4096 + 0x44) = true →
      (s.fld (pUL l.val) UL_STAT_STATE = 0 → s.bit (pUL l.val) HDR_PG_CTRL_EN = true →
        Completes (.ulCmdTrain t l) s fun u => (s.arrive t (pUL l.val * 4096 + 0x44) 2).trains u l) ∧
      (s.fld (pUL l.val) UL_STAT_STATE ≠ 0 → Completes (.ulCmdTrain t l) s fun u =>
        u = s.arrive t (pUL l.val * 4096 + 0x44) 2) ∧
      (s.fld (pUL l.val) UL_STAT_STATE ≠ 0 → Completes (.ulCmdDown t l) s fun u =>
        (s.arrive t (pUL l.val * 4096 + 0x44) 1).goesDown u l) ∧
      (s.fld (pUL l.val) UL_STAT_STATE = 0 → Completes (.ulCmdDown t l) s fun u =>
        u = s.arrive t (pUL l.val * 4096 + 0x44) 1)) ∧
    (∀ a, (s.link l.val).autoAt = some a → s.pwr.up = true → s.clkOn (pUL l.val) = true →
      s.bit (pUL l.val) HDR_PG_CTRL_EN = true → s.fld (pUL l.val) UL_STAT_STATE = 0 → s.role ≠ 2 →
      (s.bit (pUL l.val) UL_CTRL_AUTOTRAIN = true → Completes (.autotrainTimer l) s fun u => (s.at_ a).trains u l) ∧
      (s.bit (pUL l.val) UL_CTRL_AUTOTRAIN = false → Completes (.autotrainTimer l) s fun u => u = s.at_ a))) ∧
  (∀ (s : State) (t : Time) (l : Link) (xs : List (BitVec 14)), s.clkOn (pUL l.val) = true →
    (s.inStep l.val 1 = true → let g := xs.foldl (Rx.take true) (s.link l.val).rx
      (g.lock = true → 128 ≤ g.good → Completes (.trainingAligned t ⟨l, xs⟩) s fun u =>
        u.fld (pUL l.val) UL_STAT_RXALIGN = 1 ∧
        u.link l.val = { s.link l.val with step := 2, stepAt := s.timeAt t, recs := 0, rx := Rx.none, rxErrs := [] } ∧
        Changes (s.at_ t) u [.lnk] (fields [(pUL l.val, UL_STAT_RXALIGN)])) ∧
      (g.lock = false ∨ g.good < 128 → Completes (.trainingAligned t ⟨l, xs⟩) s fun u =>
        (g.lock = true → u.fld (pUL l.val) UL_STAT_RXALIGN = 1) ∧ u.link l.val = { s.link l.val with rx := g } ∧
        Changes (s.at_ t) u [.lnk] (fun k => g.lock && fields [(pUL l.val, UL_STAT_RXALIGN)] k))) ∧
    (s.pwr.up = true → s.fld (pUL l.val) UL_STAT_STATE ≠ 1 → let g := xs.foldl (Rx.take false) (s.link l.val).rx
      Completes (.receiverAligned t ⟨l, xs⟩) s fun u =>
        (g.lock = true → u.fld (pUL l.val) UL_STAT_RXALIGN = 1) ∧ u.link l.val = { s.link l.val with rx := g } ∧
        Changes (s.at_ t) u [.lnk] (fun k => g.lock && fields [(pUL l.val, UL_STAT_RXALIGN)] k))) ∧
  (∀ (s : State) (l : Link),
    (s.inStep l.val 2 = true → let f := (s.link l.val).stepAt + (s.link l.val).recs * 1000
      Completes (.discRepeat l) s fun u =>
        u.link l.val = { s.link l.val with
          recs := (s.link l.val).recs + 1, txAt := (s.link l.val).boundary f, tx := [symCtl 0x90] } ∧
        u.time = s.timeAt f ∧ Changes s u [.time, .lnk] noField) ∧
    (s.inStep l.val 3 = true → let f := (s.link l.val).stepAt + (s.link l.val).recs * 2000
      Completes (.cfgRepeat l) s fun u =>
        u.time = s.timeAt f ∧ (u.link l.val).txAt = (s.link l.val).boundary f ∧
        (u.link l.val).recs = (s.link l.val).recs + 1 ∧ (u.link l.val).mods = (s.link l.val).mods ∧
        (∀ m, (s.link l.val).mods = [m] → m.acked = false →
          (u.link l.val).tx = cfgSyms 0 m (s.link l.val).trncfg) ∧
        Changes s u [.time, .lnk] noField)) ∧
  (∀ (s : State) (t : Time) (l : Link) (xs : List RxSym), s.receives l.val = true → let a := (s.at_ t).hear l.val xs
    (∀ r : IdRec, s.inStep l.val 2 = true → idRecOf (s.heard l.val xs) = some r →
      (r.good = true → r.pos.val = (s.link l.val).mods.length →
        (r.last = false → Completes (.idRecord t l xs) s fun u =>
          u.link l.val = { a.link l.val with mods := (s.link l.val).mods ++
            [⟨r.count.toNat, r.typ, r.rev, slotSum (s.link l.val).mods, 0, 0, false⟩] } ∧
          Changes a u [.lnk] noField) ∧
        (r.last = true → slotSum (s.link l.val).mods + r.count.toNat ≤ 384 → Completes (.idRecord t l xs) s fun u =>
          (u.link l.val).step = 3 ∧ (u.link l.val).stepAt = s.timeAt t ∧ (u.link l.val).recs = 0 ∧
          (u.link l.val).mods.length = (s.link l.val).mods.length + 1 ∧ Changes a u [.lnk] noField) ∧
        (r.last = true → 384 < slotSum (s.link l.val).mods + r.count.toNat → Completes (.idRecord t l xs) s fun u =>
          a.trainingFailed u l 4)) ∧
      (r.good = false ∨ r.pos.val ≠ (s.link l.val).mods.length → Completes (.idRecord t l xs) s fun u =>
        a.trainingFailed u l 3)) ∧
    (s.inStep l.val 2 = false ∨ idRecOf (s.heard l.val xs) = none → Completes (.idRecord t l xs) s fun u => u = a)) ∧
  (∀ (s : State) (t : Time) (l : Link),
    (∀ (x : RxSym) (k : Nat), s.receives l.val = true → s.inStep l.val 3 = true → symAck x = some k →
      let a := (s.at_ t).hear l.val [x]
      (((s.link l.val).mods.zipIdx.all fun x => x.1.acked || x.2 == k) = true → Completes (.ack t l x) s fun u =>
        u.fld (pUL l.val) UL_STAT_STATE = 2 ∧ u.fld (pUL l.val) UL_STAT_MODCNT = (s.link l.val).mods.length % 16 ∧
        u.fld (pUL l.val) UL_STAT_SLOTS = slotSum (s.link l.val).mods % 512 ∧ (u.link l.val).step = 0 ∧
        (u.link l.val).holdAt = s.timeAt t ∧
        u.fld (pUL l.val) HDR_PG_IRQST_ST = (s.fld (pUL l.val) HDR_PG_IRQST_ST ||| 2 ^ UL_E_TRNDONE) % 2 ^ 32 ∧
        (s.role ≠ 1 → u.twn = s.twn) ∧
        Changes a u [.lnk, .msi, .twn] (fields ([(pUL l.val, UL_STAT_STATE), (pUL l.val, UL_STAT_MODCNT),
          (pUL l.val, UL_STAT_SLOTS)] ++ irqField (pUL l.val)))) ∧
      (((s.link l.val).mods.zipIdx.all fun x => x.1.acked || x.2 == k) = false → Completes (.ack t l x) s fun u =>
        u.fld (pUL l.val) UL_STAT_STATE = 1 ∧ Changes a u [.lnk] noField)) ∧
    (s.inStep l.val 1 = true → Completes (.trainingTimeout l) s fun u =>
      (s.at_ ((s.link l.val).stepAt + 500000)).trainingFailed u l 1) ∧
    (s.inStep l.val 2 = true → Completes (.trainingTimeout l) s fun u =>
      (s.at_ ((s.link l.val).stepAt + 1000000)).trainingFailed u l 2) ∧
    (s.inStep l.val 3 = true → Completes (.trainingTimeout l) s fun u =>
      (s.at_ ((s.link l.val).stepAt + 1000000)).trainingFailed u l 5))

/-- R164 to R166, R173, R185: at its emission a port in RUN sends the frame that was built, tagged with the number of
the frame whose results it carries, or a HOLD frame where none is to go out; a port in HOLD sends a HOLD frame every 50
µs. Each starts at a symbol boundary. R67: a command of a quarantined context whose safe-table entry has bad parity is
not sent, and the error is reported. Where the manual leaves a point open, this states the model's choice (log entries
36, 48, 108). -/
def Obligations.Emission : Prop := ∀ (s : State) (l : Link) (f : Time), s.sendsFrames = true → let p := s.link l.val
  let bad (k : Nat) : Bool := p.safeOf.contains k && SMap.get false s.ctx.safeBad (l.val * 384 + k)
  (p.emitAt = some f →
    (s.fld (pUL l.val) UL_STAT_STATE = 3 →
      (s.pwr.faultB = false → p.emitRun = true →
        let cmds := p.built.filter fun c => !(c.safe && bad c.slot)
        (Completes (.emissionStart l []) s fun u =>
          (u.link l.val).txAt = p.boundary f ∧ (u.link l.val).txHold = false ∧
          (u.link l.val).txOn = true ∧ (u.link l.val).tag = some (p.emitFn % 1024) ∧
          (u.link l.val).prev = cmds ∧ (u.link l.val).segs = segments cmds ∧ (u.link l.val).emitAt = none ∧
          (u.link l.val).tx.take 5 = headSyms (p.emitFn % 1024) (phaseOf f (p.boundary f)) ∧
          (u.link l.val).tx.getLast? = some (symCtl 0x40) ∧
          u.fld (pUL l.val) UL_DSLAST_LEN = (u.link l.val).tx.length % 2 ^ UL_DSLAST_LEN.wid ∧
          (∀ k, k ≠ l.val → u.link k = s.link k) ∧
          (∀ k, bad k = true → SMap.get false u.ctx.perr (l.val * 384 + k) = true ∧ s.flags u pCTX CTX_E_SAFEPAR)) ∧
        ((∀ k, bad k = false) → Completes (.emissionStart l []) s fun u => (u.link l.val).prev = p.built ∧
          Changes s u [.time, .lnk] (fields [(pUL l.val, UL_DSLAST_LEN)]))) ∧
      (s.pwr.faultB = true ∨ p.emitRun = false → Completes (.emissionStart l []) s fun u =>
        (u.link l.val).txHold = true ∧ (u.link l.val).emitAt = none ∧ (u.link l.val).txAt = p.boundary f ∧
        (u.link l.val).tx = holdSyms (phaseOf f (p.boundary f)) ∧
        (u.link l.val).holdAt = f + 50000 ∧ Changes s u [.time, .lnk] noField)) ∧
    (s.fld (pUL l.val) UL_STAT_STATE ≠ 3 → Completes (.emissionStart l []) s fun u =>
      u.link l.val = { p with emitAt := none } ∧ Changes (s.at_ (p.boundary f)) u [.lnk] noField)) ∧
  (s.fld (pUL l.val) UL_STAT_STATE = 2 ∨ (s.fld (pUL l.val) UL_STAT_STATE = 3 ∧ s.pwr.faultB = true) →
    let g := if p.txOn && !p.txHold then Nat.max p.holdAt p.txEnd else p.holdAt
    Completes (.holdFrame l) s fun u =>
      (u.link l.val).txHold = true ∧ (u.link l.val).txAt = p.boundary g ∧ (u.link l.val).holdAt = g + 50000 ∧
      (u.link l.val).tx = holdSyms (phaseOf g (p.boundary g)) ∧
      u.time = s.timeAt g ∧ Changes s u [.time, .lnk] noField) ∧
  (∀ p : Lnk, p.origin ≤ f → p.boundary f ≤ f ∧ f < p.boundary f + 35 ∧ (p.boundary f - p.origin) % 35 = 0)

/-- R161, R187: a trained port whose receiver loses alignment (four symbols with wrong framing, or eight with a reserved
code, among the latest 64), or that hears no well-framed symbol for WDT µs, goes down and counts a contained error;
symbols in error are counted. R178, R184: a NAK counts; the segment it names is sent again while the frame has room and
the copy would still be in time, else NORSND; at most three copies of a segment go out. Where the manual leaves a point
open, this states the model's choice (log entries 47, 48). -/
def Obligations.ResendsAndLoss : Prop :=
  (∀ (s : State) (t : Time) (l : Link) (x : RxSym), s.receives l.val = true → let a := (s.at_ t).hear l.val [x]
    (symNak x = none → Completes (.nak t l x) s fun u => u = a) ∧
    (∀ k, symNak x = some k →
      (a.fld (pUL l.val) UL_STAT_STATE < 2 ∨ s.role = 2 → Completes (.nak t l x) s fun u => u = a) ∧
      (2 ≤ a.fld (pUL l.val) UL_STAT_STATE → s.role ≠ 2 → let p := a.link l.val
        (p.txOn = false ∨ p.txHold = true ∨ p.segs.getD k [] = [] → Completes (.nak t l x) s fun u =>
          u.fld (pUL l.val) UL_NAKCNT_NAKRX =
            Nat.min (s.fld (pUL l.val) UL_NAKCNT_NAKRX + 1) (2 ^ UL_NAKCNT_NAKRX.wid - 1) ∧
          Changes a u [.msi] (fields ((pUL l.val, UL_NAKCNT_NAKRX) :: errFields (pUL l.val)))) ∧
        (p.txOn = true → p.txHold = false → p.segs.getD k [] ≠ [] →
          let served := p.resend ((s.timeAt t - p.txAt) / 35) k (capOf (s.fld pFRM FRM_MINPER_ACT_VALUE))
          (∀ parts, served = some parts → Completes (.nak t l x) s fun u =>
            u.link l.val = { p with
              parts := parts, tx := p.tx.take 5 ++ (parts.map (partSyms p.segs)).flatten, resent := (u.link l.val).resent } ∧
            SMap.get 0 (u.link l.val).resent k = SMap.get 0 p.resent k + 1 ∧
            SMap.get 0 (u.link l.val).resent k ≤ 3 ∧
            (∀ j, j ≠ k → SMap.get 0 (u.link l.val).resent j = SMap.get 0 p.resent j) ∧
            u.fld (pUL l.val) UL_NAKCNT_RESENT =
              Nat.min (s.fld (pUL l.val) UL_NAKCNT_RESENT + 1) (2 ^ UL_NAKCNT_RESENT.wid - 1)) ∧
          (served = none → Completes (.nak t l x) s fun u => u.link l.val = p ∧
            u.fld (pUL l.val) UL_ERRCNT1_NORSND =
              Nat.min (s.fld (pUL l.val) UL_ERRCNT1_NORSND + 1) (2 ^ UL_ERRCNT1_NORSND.wid - 1)))))) ∧
  (∀ (s : State) (l : Link),
    (∀ t xs, s.receives l.val = true → let g := rxScan (s.link l.val).rxErrs xs
      let errs := Nat.min (s.fld (pUL l.val) UL_ERRCNT3_ALIGNERR + g.1.countP fun x => decide (symErr x ≠ 0))
        (2 ^ UL_ERRCNT3_ALIGNERR.wid - 1)
      (g.2.2 = false → Completes (.alignmentLoss t l xs) s fun u =>
        u.fld (pUL l.val) UL_ERRCNT3_ALIGNERR = errs ∧
        u.link l.val = { s.link l.val with
          rxErrs := g.2.1, rxAt := if g.1.any RxSym.framed then s.timeAt t else (s.link l.val).rxAt } ∧
        Changes (s.at_ t) u [.lnk] (fields [(pUL l.val, UL_ERRCNT3_ALIGNERR)])) ∧
      (g.2.2 = true → 2 ≤ s.fld (pUL l.val) UL_STAT_STATE → Completes (.alignmentLoss t l xs) s fun u =>
        u.fld (pUL l.val) UL_STAT_STATE = 0 ∧ u.fld (pUL l.val) UL_STAT_RXALIGN = 0 ∧
        u.fld (pUL l.val) UL_ERRCNT3_ALIGNERR = errs ∧
        u.fld (pUL l.val) HDR_PG_ERR_ERR = (s.fld (pUL l.val) HDR_PG_ERR_ERR ||| 2 ^ UL_E_DOWN) % 2 ^ 32 ∧
        s.counts u pERR ERR_CLASSCNT_CONTAINED ∧
        (u.link l.val).autoAt = some (s.timeAt t + 10000000) ∧ (u.link l.val).emitAt = none) ∧
      (g.2.2 = true → s.fld (pUL l.val) UL_STAT_STATE < 2 → Completes (.alignmentLoss t l xs) s fun u =>
        u.fld (pUL l.val) UL_STAT_RXALIGN = 0 ∧ (u.link l.val).rx = Rx.none ∧
        Changes (s.at_ t) u [.lnk] (fields [(pUL l.val, UL_ERRCNT3_ALIGNERR), (pUL l.val, UL_STAT_RXALIGN)]))) ∧
    (s.pwr.up = true → s.clkOn (pUL l.val) = true → 2 ≤ s.fld (pUL l.val) UL_STAT_STATE →
      Completes (.upstreamWatchdog l) s fun u =>
        u.fld (pUL l.val) UL_STAT_STATE = 0 ∧
        u.time = s.timeAt ((s.link l.val).rxAt + s.fld (pUL l.val) UL_CTRL_WDT * 1000) ∧
        u.fld (pUL l.val) HDR_PG_ERR_ERR = (s.fld (pUL l.val) HDR_PG_ERR_ERR ||| 2 ^ UL_E_DOWN) % 2 ^ 32 ∧
        (u.link l.val).txOn = false ∧ (∀ k, k ≠ l.val → u.link k = s.link k) ∧
        Changes s u [.time, .lnk, .msi, .ring] (andLog ([(pUL l.val, UL_STAT_STATE), (pUL l.val, UL_TRNCNT_DOWNCNT),
          (pERR, ERR_CLASSCNT_CONTAINED)] ++ errFields (pUL l.val))))) ∧
  (∀ (w : List Nat) (xs : List RxSym),
    ((∀ x ∈ xs, symErr x = 0) → loses w = false → (rxScan w xs).1 = xs ∧ (rxScan w xs).2.2 = false) ∧
    (xs.length = 4 → (∀ x ∈ xs, x.framed = false) → (rxScan [] xs).2.2 = true) ∧
    (xs.length = 8 → (∀ x ∈ xs, symErr x = 2) → (rxScan [] xs).2.2 = true) ∧
    (xs.length < 4 → (rxScan [] xs).2.2 = false))

/-- R65, R161 to R163, R174 to R176: a section with good CRC in a frame with the right tag enters the samples of its
module's slots and no other, in RUN; a wrong tag, a RUN frame's answer where no RUN frame was sent, or a bad section
enters none and counts; samples that arrive before alignment is lost are entered all the same. Where the manual leaves a
point open, this states the model's choice (log entry 46). -/
def Obligations.UpstreamSamples : Prop := ∀ (s : State) (t : Time) (l : Link) (xs : List RxSym) (f : UpFrame) (x : Section)
    (m : Module),
  s.role = 0 → s.receives l.val = true → upFrames (s.heard l.val xs) = [f] → f.sections = [x] →
  (s.link l.val).mods[x.pos.val]? = some m → s.fld (pUL l.val) UL_STAT_STATE = 3 → f.hold = false →
  (∀ g, (s.link l.val).tag = some g → f.utag.map BitVec.toNat = some g →
    (x.good = true → x.samples.length = m.count → x.stat0 &&& 0x1FF = 0 → Completes (.upstreamFrame t l xs) s fun u =>
      (∀ i v, x.samples[i]? = some (some v) →
        SMap.get none u.ctx.fill (l.val * 384 + m.first + i) = some v) ∧
      (∀ i, x.samples[i]? = some none → SMap.get none u.ctx.fill (l.val * 384 + m.first + i) =
        SMap.get none s.ctx.fill (l.val * 384 + m.first + i)) ∧
      (∀ k, k < l.val * 384 + m.first ∨ l.val * 384 + m.first + m.count ≤ k →
        SMap.get none u.ctx.fill k = SMap.get none s.ctx.fill k) ∧
      u.ctx = { s.ctx with fill := u.ctx.fill } ∧
      (u.link l.val).mods = (s.link l.val).mods.set x.pos.val { m with stat0 := x.stat0, stat1 := x.stat1 } ∧
      ((rxScan (s.link l.val).rxErrs xs).2.2 = false →
        Changes (s.at_ t) u [.ctx, .lnk] (fields [(pUL l.val, UL_ERRCNT3_ALIGNERR)]))) ∧
    (x.good = false ∨ x.samples.length ≠ m.count → Completes (.upstreamFrame t l xs) s fun u =>
      u.ctx = s.ctx ∧ (u.link l.val).mods = (s.link l.val).mods ∧
      u.fld (pUL l.val) UL_ERRCNT2_USCRC =
        Nat.min (s.fld (pUL l.val) UL_ERRCNT2_USCRC + 1) (2 ^ UL_ERRCNT2_USCRC.wid - 1))) ∧
  ((∀ g, (s.link l.val).tag = some g → f.utag.map BitVec.toNat ≠ some g) → Completes (.upstreamFrame t l xs) s fun u =>
    u.ctx = s.ctx ∧ (u.link l.val).mods = (s.link l.val).mods ∧
    u.fld (pUL l.val) UL_ERRCNT3_TAGERR =
      Nat.min (s.fld (pUL l.val) UL_ERRCNT3_TAGERR + 1) (2 ^ UL_ERRCNT3_TAGERR.wid - 1))

/-! ## Angle units (spec/08_angle.md) -/

/-- R189 to R194: an edge that its unit's filter accepts moves a unit; a step of one phase moves POS by one count,
modulo CPR, forward or in reverse, with REV at the wrap and the time of the edge in TSLAST; a repeated level moves
nothing, nor does an edge of a unit that is off; a step of two phases counts as an error, moves nothing, and takes a unit
that needs its home out of LOCKED. R14, R193 to R198: in LOCKED an edge in the direction of travel that enters another
division issues a tick, which registers 4 ns after the edge, and an edge against it within the hysteresis issues none;
the fourth qualifying edge locks a unit that has its home or needs none; STOPTIME, as it stood at the latest edge,
without an edge stops it (R205), more than four times the latest interval sets COAST. Where the manual leaves a point
open, this states the model's choice (log entries 49, 50). -/
def Obligations.EdgesAndTicks : Prop :=
  (∀ (s : State) (t : Time) (n : Unit8) (a b : Bool) (stable : Time),
    let p := pANG n.val
    let g := s.angu n.val
    let step := (quadIndex a b + 4 - quadIndex g.a g.b) % 4
    let rev := decide (step = 3) != s.bit p ANG_CTRL_SWAPAB
    let pos := s.fld p ANG_POS_POS
    (stable < s.fld p ANG_CTRL_FILT * 2 → Completes (.encoderEdge t n (a, b) stable) s fun u => u = s.at_ t) ∧
    (s.fld p ANG_CTRL_FILT * 2 ≤ stable → s.angOn n.val = false → Completes (.encoderEdge t n (a, b) stable) s fun u =>
      u.angu n.val = { g with a := a, b := b, stopT := s.fld p ANG_STOPTIME_TIME } ∧
      Changes (s.at_ t) u [.ang] noField) ∧
    (s.fld p ANG_CTRL_FILT * 2 ≤ stable → s.angOn n.val = true → s.fld p ANG_CPR_VALUE < 2 ^ 20 → pos < s.cpr n.val →
    (step = 1 ∨ step = 3 → Completes (.encoderEdge t n (a, b) stable) s fun u =>
      u.fld p ANG_POS_POS = (if rev then (if pos = 0 then s.cpr n.val - 1 else pos - 1)
        else if pos + 1 = s.cpr n.val then 0 else pos + 1) ∧
      u.fld p ANG_REV_REV = (if rev = true ∧ pos = 0 then (s.fld p ANG_REV_REV + 65535) % 65536
        else if rev = false ∧ pos + 1 = s.cpr n.val then (s.fld p ANG_REV_REV + 1) % 65536
        else s.fld p ANG_REV_REV) ∧
      u.fld p ANG_TSLAST_LO_TS = t % 2 ^ 32 ∧ u.fld p ANG_TSLAST_HI_TS = t / 2 ^ 32 % 2 ^ 32 ∧
      (u.angu n.val).a = a ∧ (u.angu n.val).b = b ∧ (u.angu n.val).lastAt = some t ∧ (u.angu n.val).prevAt = g.lastAt ∧
      (∀ m, m ≠ n.val → u.angu m = s.angu m)) ∧
    (step = 0 → Completes (.encoderEdge t n (a, b) stable) s fun u =>
      u.angu n.val = { g with a := a, b := b, stopT := s.fld p ANG_STOPTIME_TIME } ∧
      Changes (s.at_ t) u [.ang] noField) ∧
    (step = 2 → Completes (.encoderEdge t n (a, b) stable) s fun u =>
      u.fld p ANG_POS_POS = pos ∧ u.fld p ANG_ERRCNT_QERR = Nat.min (s.fld p ANG_ERRCNT_QERR + 1) 65535 ∧
      (u.angu n.val).four = [] ∧ u.frm = s.frm ∧
      (s.angState n.val = 2 → s.bit p ANG_CTRL_NEEDHOME = true → u.angState n.val = 1 ∧ u.fld p ANG_STAT_HOMED = 0) ∧
      (s.angState n.val = 2 → s.bit p ANG_CTRL_NEEDHOME = false → u.angState n.val = 2)))) ∧
  (∀ (s : State) (n : Unit8), let p := pANG n.val; let g := s.angu n.val
    (∀ t a b stable, s.fld p ANG_CTRL_FILT * 2 ≤ stable → s.angOn n.val = true → s.angState n.val = 2 → (quadIndex a b + 4 - quadIndex g.a g.b) % 4 = 1 →
      s.bit p ANG_CTRL_SWAPAB = false → s.fld p ANG_CPR_VALUE < 2 ^ 20 → s.fld p ANG_POS_POS + 1 < s.cpr n.val →
      (s.bit p ANG_STAT_DIR = false → s.divOf n.val (s.fld p ANG_POS_POS + 1) ≠ g.lastDiv →
        s.fld pFRM FRM_STAT_SRCACT = 0 → s.fld pFRM FRM_STAT_ANGACT = n.val → Completes (.encoderEdge t n (a, b) stable) s fun u =>
          u.frm = { s.frm with issued := s.frm.issued ++ [⟨t, 0, n.val, 4⟩] } ∧
          (u.angu n.val).lastDiv = s.divOf n.val (s.fld p ANG_POS_POS + 1) ∧ (u.angu n.val).lastTick = some t) ∧
      (s.bit p ANG_STAT_DIR = true → g.run + 1 < s.fld p ANG_CTRL_REVHYS → Completes (.encoderEdge t n (a, b) stable) s fun u =>
        u.frm = s.frm ∧ u.bit p ANG_STAT_DIR = true ∧ (u.angu n.val).run = g.run + 1)) ∧
    (∀ t a b stable t1 t2 t3, s.fld p ANG_CTRL_FILT * 2 ≤ stable → s.angOn n.val = true → s.angState n.val = 1 ∨ s.angState n.val = 3 →
      (quadIndex a b + 4 - quadIndex g.a g.b) % 4 = 1 → s.bit p ANG_CTRL_SWAPAB = false →
      g.four = [t3, t2, t1] → g.fourRev = false → t ≤ t3 + s.fld p ANG_STOPTIME_TIME * 1000 →
      s.bit p ANG_STAT_HOMED = true ∨ s.bit p ANG_CTRL_NEEDHOME = false → Completes (.encoderEdge t n (a, b) stable) s fun u =>
        u.angState n.val = 2 ∧ u.fld p ANG_STAT_LOCKED = 1 ∧ u.fld p ANG_STAT_DIR = 0 ∧ (u.angu n.val).refAt = t1 ∧
        (u.angu n.val).refN = 3 ∧ u.frm = s.frm) ∧
    (∀ t, g.lastAt = some t → s.angState n.val = 2 → Completes (.stoptimeExpiry n) s fun u =>
      u.angState n.val = 3 ∧ u.fld p ANG_STAT_LOCKED = 0 ∧
      u.time = s.timeAt (t + g.stopT * 1000) ∧
      u.fld p HDR_PG_ERR_ERR = (s.fld p HDR_PG_ERR_ERR ||| 2 ^ ANG_E_STOP) % 2 ^ 32 ∧ u.ang = s.ang ∧
      Changes s u [.time, .msi] (fields ([(p, ANG_STAT_STATE), (p, ANG_STAT_LOCKED), (p, ANG_STAT_COAST)] ++ errFields p))) ∧
    (∀ t q, g.lastAt = some t → g.prevAt = some q → s.angState n.val = 2 → Completes (.angCoast n) s fun u =>
      u.fld p ANG_STAT_COAST = 1 ∧ u.time = s.timeAt (t + 4 * (t - q) + 2) ∧
      Changes s u [.time] (fields [(p, ANG_STAT_COAST)])))

/-- R189, R199 to R202: an index edge that the filter accepts and whose gate is open homes a unit that has no home, corrects or reports one that has, and
moves nothing while the gate is closed; HOME and REHOME work out of LOCKED only. R24, R192, R193, R205: CPR stores at
least 4 counts and keeps PRESET and IDXPOS below it, and neither it nor DPR nor the mode changes while the unit is
enabled; a read of TSLAST_LO returns it and captures TSLAST_HI. Where the manual leaves a point open, this states the
model's choice (log entries 49, 51). -/
def Obligations.HomingAndAngleRegisters : Prop :=
  (∀ (s : State) (t : Time) (n : Unit8), let p := pANG n.val; let g := s.angu n.val
    (∀ stable, stable < s.fld p ANG_CTRL_FILT * 2 → Completes (.indexEvent t ⟨n, stable⟩) s fun u => u = s.at_ t) ∧
    (∀ stable, s.fld p ANG_CTRL_FILT * 2 ≤ stable → s.angOn n.val = true →
      (s.bit p ANG_CTRL_IDXEN && gateOpen (s.fld p ANG_CTRL_IDXGATE) g.a g.b) = true →
      (s.fld p ANG_STAT_HOMED = 0 → s.fld p ANG_IDXPOS_VALUE < 2 ^ 20 → Completes (.indexEvent t ⟨n, stable⟩) s fun u =>
        u.fld p ANG_POS_POS = s.fld p ANG_IDXPOS_VALUE ∧ u.fld p ANG_REV_REV = 0 ∧ u.fld p ANG_STAT_HOMED = 1 ∧
        u.frm = s.frm) ∧
      (s.fld p ANG_STAT_HOMED ≠ 0 → s.fld p ANG_CTRL_MODE = 0 → s.fld p ANG_POS_POS = s.fld p ANG_IDXPOS_VALUE →
        Completes (.indexEvent t ⟨n, stable⟩) s fun u =>
          u.fld p ANG_IDXCHK_DIFF = 0 ∧ u.angu n.val = { g with stopT := s.fld p ANG_STOPTIME_TIME } ∧
          Changes (s.at_ t) u [.ang] (fields [(p, ANG_IDXCHK_DIFF)]))) ∧
    (∀ stable, s.fld p ANG_CTRL_FILT * 2 ≤ stable → s.angOn n.val = false ∨
      (s.bit p ANG_CTRL_IDXEN && gateOpen (s.fld p ANG_CTRL_IDXGATE) g.a g.b) = false →
      Completes (.indexEvent t ⟨n, stable⟩) s fun u =>
        u.angu n.val = { g with stopT := s.fld p ANG_STOPTIME_TIME } ∧ Changes (s.at_ t) u [.ang] noField) ∧
    ((s.at_ t).writeOpen (p * 4096 + 0x68) = true →
      (s.angState n.val ≠ 2 → s.fld p ANG_PRESET_VALUE < 2 ^ 20 → Completes (.angCmdHome t n) s fun u =>
        u.fld p ANG_POS_POS = s.fld p ANG_PRESET_VALUE ∧ u.fld p ANG_REV_REV = 0 ∧ u.fld p ANG_STAT_HOMED = 1 ∧
        Changes (s.arrive t (p * 4096 + 0x68) 1) u [] (fields [(p, ANG_POS_POS), (p, ANG_DIV_DIV), (p, ANG_REV_REV),
          (p, ANG_STAT_HOMED)])) ∧
      (s.angState n.val ≠ 2 → Completes (.angCmdRehome t n) s fun u => u.fld p ANG_STAT_HOMED = 0 ∧
        Changes (s.arrive t (p * 4096 + 0x68) 2) u [] (fields [(p, ANG_STAT_HOMED)])) ∧
      (s.angState n.val = 2 → Completes (.angCmdHome t n) s (fun u =>
          RaisesOnly (s.arrive t (p * 4096 + 0x68) 1) u p ANG_E_CMDREF) ∧
        Completes (.angCmdRehome t n) s (fun u => RaisesOnly (s.arrive t (p * 4096 + 0x68) 2) u p ANG_E_CMDREF)))) ∧
  (∀ (s : State) (t : Time) (n : Unit8) (v : Dword), let p := pANG n.val
    ((s.at_ t).writeOpen (p * 4096 + 0x44) = true → s.bit p HDR_PG_CTRL_EN = false → Completes (.cprWrite t n v) s fun u =>
      u.cpr n.val = Nat.max 3 (v.toNat % 2 ^ 20) + 1 ∧
      u.fld p ANG_PRESET_VALUE = Nat.min (s.fld p ANG_PRESET_VALUE) (u.cpr n.val - 1) ∧
      u.fld p ANG_IDXPOS_VALUE = Nat.min (s.fld p ANG_IDXPOS_VALUE) (u.cpr n.val - 1) ∧
      Changes (s.arrive t (p * 4096 + 0x44) v.toNat) u [] (fields [(p, ANG_CPR_VALUE), (p, ANG_PRESET_VALUE),
        (p, ANG_IDXPOS_VALUE), (p, ANG_DIV_DIV)])) ∧
    ((s.at_ t).writeOpen (p * 4096 + 0x44) = true → s.bit p HDR_PG_CTRL_EN = true → Completes (.cprWrite t n v) s fun u =>
      RaisesOnly (s.arrive t (p * 4096 + 0x44) v.toNat) u p ANG_E_CFGBUSY) ∧
    ((s.at_ t).writeOpen (p * 4096 + 0x48) = true → s.bit p HDR_PG_CTRL_EN = false → Completes (.dprWrite t n v) s fun u =>
      u.fld p ANG_DPR_VALUE = v.toNat % 2 ^ 20 ∧
      Changes (s.arrive t (p * 4096 + 0x48) v.toNat) u [] (fields [(p, ANG_DPR_VALUE), (p, ANG_DIV_DIV)])) ∧
    ((s.at_ t).writeOpen (p * 4096 + 0x48) = true → s.bit p HDR_PG_CTRL_EN = true → Completes (.dprWrite t n v) s fun u =>
      RaisesOnly (s.arrive t (p * 4096 + 0x48) v.toNat) u p ANG_E_CFGBUSY) ∧
    ((s.at_ t).writeOpen (p * 4096 + 0x40) = true → Completes (.angCtrlWrite t n v) s fun u =>
      u.fld p ANG_CTRL_REVHYS = Nat.max 1 (ANG_CTRL_REVHYS.of v.toNat) ∧
      u.fld p ANG_CTRL_NEEDHOME = ANG_CTRL_NEEDHOME.of v.toNat ∧ u.fld p ANG_CTRL_IDXEN = ANG_CTRL_IDXEN.of v.toNat ∧
      u.fld p ANG_CTRL_MODE = (if s.bit p HDR_PG_CTRL_EN = true then s.fld p ANG_CTRL_MODE else ANG_CTRL_MODE.of v.toNat) ∧
      Changes (s.arrive t (p * 4096 + 0x40) v.toNat) u [.msi] (fields ([(p, ANG_CTRL_REVHYS), (p, ANG_CTRL_FILT),
        (p, ANG_CTRL_IDXGATE), (p, ANG_CTRL_NEEDHOME), (p, ANG_CTRL_IDXCORR), (p, ANG_CTRL_IDXEN), (p, ANG_CTRL_MODE),
        (p, ANG_CTRL_SWAPAB)] ++ errFields p))) ∧
    ((s.at_ t).readOpen (p * 4096 + 0x74) = true → s.fld p HDR_PG_CTRL_FREEZE = 0 → Completes (.tslastLoRead t n) s fun u =>
      u.hst.rdata = [s.fld p ANG_TSLAST_LO_TS] ∧ (u.angu n.val).tsCap = some (s.fld p ANG_TSLAST_HI_TS) ∧
      Changes (s.at_ t) u [.ang, .rdata] (fields [(pPCI, PCI_NPOUT_MAX)])))

/-! ## Logic fabric (spec/09_fabric.md) -/

/-- R212 to R215, R217: WRITE stores the data, SET ORs it in and CLEAR clears its bits; a port that writes reads the old
or the new value as its RDMODE says; where both ports write one word, port A's operation takes effect and COLLIDE shows
it; a read changes nothing, and one of a word with bad parity returns it and reports the error; a port whose clock is
stopped makes no access. R221, R222: an arithmetic operation multiplies exactly, after the pre-adder's sum or difference
of one bit more than its operands, adds its accumulator where it is used, and wraps or clamps to the accumulator's
signed range, showing SATOUT where it clamps; a cascade's blocks hold its accumulator, least significant word lowest.
Where the manual leaves a point open, this states the model's choice (log entries 52, 53). -/
def Obligations.RamAndArithmeticBlocks : Prop :=
  (∀ (s : State) (x : RamAcc) (c : RamCfg),
    (s.desc x.region.val).rams[x.block.val]? = some c →
    let mine := s.clkRun x.region.val (if x.portB then c.clkB else c.clkA)
    let others := s.clkRun x.region.val (if x.portB then c.clkA else c.clkB)
    let k := ramKey c x
    let old := SMap.get 0 s.fab.ram k
    let d := ramCut c x.data
    let n := x.region.val * 40 + x.block.val
    let shows (new : BitVec 20) := if (if x.portB then c.rdNewB else c.rdNewA) = true then new else old
    (mine = false → ∀ i flip, i = .ramWrite x ∨ i = .ramSet x ∨ i = .ramClear x ∨ i = .ramRead x flip →
      Completes i s fun u => u = s) ∧
    (mine = true → s.ramSound k →
      (∀ i new, (i = .ramWrite x ∧ new = d) ∨ (i = .ramSet x ∧ new = old ||| d) ∨ (i = .ramClear x ∧ new = old &&& ~~~d) →
        (x.other = none ∨ others = false → Completes i s fun u => s.ramDone u x k new (shows new) false true) ∧
        (∀ e, x.other = some (.read, e) → others = true → Completes i s fun u =>
          s.ramDone u x k new (shows new) false false) ∧
        (∀ o e, x.other = some (o, e) → o ≠ .read → others = true → x.portB = false → Completes i s fun u =>
          s.ramDone u x k new (shows new) true false) ∧
        (∀ o e w, x.other = some (o, e) → others = true → x.portB = true → (o = .write ∧ w = ramCut c e) ∨
            (o = .set ∧ w = old ||| ramCut c e) ∨ (o = .clear ∧ w = old &&& ~~~ramCut c e) → Completes i s fun u =>
          s.ramDone u x k w old true false)) ∧
      (x.other = none ∨ others = false → Completes (.ramRead x 0) s fun u =>
        SMap.get 0 u.fab.ramQ (2 * n + x.portB.toNat) = old.toNat ∧
        SMap.get false u.fab.perr (2 * n + x.portB.toNat) = false ∧
        (∀ j, SMap.get 0 u.fab.ram j = SMap.get 0 s.fab.ram j) ∧ Changes s u [.fab] noField) ∧
      (∀ i : Fin 10, c.parity = true → x.other = none ∨ others = false →
        Completes (.ramRead x (BitVec.ofNat 20 (2 ^ i.val))) s fun u =>
          SMap.get 0 u.fab.ramQ (2 * n + x.portB.toNat) = (old ^^^ BitVec.ofNat 20 (2 ^ i.val)).toNat ∧
          SMap.get false u.fab.perr (2 * n + x.portB.toNat) = true ∧
          s.counts u (pRGN x.region.val) RGN_RAMPERR_COUNT ∧ s.flags u (pRGN x.region.val) RGN_E_RAMPERR ∧
          (∀ j, j ≠ k → SMap.get 0 u.fab.ram j = SMap.get 0 s.fab.ram j)))) ∧
  (∀ (s : State) (x : ArOp) (c : ArCfg) (wa wb : Nat),
    (s.desc x.region.val).ars[x.top.val]? = some c → arWidths c.n = some (wa, wb) →
    s.rgnLive x.region.val = true → c.n ≤ x.top.val + 1 →
    let a := readInt c.sa (10 * wa) x.a.toNat
    let d := readInt c.sd (10 * wa) x.d.toNat
    let r := if c.minus then a - d else a + d
    let m := if c.pre then (if r < -2 ^ (10 * wa) then r + 2 ^ (10 * wa + 1) else r) else a
    let k := x.region.val * 20 + (x.top.val + 1 - c.n)
    let sum := (if c.accum then accOf s.fab.acc k c.n else 0) + m * readInt c.sb (10 * wb) x.b.toNat
    let lim : Int := 2 ^ (30 * c.n - 1)
    Completes (.arithmeticBlockOperation x) s fun u =>
      (∃ q, accOf u.fab.acc k c.n = q ∧ -lim ≤ q ∧ q < lim ∧ (c.clamp = true → q = clamp (-lim) (lim - 1) sum) ∧
        (c.clamp = false → (q - sum) % (2 * lim) = 0)) ∧
      (∀ j, j < k ∨ k + c.n ≤ j → SMap.get 0 u.fab.acc j = SMap.get 0 s.fab.acc j) ∧
      u.fab = { s.fab with
        acc := u.fab.acc
        satOut := SMap.put false s.fab.satOut (x.region.val * 20 + x.top.val)
          (c.clamp && decide (sum < -lim ∨ lim ≤ sum)) } ∧ Changes s u [.fab] noField)

/-- R80, R218, R219: a host write of pattern RAM, or of one of its aliases, changes each word that it writes whole and
no other; one that loses to port A is counted and not made; the fabric port writes, sets, clears and reads one word, and a read returns the data with its tag on the stream
from its port. Where the manual leaves a point open, this states the model's choice (log entry 55). -/
def Obligations.PatternRam : Prop := ∀ (s : State),
  (∀ (t : Time) (off : BitVec 21) (data : List Hw), (s.at_ t).writeOpen2 pCTX true = true → data.length ≤ 1048576 →
    (∀ x ∈ data, x.be = 3) →
    Completes (.patternRamHostWrite t off data []) s (fun u => s.patterned u t (off.toNat / 2) data fun _ v => v) ∧
    Completes (.patternSetAlias t off data []) s (fun u => s.patterned u t (off.toNat / 2) data fun o v => o ||| v) ∧
    Completes (.patternClearAlias t off data []) s
      (fun u => s.patterned u t (off.toNat / 2) data fun o v => o &&& ~~~v)) ∧
  (∀ (t : Time) (off : BitVec 21) (x : Hw), (s.at_ t).writeOpen2 pCTX true = true → s.role ≠ 1 → x.be = 3 →
    ∀ i, i = .patternRamHostWrite t off [x] [0] ∨ i = .patternSetAlias t off [x] [0] ∨
      i = .patternClearAlias t off [x] [0] → Completes i s fun u =>
        s.counts u pTUL TUL_PRCOLL_COUNT ∧ s.flags u pTUL TUL_E_PRCOLL ∧
        Changes (s.at_ t) u [.msi] (fields ((pTUL, TUL_PRCOLL_COUNT) :: errFields pTUL))) ∧
  (∀ x : PatReq, s.patOn = true →
    let old := SMap.get 0 s.jer.pat x.addr.toNat
    (∀ i new, (i = .patternFabricWrite x ∧ new = x.data) ∨ (i = .patternFabricSet x ∧ new = old ||| x.data) ∨
      (i = .patternFabricClear x ∧ new = old &&& ~~~x.data) → Completes i s fun u =>
        u.jer = { s.jer with pat := SMap.put 0 s.jer.pat x.addr.toNat new } ∧ Changes s u [.jer] noField) ∧
    (Completes (.patternFabricRead x) s fun u =>
      (∃ y : Flit, u.fab = { s.fab with patQ := some y, flights := u.fab.flights } ∧ flitBits y 0 10 = old.toNat ∧
        flitBits y 10 8 = x.tag.toNat ∧
        ((s.fab.streams.filter fun z => z.src = 0x222) = [] → u.fab.flights = s.fab.flights) ∧
        (∀ z, (s.fab.streams.filter fun z => z.src = 0x222) = [z] →
          u.fab.flights = launched z (nextPhase z.phases (s.time + 8)) y s.fab.flights)) ∧
      Changes s u [.fab] noField)) ∧
  (∀ x : PatReq, s.patOn = false → ∀ i, i = .patternFabricWrite x ∨ i = .patternFabricSet x ∨
    i = .patternFabricClear x ∨ i = .patternFabricRead x → Completes i s fun u => u = s)

/-- R225, R226, R232, R237: a flit offered in a reserved phase of its stream is accepted and presented exactly D cycles
later, in another cycle it is not accepted; a best-effort flit is accepted in any cycle and arrives behind those sent
before it to the same port; the next flit due is presented, at a bank it changes the pins that its mask names and no
other, and at the port of pattern RAM it makes the access that it asks for (R219). R229, R233: a timely FCALL response
reaches the visit that waits for it, a late or stray one is counted and discarded; an access to the window of a FREE
region reads 0 and is recorded, another waits for its region's answer, or until BETO µs have passed. Where the manual
leaves a point open, this states the model's choice (log entries 54, 55, 56, 57). -/
def Obligations.StreamsAndResponses : Prop :=
  (∀ (s : State),
    (∀ t src flit, (s.clkOn pTUL = false → Completes (.streamFlitAccept t src flit) s fun u => u = s.at_ t) ∧
      (s.clkOn pTUL = true → src.toNat < 0x200 → (s.portOf src.toNat).kind = 4 →
        let dst := (s.portOf src.toNat).peer
        Completes (.streamFlitAccept t src flit) s fun u =>
          (∃ due, u.fab = { s.fab with flights := s.fab.flights ++ [⟨src.toNat, dst, due, flit, true⟩] } ∧
            t + 2 * (1 + hops (src.toNat / 8) ((portRouter dst).getD 0)) ≤ due ∧
            (∀ y ∈ s.fab.flights, y.be = true → y.src = src.toNat → y.dst = dst → y.due ≤ due)) ∧
          Changes (s.at_ t) u [.fab, .free] noField) ∧
      (∀ x, s.clkOn pTUL = true → 0x200 ≤ src.toNat ∨ (s.portOf src.toNat).kind ≠ 4 →
        (s.fab.streams.filter fun y => y.src = src.toNat) = [x] →
        (t % 2 = 0 → (t / 2 % 8) ∈ x.phases → Completes (.streamFlitAccept t src flit) s fun u =>
          u.fab = { s.fab with flights := launched x t flit s.fab.flights } ∧ Changes (s.at_ t) u [.fab] noField) ∧
        (t % 2 ≠ 0 ∨ (t / 2 % 8) ∉ x.phases → Completes (.streamFlitAccept t src flit) s fun u => u = s.at_ t))) ∧
    (s.clkOn pTUL = false → Completes .streamFlitPresent s fun u => u = s) ∧
    (∀ x, s.clkOn pTUL = true → firstDue s.fab.flights = some x →
      x ∈ s.fab.flights ∧ (∀ y ∈ s.fab.flights, x.due ≤ y.due) ∧
      Completes .streamFlitPresent s fun u =>
        u.time = s.timeAt x.due ∧ u.fab.shown = (x.dst, x.flit) :: s.fab.shown ∧
        (x.dst ≠ 0x222 → u.fab.flights = s.fab.flights.erase x ∧ Changes s u [.time, .fab] noField) ∧
        (x.dst < 0x230 ∨ 0x238 ≤ x.dst → u.fab.iob = s.fab.iob) ∧
        (0x230 ≤ x.dst → x.dst < 0x238 → ∀ p < 48, let h := if x.flit.getLsbD 72 then 24 else 0
          let named := decide (h ≤ p ∧ p < h + 24) && x.flit.getLsbD (48 + (p - h))
          (u.iob (x.dst - 0x230)).oe.getLsbD p =
            (if named then x.flit.getLsbD (24 + (p - h)) else (s.iob (x.dst - 0x230)).oe.getLsbD p) ∧
          (u.iob (x.dst - 0x230)).out.getLsbD p =
            (if named then x.flit.getLsbD (p - h) else (s.iob (x.dst - 0x230)).out.getLsbD p)) ∧
        (x.dst = 0x222 → s.patOn = true → let a := flitBits x.flit 20 20; let w : Word := BitVec.ofNat 10 (flitBits x.flit 0 10)
          let old := SMap.get 0 s.jer.pat a
          (flitBits x.flit 78 2 = 0 → u.jer = s.jer ∧
            ∃ y : Flit, u.fab.patQ = some y ∧ flitBits y 0 10 = old.toNat ∧ flitBits y 10 8 = flitBits x.flit 10 8) ∧
          (∀ new, (flitBits x.flit 78 2 = 1 ∧ new = w) ∨ (flitBits x.flit 78 2 = 2 ∧ new = old ||| w) ∨
              (flitBits x.flit 78 2 = 3 ∧ new = old &&& ~~~w) →
            u.jer = { s.jer with pat := SMap.put 0 s.jer.pat a new } ∧ u.fab.flights = s.fab.flights.erase x ∧
            Changes s u [.time, .fab, .jer] noField)))) ∧
  (∀ (s : State),
    (∀ t e (r : Region) w0 w1,
      (s.clkOn (pRGN r.val) = false → Completes (.fcallResponse t e r w0 w1) s fun u => u = s.at_ t) ∧
      (s.clkOn (pRGN r.val) = true →
        let open_ := s.jer.fcOut.find? fun q => decide (q.engine = e.val ∧ q.port / 8 = r.val ∧ q.shownAt ≤ t)
        (open_ = none → Completes (.fcallResponse t e r w0 w1) s fun u =>
          s.counts u (pRGN r.val) RGN_FCERR_COUNT ∧ s.flags u (pRGN r.val) RGN_E_FCERR ∧ u.jer = s.jer) ∧
        (∀ q, open_ = some q →
          (q.dropped = true → Completes (.fcallResponse t e r w0 w1) s fun u =>
            u.jer = { s.jer with fcOut := s.jer.fcOut.erase q } ∧ Changes (s.at_ t) u [.jer] noField) ∧
          (q.dropped = false → t ≤ q.shownAt + 2 * (s.portOf q.port).turn →
            ∀ v, (s.engine e.val).visit = some v → v.fc = some none →
              Completes (.fcallResponse t e r w0 w1) s fun u =>
                (u.engine e.val).visit = some { v with fc := some (some (w0, w1)) } ∧
                u.jer.fcOut = s.jer.fcOut.erase q ∧ Changes (s.at_ t) u [.jer] noField) ∧
          (q.dropped = false → q.shownAt + 2 * (s.portOf q.port).turn < t →
            Completes (.fcallResponse t e r w0 w1) s fun u =>
              s.counts u (pRGN r.val) RGN_FCERR_COUNT ∧ s.flags u (pRGN r.val) RGN_E_FCERR ∧
              u.jer = { s.jer with fcOut := s.jer.fcOut.erase q })))) ∧
    (∀ t (off : BitVec 24) data, let r := off.toNat / 0x40000
      let x (write : Bool) : HpAcc := ⟨r, write, off.toNat % 0x40000 / 2, data.toNat % 1024, s.timeAt t⟩
      ((s.region r).state = 0 →
        ((s.at_ t).hostUp = true → s.npNow < 32 → Completes (.fabricWindowAccess t false off data) s fun u =>
          u.hst.rdata = [0] ∧ u.fab = s.fab ∧ s.flags u pTUL TUL_E_BETO ∧ u.bit pTUL TUL_BELAST_VALID = true ∧
          (s.bit pTUL TUL_BELAST_VALID = false → u.fld pTUL TUL_BELAST_FREE = 1 ∧ u.fld pTUL TUL_BELAST_WRITE = 0 ∧
            u.fld pTUL TUL_BELAST_REGION = r ∧ u.fld pTUL TUL_BELAST_ADDR = off.toNat % 0x40000 / 2)) ∧
        ((s.at_ t).writeOpen2 pSYS false = true → Completes (.fabricWindowAccess t true off data) s fun u =>
          u.fab = s.fab ∧ s.flags u pTUL TUL_E_BETO ∧ u.bit pTUL TUL_BELAST_VALID = true)) ∧
      ((s.region r).state ≠ 0 →
        ((s.at_ t).hostUp = true → s.npNow < 32 → Completes (.fabricWindowAccess t false off data) s fun u =>
          u.fab = { s.fab with hp := s.fab.hp ++ [x false] } ∧
          Changes (s.at_ t) u [.fab, .rdata] (fields [(pPCI, PCI_NPOUT_MAX)])) ∧
        ((s.at_ t).writeOpen2 pSYS false = true → Completes (.fabricWindowAccess t true off data) s fun u =>
          u.fab = { s.fab with hp := s.fab.hp ++ [x true] } ∧ Changes (s.at_ t) u [.fab, .rdata] noField))) ∧
    (∀ x xs, s.fab.hp = x :: xs → x.region < 64 → Completes .fabricWindowTimeout s fun u =>
      u.fab = { s.fab with hp := xs } ∧ u.time = s.timeAt (x.at_ + s.fld pTUL TUL_CTRL_BETO * 1000) ∧
      u.hst.rdata = (if x.write then [] else [0]) ∧ s.counts u (pRGN x.region) RGN_HOSTTO_COUNT ∧
      s.flags u (pRGN x.region) RGN_E_HOSTTO ∧ s.flags u pTUL TUL_E_BETO ∧ u.bit pTUL TUL_BELAST_VALID = true) ∧
    (∀ t (r : Region) data x, s.fab.hp.find? (fun x => x.region = r.val) = some x →
      (s.rgnLive r.val = true → t ≤ x.at_ + s.fld pTUL TUL_CTRL_BETO * 1000 →
        Completes (.fabricWindowResponse t r data) s fun u =>
          u.fab = { s.fab with hp := s.fab.hp.erase x } ∧
          u.hst.rdata = (if x.write then [] else [data.toNat % 1024]) ∧ Changes (s.at_ t) u [.fab, .rdata] noField) ∧
      (s.rgnLive r.val = false ∨ x.at_ + s.fld pTUL TUL_CTRL_BETO * 1000 < t →
        Completes (.fabricWindowResponse t r data) s fun u => u = s.at_ t)))

/-- R234: a bank whose measured voltage differs from the declared one, or is not detected, drives nothing, until they
agree again. R236, R237: a level that a pin's filter accepts becomes its level, and where a level changes they go out on
the bank's stream in the first reserved phase. R235: PINCFG changes the named pin's settings, with the reserved bits at
0, and restarts its filter. Where the manual leaves a point open, this states the model's choice (log entries 58, 60). -/
def Obligations.UserPins : Prop := ∀ (s : State) (t : Time) (b : IoBank),
  (s.clkOn (pIOB b.val) = true →
    (∀ v : Fin 4, v.val ≠ s.fld (pIOB b.val) IOB_CTRL_VIO ∨ v.val = 3 → s.pwr.up = true →
      Completes (.vioMismatch t b v) s fun u =>
        u.fld (pIOB b.val) IOB_STAT_VDET = v.val ∧
        u.fld (pIOB b.val) IOB_STAT_VOK = (decide (v.val = s.fld (pIOB b.val) IOB_CTRL_VIO)).toNat ∧
        u.iob b.val = { s.iob b.val with vmis := true } ∧ (∀ c, c ≠ b.val → u.iob c = s.iob c) ∧
        ((s.iob b.val).held = false → s.scanDrives = false → u.pads b.val = (0, 0)) ∧
        ((s.iob b.val).vmis = false → s.flags u (pIOB b.val) IOB_E_VMIS ∧ s.counts u pERR ERR_CLASSCNT_CONTAINED) ∧
        Changes (s.at_ t) u [.fab, .msi] (fields ([(pIOB b.val, IOB_STAT_VDET), (pIOB b.val, IOB_STAT_VOK),
          (pERR, ERR_CLASSCNT_CONTAINED)] ++ errFields (pIOB b.val)))) ∧
    (s.fld (pIOB b.val) IOB_CTRL_VIO < 3 → Completes (.vioAgreement t b) s fun u =>
      u.fld (pIOB b.val) IOB_STAT_VDET = s.fld (pIOB b.val) IOB_CTRL_VIO ∧ u.fld (pIOB b.val) IOB_STAT_VOK = 1 ∧
      u.iob b.val = { s.iob b.val with vmis := false } ∧ (∀ c, c ≠ b.val → u.iob c = s.iob c) ∧
      Changes (s.at_ t) u [.fab] (fields [(pIOB b.val, IOB_STAT_VDET), (pIOB b.val, IOB_STAT_VOK)]))) ∧
  (s.clkOn (pIOB b.val) = false → Completes (.vioAgreement t b) s (fun u => u = s.at_ t) ∧
    ∀ v, Completes (.vioMismatch t b v) s fun u => u = s.at_ t) ∧
  (∀ levels stable,
    let old := (s.iob b.val).level
    let accepts (p : Nat) : Bool := let filt := IOB_PINCFG_FILT.of (s.pincfg b.val p)
      decide (filt = 0 ∨ filt * 20 + 6 ≤ Nat.min stable (t - SMap.get 0 s.fab.filtAt (b.val * 48 + p)))
    (s.clkOn (pIOB b.val) = true → Completes (.iobInputChange t b ⟨levels, stable⟩) s fun u =>
      (∀ p < 48, (u.iob b.val).level.getLsbD p = if accepts p then levels.getLsbD p else old.getLsbD p) ∧
      u.iob b.val = { s.iob b.val with level := (u.iob b.val).level } ∧ (∀ c, c ≠ b.val → u.iob c = s.iob c) ∧
      ((u.iob b.val).level = old → u.fab.flights = s.fab.flights) ∧
      (∀ x, (u.iob b.val).level ≠ old → (s.fab.streams.filter fun y => y.src = 0x230 + b.val) = [x] →
        u.fab.flights = launched x (nextPhase x.phases t) ((u.iob b.val).level.setWidth 80) s.fab.flights) ∧
      Changes (s.at_ t) u [.fab] noField) ∧
    (s.clkOn (pIOB b.val) = false → Completes (.iobInputChange t b ⟨levels, stable⟩) s fun u =>
      u.iob b.val = { s.iob b.val with level := levels } ∧ u.fab = { s.fab with iob := u.fab.iob } ∧
      Changes (s.at_ t) u [.fab] noField)) ∧
  (∀ phases (n : Nat), (∃ f ∈ phases, f < 8) → n ≤ nextPhase phases n ∧ nextPhase phases n ≤ n + 16 ∧
    nextPhase phases n % 2 = 0 ∧ (nextPhase phases n / 2 % 8) ∈ phases) ∧
  (∀ v : Dword, (s.at_ t).writeOpen (pIOB b.val * 4096 + 0x4C) = true → Completes (.pincfgWrite t b v) s fun u =>
    u.pincfg b.val (s.fld (pIOB b.val) IOB_PINIDX_PIN) = v.toNat &&& 0xFE0003FF ∧
    (∀ c p, c * 48 + p ≠ b.val * 48 + s.fld (pIOB b.val) IOB_PINIDX_PIN → u.pincfg c p = s.pincfg c p) ∧
    SMap.get 0 u.fab.filtAt (b.val * 48 + s.fld (pIOB b.val) IOB_PINIDX_PIN) = s.timeAt t ∧
    Changes (s.arrive t (pIOB b.val * 4096 + 0x4C) v.toNat) u [.fab] noField)

/-! ## Configuration (spec/10_config.md) -/

/-- R242, R257: the plane check counts and records a frame whose CRC does not match and never touches a plane; an
ARM of an empty set, of a region without a LOADED Voile plane, or with an unverified class table is refused with its
result, and one that passes is armed with SWAP_PENDING at its LOADED members. Where the manual leaves a point open, this
states the model's choice (log entries 59, 61). -/
def Obligations.PlaneCheckAndArm : Prop := ∀ (s : State) (t : Time),
  (∀ bad, s.pwr.up = true → s.clkOn pCFG = true → s.bit pCFG HDR_PG_CTRL_EN = true →
    (bad = false → Completes (.planeCheck t bad) s fun u =>
      u.cfg = { s.cfg with chk := (s.cfg.chk + 1) % 4096 } ∧ Changes (s.at_ t) u [.cfg] noField) ∧
    (bad = true → Completes (.planeCheck t bad) s fun u =>
      u.cfg = { s.cfg with chk := (s.cfg.chk + 1) % 4096 } ∧ s.counts u pCFG CFG_PLCNT_COUNT ∧
      s.flags u pCFG CFG_E_PLCRC ∧ u.bit pCFG CFG_PLCHK_VALID = true ∧
      (s.bit pCFG CFG_PLCHK_VALID = false → u.fld pCFG CFG_PLCHK_REGION = s.cfg.chk / 64 % 64 ∧
        u.fld pCFG CFG_PLCHK_FRAME = s.cfg.chk % 64) ∧ u.fab = s.fab)) ∧
  (∀ mode : Bool, (s.at_ t).writeOpen (pCFG * 4096 + 0x4C) = true → s.cfg.as = none → s.bit pCFG HDR_PG_CTRL_EN = true →
    (s.badMember s.asSwap s.asUnld (s.bit pCFG CFG_ASOPT_CT) = true → Completes (.asArm t mode) s fun u =>
      s.refusedSet u 2 (s.asSwap ||| s.asUnld)) ∧
    (s.badMember s.asSwap s.asUnld (s.bit pCFG CFG_ASOPT_CT) = false →
      (∃ r < 64, s.asSwap.testBit r = true ∧ (s.voile r).state ≠ 2) → Completes (.asArm t mode) s fun u =>
        s.refusedSet u 3 (s.asSwap ||| s.asUnld)) ∧
    (s.badMember s.asSwap s.asUnld (s.bit pCFG CFG_ASOPT_CT) = false →
      (∀ r < 64, s.asSwap.testBit r = true → (s.voile r).state = 2) → s.bit pCFG CFG_ASOPT_CT = true →
      s.bit (pJE 0) JE_CTSTAT_VERIFIED = false → Completes (.asArm t mode) s fun u =>
        s.refusedSet u 4 (s.asSwap ||| s.asUnld)) ∧
    (∀ xs, s.badMember s.asSwap s.asUnld false = false → s.bit pCFG CFG_ASOPT_CT = false → s.mirrors = false →
      (∀ r < 64, s.asSwap.testBit r = true → (s.voile r).state = 2) → s.tulle s.asSwap s.asUnld false = .inl xs →
      Completes (.asArm t mode) s fun u =>
        (∃ a, u.cfg.as = some a ∧ a.mode = mode.toNat ∧ a.fn = s.asFn ∧ a.swap = s.asSwap ∧ a.unld = s.asUnld ∧
          a.ct = false ∧ a.checking = false ∧ a.sched = xs ∧ a.armAt = s.timeAt t ∧
          (∀ r < 64, a.acked.testBit r = ((s.asSwap ||| s.asUnld).testBit r && decide ((s.region r).state ≠ 2)))) ∧
        (∀ r < 64, u.region r = if (s.asSwap ||| s.asUnld).testBit r ∧ (s.region r).state = 2 then
          ⟨3, (s.region r).id⟩ else s.region r) ∧
        (∀ r < 64, u.cfg.swapPend.testBit r =
          ((s.asSwap ||| s.asUnld).testBit r && decide ((s.region r).state = 2))) ∧
        u.cfg.act = s.cfg.act ∧ u.cfg.voile = s.cfg.voile ∧ u.fab = s.fab)) ∧
  (∀ mode : Bool, (s.at_ t).writeOpen (pCFG * 4096 + 0x4C) = true → s.cfg.as.isSome = true → Completes (.asArm t mode) s fun u =>
    RaisesOnly (s.arrive t (pCFG * 4096 + 0x4C) (1 + 16 * mode.toNat)) u pCFG CFG_E_ASCMDERR)

/-- R256, R258, R259, R262: CANCEL withdraws a set that is not prepared and returns its SWAPPING regions to LOADED, and
is refused without one; CLEAR empties the masks; a member that acknowledges while a clock of its region runs, or whose
time has passed, no longer holds the set up. R105, R155, R240, R261, R452: out of RUN a READY set that is due takes
effect: planes of swapped regions are exchanged, unloaded regions become EMPTY and FREE, the schedule is the new one, and
the set is gone with APPLIED and the number of the next frame, LATE where that is past its own; a class table that it
carries comes into force and stays verified, and one that is no longer verified refuses the set. Nothing takes effect
while it is not READY or not due. Where the manual leaves a point open, this states the model's choice (log entries 61,
62). -/
def Obligations.ActivationSets : Prop :=
  (∀ (s : State) (t : Time),
    ((s.at_ t).writeOpen (pCFG * 4096 + 0x4C) = true →
      (∀ a, s.cfg.as = some a → s.fld pCFG CFG_ASSTAT_STATE ≠ 3 → Completes (.asCancel t) s fun u =>
        u.cfg = { s.cfg with as := none, swapPend := 0 } ∧ u.fld pCFG CFG_ASSTAT_RESULT = 7 ∧
        u.fld pCFG CFG_ASSTAT_STATE = 0 ∧ u.fab = s.fab ∧
        (∀ r < 64, u.region r = if (a.swap ||| a.unld).testBit r ∧ (s.region r).state = 3 then ⟨2, (s.region r).id⟩
          else s.region r)) ∧
      (s.cfg.as = none ∨ s.fld pCFG CFG_ASSTAT_STATE = 3 → Completes (.asCancel t) s fun u =>
        RaisesOnly (s.arrive t (pCFG * 4096 + 0x4C) 2) u pCFG CFG_E_ASCMDERR) ∧
      (s.cfg.as = none → Completes (.asClear t) s fun u =>
        u.asSwap = 0 ∧ u.asUnld = 0 ∧ u.fld pCFG CFG_ASOPT_CT = 0 ∧
        Changes (s.arrive t (pCFG * 4096 + 0x4C) 4) u [] (fields [(pCFG, CFG_ASSWAP_LO_MASK), (pCFG, CFG_ASSWAP_HI_MASK),
          (pCFG, CFG_ASUNLD_LO_MASK), (pCFG, CFG_ASUNLD_HI_MASK), (pCFG, CFG_ASOPT_CT)]))) ∧
    (∀ (a : AsSet) (r : Region), s.cfg.as = some a → s.asAwaits r.val = true → s.windowOpen = false →
      (s.rgnClocked r.val = false → Completes (.swapAck t r) s fun u => u = s.at_ t) ∧
      (s.rgnClocked r.val = true → Completes (.swapAck t r) s fun u =>
        u.cfg = { s.cfg with as := some { a with acked := a.acked ||| 2 ^ r.val } } ∧ u.plc = s.plc ∧
        u.asAwaits r.val = false ∧
        Changes (s.at_ t) u [.cfg] (fields [(pCFG, CFG_ASSTAT_STATE), (pCFG, CFG_ASSTAT_WAIT)])) ∧
      (Completes (.quiesceTimeout r) s fun u =>
        u.cfg = { s.cfg with as := some { a with acked := a.acked ||| 2 ^ r.val }, forced := s.cfg.forced ||| 2 ^ r.val } ∧
        u.time = s.timeAt (a.armAt + s.rqto r.val * 10000) ∧ s.flags u pCFG CFG_E_QTO ∧ u.plc = s.plc ∧
        u.fab = s.fab))) ∧
  (∀ (s : State) (t : Time) (a : AsSet), s.cfg.as = some a → s.frmState ≠ 1 →
    (a.ready = false ∨ (a.mode ≠ 0 ∧ s.asNextFn < a.fn) → Completes (.asInternalBoundary t) s fun u => u = s.at_ t) ∧
    (a.ready = true → a.mode = 0 ∨ a.fn ≤ s.asNextFn → a.ct = true →
      (s.bit (pJE 0) JE_CTSTAT_VERIFIED = false → Completes (.asInternalBoundary t) s fun u =>
        u.cfg.as = none ∧ u.fld pCFG CFG_ASSTAT_RESULT = 4 ∧ u.cfg.act = s.cfg.act ∧ u.cfg.voile = s.cfg.voile ∧
        u.jer = s.jer ∧ u.fab = s.fab) ∧
      (s.bit (pJE 0) JE_CTSTAT_VERIFIED = true → a.swap = 0 → a.unld = 0 → Completes (.asInternalBoundary t) s fun u =>
        u.cfg.as = none ∧ u.fld pCFG CFG_ASSTAT_RESULT = 1 ∧ u.jer.inf = s.jer.pend ∧ u.jer.pend = s.jer.pend ∧
        u.bit (pJE 0) JE_CTSTAT_VERIFIED = true ∧ u.cfg.act = s.cfg.act ∧ u.ctx = s.ctx)) ∧
    (a.ready = true → a.mode = 0 ∨ a.fn ≤ s.asNextFn → a.ct = false → a.swap &&& a.unld = 0 →
      Completes (.asInternalBoundary t) s fun u =>
      (∀ r < 64, u.active r = if a.swap.testBit r then s.voile r else if a.unld.testBit r then Plane.empty else s.active r) ∧
      (∀ r < 64, u.voile r = if a.swap.testBit r then s.active r else if a.unld.testBit r then Plane.empty else s.voile r) ∧
      (∀ r < 64, u.region r = if a.unld.testBit r then RgnAlloc.free
        else if a.swap.testBit r ∧ (s.region r).state ≠ 0 then ⟨2, (s.region r).id⟩ else s.region r) ∧
      (∀ r < 64, a.swap.testBit r = false → a.unld.testBit r = false → u.desc r = s.desc r ∧
        ∀ k, r * 40 * 2048 ≤ k → k < (r + 1) * 40 * 2048 → SMap.get 0 u.fab.ram k = SMap.get 0 s.fab.ram k) ∧
      u.fab.streams = a.sched ∧ u.cfg.as = none ∧ u.cfg.swapPend = 0 ∧ u.fld pCFG CFG_ASSTAT_RESULT = 1 ∧
      u.fld pCFG CFG_ASEFN_FN = s.asNextFn % 2 ^ CFG_ASEFN_FN.wid ∧
      u.bit pCFG CFG_ASSTAT_LATE = decide (a.mode = 1 ∧ a.fn < s.asNextFn) ∧ s.asserts u pCFG CFG_E_ASDONE ∧
      u.jer = s.jer ∧ u.ctx = s.ctx))

/-! ## Flash and routines (spec/11_flash.md) -/

/-- R269, R270: a request with a defined code is queued while fewer than eight completions are owed, and starts at once
when nothing else runs; another is refused with ISSREF and its status; CPL gives the oldest completion and removes it.
R251, R271: the staging window takes bytes only while a chunk is requested; DONE for that chunk hands the window to the
routine, another DONE is refused; a routine whose chunk does not come, or that exceeds its limit, ends with TIMEOUT.
Where the manual leaves a point open, this states the model's choice (log entry 63). -/
def Obligations.MailboxAndStaging : Prop :=
  (∀ (s : State) (t : Time),
    (∀ v : Dword, (s.at_ t).writeOpen (pSVC * 4096 + 0x60) = true → s.pwr.trans = none →
      let code := SVC_CMD_CODE.of v.toNat
      let q : Req := ⟨code, SVC_CMD_TAG.of v.toNat, (List.range 8).map fun i => s.fld pSVC (SVC_ARG_VALUE i)⟩
      (s.queued < 8 → code ∈ routineCodes → Completes (.svcCmdWrite t v) s fun u =>
        u.fld pSVC SVC_ISSUE_STATUS = stOK ∧ u.fld pSVC SVC_ISSUE_TAG = SVC_CMD_TAG.of v.toNat ∧
        u.fls.cpls = s.fls.cpls ∧ u.fls.mem = s.fls.mem ∧
        (s.fls.run = none → s.fls.bg = none → s.fls.queue = [] →
          u.fls.run = some ⟨q, s.timeAt t, 0, 0, 0, 0, []⟩ ∧ u.fls.queue = []) ∧
        (s.fls.run ≠ none ∨ s.fls.bg ≠ none → u.fls.run = s.fls.run ∧ u.fls.queue = s.fls.queue ++ [q])) ∧
      (8 ≤ s.queued → Completes (.svcCmdWrite t v) s fun u =>
        u.fld pSVC SVC_ISSUE_STATUS = stBUSY ∧ s.flags u pSVC SVC_E_ISSREF ∧ u.fls = s.fls) ∧
      (s.queued < 8 → code ∉ routineCodes → Completes (.svcCmdWrite t v) s fun u =>
        u.fld pSVC SVC_ISSUE_STATUS = stBADARG ∧ s.flags u pSVC SVC_E_ISSREF ∧ u.fls = s.fls)) ∧
    ((s.at_ t).readOpen (pSVC * 4096 + 0x6C) = true →
      (∀ c cs, s.fls.cpls = c :: cs → Completes (.cplRead t) s fun u =>
        u.hst.rdata = [2 ^ 31 + c.tag * 65536 + c.code * 256 + c.status] ∧ u.fls = { s.fls with cpls := cs } ∧
        Changes (s.at_ t) u [.fls, .rdata] (fields [(pPCI, PCI_NPOUT_MAX)])) ∧
      (s.fls.cpls = [] → Completes (.cplRead t) s fun u => u.hst.rdata = [0] ∧ u.fls = s.fls))) ∧
  (∀ (s : State) (t : Time),
    (∀ (off : BitVec 18) (v : Dword) (be : BitVec 4), (s.at_ t).writeOpen2 pCFG false = true →
      (s.bit pCFG CFG_STGSTAT_REQ = true → Completes (.stagingWrite t off v be) s fun u =>
        (∀ i < 4, SMap.get 0 u.cfg.stg (off.toNat / 4 * 4 + i) = if be.getLsbD i then
          BitVec.ofNat 8 (v.toNat / 2 ^ (8 * i)) else SMap.get 0 s.cfg.stg (off.toNat / 4 * 4 + i)) ∧
        (∀ k, k / 4 ≠ off.toNat / 4 → SMap.get 0 u.cfg.stg k = SMap.get 0 s.cfg.stg k) ∧
        u.cfg = { s.cfg with stg := u.cfg.stg } ∧ Changes (s.at_ t) u [.cfg] noField) ∧
      (s.bit pCFG CFG_STGSTAT_REQ = false → be ≠ 0 → Completes (.stagingWrite t off v be) s fun u =>
        RaisesOnly (s.at_ t) u pCFG CFG_E_STGERR)) ∧
    (∀ v : Dword, (s.at_ t).writeOpen (pCFG * 4096 + 0x88) = true → CFG_STGCTL_DONE.of v.toNat = 1 →
      let n := s.fld pCFG CFG_STGSTAT_CHUNK
      (s.bit pCFG CFG_STGSTAT_REQ = true → CFG_STGCTL_CHUNK.of v.toNat = n →
        SMap.wf (fun _ => 0) s.cfg.stg = true → Completes (.stgctlDone t v) s fun u =>
          u.fld pCFG CFG_STGSTAT_REQ = 0 ∧
          (∀ i < 262144, SMap.get 0 u.fls.buf (n % 4 * 262144 + i) = SMap.get 0 s.cfg.stg i) ∧
          (∀ r, s.fls.run = some r → ∃ x, u.fls.run = some { r with step := 2, since := x }) ∧
          Changes (s.arrive t (pCFG * 4096 + 0x88) v.toNat) u [.fls] (fields [(pCFG, CFG_STGSTAT_REQ)])) ∧
      (s.bit pCFG CFG_STGSTAT_REQ = false ∨ CFG_STGCTL_CHUNK.of v.toNat ≠ n → Completes (.stgctlDone t v) s fun u =>
        RaisesOnly (s.arrive t (pCFG * 4096 + 0x88) v.toNat) u pCFG CFG_E_STGERR)) ∧
    (∀ r, s.fls.run = some r → s.bit pCFG CFG_STGSTAT_REQ = true → Completes .stagingTimeout s fun u =>
      s.posts u r stTIMEOUT anyResult ∧ u.time = s.timeAt s.cfg.stgBy ∧ u.fls.mem = s.fls.mem ∧
      u.fls.dir = s.fls.dir ∧ u.fld pCFG CFG_STGSTAT_REQ = 0) ∧
    (∀ r, s.fls.run = some r → r.step ≠ 1 →
      (r.since + limitOf r < s.timeAt t → Completes (.routineTimeout t) s fun u => s.posts u r stTIMEOUT anyResult) ∧
      (s.timeAt t ≤ r.since + limitOf r → Completes (.routineTimeout t) s fun u => u = s.at_ t)))

/-- R272, R276 to R280: FL_READ fills the staging window with a block's pages, FL_PROG programs the pages that came
through it, FL_ERASE leaves every byte of the block 0xFF and counts the erase; a locked zone, a page that is not blank
and a page below a written one stop with their statuses and change no byte. R282 to R284, R271: FL_VERIFY gives the
worst margin count of the pages it reads and its page, FL_SCAN the number of weak blocks and the first, FL_REFRESH maps
the block to a spare with the same bytes, FL_INFO gives the block's state, its physical block and its erase count. Only
FL_REFRESH changes a byte. Where the manual leaves a point open, this states the model's choice (log entries 63, 64, 65,
67). -/
def Obligations.FlashRoutines : Prop :=
  (∀ (s : State) (t : Time) (env : FlashEnv) (r : Run),
    let b := r.arg 0
    let p := s.physBlock b
    (s.runs t 0x01 0 r → r.pagesOk = true →
      ((userBlock b || slotBlock b) = true → s.blockStop b = none → env.unc = [] → Completes (.flRead t env) s fun u =>
        s.posts u r stOK (fun v => v = Nat.min 8 env.corr) ∧
        (∀ i < r.arg 2 * 2048, (SMap.get 0 u.cfg.stg i).toNat = s.flashByte b (r.arg 1 * 2048 + i)) ∧
        u.fls.mem = s.fls.mem) ∧
      ((userBlock b || slotBlock b) = false → Completes (.flRead t env) s fun u =>
        s.posts u r stBADARG anyResult ∧ u.cfg = s.cfg ∧ u.fls.mem = s.fls.mem)) ∧
    (r.pagesOk = true → userBlock b = true →
      (s.runs t 0x02 0 r → s.protectedBlock b = true → Completes (.flProg t env) s fun u =>
        s.posts u r stPROTECTED anyResult ∧ u.fls.mem = s.fls.mem) ∧
      (s.runs t 0x02 0 r → s.protectedBlock b = false → s.blockStop b = none →
        (∀ k, r.arg 1 ≤ k → k < 128 → s.usedPage (p * 128 + k) = false) → Completes (.flProg t env) s fun u =>
          s.asksChunk u r 0 0 ∧ u.fls.mem = s.fls.mem) ∧
      (s.runs t 0x02 0 r → s.protectedBlock b = false → s.blockStop b = none → s.usedPage (p * 128 + r.arg 1) = true →
        (∀ k, r.arg 1 < k → k < 128 → s.usedPage (p * 128 + k) = false) → Completes (.flProg t env) s fun u =>
          s.posts u r stNOTERASED (fun v => v = 0) ∧ u.fls.mem = s.fls.mem) ∧
      (s.runs t 0x02 0 r → s.protectedBlock b = false → s.blockStop b = none →
        (∃ k, r.arg 1 < k ∧ k < 128 ∧ s.usedPage (p * 128 + k) = true) → Completes (.flProg t env) s fun u =>
          s.posts u r stORDER (fun v => v = 0) ∧ u.fls.mem = s.fls.mem) ∧
      (s.runs t 0x02 2 r → env.progBad = [] → (∀ k, r.arg 1 ≤ k → k < 128 → s.usedPage (p * 128 + k) = false) →
        Completes (.flProg t env) s fun u =>
          s.posts u r stOK (fun v => v = r.arg 2) ∧
          (∀ i < r.arg 2 * 2048, SMap.get 0xFF u.fls.mem (p * 262144 + r.arg 1 * 2048 + i) = SMap.get 0 s.fls.buf i) ∧
          (∀ k, k < p * 262144 + r.arg 1 * 2048 ∨ p * 262144 + (r.arg 1 + r.arg 2) * 2048 ≤ k →
            SMap.get 0xFF u.fls.mem k = SMap.get 0xFF s.fls.mem k) ∧
          (∀ k, r.arg 1 ≤ k → k < r.arg 1 + r.arg 2 → u.usedPage (p * 128 + k) = true))) ∧
    (s.runs t 0x03 0 r → userBlock b = true →
      (s.protectedBlock b = true → Completes (.flErase t env) s fun u =>
        s.posts u r stPROTECTED anyResult ∧ u.fls.mem = s.fls.mem) ∧
      (s.protectedBlock b = false → s.retiredBlock b = false → pulsesOf env p ≤ 40 → env.margin = [] →
        1 ≤ s.fld pFLS FLS_CTRL_MWTHR → Completes (.flErase t env) s fun u =>
          s.posts u r (if s.fld pFLS FLS_CTRL_ERSLOW < pulsesOf env p then stESLOW else stOK) (fun v => v = pulsesOf env p) ∧
          (∀ i < 262144, SMap.get 0xFF u.fls.mem (p * 262144 + i) = 0xFF) ∧
          (∀ k, k < p * 262144 ∨ (p + 1) * 262144 ≤ k → SMap.get 0xFF u.fls.mem k = SMap.get 0xFF s.fls.mem k) ∧
          (∀ k < 128, u.usedPage (p * 128 + k) = false) ∧ SMap.get 0 u.fls.ecnt p = SMap.get 0 s.fls.ecnt p + 1 ∧
          u.fld pFLS FLS_LASTERS_PULSES = pulsesOf env p ∧ u.pendingBlock p = false) ∧
      (∀ q, s.protectedBlock b = false → s.retiredBlock b = false → 40 < pulsesOf env p →
        (s.updFls fun f => blankBlock f p).spareFor (b / 128) = some q → Completes (.flErase t env) s fun u =>
          s.posts u r stRETIRED (fun v => v = 2 ^ 31 + 40) ∧ u.physBlock b = q ∧
          (∃ x ∈ u.fls.bad, x.phys = p ∧ x.logical = b) ∧
          (u.fld pFLS HDR_PG_ERR_ERR).testBit FLS_E_RETIRED = true))) ∧
  (∀ (s : State) (t : Time) (env : FlashEnv) (r : Run),
    let b := r.arg 0
    let p := s.physBlock b
    (s.runs t 0x04 0 r → (userBlock b || slotBlock b) = true → s.blockStop b = none →
      (∀ c n, env.unc = [] → (s.worstPage env p fun used => used != decide (r.arg 1 % 2 = 1)) = some (c, n) →
        Completes (.flVerify t env) s fun u =>
          s.posts u r (if s.fld pFLS FLS_CTRL_MWTHR ≤ c then stMWEAK else stOK)
            (fun v => v = (c * 2 ^ 24 + n) % 2 ^ 32) ∧ u.fls.mem = s.fls.mem) ∧
      (∀ x ∈ env.unc, x / 512 = p → (s.usedPage (x / 4) != decide (r.arg 1 % 2 = 1)) = true →
        Completes (.flVerify t env) s fun u => s.posts u r stVERIFY anyResult ∧ u.fls.mem = s.fls.mem)) ∧
    (s.runs t 0x05 0 r → env.unc = [] → r.arg 0 + r.arg 1 ≤ 512 →
      let weak := ((List.range (r.arg 1)).map (· + r.arg 0)).filter fun b => s.scanned b &&
        decide (s.fld pFLS FLS_CTRL_MWTHR ≤ ((s.worstPage env (s.physBlock b) id).getD (0, 0)).1)
      (weak = [] → Completes (.flScan t env) s fun u => s.posts u r stOK anyResult ∧ u.fls.mem = s.fls.mem) ∧
      (∀ x xs, weak = x :: xs → Completes (.flScan t env) s fun u =>
        s.posts u r stMWEAK (fun v => v = ((xs.length + 1) * 65536 + x) % 2 ^ 32) ∧ u.fls.mem = s.fls.mem)) ∧
    (∀ q, s.runs t 0x06 0 r → (userBlock b || slotBlock b) = true → s.pendingBlock p = false → s.retiredBlock b = false →
      s.spareFor (b / 128) = some q → env.unc = [] → env.progBad = [] → s.wf = true →
      (∀ i < 262144, SMap.get 0xFF s.fls.mem (q * 262144 + i) = 0xFF) → Completes (.flRefresh t env) s fun u =>
        s.posts u r stOK (fun v => v = q) ∧ u.physBlock b = q ∧ (∀ i < 262144, u.flashByte b i = s.flashByte b i) ∧
        u.pendingBlock p = true) ∧
    (s.runs t 0x07 0 r → (b < 512 ∧ b % 128 < 123 → Completes (.flInfo t) s fun u =>
        s.posts u r stOK (fun v => v = ((if s.retiredBlock b then 2 else if s.pendingBlock p then 1 else 0) * 2 ^ 30 +
          p * 65536 + Nat.min 65535 (SMap.get 0 s.fls.ecnt p)) % 2 ^ 32) ∧ u.fls.mem = s.fls.mem) ∧
      (512 ≤ b ∨ 123 ≤ b % 128 → Completes (.flInfo t) s fun u => s.posts u r stBADARG anyResult ∧ u.fls.mem = s.fls.mem)))

/-- R286 to R289, R386: OTP_READ fills the staging window, OTP_PROG programs the units that came through it and locks
them, and refuses a locked unit; ZONE_LOCK locks zones, ZONE_UNLOCK and ZONE_SETPW take the right password, count the
wrong ones and lock out at the eighth; LOG_READSAVE delivers a valid save. Where the manual leaves a point open, this
states the model's choice (log entries 63, 68). -/
def Obligations.OtpZonesAndSaves : Prop := ∀ (s : State) (t : Time) (env : FlashEnv) (r : Run),
  (s.runs t 0x08 0 r →
    (otpRange (r.arg 0) (r.arg 1) = true → Completes (.otpRead t) s fun u => s.posts u r stOK anyResult ∧
      (∀ i < r.arg 1, (SMap.get 0 u.cfg.stg i).toNat = s.otpRead (r.arg 0 + i)) ∧ u.fls.otp = s.fls.otp) ∧
    (otpRange (r.arg 0) (r.arg 1) = false → Completes (.otpRead t) s fun u =>
      s.posts u r stBADARG anyResult ∧ u.cfg = s.cfg)) ∧
  (s.runs t 0x09 0 r → s.otpDenied (r.arg 0) (r.arg 1) = false → otpRange (r.arg 0) (r.arg 1) = true →
    otpPart (r.arg 0) (r.arg 1) = false →
    ((∀ i < r.arg 1 / 16, s.otpLocked (r.arg 0 / 16 + i) = false) → Completes (.otpProg t env) s fun u =>
      s.asksChunk u r 0 0 ∧ u.fls.otp = s.fls.otp) ∧
    ((∃ i < r.arg 1 / 16, s.otpLocked (r.arg 0 / 16 + i) = true) → Completes (.otpProg t env) s fun u =>
      s.posts u r stNOTERASED anyResult ∧ u.fls.otp = s.fls.otp)) ∧
  (s.runs t 0x09 2 r → otpRange (r.arg 0) (r.arg 1) = true → env.progBad = [] →
    s.otpDataOk (r.arg 0) (r.arg 1) (s.bufBytes 0 (r.arg 1)) = true → Completes (.otpProg t env) s fun u =>
      s.posts u r stOK anyResult ∧
      (∀ i < r.arg 1, u.otpByte (r.arg 0 + i) = (SMap.get 0 s.fls.buf i).toNat) ∧
      (∀ a, a < r.arg 0 ∨ r.arg 0 + r.arg 1 ≤ a → u.otpByte a = s.otpByte a) ∧
      (∀ i < r.arg 1 / 16, u.otpLocked (r.arg 0 / 16 + i) = true)) ∧
  (s.runs t 0x0A 0 r → Completes (.zoneLock t) s fun u => s.posts u r stOK anyResult ∧
    (∀ z < 16, (r.arg 0).testBit z = true → u.zoneLocked z = true) ∧
    (∀ z < 16, (r.arg 0).testBit z = false → u.zoneLocked z = s.zoneLocked z)) ∧
  (s.runs t 0x0B 0 r → s.fld pFLS FLS_ZONEPW_FAILS < 8 →
    (s.pwRight (r.arg 2 + r.arg 3 * 2 ^ 32) = true → Completes (.zoneUnlock t) s fun u => s.posts u r stOK anyResult ∧
      u.fld pFLS FLS_ZONEPW_FAILS = 0 ∧ (∀ z < 16, (r.arg 0).testBit z = true → u.zoneLocked z = false) ∧
      (∀ z < 16, (r.arg 0).testBit z = false → u.zoneLocked z = s.zoneLocked z)) ∧
    (s.pwRight (r.arg 2 + r.arg 3 * 2 ^ 32) = false → Completes (.zoneUnlock t) s fun u => s.posts u r stBADPW anyResult ∧
      u.fld pFLS FLS_ZONEPW_FAILS = s.fld pFLS FLS_ZONEPW_FAILS + 1 ∧
      (s.fld pFLS FLS_ZONEPW_FAILS = 7 → u.fld pFLS FLS_ZONEPW_LOCKOUT = 1) ∧ ∀ z, u.zoneLocked z = s.zoneLocked z)) ∧
  (s.runs t 0x0C 0 r → s.fld pFLS FLS_ZONEPW_FAILS < 8 → s.pwRight (r.arg 0 + r.arg 1 * 2 ^ 32) = true →
    Completes (.zoneSetpw t) s fun u => s.posts u r stOK anyResult ∧
      u.pwRight (r.arg 2 + r.arg 3 * 2 ^ 32) = true ∧ ∀ z, u.zoneLocked z = s.zoneLocked z) ∧
  (8 ≤ s.fld pFLS FLS_ZONEPW_FAILS →
    (s.runs t 0x0B 0 r → Completes (.zoneUnlock t) s fun u => s.posts u r stLOCKEDOUT anyResult ∧ u.fls.pw = s.fls.pw) ∧
    (s.runs t 0x0C 0 r → Completes (.zoneSetpw t) s fun u => s.posts u r stLOCKEDOUT anyResult ∧ u.fls.pw = s.fls.pw)) ∧
  (s.runs t 0x18 0 r →
    (∀ n bs, s.validSaves[r.arg 0]? = some (n, bs) → env.unc = [] → Completes (.logReadsave t env) s fun u =>
      s.posts u r stOK (fun v => v = leNum ((bs.drop 4).take 4) % 2 ^ 32) ∧
      u.cfg = { s.cfg with stg := SMap.putAll 0 s.cfg.stg 0 (bs.map (BitVec.ofNat 8)) } ∧ u.fls.saves = s.fls.saves) ∧
    (s.validSaves[r.arg 0]? = none → Completes (.logReadsave t env) s fun u =>
      s.posts u r stBADARG anyResult ∧ u.fls.saves = s.fls.saves))

/-- R249, R251 to R254: IMG_INSTALL asks for chunk 0 of a slot that it may overwrite, empties the slot before it writes
one, and leaves it holding the image only when all of it has been programmed and checked; IMG_SELECT makes a good image
the newest; IMG_LOAD marks the planes LOADING and then fills those whose regions are still their allocation's, or clears
them where the image's tag fails. Where the manual leaves a point open, this states the model's choice (log entries 63,
69, 70, 71, 130). -/
def Obligations.Images : Prop := ∀ (s : State) (t : Time) (env : FlashEnv) (r : Run),
  let slot := r.arg 0
  let len := r.arg 1
  (s.runs t 0x10 0 r → (∀ b ∈ imageBlocks slot len, s.protectedBlock b = false ∧ s.retiredBlock b = false) →
    (s.installArgs slot len = true → Completes (.imgInstall t env) s fun u =>
      s.asksChunk u r slot 0 ∧ u.fls.dir = s.fls.dir ∧ u.fls.mem = s.fls.mem) ∧
    (s.installArgs slot len = false → Completes (.imgInstall t env) s fun u =>
      s.posts u r stBADARG anyResult ∧ u.fls.dir = s.fls.dir ∧ u.fls.mem = s.fls.mem)) ∧
  (s.runs t 0x10 2 r → r.chunk = 0 → slot < 8 →
    (s.headStatus (s.bufBytes 0 512) ≠ stOK → Completes (.imgInstall t env) s fun u =>
      s.posts u r (s.headStatus (s.bufBytes 0 512)) anyResult ∧ u.fls.dir = s.fls.dir ∧ u.fls.mem = s.fls.mem) ∧
    (s.headStatus (s.bufBytes 0 512) = stOK → imgLength (s.bufBytes 0 512) = len →
      typeFits slot (imgType (s.bufBytes 0 512)) = true → 1 < chunkCount len → Completes (.imgInstall t env) s fun u =>
        s.asksChunk u r slot 1 ∧ u.slotImage slot = none ∧ (∀ k, k ≠ slot → u.newestEntry k = s.newestEntry k) ∧
        u.fls.mem = s.fls.mem)) ∧
  (∀ v, s.runs t 0x10 2 r → r.chunk + 1 = chunkCount len → slot < 8 → len < 2 ^ 32 →
    (r.chunk = 0 → s.headStatus (s.bufBytes 0 512) = stOK ∧ imgLength (s.bufBytes 0 512) = len ∧
      typeFits slot (imgType (s.bufBytes 0 512)) = true) →
    (if r.chunk = 0 then ((s.at_ t).installHead slot len).1 else s.at_ t).installBlocks env slot len
      (groupChunks r.chunk) = (v, none) → v.badSectors env slot len = (false, false) →
    Completes (.imgInstall t env) s fun u => u.fls.mem = v.fls.mem ∧
      if v.bodyStatus (v.imageBytes slot len) false = stOK then
        ∃ e, u.slotImage slot = some e ∧ e.seq = v.nextSeq ∧ e.length = len ∧
          e.digest = imgDigest (v.imageBytes slot len) ∧ e.typ = imgType (v.imageBytes slot len)
      else s.posts u r stSIGFAIL anyResult ∧ u.fls.dir = v.fls.dir) ∧
  (s.runs t 0x11 0 r →
    (∀ e, s.slotImage slot = some e → slot < 4 → e.typ = 1 → e.slot = slot → s.imageStop slot e.length = none →
      classOk s.pwr.lcs (s.imageBytes slot e.length) = true → env.unc = [] →
      (s.bodyStatus (s.imageBytes slot e.length) false = stOK → Completes (.imgSelect t env) s fun u =>
        s.posts u r stOK anyResult ∧ u.slotImage slot = some { e with seq := s.nextSeq } ∧
        (∀ k, k ≠ slot → u.newestEntry k = s.newestEntry k)) ∧
      (s.bodyStatus (s.imageBytes slot e.length) false ≠ stOK → Completes (.imgSelect t env) s fun u =>
        s.posts u r stSIGFAIL anyResult ∧ u.fls.dir = s.fls.dir)) ∧
    (s.slotImage slot = none → Completes (.imgSelect t env) s fun u =>
      s.posts u r stBADARG anyResult ∧ u.fls.dir = s.fls.dir)) ∧
  (∀ e, s.slotImage slot = some e → slot < 8 → let bs := s.imageBytes slot e.length
    (s.runs t 0x12 0 r → s.imageStop slot e.length = none → env.unc = [] →
      (s.loadStatus bs false false ≠ stOK → Completes (.imgLoad t env) s fun u =>
        s.posts u r (s.loadStatus bs false false) anyResult ∧ u.cfg.voile = s.cfg.voile) ∧
      (∀ rs, s.loadStatus bs false false = stOK → imgType bs ≤ 2 → s.loadRegions r (imgType bs) (imgK bs) = some rs →
        (∀ x ∈ rs, s.armedRegion x.1 = false) → Completes (.imgLoad t env) s fun u =>
          (∀ x ∈ rs, (u.voile x.1).state = 1) ∧ (∀ n, n ∉ rs.map (·.1) → u.voile n = s.voile n) ∧
          u.fls.run = some { r with step := 2, dest := rs.map fun x => (x.1, x.2, (u.region x.1).id) } ∧
          u.cfg.act = s.cfg.act)) ∧
    (s.runs t 0x12 2 r → s.fls.ctxLoad = false → (r.dest.map (·.1)).Nodup →
      (∀ d, s.opened bs = some d → Completes (.imgLoad t env) s fun u =>
        s.posts u r (if ∀ x ∈ r.dest, s.stillOwn x = true then stOK else stBADARG) anyResult ∧
        (∀ x ∈ r.dest, u.voile x.1 = if s.stillOwn x then planeOf d slot x.2.1 else Plane.empty) ∧
        u.cfg.act = s.cfg.act) ∧
      (s.opened bs = none → Completes (.imgLoad t env) s fun u => s.posts u r stSIGFAIL anyResult ∧
        (∀ x ∈ r.dest, u.voile x.1 = Plane.empty) ∧ u.cfg.act = s.cfg.act)))

/-- R273, R274, R280, R281: an idle sequencer starts its background work; a read-only request suspends it after SUSPMIN
and it resumes afterwards; the erase that it was leaves its block blank and no longer ERASE_PENDING. Where the manual
leaves a point open, this states the model's choice (log entry 66). -/
def Obligations.BackgroundWork : Prop := ∀ (s : State) (t : Time),
  (∀ op p, s.pwr.up = true → s.fls.run = none → s.fls.queue = [] → s.fls.bg = none → s.pwr.pfwBlock = false →
    s.pwr.trans = none → s.clkOn pFLS = true → s.bgDue = some (op, p) → Completes (.backgroundOperation t) s fun u =>
      u.fls = { s.fls with bg := some ⟨op, p, false, s.timeAt t⟩
                           ecnt := SMap.put 0 s.fls.ecnt p (SMap.get 0 s.fls.ecnt p + 1)
                           cells := SMap.put false s.fls.cells p true
                           jused := SMap.put 0 s.fls.jused 2 (SMap.get 0 s.fls.jused 2 + 1) } ∧
      u.fld pFLS FLS_STAT_BGSTATUS = stBUSY ∧ u.fld pFLS FLS_STAT_BGOP = op % 8 ∧ u.fld pFLS FLS_STAT_BGBLOCK = p % 512) ∧
  (s.fls.run ≠ none ∨ s.fls.queue ≠ [] → Completes (.backgroundOperation t) s fun u => u = s.at_ t) ∧
  (∀ b env, s.fls.bg = some b → s.fls.run = none →
    (b.susp = false → s.pwr.trans = none → b.op = 1 ∨ b.op = 2 → pulsesOf env b.block ≤ 40 →
      Completes (.backgroundOperationEnd t env) s fun u =>
        u.fls.bg = none ∧ u.pendingBlock b.block = false ∧
        (∀ i < 262144, SMap.get 0xFF u.fls.mem (b.block * 262144 + i) = 0xFF) ∧
        (∀ k, k < b.block * 262144 ∨ (b.block + 1) * 262144 ≤ k →
          SMap.get 0xFF u.fls.mem k = SMap.get 0xFF s.fls.mem k)) ∧
    (∀ q qs, s.fls.queue = q :: qs → b.susp = false → readOnly q.code = true →
      (b.since + s.fld pFLS FLS_CTRL_SUSPMIN * 1000 ≤ s.timeAt t → Completes (.bgSuspend t) s fun u =>
        u.fls = { s.fls with bg := some { b with susp := true }, queue := qs
                             run := some ⟨q, s.timeAt t, 0, 0, 0, 0, []⟩ } ∧
        u.fld pFLS FLS_STAT_BGSTATUS = stSUSP) ∧
      (s.timeAt t < b.since + s.fld pFLS FLS_CTRL_SUSPMIN * 1000 → Completes (.bgSuspend t) s fun u => u = s.at_ t)) ∧
    (b.susp = true → Completes (.bgResume t) s fun u =>
      u.fls = { s.fls with bg := some { b with susp := false, since := s.timeAt t } } ∧
      u.fld pFLS FLS_STAT_BGSTATUS = stBUSY))

/-! ## Clocks (spec/12_clocks.md) -/

/-- R296 to R299: an enabled MDLL takes the first band that fits and acquires with its output muted; after the forced
period of 20,000 reference cycles, and a lock no sooner than 256 reference cycles later, its output runs, and without a
lock within 5 ms it reports; a disabled one is off; step 6 of bring-up enables all eight. R300: leaving the window is
reported, and for MDLL0 and MDLL1 it is device-fatal. R306, R307: at the loss of the reference STATE is COAST in every page
and acquisition stops, at its return every MDLL is as before and acquisition starts again, and a coast of COASTLIM ms is
device-fatal. R312, R409: a host access to a page whose clock is stopped hangs, is logged, and has no other effect. Where
the manual leaves a point open, this states the model's choice (log entries 72, 75, 133). -/
def Obligations.ClocksAndReference : Prop :=
  (∀ (s : State) (t : Time) (n : Mdll), let p := pCLK n.val
    ((s.at_ t).writeOpen (p * 4096 + 0x40) = true → let a := s.arrive t (p * 4096 + 0x40) 1
      (2 ≤ n.val → s.mdllOn n.val = false → (s.mdll n.val).acq = 0 →
        (∀ b, s.pickBand n.val = some b → Completes (.mdllEnable t n) s fun u =>
          u.fld p CLK_CTRL_EN = 1 ∧ u.fld p CLK_STAT_STATE = 1 ∧ u.fld p CLK_STAT_MUTED = 1 ∧
          u.fld p CLK_STAT_BAND = b % 16 ∧ u.fld p CLK_STAT_WINDOW = 0 ∧
          u.mdll n.val = { s.mdll n.val with enAt := s.timeAt t, acq := if s.pwr.coastAt.isSome then 3 else 1 } ∧
          (∀ k, k ≠ n.val → u.mdll k = s.mdll k) ∧
          Changes a u [.pwr] (fields ((p, CLK_CTRL_EN) :: (p, CLK_MACT_M) :: clkStat n.val))) ∧
        (s.pickBand n.val = none → Completes (.mdllEnable t n) s fun u =>
          u.fld p CLK_CTRL_EN = 1 ∧ s.flags u p CLK_E_BANDERR ∧
          Changes a u [.msi] (fields ((p, CLK_CTRL_EN) :: errFields p)))) ∧
      (2 ≤ n.val → s.mdllOn n.val = true ∨ (s.mdll n.val).acq ≠ 0 → Completes (.mdllEnable t n) s fun u =>
        u.fld p CLK_CTRL_EN = 1 ∧ Changes a u [] (fields [(p, CLK_CTRL_EN)])) ∧
      (2 ≤ n.val → Completes (.mdllDisable t n) s fun u =>
        u.fld p CLK_CTRL_EN = 0 ∧ u.fld p CLK_STAT_STATE = 0 ∧ u.mdllOn n.val = false ∧ (u.mdll n.val).acq = 0 ∧
        Changes (s.arrive t (p * 4096 + 0x40) 0) u [.pwr]
          (fields ([(p, CLK_CTRL_EN), (p, CLK_PHASE_PEND), (p, CLK_PHASE_PHPOS)] ++ clkStat n.val))) ∧
      (n.val < 2 → Completes (.mdllEnable t n) s (fun u => u = s.arrive t (p * 4096 + 0x40) 1) ∧
        Completes (.mdllDisable t n) s (fun u => u = s.arrive t (p * 4096 + 0x40) 0))) ∧
    (s.pwr.up = true →
      ((s.mdll n.val).acq = 1 → (s.mdll n.val).enAt + s.refNs 20000 ≤ s.timeAt t →
        Completes (.forcedPeriodEnd t n) s fun u =>
          u.mdll n.val = { s.mdll n.val with
            acq := 2, fpEnd := Nat.min (s.timeAt t) ((s.mdll n.val).enAt + 2000000) } ∧
          Changes (s.at_ t) u [.pwr] (fields ((List.range 8).map fun k => (pCLK k, CLK_STAT_LKIBELOW)))) ∧
      ((s.mdll n.val).acq ≠ 1 ∨ s.timeAt t < (s.mdll n.val).enAt + s.refNs 20000 →
        Completes (.forcedPeriodEnd t n) s fun u => u = s.at_ t)) ∧
    (let en := s.timeAt t - s.refNs 20000; s.sixDue en = true → s.refNs 20000 ≤ s.timeAt t → s.pwr.coastAt = none → s.mdllOn n.val = false →
      (s.mdll n.val).acq = 0 → (∀ k < 8, s.mdllOn k = false → (s.mdll k).acq = 0 → (s.pickBand k).isSome = true) →
        Completes (.forcedPeriodEnd t n) s fun u => u.pwr.sixAt = some en ∧
          ∀ k < 8, s.mdllOn k = false → (s.mdll k).acq = 0 → u.fld (pCLK k) CLK_STAT_STATE = 1 ∧
            (u.mdll k).enAt = en ∧ (u.mdll k).acq = if k = n.val then 2 else 1) ∧
    ((s.at_ t).mayLock n.val = true → Completes (.mdllLock t n) s fun u =>
      u.mdllOn n.val = true ∧ u.fld p CLK_STAT_STATE = 2 ∧ u.fld p CLK_STAT_WINDOW = 1 ∧ (u.mdll n.val).acq = 0 ∧
      s.asserts u p CLK_E_LOCKDONE ∧ u.frm = s.frm ∧ u.ctx = s.ctx ∧ u.lnk = s.lnk) ∧
    ((s.mdll n.val).acq ≠ 2 ∨ s.timeAt t < (s.mdll n.val).fpEnd + s.refNs 256 →
      Completes (.mdllLock t n) s fun u => u = s.at_ t) ∧
    ((s.mdll n.val).acq = 1 ∨ (s.mdll n.val).acq = 2 → Completes (.lockTimeout n) s fun u =>
      u.mdll n.val = { s.mdll n.val with acq := 0 } ∧ s.flags u p CLK_E_LKTO ∧
      u.time = s.timeAt ((s.mdll n.val).enAt + 5000000) ∧
      u.fld p CLK_STAT_STATE = s.fld p CLK_STAT_STATE ∧ u.fld p CLK_STAT_MUTED = s.fld p CLK_STAT_MUTED) ∧
    (s.fld p CLK_STAT_STATE = 2 → s.bit p CLK_STAT_WINDOW = true → Completes (.mdllUnlock t n) s fun u =>
      u.fld p CLK_STAT_WINDOW = 0 ∧ s.flags u p CLK_E_UNLOCK ∧ u.fld p CLK_STAT_STATE = 2 ∧
      (n.val < 2 → u.pwr.faultB = true) ∧ (2 ≤ n.val → u.pwr = s.pwr ∧ s.counts u pERR ERR_CLASSCNT_CONTAINED)) ∧
    (s.fld p CLK_STAT_STATE = 2 → s.bit p CLK_STAT_WINDOW = false → Completes (.windowRestore t n) s fun u =>
      u.fld p CLK_STAT_WINDOW = 1 ∧ Changes (s.at_ t) u [] (fields [(p, CLK_STAT_WINDOW)]))) ∧
  (∀ (s : State) (t : Time),
    (s.pwr.coastAt = none → s.mdllOn 0 = true → Completes (.refLoss t) s fun u =>
      u.pwr.coastAt = some (s.timeAt t) ∧ u.lko = .low ∧ s.flags u (pCLK 0) CLK_E_COAST ∧
      s.counts u (pCLK 0) CLK_COASTCNT_COUNT ∧
      ∀ n < 8, u.fld (pCLK n) CLK_STAT_STATE = 3 ∧ (u.mdll n).was = s.fld (pCLK n) CLK_STAT_STATE ∧
        (u.mdll n).acq = (if (s.mdll n).acq = 0 then 0 else 3) ∧ u.fld (pCLK n) CLK_MULT_M = s.fld (pCLK n) CLK_MULT_M ∧
        ((s.fld (pCLK n) CLK_STAT_STATE < 2 → s.bit (pCLK n) CLK_STAT_MUTED = true) → u.mdllOn n = s.mdllOn n)) ∧
    (∀ t0, s.pwr.coastAt = some t0 →
      (Completes (.refReturn t) s fun u => u.pwr.coastAt = none ∧
        ∀ n < 8, u.fld (pCLK n) CLK_STAT_STATE = (if s.fld (pCLK n) CLK_STAT_STATE = 3 then
            (s.mdll n).was % 2 ^ CLK_STAT_STATE.wid else s.fld (pCLK n) CLK_STAT_STATE) ∧
          ((s.mdll n).acq = 3 → (u.mdll n).acq = 1 ∧ (u.mdll n).enAt = s.timeAt t) ∧
          ((s.mdll n).acq ≠ 3 → (u.mdll n).acq = (s.mdll n).acq) ∧
          u.fld (pCLK n) CLK_STAT_MUTED = s.fld (pCLK n) CLK_STAT_MUTED) ∧
      (s.pwr.coastHit = false → Completes .coastLimit s fun u =>
        u.pwr.faultB = true ∧ s.flags u (pCLK 0) CLK_E_COASTLIM ∧ u.pwr.coastAt = some t0 ∧
        u.time = s.timeAt (t0 + s.fld (pCLK 0) CLK_REFMON_COASTLIM * 1000000)) ∧
      (s.pwr.coastHit = true → Completes .coastLimit s fun u => u = s)) ∧
    (s.pwr.coastAt = none → Completes (.refReturn t) s (fun u => u = s.at_ t) ∧ Completes .coastLimit s (fun u => u = s)) ∧
    (∀ a : BitVec 21, (s.at_ t).hostUp = true → pgClass (a.toNat / 4096) ≠ .reserved →
      ((s.at_ t).clkOn (a.toNat / 4096) = true → ∀ w, Completes (.stoppedClockAccess t a w) s fun u => u = s.at_ t) ∧
      ((s.at_ t).clkOn (a.toNat / 4096) = false →
        (s.npNow < 32 → Completes (.stoppedClockAccess t a false) s fun u =>
          u.hst.hung = s.hst.hung ++ [⟨a.toNat / 4096, false⟩] ∧ u.hst.rdata = [] ∧
          s.counts u pERR ERR_CLASSCNT_CONTAINED ∧ u.frm = s.frm ∧ u.ctx = s.ctx ∧ u.twn = s.twn) ∧
        (s.pwr.pfwBlock = false → s.role ≠ 2 → Completes (.stoppedClockAccess t a true) s fun u =>
          u.hst.hung = s.hst.hung ++ [⟨a.toNat / 4096, true⟩] ∧ s.counts u pERR ERR_CLASSCNT_CONTAINED ∧
          u.frm = s.frm ∧ u.ctx = s.ctx ∧ u.twn = s.twn))))

/-- R295, R297, R301 to R305: MULT of MDLL3 to MDLL7 takes a value in range, that its band can hold while it is on, and
the ramp goes on from where MACT stands; it ends at MULT; the spread of MDLL0 and MDLL1 is held to 10 and to its band; DIV
and band limits are stored; phase steps add to those still pending, held to ±63, of which one is done in each output cycle.
What does not fit is refused with BANDERR and changes nothing. Where the manual leaves a point open, this states the
model's choice (log entries 72, 132). -/
def Obligations.MdllSettings : Prop := ∀ (s : State) (t : Time) (n : Mdll) (v : Dword), let p := pCLK n.val
  let m := CLK_MULT_M.of v.toNat
  let m0 := s.fld p CLK_MULT_M
  let a0 := s.fld p CLK_MACT_M
  let band := s.bandOf n.val (s.fld p CLK_STAT_BAND)
  ((s.at_ t).writeOpen (p * 4096 + 0x48) = true → let a := s.arrive t (p * 4096 + 0x48) v.toNat
    (n.val < 3 → Completes (.multWrite t n v) s fun u => u = a) ∧
    (3 ≤ n.val → m < 0x040000 ∨ 0x1C0000 < m ∨
        (s.mdllOff n.val = false ∧ (band.2 < (m + 255) / 256 ∨ m / 256 < band.1)) →
      Completes (.multWrite t n v) s fun u => RaisesOnly a u p CLK_E_BANDERR) ∧
    (3 ≤ n.val → 0x040000 ≤ m → m ≤ 0x1C0000 → s.mdllOff n.val = true →
      Completes (.multWrite t n v) s fun u => u.fld p CLK_MULT_M = m ∧ Changes a u [] (fields [(p, CLK_MULT_M)])) ∧
    (3 ≤ n.val → 0x040000 ≤ m → m ≤ 0x1C0000 → s.mdllOff n.val = false → (m + 255) / 256 ≤ band.2 →
      band.1 ≤ m / 256 → a0 < 2 ^ CLK_MACT_M.wid → m0 < 2 ^ CLK_MACT_M.wid → Completes (.multWrite t n v) s fun u =>
        let x := u.fld p CLK_MACT_M
        u.fld p CLK_MULT_M = m ∧ u.fld p CLK_STAT_RAMP = (decide (m ≠ x)).toNat ∧
        (s.bit p CLK_STAT_RAMP = false ∨ s.fld p CLK_STAT_STATE ≠ 2 → x = a0) ∧
        Nat.min a0 m0 ≤ x ∧ x ≤ Nat.max a0 m0 ∧ Nat.max a0 x - Nat.min a0 x ≤ (s.at_ t).rampFar n.val ∧
        Changes a u [.pwr, .free] (fields [(p, CLK_MULT_M), (p, CLK_STAT_RAMP), (p, CLK_MACT_M), (p, CLK_PHASE_PEND),
          (p, CLK_PHASE_PHPOS)]))) ∧
  ((s.at_ t).rampEnds n.val = true → Completes (.rampDone t n) s fun u =>
    u.fld p CLK_MACT_M = m0 % 2 ^ CLK_MACT_M.wid ∧ u.fld p CLK_STAT_RAMP = 0 ∧
    Changes (s.at_ t) u [.pwr] (fields [(p, CLK_MACT_M), (p, CLK_STAT_RAMP), (p, CLK_PHASE_PEND), (p, CLK_PHASE_PHPOS)])) ∧
  (s.bit p CLK_STAT_RAMP = false ∨ s.fld p CLK_STAT_STATE ≠ 2 ∨ (s.at_ t).rampFar n.val < Nat.max a0 m0 - Nat.min a0 m0 →
    Completes (.rampDone t n) s fun u => u = s.at_ t) ∧
  ((s.at_ t).writeOpen (p * 4096 + 0x40) = true → n.val < 2 → let x := Nat.min 10 (CLK_CTRL_SPREAD.of v.toNat)
    (s.mdllOff n.val = true ∨ band.1 ≤ lowEnd m0 x → Completes (.spreadWrite t n v) s fun u =>
      u.fld p CLK_CTRL_SPREAD = x ∧
      Changes (s.arrive t (p * 4096 + 0x40) v.toNat) u [] (fields [(p, CLK_CTRL_SPREAD)])) ∧
    (s.mdllOff n.val = false → lowEnd m0 x < band.1 → Completes (.spreadWrite t n v) s fun u =>
      RaisesOnly (s.arrive t (p * 4096 + 0x40) v.toNat) u p CLK_E_BANDERR)) ∧
  (2 ≤ n.val → exec (.spreadWrite t n v) s =
    exec (if CLK_CTRL_EN.of v.toNat = 1 then .mdllEnable t n else .mdllDisable t n) s) ∧
  ((s.at_ t).writeOpen (p * 4096 + 0x50) = true →
    (3 ≤ n.val → Completes (.divWrite t n v) s fun u =>
      u.fld p CLK_DIV_DIV0 = v.toNat % 256 ∧ u.fld p CLK_DIV_DIV1 = v.toNat / 2 ^ 8 % 256 ∧
      u.fld p CLK_DIV_DIV2 = v.toNat / 2 ^ 16 % 256 ∧ u.fld p CLK_DIV_DIV3 = v.toNat / 2 ^ 24 % 256 ∧
      Changes (s.arrive t (p * 4096 + 0x50) v.toNat) u []
        (fields [(p, CLK_DIV_DIV0), (p, CLK_DIV_DIV1), (p, CLK_DIV_DIV2), (p, CLK_DIV_DIV3)])) ∧
    (n.val < 3 → Completes (.divWrite t n v) s fun u => u = s.arrive t (p * 4096 + 0x50) v.toNat)) ∧
  ((s.at_ t).writeOpen (p * 4096 + 0x54) = true → let x := (s.at_ t).phaseNow n.val
    (2 ≤ n.val → Completes (.phaseStepsWrite t n v) s fun u =>
      signed7 (u.fld p CLK_PHASE_PEND) = clamp (-63) 63 (x.1 + max (-63) (signed7 (CLK_PHASE_STEPS.of v.toNat))) ∧
      u.fld p CLK_PHASE_PHPOS = x.2 ∧ (u.mdll n.val).phAt = s.timeAt t ∧
      Changes (s.arrive t (p * 4096 + 0x54) v.toNat) u [.pwr] (fields [(p, CLK_PHASE_PEND), (p, CLK_PHASE_PHPOS)])) ∧
    (n.val < 2 → Completes (.phaseStepsWrite t n v) s fun u => u = s.arrive t (p * 4096 + 0x54) v.toNat)) ∧
  (let pend := signed7 (s.fld p CLK_PHASE_PEND); let x := s.phaseNow n.val
    x.1.natAbs + Nat.min pend.natAbs (s.outCycles n.val) = pend.natAbs ∧ (0 ≤ x.1 * pend) ∧
    ((x.2 : Int) - s.fld p CLK_PHASE_PHPOS - (pend - x.1)) % 64 = 0) ∧
  ((s.at_ t).writeOpen (p * 4096 + 0x5C) = true → let b := s.fld p CLK_BANDIDX_BAND
    (s.mdllOff n.val = true ∨ b ≠ s.fld p CLK_STAT_BAND → Completes (.banddataWrite t n v) s fun u =>
      u.bandOf n.val b = (v.toNat % 2 ^ 16, v.toNat / 2 ^ 16 % 2 ^ 16) ∧
      (∀ k c, k * 16 + c ≠ n.val * 16 + b → u.bandOf k c = s.bandOf k c) ∧
      Changes (s.arrive t (p * 4096 + 0x5C) v.toNat) u [.pwr] noField) ∧
    (s.mdllOff n.val = false → b = s.fld p CLK_STAT_BAND → Completes (.banddataWrite t n v) s fun u =>
      RaisesOnly (s.arrive t (p * 4096 + 0x5C) v.toNat) u p CLK_E_BANDERR))

/-! ## Power, reset and bring-up (spec/13_power.md, spec/16_errors.md, spec/17_bringup.md) -/

/-- R317 to R320, R328: an entry to GAUZE that no domain refuses stops the domains, then the device holds its pads and
is in GAUZE three cycles of the slow clock (R308) after the start of phase B, which fixes the banks it retains; the first domain that refuses undoes it; the
pads are released by IOHOLD. Where the manual leaves a point open, this states the model's choice (log entries 76, 78,
103). -/
def Obligations.GauzeEntry : Prop := ∀ (s : State) (t : Time),
  ((s.at_ t).writeOpen (pPWR * 4096 + 0x40) = true → let a := s.arrive t (pPWR * 4096 + 0x40) 1
    (s.pwr.gz ≠ 0 ∨ s.pwr.trans.isSome = true → Completes (.pwrCmdGauze t) s fun u => RaisesOnly a u pPWR PWR_E_CFGERR) ∧
    (s.pwr.gz = 0 → s.pwr.trans = none → a.firstRefusal [0, 1, 2, 3, 4, 5] = none →
      Completes (.pwrCmdGauze t) s fun u =>
        u.pwr = { s.pwr with gz := 1, gzAt := s.timeAt t, muslin := if s.pwr.pfw then 2 else 0 } ∧
        u.fld pPWR PWR_CMDSTAT_STATUS = stBUSY ∧ u.fld pPWR PWR_STAT_STOPPED = 0x3E ∧
        Changes a u [.pwr] (fields [(pPWR, PWR_CMDSTAT_STATUS), (pPWR, PWR_CMDSTAT_DOMAIN), (pPWR, PWR_CMDSTAT_REASON),
          (pPWR, PWR_STAT_STOPPED)])) ∧
    (∀ d r, s.pwr.gz = 0 → s.pwr.trans = none → a.firstRefusal [0, 1, 2, 3, 4, 5] = some (d, r) →
      Completes (.pwrCmdGauze t) s fun u => s.entryRefused u d r)) ∧
  (s.frmState ≠ 2 → s.refusal 0 = some 1) ∧
  (s.pwr.gz ≠ 1 → Completes (.gauzePhaseB t) s fun u => u = s.at_ t) ∧
  (s.pwr.gz = 1 →
    (s.pwr.muslin ≠ 0 → Completes (.gauzePhaseB t) s fun u => s.entryRefused u 7 s.pwr.muslin) ∧
    (∀ r, s.pwr.muslin = 0 → (s.at_ t).refusal 6 = some r → Completes (.gauzePhaseB t) s fun u => s.entryRefused u 6 r) ∧
    (s.pwr.muslin = 0 → (s.at_ t).refusal 6 = none → Completes (.gauzePhaseB t) s fun u =>
      u.pwr.gz = 2 ∧ u.pwr.up = false ∧ u.pwr.kept = s.fld pPWR PWR_RETAIN_BANKS ∧
      u.time = s.timeAt t + slowNs (s.at_ t).inst.acc 3 ∧ u.pwr.gzAt = u.time ∧
      u.fld pPWR PWR_CMDSTAT_STATUS = stOK ∧ u.fld pPWR PWR_STAT_STOPPED = 0 ∧
      (∀ b < 8, u.pads b = s.pads b ∧ (u.iob b).held = true) ∧ (∀ n < 8, u.mdllOn n = false) ∧ u.ctx = s.ctx ∧
      u.fls = s.fls)) ∧
  ((s.at_ t).writeOpen (pSYS * 4096 + 0x44) = true → Completes (.ioholdRelease t) s fun u =>
    (∀ b < 8, u.iob b = { s.iob b with held := false, heldOe := 0, heldOut := 0, heldPull := [] }) ∧
    Changes (s.arrive t (pSYS * 4096 + 0x44) 1) u [.fab] noField)

/-- R321 to R324, R330: in GAUZE an edge of 200 ns towards the active level of a pin in edge mode, the active level of a pin
in level mode at three edges of the slow clock, the pin, channel or timer of a sampling event, or WAKE over the service
port wakes the device; such a detection in phase A makes entry refuse, and any other pin event does nothing. R330: with the ADC enabled, a conversion gives its value
to the lowest channel that the scan has still to convert, 1024 times the input over the reference, at most 1023, and no
other lane changes; the last channel of a scan reports
it. Where the manual leaves a point open, this states the model's choice (log entries 76, 78). -/
def Obligations.WakesAndSamples : Prop :=
  (∀ (s : State) (t : Time),
    (s.pwr.up = false → s.pwr.gz = 2 → s.pwr.gzAt ≤ t →
      (∀ d, detectCounts d (s.fld pPWR PWR_WCFG_WIMODE) (s.bit pPWR PWR_WCFG_WIPOL) = true →
        Completes (.wakeIn t d) s fun u => s.woke u 1) ∧
      (∀ (i : Fin 16) d, detectCounts d (s.pinMode i.val) ((s.fld pPWR PWR_WPPOL_POL).testBit i.val) = true →
        Completes (.watchPin t i d) s fun u => s.woke u 2 ∧ u.fld pPWR PWR_WAKESRC_INDEX = i.val) ∧
      (Completes (.pwrCmdWake t) s fun u => s.woke u 6)) ∧
    (∀ pins adc, s.pwr.up = false → s.pwr.gz = 2 → let n := s.pwr.events + 1
      let passes (k : Nat) := s.fld pPWR PWR_CTRL_CONSEC ≤
        (if s.outOfLimit pins adc k = true then SMap.get 0 s.pwr.outOf k + 1 else 0)
      (∀ k < 16, passes k → (∀ j < k, ¬ passes j) → Completes (.samplingEvent pins adc) s fun u =>
        s.woke u 3 ∧ u.fld pPWR PWR_WAKESRC_INDEX = k) ∧
      (∀ k < 16, passes (16 + k) → (∀ j < 16 + k, ¬ passes j) → Completes (.samplingEvent pins adc) s fun u =>
        s.woke u 4 ∧ u.fld pPWR PWR_WAKESRC_INDEX = k) ∧
      ((∀ j < 32, ¬ passes j) → s.fld pPWR PWR_TWAKE_COUNT ≠ 0 → s.fld pPWR PWR_TWAKE_COUNT ≤ n →
        Completes (.samplingEvent pins adc) s fun u => s.woke u 5) ∧
      ((∀ j < 32, ¬ passes j) → (s.fld pPWR PWR_TWAKE_COUNT = 0 ∨ n < s.fld pPWR PWR_TWAKE_COUNT) →
        Completes (.samplingEvent pins adc) s fun u =>
          u.pwr = { s.pwr with events := n, outOf := u.pwr.outOf } ∧
          u.time = s.timeAt (s.pwr.gzAt + s.sampleAt n) ∧
          u.fld pPWR PWR_SAMPCNT_COUNT = (s.fld pPWR PWR_SAMPCNT_COUNT + 1) % 2 ^ PWR_SAMPCNT_COUNT.wid ∧
          Changes s u [.time, .pwr] (fields [(pPWR, PWR_SAMPCNT_COUNT)]))) ∧
    (∀ level width, s.fld pPWR PWR_WCFG_WIMODE = 1 → s.bit pPWR PWR_WCFG_WIPOL = level → s.pwr.gz = 1 → 200 ≤ width →
      Completes (.wakeIn t (.edge level width)) s fun u =>
        u.pwr = { s.pwr with muslin := if s.pwr.muslin = 0 then 1 else s.pwr.muslin } ∧
        Changes (s.at_ t) u [.pwr] noField) ∧
    (∀ level samples, s.fld pPWR PWR_WCFG_WIMODE = 2 → s.bit pPWR PWR_WCFG_WIPOL = level → s.pwr.gz = 1 → 3 ≤ samples →
      Completes (.wakeIn t (.level level samples)) s fun u =>
        u.pwr = { s.pwr with muslin := if s.pwr.muslin = 0 then 1 else s.pwr.muslin } ∧
        Changes (s.at_ t) u [.pwr] noField) ∧
    (∀ level n, s.fld pPWR PWR_WCFG_WIMODE ≠ 1 ∨ n < 200 ∨ s.bit pPWR PWR_WCFG_WIPOL ≠ level →
      Completes (.wakeIn t (.edge level n)) s fun u => u = s.at_ t) ∧
    (∀ level n, s.fld pPWR PWR_WCFG_WIMODE ≠ 2 ∨ n < 3 ∨ s.bit pPWR PWR_WCFG_WIPOL ≠ level →
      Completes (.wakeIn t (.level level n)) s fun u => u = s.at_ t) ∧
    (∀ (i : Fin 16) d, detectCounts d (s.pinMode i.val) ((s.fld pPWR PWR_WPPOL_POL).testBit i.val) = false →
      Completes (.watchPin t i d) s fun u => u = s.at_ t)) ∧
  (∀ (s : State) (t : Time) (v : AdcIn) (n : Fin 16),
    s.pwr.up = true → s.clkOn pADC = true → s.bit pADC HDR_PG_CTRL_EN = true →
    let m := if s.pwr.adcMask = 0 then s.fld pADC ADC_CTRL_CHEN else s.pwr.adcMask
    m.testBit n.val = true → (∀ k < n.val, m.testBit k = false) → m < 2 ^ 16 →
    s.fld pADC (ADC_RES_LANES (n.val / 3)) < 2 ^ 30 →
    Completes (.adcConversion t v) s fun u =>
      bitsN (u.fld pADC (ADC_RES_LANES (n.val / 3))) (10 * (n.val % 3)) 10 =
        Nat.min 1023 (1024 * v.vin / v.vref) ∧
      (∀ k < 3, k ≠ n.val % 3 → bitsN (u.fld pADC (ADC_RES_LANES (n.val / 3))) (10 * k) 10 =
        bitsN (s.fld pADC (ADC_RES_LANES (n.val / 3))) (10 * k) 10) ∧
      (∀ j < 6, j ≠ n.val / 3 → u.fld pADC (ADC_RES_LANES j) = s.fld pADC (ADC_RES_LANES j)) ∧
      u.fld pADC ADC_STAT_LASTCH = n.val ∧ u.pwr = { s.pwr with adcMask := m - 2 ^ n.val } ∧
      (m = 2 ^ n.val → s.asserts u pADC ADC_E_SCAN))

/-- R329, R391, R394 to R397, R425: POR, which POR_B low for 2.5 µs causes and for 1.5 µs does not, leaves every register
at its reset value and keeps the flash and the fuses; warm and undervoltage resets, the latter of a rail low for 2 µs,
keep the Muslin domain too, and the first rail is recorded; a RESET write without its key resets
nothing; PERST_B resets the endpoint alone. Where the manual leaves a point open, this states the model's choice (log
entries 15, 149). -/
def Obligations.Resets : Prop := ∀ (s : State) (t : Time),
  (∀ i low, (∀ n, low = some n → 2500 ≤ n ∧ s.pwr.gz ≠ 4) → i = .por ⟨t, low⟩ ∨ i = .vccMusLoss t → s.pwr.up = false →
    Completes i s fun u =>
    (∀ p f, u.fld p f = resetVal p f) ∧ u.time = 0 ∧ u.frmState = 0 ∧ u.ctx = Ctx.reset ∧ u.jer = Jer.reset ∧
    u.plc = Plc.reset ∧ u.lnk = [] ∧ u.cfg = Cfg.reset ∧ u.twn = Twn.reset ∧ u.hst = Hst.reset ∧
    u.fls.mem = s.fls.mem ∧ u.fls.otp = s.fls.otp ∧ u.fls.dir = s.fls.dir ∧ u.pwr.fuse = s.pwr.fuse ∧ u.pwr.up = false ∧
    u.pwr.gz = (if i = .por ⟨t, low⟩ then 0 else 4) ∧ u.pwr.pfwBlock = false) ∧
  (∀ n, n ≤ 1500 ∨ s.pwr.gz = 4 → Completes (.por ⟨t, some n⟩) s fun u => u = s.at_ t) ∧
  (∀ v : Dword, (s.at_ t).writeOpen (pSYS * 4096 + 0x40) = true → s.pwr.gz ≠ 4 →
    (s.fls.run = none → SYS_RESET_KEY.of v.toNat = 0x3C5A → SYS_RESET_WARM.of v.toNat = 1 → Completes (.sysReset t v) s fun u =>
      s.restarted u 1) ∧
    (SYS_RESET_KEY.of v.toNat ≠ 0x3C5A ∨ SYS_RESET_WARM.of v.toNat = 0 → Completes (.sysReset t v) s fun u =>
      RaisesOnly (s.arrive t (pSYS * 4096 + 0x40) v.toNat) u pSYS SYS_E_RSTKEY)) ∧
  (∀ (rail : Fin 6) n, 2000 ≤ n → s.pwr.up = false ∨ s.fls.run = none → s.pwr.gz ≠ 4 →
    Completes (.undervoltageReset t ⟨rail, n⟩) s fun u =>
    s.restarted u 2 ∧ u.pwr.uvlo = some rail.val ∧ u.bit pERR ERR_UVLO_VALID = true ∧
    (s.bit pERR ERR_UVLO_VALID = false → u.fld pERR ERR_UVLO_RAIL = rail.val)) ∧
  (∀ (rail : Fin 6) n, n < 2000 → Completes (.undervoltageReset t ⟨rail, n⟩) s fun u => u = s.at_ t) ∧
  (Completes (.perst t) s fun u =>
    u.pwr = { s.pwr with perst := true, d3 := false } ∧ u.hst.hung = [] ∧ u.fab = { s.fab with hp := [] } ∧
    (∀ f, f.off < 4096 → f.lo < 32 → u.fld pPCI f = resetVal pPCI f) ∧ Changes (s.at_ t) u [.pwr, .hst, .fab] (pages [pPCI])) ∧
  (Completes (.perstRelease t) s fun u =>
    u.pwr = { s.pwr with perst := false } ∧ Changes (s.at_ t) u [.pwr] noField)

/-- R292, R383 to R385, R399, R401, R402: with MDLL0 and MDLL1 locked, a reference selected, PFW_B high and no transition to
finish, bring-up ends with READY and the life-cycle state of the fuses, and changes no record; the reference is REFCLK
where a check counts 2,900 to 3,200 of its edges, else the crystal where it counts 700 to 830 of its; without one, or
under PFW_B, bring-up does not end, host writes are
blocked, and a save of 2,048 bytes goes to the log-save area; PFW_B high for 1.0 ms with the rails within their limits
lifts the block. Where the manual leaves a point open, this states the model's choice (log entries 75, 77, 80, 81,
149). -/
def Obligations.ReadyAndPowerFail : Prop := ∀ (s : State) (t : Time) (env : FlashEnv) (bad : Bool) (refs : List (Nat × Nat)),
  (s.pwr.up = false → s.pwr.gz = 0 → s.pwr.kind = 0 → s.pwr.pfw = false → s.mdllOn 0 = true → s.mdllOn 1 = true →
    s.pwr.tripped = false → s.decodedState ≠ 4 → s.pendingState = none →
    (∀ v, s.refSel refs = some v → v < 3 → Completes (.ready t env [] ⟨bad, refs⟩) s fun u =>
      u.pwr.up = true ∧ u.pwr.gz = 0 ∧ u.pwr.lcs = s.decodedState ∧ u.ctx = s.ctx ∧ u.frm = s.frm ∧ u.lnk = s.lnk ∧
      u.time = s.timeAt t ∧ u.fld (pCLK 0) CLK_STAT_REFSEL = v) ∧
    (s.refSel refs = none → Completes (.ready t env [] ⟨bad, refs⟩) s fun u => u = s.at_ t)) ∧
  (∀ r x, s.fld (pCLK 0) CLK_STAT_REFSEL = 0 → (2900 ≤ r → r ≤ 3200 → s.refSel ((r, x) :: refs) = some 2) ∧
    (r < 2900 ∨ 3200 < r → 700 ≤ x → x ≤ 830 → s.refSel ((r, x) :: refs) = some 1) ∧
    (r < 2900 ∨ 3200 < r → x < 700 ∨ 830 < x → s.refSel ((r, x) :: refs) = s.refSel refs)) ∧
  (s.pwr.up = true ∨ s.pwr.pfw = true → ∀ ups, Completes (.ready t env ups ⟨bad, refs⟩) s fun u => u = s.at_ t) ∧
  (∀ n, 1200 ≤ n → s.pwr.up = true → s.pwr.gz = 0 → s.pwr.pfw = false → s.fls.run = none →
    Completes (.pfwAssert ⟨t, n⟩) s fun u =>
    u.pwr.pfw = true ∧ u.pwr.pfwBlock = true ∧ u.fls.run = none ∧ u.fls.queue = [] ∧
    (s.fls.saves.length < 512 → (∀ b, s.fls.bg = some b → b.op ≠ 3) → ∃ page, u.fls.saves = page :: s.fls.saves ∧ page.length = 2048 ∧
      leNum (page.take 4) = 0x5A3C96E1) ∧ u.ctx = s.ctx ∧ u.frm = s.frm) ∧
  (∀ n, n < 800 → Completes (.pfwAssert ⟨t, n⟩) s fun u => u = s.at_ t) ∧
  (∀ n, 1000000 ≤ n → Completes (.pfwRelease ⟨t, n, true⟩) s fun u =>
    u.pwr = { s.pwr with pfw := false, pfwBlock := false } ∧ Changes (s.at_ t) u [.pwr] noField) ∧
  (∀ n rails, n < 1000000 ∨ rails = false → Completes (.pfwRelease ⟨t, n, rails⟩) s fun u => u = s.at_ t)

/-! ## Life cycle (spec/14_lifecycle.md) -/

/-- R333 to R337, R339, R345: a transition that the rules permit blows the fuses of both copies and restarts the device,
with the keyed part of the OTP row wiped for RETURN and SCRAP; one that loses power in a step leaves the steps before it
done, the fuses that it had blown in that step and none of the later steps; one that they refuse gives its status and
blows nothing;
a certificate is in force exactly when its format, its signer and its signature check. Where the manual leaves a point
open, this states the model's choice (log entries 81, 83, 84, 152). -/
def Obligations.LifeCycle : Prop := ∀ (s : State) (t : Time),
  (∀ (v : Dword) env, (s.at_ t).writeOpen (pLCS * 4096 + 0x44) = true → s.pwr.trans = none →
    (∀ tgt, (s.arrive t (pLCS * 4096 + 0x44) v.toNat).checkTransition v.toNat = .inl tgt → s.fls.bg = none →
      Completes (.lcsTransition t v env (false, false) none) s fun u =>
        u.fuses 0 tgt = 8 ∧ u.fuses 1 tgt = 8 ∧ u.fuses 2 tgt = 8 ∧ tgt ≤ u.decodedState ∧ u.pwr.kind = 1 ∧
        u.pwr.up = false ∧ u.ctx = Ctx.reset ∧ u.fld pLCS LCS_TSTAT_STATUS = stOK ∧
        (tgt = 3 ∨ tgt = 4 → (∀ a, 0x120 ≤ a → a < 0x400 → u.otpByte a = 0) ∧ u.fls.dir = []) ∧
        (tgt ≤ 2 → u.fls.mem = s.fls.mem ∧ u.fls.otp = s.fls.otp)) ∧
    (∀ tgt bad (k : Fin 4) n, (s.arrive t (pLCS * 4096 + 0x44) v.toNat).checkTransition v.toNat = .inl tgt →
      s.fls.bg = none → Completes (.lcsTransition t v env bad (some ⟨k, n⟩)) s fun u =>
        u.pwr.gz = 4 ∧ u.pwr.up = false ∧ u.time = 0 ∧ (k.val ≤ 1 → u.decodedState = s.decodedState) ∧
        u.fuses 2 tgt = (if k.val = 0 then Nat.max (s.fuses 2 tgt) (Nat.min 8 n) else 8) ∧
        (k.val = 0 ∨ tgt ≤ 2 → u.fls.mem = s.fls.mem ∧ u.fls.otp = s.fls.otp) ∧
        (2 ≤ k.val → tgt = 3 ∨ tgt = 4 → (∀ a, 0x120 ≤ a → a < 0x400 → u.otpByte a = 0) ∧ u.fls.dir = []) ∧
        (k.val = 2 → u.fuses 0 tgt = Nat.max (s.fuses 0 tgt) (Nat.min 8 n) ∧ u.fuses 1 tgt = s.fuses 1 tgt) ∧
        (k.val = 3 → (bad.1 = false → u.fuses 0 tgt = 8) ∧
          u.fuses 1 tgt = Nat.max (s.fuses 1 tgt) (Nat.min 8 n))) ∧
    (∀ st, (s.arrive t (pLCS * 4096 + 0x44) v.toNat).checkTransition v.toNat = .inr st →
      Completes (.lcsTransition t v env (false, false) none) s fun u =>
        u.fld pLCS LCS_TSTAT_STATUS = st ∧ s.flags u pLCS LCS_E_TREF ∧ u.pwr = s.pwr ∧ u.fls = s.fls)) ∧
  (∀ cur tgt, permitted cur tgt = true → cur < tgt ∧ tgt ≤ 4) ∧
  ((s.at_ t).writeOpen (pLCS * 4096 + 0x60) = true →
    (s.pwr.certBusy = false → Completes (.certcmdVerify t) s fun u =>
      u.pwr = { s.pwr with certBusy := true } ∧ u.fld pLCS LCS_CERTSTAT_STATUS = stBUSY ∧
      Changes (s.arrive t (pLCS * 4096 + 0x60) 1) u [.pwr] (fields [(pLCS, LCS_CERTSTAT_STATUS)])) ∧
    (Completes (.certcmdClear t) s fun u => u.pwr = { s.pwr with certIn := none } ∧
      Changes (s.arrive t (pLCS * 4096 + 0x60) 2) u [.pwr] noField)) ∧
  (s.pwr.certBusy = true → Completes (.certVerifyDone t) s fun u =>
    (u.fld pLCS HDR_PG_IRQST_ST).testBit LCS_E_CERTDONE = true ∧
    if s.certFormat = true ∧ s.certAllowed = true ∧ s.certSigned = true then
      u.pwr = { s.pwr with
        certBusy := false
        certIn := some (s.certByte 4, s.certByte 5, s.certByte 0x18, s.certByte 0x19, beNum (s.certBytes 0x20 32)) } ∧
      u.fld pLCS LCS_CERTSTAT_STATUS = stOK ∧ s.asserts u pLCS LCS_E_CERTDONE
    else
      u.pwr = { s.pwr with certBusy := false } ∧ s.flags u pLCS LCS_E_CERTREF ∧
      u.fld pLCS LCS_CERTSTAT_STATUS = (if s.certFormat = false then stBADARG
        else if s.certAllowed = false then stLCS else stSIGFAIL))

/-! ## Twin pairs (spec/15_twin.md) -/

/-- R350, R367, R369, R370: a unit joins as primary or as standby when every condition holds, and otherwise keeps its
role and gives the first cause that fails; LEAVE makes it SOLO; SWITCH waits for the next frame start of a paired
primary with an eligible standby. Where the manual leaves a point open, this states the model's choice (log entries 10,
87, 88, 89). -/
def Obligations.JoinAndLeave : Prop := ∀ (s : State) (t : Time), (s.at_ t).writeOpen (pTWN * 4096 + 0x44) = true →
  let a := s.at_ t
  (s.role ≠ 0 → Completes (.joinpri t) s (a.notJoined 1) ∧ ∀ same, Completes (.joinstby t same) s (a.notJoined 1)) ∧
  (s.role = 0 →
    (s.pwr.faultB = true → Completes (.joinpri t) s (a.notJoined 7)) ∧
    (s.pwr.faultB = false → Completes (.joinpri t) s fun u =>
      u.role = 1 ∧ Changes a u [] (fields [(pTWN, TWN_STAT_ROLE)])) ∧
    (∀ same, s.frmState ≠ 0 → Completes (.joinstby t same) s (a.notJoined 2)) ∧
    (s.frmState = 0 →
      (∀ same (l : Link), s.bit (pUL l.val) HDR_PG_CTRL_EN = true → Completes (.joinstby t same) s (a.notJoined 3)) ∧
      ((∀ l < 128, s.bit (pUL l) HDR_PG_CTRL_EN = false) →
        (∀ same, s.bit pTWN TWN_STAT_LINKUP = false → Completes (.joinstby t same) s (a.notJoined 4)) ∧
        (s.bit pTWN TWN_STAT_LINKUP = true →
          (∀ same, s.bit pTWN TWN_STAT_PHLTH = false ∨ s.twn.liveAt = none →
            Completes (.joinstby t same) s (a.notJoined 5)) ∧
          (∀ same p, s.twn.liveAt = some p → p + Nat.max 50500 s.fallbackNs < a.time →
            Completes (.joinstby t same) s (a.notJoined 5)) ∧
          (∀ p, s.bit pTWN TWN_STAT_PHLTH = true → s.twn.liveAt = some p → a.time ≤ p + Nat.max 50500 s.fallbackNs →
            Completes (.joinstby t false) s (a.notJoined 6) ∧
            (s.pwr.faultB = true → Completes (.joinstby t true) s (a.notJoined 7)) ∧
            (s.pwr.faultB = false → Completes (.joinstby t true) s fun u =>
              u.role = 2 ∧ u.fld pTWN TWN_STAT_SSTATE = 1 ∧ u.fld pTWN TWN_JOINSTAT_PCT = 0 ∧
              u.twn.xfer = 0 ∧ u.twn.matched = false ∧ u.twn.miss = 0 ∧
              Changes a u [.twn] (fields [(pTWN, TWN_STAT_ROLE), (pTWN, TWN_STAT_SSTATE),
                (pTWN, TWN_JOINSTAT_PCT)]))))))) ∧
  (s.role = 0 → Completes (.leave t) s fun u => u = a) ∧
  (s.role = 1 → s.twn.held = [] → Completes (.leave t) s fun u =>
    u.role = 0 ∧ u.fld pTWN TWN_STAT_PAIRED = 0 ∧ u.frmState = s.frmState) ∧
  (s.role = 2 → Completes (.leave t) s fun u =>
    u.role = 0 ∧ u.fld pTWN TWN_STAT_SSTATE = 0 ∧ u.frmState = s.frmState ∧
    u.ctx = { s.ctx with fill := s.twn.local_ } ∧ u.fld pFRM FRM_STAT_SRCACT = s.twn.srcFwd % 4) ∧
  (s.role = 3 → Completes (.leave t) s fun u =>
    u.role = 0 ∧ u.frm = s.frm ∧ Changes a u [.twn] (fields [(pTWN, TWN_STAT_ROLE)])) ∧
  (s.role = 1 → s.bit pTWN TWN_STAT_PAIRED = true → Completes (.switch t true) s fun u =>
    u.twn = { s.twn with switch := true } ∧ Changes a u [.twn] noField) ∧
  (∀ e, s.role ≠ 1 ∨ s.bit pTWN TWN_STAT_PAIRED = false ∨ e = false → Completes (.switch t e) s fun u =>
    RaisesOnly a u pTWN TWN_E_JOINREF)

/-- R55, R350, R351, R362: the pair link comes up, and a standby that had been in step then asks for a transfer; it goes
down when a lane loses block lock or at the eighth resend in a row, and what waited for the standby does not wait on; an
acknowledgement of the oldest parcel lets what waits for it go on, and in RUN a write that waited for it takes effect at
the next boundary. R350, R359 to R361: a state transfer gives the
standby the primary's items and its partner PAIRED; the standby is in RESYNC until it has caught up, and then SYNCED.
Where the manual leaves a point open, this states the model's choice (log entries 10, 86, 90, 91, 94, 135). -/
def Obligations.PairLinkAndTransfer : Prop :=
  (∀ (s : State) (t : Time),
    (∀ h, s.clkOn pTWN = true → s.bit pTWN TWN_STAT_LINKUP = false → Completes (.pairLinkUp t h) s fun u =>
      u.fld pTWN TWN_STAT_LINKUP = 1 ∧ u.fld pTWN TWN_STAT_LANES = 15 ∧ u.bit pTWN TWN_STAT_PHLTH = h ∧
      u.twn.resends = 0 ∧ u.fld pTWN TWN_STAT_SSTATE = (if s.role = 2 ∧ 2 ≤ s.fld pTWN TWN_STAT_SSTATE then 2
        else s.fld pTWN TWN_STAT_SSTATE) ∧
      (s.role = 2 → 2 ≤ s.fld pTWN TWN_STAT_SSTATE → u.twn.xfer = 0 ∧ u.twn.matched = false) ∧
      Changes (s.at_ t) u [.twn] (fields [(pTWN, TWN_STAT_LINKUP), (pTWN, TWN_STAT_LANES), (pTWN, TWN_STAT_PHLTH),
        (pTWN, TWN_STAT_SSTATE)])) ∧
    (∀ lanes, s.clkOn pTWN = true →
      (lanes = 15 ∨ s.bit pTWN TWN_STAT_LINKUP = false → Completes (.pairdown t lanes) s fun u =>
        u.fld pTWN TWN_STAT_LANES = lanes.toNat ∧ Changes (s.at_ t) u [] (fields [(pTWN, TWN_STAT_LANES)])) ∧
      (lanes ≠ 15 → s.bit pTWN TWN_STAT_LINKUP = true →
        (s.role = 1 → s.twn.held = [] → Completes (.pairdown t lanes) s fun u =>
          u.fld pTWN TWN_STAT_LINKUP = 0 ∧ u.fld pTWN TWN_STAT_PAIRED = 0 ∧ u.twn.out = [] ∧ u.role = 1) ∧
        (s.role ≠ 1 → Completes (.pairdown t lanes) s fun u =>
          u.fld pTWN TWN_STAT_LINKUP = 0 ∧ u.twn = { s.twn with out := [], resends := 0 } ∧
          s.flags u pTWN TWN_E_PAIRDOWN ∧ s.counts u pERR ERR_CLASSCNT_CONTAINED ∧ u.role = s.role))) ∧
    (s.bit pTWN TWN_STAT_LINKUP = true → s.twn.out ≠ [] →
      (s.twn.resends < 7 → Completes (.parcelResend t) s fun u =>
        u.twn = { s.twn with resends := s.twn.resends + 1 } ∧ s.counts u pTWN TWN_CNT2_RETRY ∧
        Changes (s.at_ t) u [.twn] (fields [(pTWN, TWN_CNT2_RETRY)])) ∧
      (7 ≤ s.twn.resends → s.role ≠ 1 → Completes (.parcelResend t) s fun u =>
        u.fld pTWN TWN_STAT_LINKUP = 0 ∧ u.twn.out = [] ∧ s.flags u pTWN TWN_E_PAIRDOWN)) ∧
    (s.twn.out = [] → Completes (.parcelResend t) s (fun u => u = s.at_ t) ∧
      Completes (.mirrorAck t) s (fun u => u = s.at_ t)) ∧
    (∀ n x xs, s.twn.out = (n, x) :: xs →
      (∀ off v l ms, x = .bar2 off v ∨ x = .training l ms ∨ (x = .reg off v ∧ ∀ h ∈ s.twn.held, h.1 ≠ n) ∨
          (x = .place off v ∧ s.frmState ≠ 0 ∧ s.windowOpen = false) → Completes (.mirrorAck t) s fun u =>
        u.twn = { s.twn with out := xs, resends := 0 } ∧ Changes (s.at_ t) u [.twn] noField) ∧
      (∀ off v, x = .reg off v → s.frmState = 1 → Completes (.mirrorAck t) s fun u =>
        u.twn = { s.twn with
          out := xs, resends := 0, held := s.twn.held.filter fun h => h.1 ≠ n
          due := s.twn.due ++ s.twn.held.filter fun h => h.1 = n } ∧ Changes (s.at_ t) u [.twn] noField) ∧
      (∀ id, x = .group id → Completes (.mirrorAck t) s fun u =>
        u.twn = { s.twn with out := xs, resends := 0 } ∧ (∀ g ∈ u.ctx.waiting, g.id = id → g.mirrored = true) ∧
        u.ctx.store = s.ctx.store ∧ u.plc = s.plc) ∧
      (∀ set, x = .actSet → s.windowOpen = false → s.cfg.as = some set → Completes (.mirrorAck t) s fun u =>
        u.cfg = { s.cfg with as := some { set with mirrored := true } } ∧ u.fab = s.fab))) ∧
  (∀ (s : State) (t : Time),
    (∀ x, s.bit pTWN TWN_STAT_LINKUP = false → Completes (.stateTransfer t x) s fun u => u = s.at_ t) ∧
    (∀ x, s.bit pTWN TWN_STAT_LINKUP = true → s.role = 1 → Completes (.stateTransfer t x) s fun u =>
      u.fld pTWN TWN_STAT_PAIRED = 1 ∧ Changes (s.at_ t) u [] (fields [(pTWN, TWN_STAT_PAIRED)])) ∧
    (∀ x : XferIn, s.bit pTWN TWN_STAT_LINKUP = true → s.role = 2 → s.fld pTWN TWN_STAT_SSTATE ≠ 3 →
      (x.words.map fun e => e.1.val).Nodup → (x.quar.map fun e => e.1.val).Nodup →
      Completes (.stateTransfer t (some x)) s fun u =>
        u.role = 2 ∧ u.fld pTWN TWN_STAT_SSTATE = 2 ∧ u.fld pTWN TWN_JOINSTAT_PCT = 100 ∧ u.twn.xfer = 1 ∧
        u.twn.xferAt = s.timeAt t ∧ (∀ e ∈ x.words, SMap.get 0 u.ctx.store e.1.val = e.2) ∧
        (∀ k, (∀ e ∈ x.words, e.1.val ≠ k) → SMap.get 0 u.ctx.store k = 0) ∧ u.ctx.ecc = [] ∧
        (∀ e ∈ x.quar, SMap.get 0 u.ctx.quar e.1.val = e.2.toNat + 1) ∧
        u.ctx.waiting.map Group.id = x.groups.map (fun g => g.1.toNat) ∧ u.cfg = s.cfg ∧ u.fab = s.fab ∧ u.lnk = s.lnk ∧
        u.plc.allocs.map Alloc.id = x.allocs.map (fun a => a.1.val) ∧
        (x.frame = none → u.frm.inFrame = false ∧ u.twn.replay = none) ∧
        (∀ r, x.frame = some r → x.regs = [] → s.frmState = 1 → u.frm.inFrame = true ∧ u.fn = r.fn.toNat ∧
          u.jer.snap = SMap.putAll 0 [] 0 r.snap ∧
          ∃ full, u.twn.replay = some ((x.tags.filter fun y => y.2 = 0).map (fun y => u.phys y.1.val), full))) ∧
    (s.role = 2 → s.fld pTWN TWN_STAT_SSTATE = 2 → s.twn.xfer = 1 → s.twn.replay = none → Completes (.synced t) s fun u =>
      u.fld pTWN TWN_STAT_SSTATE = 3 ∧ u.twn = { s.twn with matched := false, cmpFrom := (s.at_ t).syncFn } ∧
      u.fld pTWN TWN_RSYNC_LAST = Nat.min 65535 ((s.timeAt t - s.twn.xferAt) / 10000) ∧
      u.fld pTWN TWN_RSYNC_COUNT = (s.fld pTWN TWN_RSYNC_COUNT + 1) % 65536 ∧ s.asserts u pTWN TWN_E_SYNCDONE) ∧
    (s.role ≠ 2 ∨ s.fld pTWN TWN_STAT_SSTATE ≠ 2 ∨ s.twn.xfer ≠ 1 ∨ s.twn.replay.isSome = true → Completes (.synced t) s fun u => u = s.at_ t))

/-- R353 to R355: between frames a standby that follows starts the frame of a record, with its number and its angle
snapshots, and notes its lag; a record for another frame, or a second one while one waits, counts as missed; a batch of
samples waits under its number for the record that names it. R55, R151, R186, R264, R352, R361: a standby applies a
forwarded write as it stands, but a pin, an exclusion or an allocation in RUN at the next boundary, closes a forwarded
group under the primary's ID, holds a forwarded placement, and takes a link's training; what it cannot apply sends it back to the wait for a transfer. A unit that is no standby, or whose pair
link is down, does nothing. Where the manual leaves a point open, this states the model's choice (log entries 92, 93,
96). -/
def Obligations.StandbyFollows : Prop :=
  (∀ (s : State) (t : Time),
    (∀ r, s.role ≠ 2 ∨ s.twn.xfer ≠ 1 ∨ s.frmState ≠ 1 ∨ s.bit pTWN TWN_STAT_LINKUP = false →
      Completes (.frameRecord t r) s fun u => u = s.at_ t) ∧
    (∀ r : RecIn, s.role = 2 → s.twn.xfer = 1 → s.frmState = 1 → s.bit pTWN TWN_STAT_LINKUP = true →
      (∀ g, s.twn.gotRec = some g → Completes (.frameRecord t r) s fun u =>
        u.twn = { s.twn with miss := 0, missed := true, expect := [] } ∧ Changes (s.at_ t) u [.twn] noField) ∧
      (s.twn.gotRec = none → (∀ e < 32, r.visits.getD e 0 = 0) →
        (s.nextFn ≠ r.fn.toNat → Completes (.frameRecord t r) s fun u =>
          u.twn = { s.twn with miss := 0, missed := true, expect := [] } ∧ Changes (s.at_ t) u [.twn] noField) ∧
        (s.nextFn = r.fn.toNat → r.sw = false → s.frm.inFrame = false → (∀ e < 32, (s.engine e).wbs = []) →
          s.pwr.faultB = false → s.frm.roleHold = false → s.bit pFRM FRM_STAT_HOLDREQ = false → s.twn.switch = false →
          r.lat ≤ s.time → Completes (.frameRecord t r) s fun u =>
            u.fn = r.fn.toNat ∧ u.fld pFRM FRM_STAT_IDLE = r.idle.toNat ∧ u.frm.start = s.timeAt t ∧
            u.frm.inFrame = true ∧ u.jer.snap = SMap.putAll 0 [] 0 r.snap ∧ u.twn.gotRec = none ∧ u.role = 2 ∧
            u.fld pTWN TWN_LAG_NOW = Nat.min 65535 (r.lat / 10))) ∧
      (∀ e < 32, s.twn.gotRec = none → s.twn.replay = none → (s.engine e).wbs.length < r.visits.getD e 0 → (s.engine e).busy = true →
        Completes (.frameRecord t r) s fun u => u.frm = s.frm ∧ u.fn = s.fn ∧ u.twn.gotRec.isSome = true ∧
          Changes (s.at_ t) u [.twn] noField)) ∧
    (∀ n (l : Link) x m, s.role = 2 → s.bit pTWN TWN_STAT_LINKUP = true → (s.link l.val).mods[x.pos.val]? = some m →
      Completes (.sampleBatch t n l x) s fun u =>
        (∃ xs, u.twn = { s.twn with batch := n, batches := s.twn.batches ++ [(n, xs)] } ∧
          ∀ k v, (k, v) ∈ xs ↔ ∃ i, x.samples[i]? = some (some v) ∧ k = l.val * 384 + m.first + i) ∧
        Changes (s.at_ t) u [.twn] noField) ∧
    (∀ n (l : Link) x, s.role ≠ 2 ∨ s.bit pTWN TWN_STAT_LINKUP = false →
      Completes (.sampleBatch t n l x) s fun u => u = s.at_ t)) ∧
  (∀ (s : State) (t : Time),
    (∀ op, s.role ≠ 2 ∨ s.bit pTWN TWN_STAT_LINKUP = false → Completes (.forwardedWrite t op) s fun u => u = s.at_ t) ∧
    (s.role = 2 → s.bit pTWN TWN_STAT_LINKUP = true →
      (∀ off v, forwarded off.toNat = false → Completes (.forwardedWrite t (.reg off v)) s fun u => u = s.at_ t) ∧
      (∀ off v, forwarded off.toNat = true → s.clkOn (off.toNat / 4096) = false →
        Completes (.forwardedWrite t (.reg off v)) s fun u =>
          u.fld pTWN TWN_STAT_SSTATE = 1 ∧ u.twn = { s.twn with xfer := 0, matched := false, gotRec := none } ∧
          u.frm = s.frm ∧ u.ctx = s.ctx ∧ u.plc = s.plc) ∧
      (∀ (off : BitVec 21) v, off.toNat / 4096 = pPLC → mirrored (off.toNat % 4096) = true → s.clkOn pPLC = true →
        s.frmState = 1 → Completes (.forwardedWrite t (.reg off v)) s fun u =>
          u.twn = { s.twn with
            due := s.twn.due ++ [(0, off.toNat % 4096, v.toNat, s.fld pPLC PLC_HIDX_HANDLE)] } ∧
          Changes (s.at_ t) u [.twn] noField) ∧
      (∀ v, s.clkOn pFRM = true → Completes (.forwardedWrite t (.reg 0x604C v)) s fun u =>
        u.fld pFRM FRM_MINPER_VALUE = Nat.max 5000 (v.toNat % 2 ^ 20) ∧
        u.frm = { s.frm with admQ := s.frm.admQ ++ [.minper (Nat.max 5000 (v.toNat % 2 ^ 20))] } ∧
        Changes (s.at_ t) u [.frm] (fields [(pFRM, FRM_MINPER_VALUE)])) ∧
      (∀ (off : BitVec 26) (v : Half), off.toNat / 128 < 49152 → hostWord (off.toNat % 128 / 2) = true →
        s.ctx.open_.length < 4096 → s.bit pCTX CTX_GOPEN_OVF = false →
        Completes (.forwardedWrite t (.bar2 off v)) s fun u =>
          u.ctx = { s.ctx with
            open_ := s.ctx.open_ ++ [.put (off.toNat / 128) (off.toNat % 128 / 2) (v.setWidth 10)] } ∧
          Changes (s.at_ t) u [.ctx] noField) ∧
      (∀ id : BitVec 16, s.twn.xfer = 1 → id.toNat = (if s.ctx.lastId = 65535 then 1 else s.ctx.lastId + 1) →
        Completes (.forwardedWrite t (.group id)) s fun u =>
          u.ctx.lastId = id.toNat ∧ u.ctx.open_ = [] ∧ u.ctx.store = s.ctx.store ∧ u.plc = s.plc) ∧
      (∀ h slot, s.twn.xfer = 1 → s.frmState ≠ 0 → Completes (.forwardedWrite t (.place h slot)) s fun u =>
        u.plc = { s.plc with migs := (s.plc.migs.filter fun x => x.handle ≠ h.val) ++
          [⟨h.val, slot.val, .balance, true, 0, false⟩] } ∧ Changes (s.at_ t) u [.plc] noField) ∧
      (s.twn.xfer = 1 →
        (s.cfg.as.isSome = true → Completes (.forwardedWrite t .actSet) s fun u => u = s.at_ t) ∧
        (s.cfg.as = none → Completes (.forwardedWrite t .actSet) s fun u =>
          u.fld pTWN TWN_STAT_SSTATE = 1 ∧ u.twn = { s.twn with xfer := 0, matched := false, gotRec := none } ∧
          u.cfg = s.cfg)) ∧
      (∀ (l : Link) recs, recs.length ≤ 8 → Completes (.forwardedWrite t (.training l recs)) s fun u =>
        u.fld (pUL l.val) UL_STAT_STATE = 2 ∧ u.fld (pUL l.val) UL_STAT_MODCNT = recs.length ∧
        (u.link l.val).mods.map Module.count = recs.map (fun r => r.count.toNat) ∧
        (∀ k, k ≠ l.val → u.link k = s.link k))))

/-- R348, R363 to R366: an expected frame start that neither a record nor a pulse meets within HBWIN is a miss, and the
second in a row makes an eligible standby promote itself; so does partner HLTH low for 1.0 µs; it watches the partner's
LIVE for 2.0 µs, and a pulse in them stops it; a primary that sees a pulse of 40 ns is fenced and stops sending; in STOP
and HOLD a primary's own pulses are 50.0 µs apart, less 1 % at most. Where the manual leaves a point open, this states
the model's choice (log entries 10, 86, 87, 94, 95, 151). -/
def Obligations.Failover : Prop := ∀ (s : State) (t : Time), let now := s.timeAt t
  let e := s.expected
  (s.role ≠ 2 ∨ s.frmState ≠ 1 ∨ s.twn.xfer = 0 ∨ now < e + s.hbWin →
    Completes (.heartbeatMiss t) s fun u => u = s.at_ t) ∧
  (s.role = 2 → s.frmState = 1 → s.twn.xfer ≠ 0 → e + s.hbWin ≤ now →
    (s.twn.gotRec.isSome = true ∨ s.beatAt e s.frm.last = true → Completes (.heartbeatMiss t) s fun u =>
      u.twn = (s.passStart e).twn ∧ Changes (s.at_ t) u [.twn] noField) ∧
    (s.twn.gotRec = none → s.beatAt e s.frm.last = false → s.beatAt e s.twn.liveAt = false →
      Completes (.heartbeatMiss t) s fun u =>
        u.twn = { (s.passStart e).twn with
          miss := s.twn.miss + 1
          promo := if 2 ≤ s.twn.miss + 1 ∧ s.bit pTWN TWN_CTRL_AUTOPROMO = true ∧ s.inelig = 0 then 1
            else s.twn.promo
          promoAt := if 2 ≤ s.twn.miss + 1 ∧ s.bit pTWN TWN_CTRL_AUTOPROMO = true ∧ s.inelig = 0 then now
            else s.twn.promoAt } ∧
        s.counts u pTWN TWN_CNT1_HBMISS ∧ s.flags u pTWN TWN_E_HBMISS ∧ s.counts u pERR ERR_CLASSCNT_CONTAINED ∧
        u.frm = s.frm ∧ u.ctx = s.ctx)) ∧
  (∀ n, s.clkOn pTWN = true → Completes (.partnerHlthLow ⟨t, n⟩) s fun u =>
    u.fld pTWN TWN_STAT_PHLTH = 0 ∧
    u.twn = (if 1000 ≤ n ∧ s.bit pTWN TWN_CTRL_FLTPROMO = true ∧ s.inelig = 0 then
      { s.twn with promo := 2, promoAt := now } else s.twn) ∧
    Changes (s.at_ t) u [.twn] (fields [(pTWN, TWN_STAT_PHLTH)])) ∧
  (∀ b, s.role ≠ 2 ∨ s.twn.promo = 0 → Completes (.promotion t b) s fun u => u = s.at_ t) ∧
  (s.role = 2 → s.twn.promo ≠ 0 → s.frm.inFrame = false →
    (∀ b, b = true ∨ (∃ a, s.twn.liveAt = some a ∧ s.twn.promoAt ≤ a) → Completes (.promotion t b) s fun u =>
      u.role = 2 ∧ s.flags u pTWN TWN_E_SPLIT ∧ u.twn = { s.twn with promo := 0, miss := 0, missed := true } ∧
      u.frm = s.frm) ∧
    ((∀ a, s.twn.liveAt = some a → a < s.twn.promoAt) → now < s.twn.promoAt + 2000 →
      Completes (.promotion t false) s fun u => u = s.at_ t) ∧
    ((∀ a, s.twn.liveAt = some a → a < s.twn.promoAt) → s.twn.promoAt + 2000 ≤ now →
      (s.frmState ≠ 1 → Completes (.promotion t false) s fun u =>
        u.role = 1 ∧ u.frmState = s.frmState ∧ u.fld pTWN TWN_STAT_SSTATE = 0 ∧ s.asserts u pTWN TWN_E_PROMOTED ∧
        s.counts u pTWN TWN_CNT2_FOVCNT ∧ u.fld pTWN TWN_FOVLAST_CAUSE = s.twn.promo % 8 ∧
        u.ctx.fill = s.twn.local_ ∧ u.twn.pulses = s.twn.pulses + 1) ∧
      (s.frmState = 1 → s.pwr.faultB = false → s.frm.roleHold = false → s.bit pFRM FRM_STAT_HOLDREQ = false →
        Completes (.promotion t false) s fun u =>
          u.role = 1 ∧ u.fn = s.nextFn % 2 ^ 48 ∧ u.frm.start = now ∧ u.frm.inFrame = true ∧
          u.fld pFRM FRM_STAT_IDLE = 0))) ∧
  (∀ n h, s.clkOn pTWN = true →
    (s.role ≠ 1 ∨ n < 40 → Completes (.partnerLive t ⟨n, h⟩) s fun u =>
      u.bit pTWN TWN_STAT_PHLTH = h ∧ u.twn = { s.twn with liveAt := if n < 40 then s.twn.liveAt else some now } ∧
      Changes (s.at_ t) u [.twn] (fields [(pTWN, TWN_STAT_PHLTH)])) ∧
    (s.role = 1 → 40 ≤ n → s.twn.held = [] → Completes (.partnerLive t ⟨n, h⟩) s fun u =>
      u.role = 3 ∧ (u.fld pTWN HDR_PG_ERR_ERR).testBit TWN_E_FENCED = true ∧ u.fld pTWN TWN_STAT_PAIRED = 0 ∧
      (∀ l, (u.link l).txOn = false ∧ (u.link l).emitAt = none) ∧ (s.frmState = 1 → u.frm.roleHold = true) ∧
      (s.frmState = 0 → u.frmState = 2 ∧ u.fld pFRM FRM_STAT_HOLDCAUSE = 5))) ∧
  (s.role = 1 → s.frmState ≠ 1 → (∀ a, s.twn.pulseAt = some a → a + 49500 ≤ now) → Completes (.livePulse t) s fun u =>
    u.twn = { s.twn with pulses := s.twn.pulses + 1, pulseAt := some now } ∧ Changes (s.at_ t) u [.twn] noField) ∧
  (s.role ≠ 1 ∨ s.frmState = 1 ∨ (∃ a, s.twn.pulseAt = some a ∧ now < a + 49500) → Completes (.livePulse t) s fun u => u = s.at_ t)

/-! ## Environment, log and host (spec/16_errors.md, spec/18_host.md) -/

/-- R389, R390, R392: a reading outside bring-up shows every region's temperature and the highest of them; a region at
115 °C or above in two readings running trips the device; supply samples that spread by 20 mV or more warn once, until
they spread by less than 17.5 mV. R378, R379, R381: a write of USER puts an entry with its value at WRPTR and moves
WRPTR on; in a frozen ring it is counted as dropped instead; UNFREEZE ends the freeze. Where the manual leaves a point
open, this states the model's choice (log entries 10, 79, 99). -/
def Obligations.EnvironmentAndLog : Prop :=
  (∀ (s : State) (t : Time),
    (∀ temps : List (Fin 1024), let at_ (r : Nat) : Nat := (temps.getD r 0).val
      (s.pwr.gz = 2 ∨ s.pwr.gz = 4 → Completes (.thermalRead t temps) s fun u => u = s.at_ t) ∧
      (s.pwr.gz ≠ 2 → s.pwr.gz ≠ 4 → s.pwr.up = false → Completes (.thermalRead t temps) s fun u =>
        (∀ r < 64, u.pwr.hot.testBit r = decide (620 ≤ at_ r)) ∧ (u.pwr.warm = true ↔ ∃ r < 64, 580 ≤ at_ r) ∧
        Changes (s.at_ t) u [.pwr] noField) ∧
      (s.pwr.gz ≠ 2 → s.pwr.gz ≠ 4 → s.pwr.up = true → Completes (.thermalRead t temps) s fun u =>
        (∀ r < 64, u.fld (pRGN r) RGN_STAT_TEMP = at_ r ∧ at_ r ≤ u.fld pERR ERR_THERM_TMAX) ∧
        u.fld pERR ERR_THERM_REGION < 64 ∧ at_ (u.fld pERR ERR_THERM_REGION) = u.fld pERR ERR_THERM_TMAX ∧
        (∀ r < 64, 620 ≤ at_ r → s.pwr.hot.testBit r = true → s.pwr.tripped = false →
          u.pwr.faultB = true ∧ u.pwr.tripped = true ∧ u.fld pERR ERR_THERM_TRIP = 1 ∧
          (u.fld pERR HDR_PG_ERR_ERR).testBit ERR_E_THERM = true) ∧
        ((∀ r < 64, 620 ≤ at_ r → s.pwr.hot.testBit r = false) →
          u.pwr.faultB = s.pwr.faultB ∧ u.pwr.tripped = s.pwr.tripped ∧ u.frm = s.frm ∧ u.lnk = s.lnk))) ∧
    (∀ (mv : List Nat) hi lo, s.pwr.up = true → hi ∈ mv → lo ∈ mv → (∀ x ∈ mv, lo ≤ x ∧ x ≤ hi) →
      Completes (.marginCheck t mv) s fun u =>
        u.fld pERR ERR_MARGIN_DV = Nat.min 255 ((hi - lo) / 10) ∧
        (200 ≤ hi - lo → s.pwr.armV = true → s.flags u pERR ERR_E_MARGIN ∧ u.pwr = { s.pwr with armV := false }) ∧
        (200 ≤ hi - lo → s.pwr.armV = false → Changes (s.at_ t) u [] (fields [(pERR, ERR_MARGIN_DV)])) ∧
        (hi - lo < 175 → u.pwr = { s.pwr with armV := true } ∧
          Changes (s.at_ t) u [.pwr] (fields [(pERR, ERR_MARGIN_DV)]))) ∧
    (∀ mv, s.pwr.up = false → Completes (.marginCheck t mv) s fun u => u = s.at_ t)) ∧
  (∀ (s : State) (t : Time),
    (∀ v : Dword, (s.at_ t).writeOpen (pLOG * 4096 + 0x64) = true →
      (s.bit pLOG LOG_STAT_FROZEN = false → Completes (.user t v) s fun u =>
        u.hst.ring = SMap.put 0 s.hst.ring (s.fld pLOG LOG_STAT_WRPTR)
          (logEntry (s.timeAt t) s.fn pLOG 0x007 0 v.toNat) ∧
        u.fld pLOG LOG_STAT_WRPTR = (s.fld pLOG LOG_STAT_WRPTR + 1) % 4096 ∧
        u.fld pLOG LOG_TOTAL_COUNT = (s.fld pLOG LOG_TOTAL_COUNT + 1) % 2 ^ 32 ∧
        (s.fld pLOG LOG_CTRL_IRQSEV = 0 → s.asserts u pLOG LOG_E_NEWENT) ∧
        Changes (s.at_ t) u [.ring, .msi] (fields [(pLOG, LOG_STAT_WRPTR), (pLOG, LOG_TOTAL_COUNT),
          (pLOG, HDR_PG_IRQST_ST)])) ∧
      (s.bit pLOG LOG_STAT_FROZEN = true → Completes (.user t v) s fun u =>
        s.counts u pLOG LOG_DROPPED_COUNT ∧ s.flags u pLOG LOG_E_DROP ∧
        Changes (s.at_ t) u [.msi] (fields ((pLOG, LOG_DROPPED_COUNT) :: errFields pLOG)))) ∧
    ((s.at_ t).writeOpen (pLOG * 4096 + 0x40) = true → Completes (.unfreeze t) s fun u =>
      u.fld pLOG LOG_STAT_FROZEN = 0 ∧ Changes (s.at_ t) u [] (fields [(pLOG, LOG_STAT_FROZEN)])))

/-- R312, R352, R383, R400, R418: a host write does not occur while the host interface is down; under PFW_B it is
dropped and counted; of a register that the primary forwards a standby drops it with STBYWR; to a page whose clock is
stopped it hangs; under the page's lock it only sets VIOL. R24, R40, R65, R270, R308, R312, R313, R382, R400: the reads
that capture return the low half and keep the high one for its own read; a read of ADMREF clears ADMREF and ADMREQ; a
read that the host interface does not take returns nothing, and of a page whose clock is stopped it hangs. Where the
manual leaves a point open, this states the model's choice (log entries 24, 103). -/
def Obligations.HostAccessGates : Prop :=
  (∀ (s : State) (c : Instr) (t : Time) (off : Nat), hostWriteOf c = some (t, off) →
    ((s.at_ t).hostUp = false → Completes c s fun u => u = s.at_ t) ∧
    ((s.at_ t).hostUp = true →
      (s.pwr.pfwBlock = true → Completes c s fun u =>
        s.counts u pLOG LOG_PFW_DROPW ∧ s.flags u pLOG LOG_E_PFWDROP ∧
        Changes (s.at_ t) u [.msi] (fields ((pLOG, LOG_PFW_DROPW) :: errFields pLOG))) ∧
      (s.pwr.pfwBlock = false →
        (s.role = 2 → forwarded off = true → Completes c s fun u => RaisesOnly (s.at_ t) u pTWN TWN_E_STBYWR) ∧
        (s.role ≠ 2 ∨ forwarded off = false →
          (s.clkOn (off / 4096) = false → Completes c s fun u =>
            u.hst.hung = s.hst.hung ++ [⟨off / 4096, true⟩] ∧ s.counts u pERR ERR_CLASSCNT_CONTAINED ∧
            Changes (s.at_ t) u [.hst, .msi] (andLog [(pERR, ERR_CLASSCNT_CONTAINED)])) ∧
          (s.clkOn (off / 4096) = true → s.bit (off / 4096) HDR_PG_LOCK_LOCKED = true → lockCovers (off % 4096) = true →
            Completes c s fun u => u.fld (off / 4096) HDR_PG_LOCK_VIOL = 1 ∧
              Changes (s.at_ t) u [] (fields [(off / 4096, HDR_PG_LOCK_VIOL)])))))) ∧
  (∀ (s : State) (t : Time),
    (∀ c off, hostReadOf c = some (t, off) →
      ((s.at_ t).hostUp = false ∨ 32 ≤ s.npNow → Completes c s fun u =>
        u.hst.rdata = [] ∧ Changes (s.at_ t) u [.rdata] noField) ∧
      ((s.at_ t).hostUp = true → s.npNow < 32 → s.clkOn (off / 4096) = false → Completes c s fun u =>
        u.hst.rdata = [] ∧ u.hst.hung = s.hst.hung ++ [⟨off / 4096, false⟩] ∧
        s.counts u pERR ERR_CLASSCNT_CONTAINED ∧
        Changes (s.at_ t) u [.hst, .msi] (andLog [(pERR, ERR_CLASSCNT_CONTAINED), (pPCI, PCI_NPOUT_MAX)]))) ∧
    ((s.at_ t).readOpen 0x605C = true → Completes (.fnLoRead t) s fun u =>
      u.hst.rdata = [s.fld pFRM FRM_FN_LO_FN] ∧
      u.frm = { s.frm with fnCap := some (s.fld pFRM FRM_FN_HI_FN) } ∧
      Changes (s.at_ t) u [.frm, .rdata] (fields [(pPCI, PCI_NPOUT_MAX)])) ∧
    ((s.at_ t).readOpen 0x608C = true → s.fld pFRM HDR_PG_CTRL_FREEZE = 0 → s.time < s.timeAt t →
      (∀ f ∈ rcFields pFRM 0x8C, s.fld pFRM f < 2 ^ f.wid) → Completes (.admrefRead t) s fun u =>
      u.hst.rdata = [s.regValue pFRM 0x8C] ∧
      u.fld pFRM FRM_ADMREF_VALID = 0 ∧ u.fld pFRM FRM_ADMREQ_LOAD = 0 ∧ u.time = s.timeAt t ∧
      Changes (s.at_ t) u [.time, .rdata] (fields [(pPCI, PCI_NPOUT_MAX), (pFRM, FRM_ADMREF_VALID), (pFRM, FRM_ADMREF_CAUSE),
        (pFRM, FRM_ADMREF_RESIDUE), (pFRM, FRM_ADMREF_ENGINE), (pFRM, FRM_ADMREF_TABLE), (pFRM, FRM_ADMREQ_LOAD)])) ∧
    (∀ n : Unit8, (s.at_ t).readOpen (pANG n.val * 4096 + 0x74) = true → s.fld (pANG n.val) HDR_PG_CTRL_FREEZE = 0 →
      Completes (.tslastLoRead t n) s fun u =>
        u.hst.rdata = [s.fld (pANG n.val) ANG_TSLAST_LO_TS] ∧
        (u.angu n.val).tsCap = some (s.fld (pANG n.val) ANG_TSLAST_HI_TS) ∧
        Changes (s.at_ t) u [.ang, .rdata] (fields [(pPCI, PCI_NPOUT_MAX)])) ∧
    ((s.at_ t).readOpen (pSVC * 4096 + 0x6C) = true →
      (∀ c cs, s.fls.cpls = c :: cs → Completes (.cplRead t) s fun u =>
        u.hst.rdata = [2 ^ 31 + c.tag * 65536 + c.code * 256 + c.status] ∧ u.fls = { s.fls with cpls := cs } ∧
        Changes (s.at_ t) u [.fls, .rdata] (fields [(pPCI, PCI_NPOUT_MAX)])) ∧
      (s.fls.cpls = [] → Completes (.cplRead t) s fun u => u.hst.rdata = [0] ∧ u.fls = s.fls)) ∧
    ((s.at_ t).readOpen (pCLK 0 * 4096 + 0x68) = true → Completes (.timeLoRead t) s fun u =>
      u.hst.rdata = [s.timeAt t % 2 ^ 32] ∧
      u.pwr = { s.pwr with timeCap := some (s.timeAt t / 2 ^ 32 % 2 ^ 32) } ∧
      Changes (s.at_ t) u [.pwr, .rdata] (fields [(pPCI, PCI_NPOUT_MAX)])) ∧
    ((s.at_ t).readOpen (pLOG * 4096 + 0x54) = true → Completes (.ent0Read t) s fun u =>
      let e := SMap.get 0 s.hst.ring (s.fld pLOG LOG_IDX_ENTRY)
      u.hst.rdata = [e.toNat % 2 ^ 32] ∧ u.hst = { s.hst with rdata := u.hst.rdata, entCap := some e } ∧
      Changes (s.at_ t) u [.hst] (fields [(pPCI, PCI_NPOUT_MAX)])))

/-- R5, R410, R411: a write of a whole dword acts as the command of its register; a write that is not whole is dropped
with PARTIAL; an access to a reserved page or to an unmapped offset is recorded; a read returns the register's value and
clears its read-clear fields. R7: a read that coincides with an event returns a read-clear field as before the event, and
leaves in it what the event updated. Where the manual leaves a point open, this states the model's choice (log entries 5, 98).
-/
def Obligations.RegisterAccess : Prop := ∀ (s : State) (t : Time) (v : Dword),
  (∀ x ∈ ([(0x6040, .sourceSwitch t v), (0x604C, .minperWrite t v), (0x6058, .fbperWrite t v), (0x7058, .qrelWrite t v),
      (0x7070, .safedataWrite t v), (0x20084, .mcdata0Write t v), (0x20088, .mcdata1Write t v),
      (0x20094, .ctdataWrite t v), (0x2060, .svcCmdWrite t v), (0x40, .sysReset t v), (0x8064, .user t v)] :
      List (BitVec 26 × Instr)), exec (.registerWrite t false x.1 v 15) s = exec x.2 s) ∧
  (∀ n : Mdll, exec (.registerWrite t false (BitVec.ofNat 26 (pCLK n.val * 4096 + 0x48)) v 15) s =
    exec (.multWrite t n v) s) ∧
  (∀ n : Unit8, exec (.registerWrite t false (BitVec.ofNat 26 (pANG n.val * 4096 + 0x44)) v 15) s =
    exec (.cprWrite t n v) s) ∧
  ((s.at_ t).hostUp = true → s.pwr.pfwBlock = false →
    (∀ off be, be ≠ 15 → Completes (.registerWrite t false off v be) s fun u =>
      RaisesOnly (s.at_ t) u pPCI PCI_E_PARTIAL) ∧
    (∀ (off : BitVec 26), off.toNat < 0x200000 → off.toNat % 4 = 0 → pgClass (off.toNat / 4096) = .reserved →
      Completes (.registerWrite t false off v 15) s fun u =>
        s.flags u pPCI PCI_E_UNMAPPED ∧ u.bit pPCI PCI_BADADDR_VALID = true ∧
        (s.bit pPCI PCI_BADADDR_VALID = false → u.fld pPCI PCI_BADADDR_OFFSET = off.toNat ∧
          u.fld pPCI PCI_BADADDR_WRITE = 1 ∧ u.fld pPCI PCI_BADADDR_BAR2 = 0) ∧
        Changes (s.at_ t) u [.msi] (fields ([(pPCI, PCI_BADADDR_VALID), (pPCI, PCI_BADADDR_OFFSET),
          (pPCI, PCI_BADADDR_WRITE), (pPCI, PCI_BADADDR_BAR2)] ++ errFields pPCI)))) ∧
  ((s.at_ t).writeOpen 0x58 = true → Completes (.registerWrite t false 0x58 v 15) s fun u =>
    u.fld pSYS SYS_SCRATCH_VALUE = v.toNat ∧ Changes (s.at_ t) u [] (fields [(pSYS, SYS_SCRATCH_VALUE)])) ∧
  (∀ (off : BitVec 26), off.toNat < 0x200000 → off.toNat % 4 = 0 → (s.at_ t).readOpen off.toNat = true →
    pgClass (off.toNat / 4096) ∈ [.sys, .lcs, .cfg, .plc, .fls, .pwr, .adc, .tul, .err, .rgn, .iob, .ul, .je] →
    off.toNat ≠ pPLC * 4096 + 0x5C → Completes (.registerRead t false off 15) s fun u =>
      let p := off.toNat / 4096
      let o := off.toNat % 4096
      let fault := pgClass p = .je ∧ o = 0x54
      u.hst.rdata = [maskBytes (((s.at_ t).noteNp.rewind p o).regValue p o) 15] ∧ u.time = s.timeAt t ∧
      (s.fld p HDR_PG_CTRL_FREEZE = 0 →
        (∀ f ∈ rcFields p o, u.fld p f = rcHolds f ((s.at_ t).before p f) (s.fld p f) % 2 ^ f.wid) ∧
        (fault → u.fld p JE_FLTLAST_VALID = 0 → u.fld p JE_FLTHDL_HANDLE = 0)) ∧
      (s.fld p HDR_PG_CTRL_FREEZE ≠ 0 → ∀ f ∈ rcFields p o, u.fld p f = s.fld p f) ∧
      Changes (s.at_ t) u [.time, .rdata] (fields ((pPCI, PCI_NPOUT_MAX) ::
        ((rcFields p o).map fun f => (p, f)) ++ if fault then [(p, JE_FLTHDL_HANDLE)] else []))) ∧
  (s.time < s.timeAt t → ∀ p f, (s.at_ t).before p f = s.fld p f) ∧
  (∀ f x, rcHolds f x x = 0) ∧
  (∀ f x n, isMax f = false → 0 < n → rcHolds f x (x + n) = n)

/-- R112, R416 to R418: EN of a page changes where the page can be disabled; SRST acts on a disabled page; FREEZE holds
the page's counters and records as they stand; PG_LOCK takes its lock under its key and else sets VIOL. R415, R420: a
write of 1 to bits of PG_IRQST clears them, but for bits that events set in the same instant (R7), and the vector's message goes again, or its pending bit is set, while it is
still asserted; an unmask sends one message for a pending bit whose vector is still asserted. Where the manual leaves a
point open, this states the model's choice (log entries 97, 98, 100). -/
def Obligations.PagesAndInterrupts : Prop :=
  (∀ (s : State) (t : Time) (page : Fin 512),
    let p := page.val
    let ctrl (v : Nat) : State := s.arrive t (p * 4096 + 8) v
    let en := s.fld p HDR_PG_CTRL_EN
    let fz := 4 * s.fld p HDR_PG_CTRL_FREEZE
    ((s.at_ t).writeOpen (p * 4096 + 8) = true →
      (∀ x : Bool,
        (fixedEn p = true → Completes (.pgCtrlEn t page x) s fun u => u = ctrl (x.toNat + fz)) ∧
        (x = false → s.mayDisable p = false → fixedEn p = false →
          (pgClass p = .je → Completes (.pgCtrlEn t page x) s fun u => RaisesOnly (ctrl (x.toNat + fz)) u p JE_E_ENBUSY) ∧
          (pgClass p ≠ .je → Completes (.pgCtrlEn t page x) s fun u => u = ctrl (x.toNat + fz))) ∧
        (x = true ∨ s.mayDisable p = true → pgClass p ∈ [.frm, .ctx, .plc, .cfg, .je, .iob] →
          Completes (.pgCtrlEn t page x) s fun u =>
            u.fld p HDR_PG_CTRL_EN = x.toNat ∧ Changes (ctrl (x.toNat + fz)) u [] (fields [(p, HDR_PG_CTRL_EN)])) ∧
        (pgClass p ∈ [.ul, .ang, .adc] → Completes (.pgCtrlEn t page x) s fun u =>
          u.fld p HDR_PG_CTRL_EN = x.toNat)) ∧
      ((s.bit p HDR_PG_CTRL_EN = true → pgClass p ∉ [.je, .tul, .rgn, .clk, .twn] →
          Completes (.pgCtrlSrst t page) s fun u => u = ctrl (2 + en + fz)) ∧
        (s.bit p HDR_PG_CTRL_EN = false →
          (pgClass p = .ctx → Completes (.pgCtrlSrst t page) s fun u => u.ctx = Ctx.reset ∧ u.jer = s.jer ∧ u.plc = s.plc) ∧
          (pgClass p = .frm → Completes (.pgCtrlSrst t page) s fun u =>
            u.frmState = 0 ∧ u.frm.issued = [] ∧ u.frm.inFrame = false ∧ u.ctx = s.ctx) ∧
          (pgClass p = .adc → Completes (.pgCtrlSrst t page) s fun u =>
            u.fld p ADC_CTRL_CHEN = 0 ∧ u.pwr = { s.pwr with adcMask := 0 })) ∧
        (pgClass p = .je → Completes (.pgCtrlSrst t page) s fun u =>
          u.fld p JE_FLTCNT_COUNT = 0 ∧ u.bit p JE_FLTLAST_VALID = false ∧ u.fld p JE_VISITS_COUNT = 0 ∧
          u.fld p JE_LOADMAX_CYCLES = 0 ∧ Changes (ctrl (2 + en + fz)) u [] (pages [p]))) ∧
      (∀ on : Bool,
        (noFreeze p = true → Completes (.pgCtrlFreeze t page on) s fun u => u = ctrl (4 * on.toNat + en)) ∧
        (noFreeze p = false → Completes (.pgCtrlFreeze t page on) s fun u =>
          u.fld p HDR_PG_CTRL_FREEZE = on.toNat ∧ u.hst = { s.hst with frozen := u.hst.frozen } ∧
          (on = true → ∀ f ∈ fieldsOf p, f.snap = true → SMap.get 0 u.hst.frozen (fldKey p f) =
            (((ctrl (4 * on.toNat + en)).derived p f).getD (s.fld p f)) % 2 ^ f.wid) ∧
          Changes (ctrl (4 * on.toNat + en)) u [.hst] (fields [(p, HDR_PG_CTRL_FREEZE)])))) ∧
    (∀ v : Dword, (s.at_ t).writeOpen (p * 4096 + 0x1C) = true → let a := s.arrive t (p * 4096 + 0x1C) v.toNat
      (HDR_PG_LOCK_KEY.of v.toNat ≠ 0xC10C → Completes (.pgLockWrite t page v) s fun u =>
        u.fld p HDR_PG_LOCK_VIOL = 1 ∧ Changes a u [] (fields [(p, HDR_PG_LOCK_VIOL)])) ∧
      (HDR_PG_LOCK_KEY.of v.toNat = 0xC10C → Completes (.pgLockWrite t page v) s fun u =>
        u.fld p HDR_PG_LOCK_LOCKED = v.toNat % 2 ∧
        u.fld p HDR_PG_LOCK_VIOL = (if v.toNat / 2 % 2 = 1 then 0 else s.fld p HDR_PG_LOCK_VIOL) ∧
        Changes a u [] (fields [(p, HDR_PG_LOCK_LOCKED), (p, HDR_PG_LOCK_VIOL)])))) ∧
  (∀ (s : State) (t : Time),
    (∀ (page : Fin 512) (v : Dword),
      let p := page.val
      let k := vecOf page.val
      (s.at_ t).writeOpen (p * 4096 + 0x18) = true → Completes (.pgIrqstWrite t page v) s fun u =>
        u.fld p HDR_PG_IRQST_ST = (s.fld p HDR_PG_IRQST_ST &&&
          ((2 ^ 32 - 1 - v.toNat) ||| (s.at_ t).freshBits p HDR_PG_IRQST_ST)) % 2 ^ 32 ∧
        (s.time < s.timeAt t → (s.at_ t).freshBits p HDR_PG_IRQST_ST = 0) ∧
        (u.vecOn k = true → s.hst.asserted.testBit k = true → s.vecMasked k = false →
          u.hst.msgs = k :: s.hst.msgs ∧ u.hst.pba = s.hst.pba) ∧
        (u.vecOn k = true → s.vecMasked k = true → u.hst.msgs = s.hst.msgs ∧ u.hst.pba.testBit k = true) ∧
        (u.vecOn k = false → u.hst.msgs = s.hst.msgs ∧ u.hst.pba = s.hst.pba ∧ u.hst.asserted.testBit k = false) ∧
        Changes (s.arrive t (p * 4096 + 0x18) v.toNat) u [.msi] (fields (irqField p))) ∧
    (∀ k : Fin 32, (s.at_ t).writeOpen (pPCI * 4096 + 0x80C + 16 * k.val) = true →
      Completes (.msixUnmask t (some k)) s fun u =>
        SMap.get 1 u.hst.msix (4 * k.val + 3) = 0 ∧ Changes (s.at_ t) u [.hst] noField ∧
        (s.hst.pba.testBit k.val = false ∨ s.hst.msixEn = false ∨ s.hst.msixMask = true →
          u.hst = { s.hst with msix := u.hst.msix }) ∧
        (s.hst.pba.testBit k.val = true → s.hst.msixEn = true → s.hst.msixMask = false →
          u.hst = { s.hst with
            msix := u.hst.msix, pba := s.hst.pba - 2 ^ k.val
            msgs := if s.vecOn k.val = true then k.val :: s.hst.msgs else s.hst.msgs })) ∧
    (s.pwr.up = true → s.pwr.perst = false → s.bit pPCI PCI_LINK_L0 = true → Completes (.msixUnmask t none) s fun u =>
      u.hst.msixEn = true ∧ u.hst.msixMask = false ∧ Changes (s.at_ t) u [.hst] noField ∧
      (∀ k < 32, s.hst.pba.testBit k = true → SMap.get 1 s.hst.msix (4 * k + 3) % 2 = 0 →
        u.hst.pba.testBit k = false ∧ (s.vecOn k = true → k ∈ u.hst.msgs))))

/-- R421 to R424: the service port answers with its status byte; with the device up it writes and reads the registers
over its own map; before READY, and in GAUZE while a write is pending, it takes nothing; in GAUZE it reaches SYS, LCS
and PWR, and a write takes effect at the second slow-clock edge. A transaction that is cut short or whose command is
undefined has no effect and counts in SPERR; a read is late only where its data may come after its first data bit.
R405: the configuration values. R325, R346, R372, R408, R443: the PCI Express link comes up and goes down; D3hot; a JTAG
instruction that the life-cycle state opens is in force, and any other acts as BYPASS and reads nothing. The model
refuses a maker test mode that is open, which the manual does not describe (R347).
Where the manual leaves a point open, this states the model's choice (log entries 85, 101, 102, 147). -/
def Obligations.ServicePortAndLink : Prop :=
  (∀ s : State, let c := s.pciConfig
    c.vendor = 0x1F3E ∧ c.device = 0x0E48 ∧ c.class_ = 0x118000 ∧ c.subVendor = 0x1F3E ∧ c.subsystem = 1 ∧
    s.view pSYS SYS_VERSION_SILREV = c.revision ∧ c.serial = leNum ((List.range 8).map s.otpByte) ∧
    c.table = (0xC800, 512) ∧ c.pba = (0xCC00, 8) ∧
    ∀ k < 32, c.table.1 ≤ pPCI * 4096 + 0x80C + 16 * k ∧ pPCI * 4096 + 0x810 + 16 * k ≤ c.table.1 + c.table.2) ∧
  (∀ (s : State) (t : Time),
    (s.pwr.gz = 4 → Completes (.spStatus ⟨t, 5, 8⟩) s (fun u => u = s.at_ t)) ∧
    (s.pwr.gz = 0 → s.pwr.up = true → Completes (.spStatus ⟨t, 5, 8⟩) s fun u =>
      u.hst = { s.hst with
        spStatus := 128 + 32 * s.hst.spErr.toNat + 8 * s.pwr.pfwBlock.toNat, spErr := false, spPend := none } ∧
      Changes (s.at_ t) u [.hst] noField) ∧
    (s.pwr.gz = 2 → s.hst.spPend = none → Completes (.spStatus ⟨t, 5, 8⟩) s fun u =>
      u.hst = { s.hst with spStatus := 16 + 32 * s.hst.spErr.toNat, spErr := false } ∧
      Changes (s.at_ t) u [.hst] noField) ∧
    (s.pwr.gz = 0 ∨ s.pwr.gz = 3 → s.pwr.up = false → ∀ addr v, Completes (.spWrite t ⟨addr, 64⟩ v) s fun u =>
      (s.pendingState = none → u.hst.spStatus = 0x40) ∧ u.hst.spErr = true ∧ Changes (s.at_ t) u [.hst] noField) ∧
    (∀ (addr : BitVec 24) (v : Dword), s.pwr.gz = 0 → s.pwr.up = true →
      (spAt addr.toNat = .none →
        Completes (.spWrite t ⟨addr, 64⟩ v) s (fun u => u.hst.spErr = true ∧ Changes (s.at_ t) u [.hst] noField) ∧
        ∀ period, Completes (.spRead t ⟨addr, 72⟩ period) s (fun u =>
          u.hst.rdata = [0] ∧ u.hst.spErr = true ∧ Changes (s.at_ t) u [.hst] noField)) ∧
      (addr.toNat % 4 = 0 → addr.toNat < 0x200000 → s.pwr.pfwBlock = true → Completes (.spWrite t ⟨addr, 64⟩ v) s fun u =>
        s.counts u pLOG LOG_PFW_DROPW ∧
        Changes (s.at_ t) u [.hst, .msi] (fields ((pLOG, LOG_PFW_DROPW) :: errFields pLOG)))) ∧
    (∀ v : Dword, s.pwr.gz = 0 → s.pwr.up = true → s.pwr.pfwBlock = false → s.bit pSYS HDR_PG_LOCK_LOCKED = false →
      Completes (.spWrite t ⟨0x58, 64⟩ v) s fun u =>
        u.fld pSYS SYS_SCRATCH_VALUE = v.toNat ∧ u.hst.spErr = false ∧
        Changes (s.at_ t) u [.hst] (fields [(pSYS, SYS_SCRATCH_VALUE)])) ∧
    (s.pwr.gz = 0 → s.pwr.up = true → ∀ period,
      (300 ≤ 17 * period → Completes (.spRead t ⟨0x58, 72⟩ period) s fun u =>
        u.hst.rdata = [s.fld pSYS SYS_SCRATCH_VALUE % 2 ^ 32] ∧ Changes (s.at_ t) u [.hst] noField) ∧
      (17 * period < 300 → Completes (.spRead t ⟨0x58, 72⟩ period) s fun u =>
        (u.hst.rdata = [0xFFFFFFFF] ∧ u.hst.spErr = true ∧ s.counts u pSYS SYS_SPSTAT_LATE ∧
          Changes (s.at_ t) u [.hst, .free] (fields [(pSYS, SYS_SPSTAT_LATE)])) ∨
        (u.hst.rdata = [s.fld pSYS SYS_SCRATCH_VALUE % 2 ^ 32] ∧ u.hst.spErr = false ∧
          Changes (s.at_ t) u [.hst, .free] noField))) ∧
    (s.pwr.gz = 0 → s.pwr.up = true →
      (∀ (addr : BitVec 24) (v : Dword) (n : Nat), n < 64 → n < 32 ∨ spAt addr.toNat ≠ .none →
        Completes (.spWrite t ⟨addr, n⟩ v) s fun u => u.hst.spErr = true ∧ s.counts u pSYS SYS_SPSTAT_SPERR ∧
          s.flags u pSYS SYS_E_SPERR ∧
          Changes (s.at_ t) u [.hst, .msi] (fields ((pSYS, SYS_SPSTAT_SPERR) :: errFields pSYS))) ∧
      (∀ (addr : BitVec 24) (period n : Nat), n < 72 → n < 32 ∨ spAt addr.toNat ≠ .none →
        Completes (.spRead t ⟨addr, n⟩ period) s fun u => u.hst.spErr = true ∧ u.hst.rdata = [] ∧
          s.counts u pSYS SYS_SPSTAT_SPERR ∧
          Changes (s.at_ t) u [.hst, .msi] (fields ((pSYS, SYS_SPSTAT_SPERR) :: errFields pSYS))) ∧
      (∀ x : SpCmd, x.t = t → x.cmd ≠ 5 ∨ x.clocks ≠ 8 → Completes (.spStatus x) s fun u =>
        u.hst.spErr = true ∧ s.counts u pSYS SYS_SPSTAT_SPERR ∧
        Changes (s.at_ t) u [.hst, .msi] (fields ((pSYS, SYS_SPSTAT_SPERR) :: errFields pSYS)))) ∧
    (∀ v : Dword, s.pwr.gz = 2 → s.hst.spPend = none → s.bit pSYS HDR_PG_LOCK_LOCKED = false →
      Completes (.spWrite t ⟨0x58, 64⟩ v) s fun u =>
        u.fld pSYS SYS_SCRATCH_VALUE = v.toNat ∧ u.time = s.timeAt t + slowNs (s.at_ t).inst.acc 2 ∧
        u.hst.spPend = some (u.time, 0x58)) ∧
    (∀ (addr : BitVec 24) (v : Dword), s.pwr.gz = 2 →
      (∀ due off, s.hst.spPend = some (due, off) → s.timeAt t < due → Completes (.spWrite t ⟨addr, 64⟩ v) s fun u =>
        u.hst.spStatus = 80 + 32 * s.hst.spErr.toNat ∧ u.hst.spErr = true ∧ Changes (s.at_ t) u [.hst] noField) ∧
      (s.hst.spPend = none → addr.toNat / 4096 ≠ pSYS → addr.toNat / 4096 ≠ pLCS → addr.toNat / 4096 ≠ pPWR →
        Completes (.spWrite t ⟨addr, 64⟩ v) s (fun u => u.hst.spErr = true ∧ Changes (s.at_ t) u [.hst] noField) ∧
        ∀ period, Completes (.spRead t ⟨addr, 72⟩ period) s (fun u =>
          u.hst.rdata = [0] ∧ u.hst.spErr = true ∧ Changes (s.at_ t) u [.hst] noField)))) ∧
  (∀ (s : State) (t : Time),
    (∀ w x : Fin 3,
      (s.pwr.gz ≠ 4 → (s.at_ t).clkOn pPCI = true → Completes (.pcieLinkUp t w x) s fun u =>
        u.fld pPCI PCI_LINK_L0 = 1 ∧ u.fld pPCI PCI_LINK_WIDTH = 2 ^ w.val ∧ u.fld pPCI PCI_LINK_SPEED = x.val + 1 ∧
        u.pwr = { s.pwr with wakeB := false } ∧ s.asserts u pPCI PCI_E_LINKUP ∧
        Changes (s.at_ t) u [.pwr, .msi] (fields ([(pPCI, PCI_LINK_L0), (pPCI, PCI_LINK_WIDTH),
          (pPCI, PCI_LINK_SPEED)] ++ irqField pPCI))) ∧
      (s.pwr.gz = 4 ∨ (s.at_ t).clkOn pPCI = false → Completes (.pcieLinkUp t w x) s fun u => u = s.at_ t)) ∧
    (s.bit pPCI PCI_LINK_L0 = true → Completes (.pcieLinkDown t) s fun u =>
      u.fld pPCI PCI_LINK_L0 = 0 ∧ s.flags u pPCI PCI_E_LINKDOWN ∧ s.counts u pERR ERR_CLASSCNT_CONTAINED ∧
      u.pwr = s.pwr ∧ u.frm = s.frm) ∧
    (s.bit pPCI PCI_LINK_L0 = false → Completes (.pcieLinkDown t) s fun u => u = s.at_ t) ∧
    (∀ b, s.pwr.up = true → s.pwr.perst = false → s.bit pPCI PCI_LINK_L0 = true →
      Completes (.d3hotTransition t b) s fun u =>
        u.pwr = { s.pwr with d3 := b } ∧ Changes (s.at_ t) u [.pwr] noField) ∧
    (∀ op, s.pwr.gz = 4 → Completes (.jtagInstruction t op) s fun u => u = s.at_ t) ∧
    (s.pwr.gz ≠ 4 →
      (∀ c : BitVec 8, s.pwr.up = true → s.pwr.lcs ≠ 4 → 1 ≤ c.toNat → c.toNat ≤ 7 →
        Completes (.jtagInstruction t (.ir c)) s fun u => u.hst.jtag = c.toNat ∧ Changes (s.at_ t) u [.hst] noField) ∧
      (∀ c : BitVec 8, c.toNat = 0 ∨ 7 < c.toNat ∨ (s.pwr.up = true ∧ s.pwr.lcs = 4) →
        Completes (.jtagInstruction t (.ir c)) s fun u =>
          u.hst.jtag = 0xFF ∧ u.hst.rdata = [] ∧ Changes (s.at_ t) u [.hst] noField) ∧
      (∀ bits, s.pwr.up = true →
        (s.hst.jtag = 0xFF ∨ s.pwr.lcs = 4 → Completes (.jtagInstruction t (.shift bits)) s fun u =>
          u.hst.rdata = ((false :: bits).take bits.length).map Bool.toNat ∧ Changes (s.at_ t) u [.rdata] noField) ∧
        (s.hst.jtag = 1 → s.pwr.lcs ≠ 4 → Completes (.jtagInstruction t (.shift bits)) s fun u =>
          u.hst.rdata = (((List.range 32).map idcode.testBit ++ bits).take bits.length).map Bool.toNat ∧
          Changes (s.at_ t) u [.rdata] noField) ∧
        (s.hst.jtag = 3 → s.pwr.lcs ≠ 4 → Completes (.jtagInstruction t (.shift bits)) s fun u =>
          u.hst.scan = bits ∧ (∀ b < 8, u.pads b = Config.scanPads b bits) ∧
          Changes (s.at_ t) u [.hst, .free] noField)) ∧
      (s.pwr.up = true → s.pwr.lcs ≤ 1 →
        Completes (.jtagInstruction t (.debugRead 0x58)) s (fun u =>
          u.hst.rdata = [s.fld pSYS SYS_SCRATCH_VALUE % 2 ^ 32] ∧ Changes (s.at_ t) u [.rdata] noField) ∧
        (∀ v, s.pwr.pfwBlock = false → s.bit pSYS HDR_PG_LOCK_LOCKED = false →
          Completes (.jtagInstruction t (.debugWrite 0x58 v)) s fun u =>
            u.fld pSYS SYS_SCRATCH_VALUE = v.toNat ∧ Changes (s.at_ t) u [] (fields [(pSYS, SYS_SCRATCH_VALUE)])) ∧
        (∀ o < 0x40000, o % 4 = 0 → s.clkOn pCFG = true →
          Completes (.jtagInstruction t (.windowRead (BitVec.ofNat 26 (0x2C00000 + o)))) s fun u =>
            u.hst.rdata = [s.stagingWord o] ∧ Changes (s.at_ t) u [.rdata] noField) ∧
        (∀ r voile off, s.clkOn pCFG = true → Completes (.jtagInstruction t (.plane r voile off)) s fun u =>
          u.hst.rdata = [s.planeByte r.val voile off.toNat] ∧ Changes (s.at_ t) u [.rdata] noField)) ∧
      (s.pwr.lcs = 3 ∨ s.pwr.lcs = 4 ∨ (s.pwr.lcs = 2 ∧ s.pwr.certIn = none) →
        (∀ off, Completes (.jtagInstruction t (.debugRead off)) s fun u =>
          u.hst.rdata = [] ∧ Changes (s.at_ t) u [.rdata] noField) ∧
        (∀ off v, Completes (.jtagInstruction t (.debugWrite off v)) s fun u => u = s.at_ t) ∧
        (∀ off, Completes (.jtagInstruction t (.windowRead off)) s fun u =>
          u.hst.rdata = [] ∧ Changes (s.at_ t) u [.rdata] noField) ∧
        (∀ off v, Completes (.jtagInstruction t (.windowWrite off v)) s fun u => u = s.at_ t) ∧
        (∀ r voile off, Completes (.jtagInstruction t (.plane r voile off)) s fun u =>
          u.hst.rdata = [] ∧ Changes (s.at_ t) u [.rdata] noField)) ∧
      (s.makerOpen = false → Completes (.jtagInstruction t .maker) s fun u =>
        u.hst.rdata = [] ∧ Changes (s.at_ t) u [.rdata] noField) ∧
      (s.makerOpen = true → exec (.jtagInstruction t .maker) s = .refused .makerTestMode)))

/-! ## The block as a whole -/

/-- The queue is first in, first out: a step takes the command at its front and runs it with the rest of the queue. On
an empty queue the logic of the fabric goes on by an edge of one of its clocks, and without a clocked region the block
idles, which is the model's own choice (log entries 1, 127). -/
def Obligations.StepTakesFront : Prop := ∀ (s : State),
  (∀ c rest, s.pending = c :: rest → step s = exec c { s with pending := rest }) ∧
  (s.pending = [] → step s = .next s.idle ∧ ∃ fab free, s.idle = { s with fab := fab, free := free }) ∧
  (s.pending = [] → (∀ r < 64, s.rgnClocked r = false) → step s = .next s)

/-- R89, R106, R136, R241, R350, R394: power-on reset leaves every register field at its reset value, in STOP with frame
number 0 and device time 0, SOLO, with every context invalid, every handle at its home, no class entry, every plane
EMPTY, no log entry and an empty queue; every store is in its canonical form. Where the manual leaves a point open, this
states the model's choice (log entries 11, 14). -/
def Obligations.ResetState : Prop := State.reset.wf = true ∧ State.reset.pending = [] ∧ (∀ p f, State.reset.fld p f = resetVal p f) ∧
  State.reset.frmState = 0 ∧ State.reset.fn = 0 ∧ State.reset.time = 0 ∧ State.reset.role = 0 ∧
  (∀ h w, State.reset.recWord h w = 0) ∧ (∀ h, State.reset.phys h = homeSlot h) ∧ State.reset.ctx.quar = [] ∧
  (∀ k, SMap.get ClsEnt.none State.reset.jer.inf k = ClsEnt.none) ∧ (∀ r, (State.reset.active r).state = 0) ∧
  (∀ r, (State.reset.voile r).state = 0) ∧ State.reset.hst.ring = [] ∧ State.reset.pwr.up = false

/-- Every step keeps every store of the block in its canonical form: keys rising, no entry equal to what an unlisted key
reads as. -/
def Obligations.StepKeepsWf : Prop := ∀ (s u : State), s.wf = true → step s = .next u → u.wf = true

/-- R308, R394: device time never decreases, but at a power-on reset and when the Muslin supply is lost, by itself or
in a transition of the life cycle. Where the
manual leaves a point open, this states the model's choice (log entry 3). -/
def Obligations.TimeNeverDecreases : Prop := ∀ (s u : State) (c : Instr), exec c s = .next u →
  (∀ x t, c ≠ .por x ∧ c ≠ .vccMusLoss t) → (∀ t v env bad x, c ≠ .lcsTransition t v env bad (some x)) →
  (∀ q, s.pwr.trans = some q → q.2.2.2 = none) → s.time ≤ u.time

/-- R113 to R120: 40 bits decode to an engine instruction exactly when they are its encoding and the manual admits it:
every admitted instruction is read back as itself, no two encodings mean the same one, and no bit is ignored. -/
def Obligations.EncodeDecode : Prop := ∀ (c : Code) (i : EInstr),
  decodeE c = some i ↔ i.wf = true ∧ c = encodeE i
end

