-- ==== Sys2Proof/Laws/Sparse.lean ====
section
/-! SUPPORT. Laws of sparse tables: what a read finds after each operation, and that every operation
keeps the canonical form. -/

namespace Sys2Proof.Machine

variable {α : Type}

theorem SMap.get_erase_same (d : α) (m : List (Nat × α)) (k : Nat) :
    SMap.get d (SMap.erase m k) k = d := by
  induction m with
  | nil => rfl
  | cons e t ih =>
    obtain ⟨i, v⟩ := e
    by_cases h : i = k <;> simp [SMap.erase, SMap.get, h, ih]

theorem SMap.get_erase_ne (d : α) (m : List (Nat × α)) (k j : Nat) (h : j ≠ k) :
    SMap.get d (SMap.erase m k) j = SMap.get d m j := by
  induction m with
  | nil => rfl
  | cons e t ih =>
    obtain ⟨i, v⟩ := e
    by_cases hi : i = k
    · subst hi; simp [SMap.erase, SMap.get, ih, Ne.symm h]
    · simp [SMap.erase, SMap.get, hi, ih]

theorem SMap.get_insert_same (d : α) (m : List (Nat × α)) (k : Nat) (v : α) :
    SMap.get d (SMap.insert m k v) k = v := by
  induction m with
  | nil => simp [SMap.insert, SMap.get]
  | cons e t ih =>
    obtain ⟨i, w⟩ := e
    by_cases h : k < i
    · simp [SMap.insert, SMap.get, h]
    · by_cases hi : i = k <;> simp [SMap.insert, SMap.get, h, hi, ih]

theorem SMap.get_insert_ne (d : α) (m : List (Nat × α)) (k j : Nat) (v : α) (h : j ≠ k) :
    SMap.get d (SMap.insert m k v) j = SMap.get d m j := by
  induction m with
  | nil => simp [SMap.insert, SMap.get, Ne.symm h]
  | cons e t ih =>
    obtain ⟨i, w⟩ := e
    by_cases hk : k < i
    · simp [SMap.insert, SMap.get, hk, Ne.symm h]
    · by_cases hi : i = k
      · subst hi; simp [SMap.insert, SMap.get, Ne.symm h]
      · simp [SMap.insert, SMap.get, hk, hi, ih]

/-- A read of the key that was written gives the value written. -/
@[simp] theorem SMap.get_put_same [DecidableEq α] (d : α) (m : List (Nat × α)) (k : Nat) (v : α) :
    SMap.get d (SMap.put d m k v) k = v := by
  unfold SMap.put
  split
  · next h => rw [SMap.get_erase_same, h]
  · exact SMap.get_insert_same d m k v

/-- A write leaves every other key alone; the two defaults need not agree. -/
theorem SMap.get_put_ne [DecidableEq α] (d d' : α) (m : List (Nat × α)) (k j : Nat) (v : α)
    (h : j ≠ k) : SMap.get d' (SMap.put d m k v) j = SMap.get d' m j := by
  unfold SMap.put
  split
  · exact SMap.get_erase_ne d' m k j h
  · exact SMap.get_insert_ne d' m k j v h

/-- Keeping the entries whose keys satisfy a condition. -/
theorem SMap.get_filter_key (d : α) (m : List (Nat × α)) (p : Nat → Bool) (k : Nat) :
    SMap.get d (m.filter fun e => p e.1) k = if p k then SMap.get d m k else d := by
  induction m with
  | nil => simp [SMap.get]
  | cons e t ih =>
    obtain ⟨i, v⟩ := e
    by_cases hk : i = k
    · subst hk
      cases hp : p i <;> simp_all [SMap.get]
    · cases hp : p i <;> simp [SMap.get, hp, ih, hk]

/-- A cleared range reads as the default; the rest is as it was. -/
theorem SMap.get_clearRange (d : α) (m : List (Nat × α)) (lo hi k : Nat) :
    SMap.get d (SMap.clearRange m lo hi) k = if lo ≤ k ∧ k < hi then d else SMap.get d m k := by
  have := SMap.get_filter_key d m (fun k => !(decide (lo ≤ k) && decide (k < hi))) k
  unfold SMap.clearRange
  rw [this]
  by_cases h : lo ≤ k ∧ k < hi
  · simp [h.1, h.2]
  · have h' : (decide (lo ≤ k) && decide (k < hi)) = false := by simpa using h
    simp [h', h]

/-! ## The canonical form -/

/-- The keys of a table rise strictly, and all are above `b` when it names one. -/
theorem SMap.risingFrom_some (b : Nat) (m : List (Nat × α)) :
    SMap.risingFrom (some b) m = (SMap.risingFrom none m && m.all (fun e => decide (b < e.1))) := by
  induction m generalizing b with
  | nil => rfl
  | cons e t ih =>
    obtain ⟨i, v⟩ := e
    simp only [SMap.risingFrom, List.all_cons, ih i]
    by_cases h : b < i
    · rw [Bool.eq_iff_iff]
      simp only [Bool.and_eq_true, List.all_eq_true, decide_eq_true_eq]
      exact ⟨fun x => ⟨x.2, h, fun e he => Nat.lt_trans h (x.2.2 e he)⟩, fun x => ⟨h, x.1⟩⟩
    · simp [h]

theorem SMap.rising_cons (i : Nat) (v : α) (t : List (Nat × α)) :
    SMap.risingFrom none ((i, v) :: t) = true ↔
      SMap.risingFrom none t = true ∧ ∀ e ∈ t, i < e.1 := by
  simp only [SMap.risingFrom, SMap.risingFrom_some, Bool.and_eq_true, List.all_eq_true,
    decide_eq_true_eq]

theorem SMap.rising_filter (m : List (Nat × α)) (f : Nat × α → Bool)
    (h : SMap.risingFrom none m = true) : SMap.risingFrom none (m.filter f) = true := by
  induction m with
  | nil => rfl
  | cons e t ih =>
    obtain ⟨i, v⟩ := e
    rw [SMap.rising_cons] at h
    rw [List.filter_cons]
    split
    · rw [SMap.rising_cons]
      exact ⟨ih h.1, fun e he => h.2 e (List.mem_filter.mp he).1⟩
    · exact ih h.1

theorem SMap.erase_eq_filter (m : List (Nat × α)) (k : Nat) :
    SMap.erase m k = m.filter (fun e => decide (e.1 ≠ k)) := by
  induction m with
  | nil => rfl
  | cons e t ih =>
    obtain ⟨i, v⟩ := e
    by_cases h : i = k <;> simp [SMap.erase, h, ih]

theorem SMap.mem_insert (m : List (Nat × α)) (k : Nat) (v : α) (e : Nat × α)
    (h : e ∈ SMap.insert m k v) : e = (k, v) ∨ e ∈ m := by
  induction m with
  | nil => simp [SMap.insert] at h; exact .inl h
  | cons x t ih =>
    obtain ⟨i, w⟩ := x
    simp only [SMap.insert] at h
    split at h
    · rcases List.mem_cons.mp h with h | h
      · exact .inl h
      · exact .inr h
    · split at h
      · rcases List.mem_cons.mp h with h | h
        · exact .inl h
        · exact .inr (List.mem_cons_of_mem _ h)
      · rcases List.mem_cons.mp h with h | h
        · exact .inr (h ▸ List.mem_cons_self)
        · exact (ih h).imp id (List.mem_cons_of_mem _)

theorem SMap.rising_insert (m : List (Nat × α)) (k : Nat) (v : α)
    (h : SMap.risingFrom none m = true) : SMap.risingFrom none (SMap.insert m k v) = true := by
  induction m with
  | nil => rfl
  | cons x t ih =>
    obtain ⟨i, w⟩ := x
    have hc := (SMap.rising_cons i w t).mp h
    simp only [SMap.insert]
    split
    · next hk =>
      rw [SMap.rising_cons]
      refine ⟨h, fun e he => ?_⟩
      rcases List.mem_cons.mp he with he | he
      · subst he; exact hk
      · exact Nat.lt_trans hk (hc.2 e he)
    · split
      · next hk => subst hk; exact (SMap.rising_cons i v t).mpr hc
      · next hk hi =>
        rw [SMap.rising_cons]
        refine ⟨ih hc.1, fun e he => ?_⟩
        rcases SMap.mem_insert t k v e he with he | he
        · subst he; simp only; omega
        · exact hc.2 e he

/-- A table in canonical form is known by what it reads as: a listed key reads as its entry. -/
theorem SMap.get_of_mem (d : α) (m : List (Nat × α)) (e : Nat × α)
    (h : SMap.risingFrom none m = true) (he : e ∈ m) : SMap.get d m e.1 = e.2 := by
  induction m with
  | nil => simp at he
  | cons x t ih =>
    obtain ⟨i, w⟩ := x
    have hc := (SMap.rising_cons i w t).mp h
    rcases List.mem_cons.mp he with he | he
    · subst he; simp [SMap.get]
    · have : i ≠ e.1 := by have := hc.2 e he; omega
      simp [SMap.get, this, ih hc.1 he]

variable [DecidableEq α]

theorem SMap.wf_iff (d : Nat → α) (m : List (Nat × α)) :
    SMap.wf d m = true ↔ SMap.risingFrom none m = true ∧ ∀ e ∈ m, e.2 ≠ d e.1 := by
  simp [SMap.wf]

/-- The empty table is in the canonical form. -/
@[simp] theorem SMap.wf_nil (d : Nat → α) : SMap.wf d [] = true := rfl

/-- Keeping some entries keeps the canonical form. -/
theorem SMap.wf_filter (d : Nat → α) (m : List (Nat × α)) (f : Nat × α → Bool)
    (h : SMap.wf d m = true) : SMap.wf d (m.filter f) = true := by
  rw [SMap.wf_iff] at h ⊢
  exact ⟨SMap.rising_filter m f h.1, fun e he => h.2 e (List.mem_filter.mp he).1⟩

/-- `put` keeps the canonical form. -/
theorem SMap.wf_put (d : Nat → α) (m : List (Nat × α)) (k : Nat) (v : α)
    (h : SMap.wf d m = true) : SMap.wf d (SMap.put (d k) m k v) = true := by
  unfold SMap.put
  split
  · rw [SMap.erase_eq_filter]; exact SMap.wf_filter d m _ h
  · next hv =>
    rw [SMap.wf_iff] at h ⊢
    refine ⟨SMap.rising_insert m k v h.1, fun e he => ?_⟩
    rcases SMap.mem_insert m k v e he with he | he
    · subst he; exact hv
    · exact h.2 e he

/-- `putAll` keeps the canonical form. -/
theorem SMap.wf_putAll (d : α) (m : List (Nat × α)) (k : Nat) (vs : List α)
    (h : SMap.wf (fun _ => d) m = true) : SMap.wf (fun _ => d) (SMap.putAll d m k vs) = true := by
  induction vs generalizing m k with
  | nil => exact h
  | cons v vs ih => exact ih _ _ (SMap.wf_put (fun _ => d) m k v h)

/-- `clearRange` keeps the canonical form. -/
theorem SMap.wf_clearRange (d : Nat → α) (m : List (Nat × α)) (lo hi : Nat)
    (h : SMap.wf d m = true) : SMap.wf d (SMap.clearRange m lo hi) = true :=
  SMap.wf_filter d m _ h

/-- `paste` keeps the canonical form. -/
theorem SMap.wf_paste (d : α) (lo : Nat) (m src : List (Nat × α))
    (h : SMap.wf (fun _ => d) m = true) : SMap.wf (fun _ => d) (SMap.paste d lo m src) = true := by
  induction src generalizing m with
  | nil => exact h
  | cons e t ih =>
    obtain ⟨k, v⟩ := e
    exact ih _ (SMap.wf_put (fun _ => d) m (lo + k) v h)

end Sys2Proof.Machine
end

