-- ==== Sys2Proof/Laws/State.lean ====
section
/-! SUPPORT. What each plain update of the state leaves of each of its parts: one lemma per part and
update, so that no proof unfolds a record update. -/

namespace Sys2Proof.Machine

variable (s : State)

/-! `updFrm` -/

@[simp] theorem State.updFrm_pending (f : Frm → Frm) : (s.updFrm f).pending = s.pending := rfl
@[simp] theorem State.updFrm_flds (f : Frm → Frm) : (s.updFrm f).flds = s.flds := rfl
@[simp] theorem State.updFrm_time (f : Frm → Frm) : (s.updFrm f).time = s.time := rfl
@[simp] theorem State.updFrm_inst (f : Frm → Frm) : (s.updFrm f).inst = s.inst := rfl
@[simp] theorem State.updFrm_frm (f : Frm → Frm) : (s.updFrm f).frm = f s.frm := rfl
@[simp] theorem State.updFrm_ctx (f : Frm → Frm) : (s.updFrm f).ctx = s.ctx := rfl
@[simp] theorem State.updFrm_jer (f : Frm → Frm) : (s.updFrm f).jer = s.jer := rfl
@[simp] theorem State.updFrm_plc (f : Frm → Frm) : (s.updFrm f).plc = s.plc := rfl
@[simp] theorem State.updFrm_lnk (f : Frm → Frm) : (s.updFrm f).lnk = s.lnk := rfl
@[simp] theorem State.updFrm_ang (f : Frm → Frm) : (s.updFrm f).ang = s.ang := rfl
@[simp] theorem State.updFrm_fab (f : Frm → Frm) : (s.updFrm f).fab = s.fab := rfl
@[simp] theorem State.updFrm_cfg (f : Frm → Frm) : (s.updFrm f).cfg = s.cfg := rfl
@[simp] theorem State.updFrm_fls (f : Frm → Frm) : (s.updFrm f).fls = s.fls := rfl
@[simp] theorem State.updFrm_pwr (f : Frm → Frm) : (s.updFrm f).pwr = s.pwr := rfl
@[simp] theorem State.updFrm_twn (f : Frm → Frm) : (s.updFrm f).twn = s.twn := rfl
@[simp] theorem State.updFrm_hst (f : Frm → Frm) : (s.updFrm f).hst = s.hst := rfl
@[simp] theorem State.updFrm_free (f : Frm → Frm) : (s.updFrm f).free = s.free := rfl

/-! `updCtx` -/

@[simp] theorem State.updCtx_pending (f : Ctx → Ctx) : (s.updCtx f).pending = s.pending := rfl
@[simp] theorem State.updCtx_flds (f : Ctx → Ctx) : (s.updCtx f).flds = s.flds := rfl
@[simp] theorem State.updCtx_time (f : Ctx → Ctx) : (s.updCtx f).time = s.time := rfl
@[simp] theorem State.updCtx_inst (f : Ctx → Ctx) : (s.updCtx f).inst = s.inst := rfl
@[simp] theorem State.updCtx_frm (f : Ctx → Ctx) : (s.updCtx f).frm = s.frm := rfl
@[simp] theorem State.updCtx_ctx (f : Ctx → Ctx) : (s.updCtx f).ctx = f s.ctx := rfl
@[simp] theorem State.updCtx_jer (f : Ctx → Ctx) : (s.updCtx f).jer = s.jer := rfl
@[simp] theorem State.updCtx_plc (f : Ctx → Ctx) : (s.updCtx f).plc = s.plc := rfl
@[simp] theorem State.updCtx_lnk (f : Ctx → Ctx) : (s.updCtx f).lnk = s.lnk := rfl
@[simp] theorem State.updCtx_ang (f : Ctx → Ctx) : (s.updCtx f).ang = s.ang := rfl
@[simp] theorem State.updCtx_fab (f : Ctx → Ctx) : (s.updCtx f).fab = s.fab := rfl
@[simp] theorem State.updCtx_cfg (f : Ctx → Ctx) : (s.updCtx f).cfg = s.cfg := rfl
@[simp] theorem State.updCtx_fls (f : Ctx → Ctx) : (s.updCtx f).fls = s.fls := rfl
@[simp] theorem State.updCtx_pwr (f : Ctx → Ctx) : (s.updCtx f).pwr = s.pwr := rfl
@[simp] theorem State.updCtx_twn (f : Ctx → Ctx) : (s.updCtx f).twn = s.twn := rfl
@[simp] theorem State.updCtx_hst (f : Ctx → Ctx) : (s.updCtx f).hst = s.hst := rfl
@[simp] theorem State.updCtx_free (f : Ctx → Ctx) : (s.updCtx f).free = s.free := rfl

/-! `updJer` -/

@[simp] theorem State.updJer_pending (f : Jer → Jer) : (s.updJer f).pending = s.pending := rfl
@[simp] theorem State.updJer_flds (f : Jer → Jer) : (s.updJer f).flds = s.flds := rfl
@[simp] theorem State.updJer_time (f : Jer → Jer) : (s.updJer f).time = s.time := rfl
@[simp] theorem State.updJer_inst (f : Jer → Jer) : (s.updJer f).inst = s.inst := rfl
@[simp] theorem State.updJer_frm (f : Jer → Jer) : (s.updJer f).frm = s.frm := rfl
@[simp] theorem State.updJer_ctx (f : Jer → Jer) : (s.updJer f).ctx = s.ctx := rfl
@[simp] theorem State.updJer_jer (f : Jer → Jer) : (s.updJer f).jer = f s.jer := rfl
@[simp] theorem State.updJer_plc (f : Jer → Jer) : (s.updJer f).plc = s.plc := rfl
@[simp] theorem State.updJer_lnk (f : Jer → Jer) : (s.updJer f).lnk = s.lnk := rfl
@[simp] theorem State.updJer_ang (f : Jer → Jer) : (s.updJer f).ang = s.ang := rfl
@[simp] theorem State.updJer_fab (f : Jer → Jer) : (s.updJer f).fab = s.fab := rfl
@[simp] theorem State.updJer_cfg (f : Jer → Jer) : (s.updJer f).cfg = s.cfg := rfl
@[simp] theorem State.updJer_fls (f : Jer → Jer) : (s.updJer f).fls = s.fls := rfl
@[simp] theorem State.updJer_pwr (f : Jer → Jer) : (s.updJer f).pwr = s.pwr := rfl
@[simp] theorem State.updJer_twn (f : Jer → Jer) : (s.updJer f).twn = s.twn := rfl
@[simp] theorem State.updJer_hst (f : Jer → Jer) : (s.updJer f).hst = s.hst := rfl
@[simp] theorem State.updJer_free (f : Jer → Jer) : (s.updJer f).free = s.free := rfl

/-! `updPlc` -/

@[simp] theorem State.updPlc_pending (f : Plc → Plc) : (s.updPlc f).pending = s.pending := rfl
@[simp] theorem State.updPlc_flds (f : Plc → Plc) : (s.updPlc f).flds = s.flds := rfl
@[simp] theorem State.updPlc_time (f : Plc → Plc) : (s.updPlc f).time = s.time := rfl
@[simp] theorem State.updPlc_inst (f : Plc → Plc) : (s.updPlc f).inst = s.inst := rfl
@[simp] theorem State.updPlc_frm (f : Plc → Plc) : (s.updPlc f).frm = s.frm := rfl
@[simp] theorem State.updPlc_ctx (f : Plc → Plc) : (s.updPlc f).ctx = s.ctx := rfl
@[simp] theorem State.updPlc_jer (f : Plc → Plc) : (s.updPlc f).jer = s.jer := rfl
@[simp] theorem State.updPlc_plc (f : Plc → Plc) : (s.updPlc f).plc = f s.plc := rfl
@[simp] theorem State.updPlc_lnk (f : Plc → Plc) : (s.updPlc f).lnk = s.lnk := rfl
@[simp] theorem State.updPlc_ang (f : Plc → Plc) : (s.updPlc f).ang = s.ang := rfl
@[simp] theorem State.updPlc_fab (f : Plc → Plc) : (s.updPlc f).fab = s.fab := rfl
@[simp] theorem State.updPlc_cfg (f : Plc → Plc) : (s.updPlc f).cfg = s.cfg := rfl
@[simp] theorem State.updPlc_fls (f : Plc → Plc) : (s.updPlc f).fls = s.fls := rfl
@[simp] theorem State.updPlc_pwr (f : Plc → Plc) : (s.updPlc f).pwr = s.pwr := rfl
@[simp] theorem State.updPlc_twn (f : Plc → Plc) : (s.updPlc f).twn = s.twn := rfl
@[simp] theorem State.updPlc_hst (f : Plc → Plc) : (s.updPlc f).hst = s.hst := rfl
@[simp] theorem State.updPlc_free (f : Plc → Plc) : (s.updPlc f).free = s.free := rfl

/-! `updFab` -/

@[simp] theorem State.updFab_pending (f : Fab → Fab) : (s.updFab f).pending = s.pending := rfl
@[simp] theorem State.updFab_flds (f : Fab → Fab) : (s.updFab f).flds = s.flds := rfl
@[simp] theorem State.updFab_time (f : Fab → Fab) : (s.updFab f).time = s.time := rfl
@[simp] theorem State.updFab_inst (f : Fab → Fab) : (s.updFab f).inst = s.inst := rfl
@[simp] theorem State.updFab_frm (f : Fab → Fab) : (s.updFab f).frm = s.frm := rfl
@[simp] theorem State.updFab_ctx (f : Fab → Fab) : (s.updFab f).ctx = s.ctx := rfl
@[simp] theorem State.updFab_jer (f : Fab → Fab) : (s.updFab f).jer = s.jer := rfl
@[simp] theorem State.updFab_plc (f : Fab → Fab) : (s.updFab f).plc = s.plc := rfl
@[simp] theorem State.updFab_lnk (f : Fab → Fab) : (s.updFab f).lnk = s.lnk := rfl
@[simp] theorem State.updFab_ang (f : Fab → Fab) : (s.updFab f).ang = s.ang := rfl
@[simp] theorem State.updFab_fab (f : Fab → Fab) : (s.updFab f).fab = f s.fab := rfl
@[simp] theorem State.updFab_cfg (f : Fab → Fab) : (s.updFab f).cfg = s.cfg := rfl
@[simp] theorem State.updFab_fls (f : Fab → Fab) : (s.updFab f).fls = s.fls := rfl
@[simp] theorem State.updFab_pwr (f : Fab → Fab) : (s.updFab f).pwr = s.pwr := rfl
@[simp] theorem State.updFab_twn (f : Fab → Fab) : (s.updFab f).twn = s.twn := rfl
@[simp] theorem State.updFab_hst (f : Fab → Fab) : (s.updFab f).hst = s.hst := rfl
@[simp] theorem State.updFab_free (f : Fab → Fab) : (s.updFab f).free = s.free := rfl

/-! `updCfg` -/

@[simp] theorem State.updCfg_pending (f : Cfg → Cfg) : (s.updCfg f).pending = s.pending := rfl
@[simp] theorem State.updCfg_flds (f : Cfg → Cfg) : (s.updCfg f).flds = s.flds := rfl
@[simp] theorem State.updCfg_time (f : Cfg → Cfg) : (s.updCfg f).time = s.time := rfl
@[simp] theorem State.updCfg_inst (f : Cfg → Cfg) : (s.updCfg f).inst = s.inst := rfl
@[simp] theorem State.updCfg_frm (f : Cfg → Cfg) : (s.updCfg f).frm = s.frm := rfl
@[simp] theorem State.updCfg_ctx (f : Cfg → Cfg) : (s.updCfg f).ctx = s.ctx := rfl
@[simp] theorem State.updCfg_jer (f : Cfg → Cfg) : (s.updCfg f).jer = s.jer := rfl
@[simp] theorem State.updCfg_plc (f : Cfg → Cfg) : (s.updCfg f).plc = s.plc := rfl
@[simp] theorem State.updCfg_lnk (f : Cfg → Cfg) : (s.updCfg f).lnk = s.lnk := rfl
@[simp] theorem State.updCfg_ang (f : Cfg → Cfg) : (s.updCfg f).ang = s.ang := rfl
@[simp] theorem State.updCfg_fab (f : Cfg → Cfg) : (s.updCfg f).fab = s.fab := rfl
@[simp] theorem State.updCfg_cfg (f : Cfg → Cfg) : (s.updCfg f).cfg = f s.cfg := rfl
@[simp] theorem State.updCfg_fls (f : Cfg → Cfg) : (s.updCfg f).fls = s.fls := rfl
@[simp] theorem State.updCfg_pwr (f : Cfg → Cfg) : (s.updCfg f).pwr = s.pwr := rfl
@[simp] theorem State.updCfg_twn (f : Cfg → Cfg) : (s.updCfg f).twn = s.twn := rfl
@[simp] theorem State.updCfg_hst (f : Cfg → Cfg) : (s.updCfg f).hst = s.hst := rfl
@[simp] theorem State.updCfg_free (f : Cfg → Cfg) : (s.updCfg f).free = s.free := rfl

/-! `updFls` -/

@[simp] theorem State.updFls_pending (f : Fls → Fls) : (s.updFls f).pending = s.pending := rfl
@[simp] theorem State.updFls_flds (f : Fls → Fls) : (s.updFls f).flds = s.flds := rfl
@[simp] theorem State.updFls_time (f : Fls → Fls) : (s.updFls f).time = s.time := rfl
@[simp] theorem State.updFls_inst (f : Fls → Fls) : (s.updFls f).inst = s.inst := rfl
@[simp] theorem State.updFls_frm (f : Fls → Fls) : (s.updFls f).frm = s.frm := rfl
@[simp] theorem State.updFls_ctx (f : Fls → Fls) : (s.updFls f).ctx = s.ctx := rfl
@[simp] theorem State.updFls_jer (f : Fls → Fls) : (s.updFls f).jer = s.jer := rfl
@[simp] theorem State.updFls_plc (f : Fls → Fls) : (s.updFls f).plc = s.plc := rfl
@[simp] theorem State.updFls_lnk (f : Fls → Fls) : (s.updFls f).lnk = s.lnk := rfl
@[simp] theorem State.updFls_ang (f : Fls → Fls) : (s.updFls f).ang = s.ang := rfl
@[simp] theorem State.updFls_fab (f : Fls → Fls) : (s.updFls f).fab = s.fab := rfl
@[simp] theorem State.updFls_cfg (f : Fls → Fls) : (s.updFls f).cfg = s.cfg := rfl
@[simp] theorem State.updFls_fls (f : Fls → Fls) : (s.updFls f).fls = f s.fls := rfl
@[simp] theorem State.updFls_pwr (f : Fls → Fls) : (s.updFls f).pwr = s.pwr := rfl
@[simp] theorem State.updFls_twn (f : Fls → Fls) : (s.updFls f).twn = s.twn := rfl
@[simp] theorem State.updFls_hst (f : Fls → Fls) : (s.updFls f).hst = s.hst := rfl
@[simp] theorem State.updFls_free (f : Fls → Fls) : (s.updFls f).free = s.free := rfl

/-! `updPwr` -/

@[simp] theorem State.updPwr_pending (f : Pwr → Pwr) : (s.updPwr f).pending = s.pending := rfl
@[simp] theorem State.updPwr_flds (f : Pwr → Pwr) : (s.updPwr f).flds = s.flds := rfl
@[simp] theorem State.updPwr_time (f : Pwr → Pwr) : (s.updPwr f).time = s.time := rfl
@[simp] theorem State.updPwr_inst (f : Pwr → Pwr) : (s.updPwr f).inst = s.inst := rfl
@[simp] theorem State.updPwr_frm (f : Pwr → Pwr) : (s.updPwr f).frm = s.frm := rfl
@[simp] theorem State.updPwr_ctx (f : Pwr → Pwr) : (s.updPwr f).ctx = s.ctx := rfl
@[simp] theorem State.updPwr_jer (f : Pwr → Pwr) : (s.updPwr f).jer = s.jer := rfl
@[simp] theorem State.updPwr_plc (f : Pwr → Pwr) : (s.updPwr f).plc = s.plc := rfl
@[simp] theorem State.updPwr_lnk (f : Pwr → Pwr) : (s.updPwr f).lnk = s.lnk := rfl
@[simp] theorem State.updPwr_ang (f : Pwr → Pwr) : (s.updPwr f).ang = s.ang := rfl
@[simp] theorem State.updPwr_fab (f : Pwr → Pwr) : (s.updPwr f).fab = s.fab := rfl
@[simp] theorem State.updPwr_cfg (f : Pwr → Pwr) : (s.updPwr f).cfg = s.cfg := rfl
@[simp] theorem State.updPwr_fls (f : Pwr → Pwr) : (s.updPwr f).fls = s.fls := rfl
@[simp] theorem State.updPwr_pwr (f : Pwr → Pwr) : (s.updPwr f).pwr = f s.pwr := rfl
@[simp] theorem State.updPwr_twn (f : Pwr → Pwr) : (s.updPwr f).twn = s.twn := rfl
@[simp] theorem State.updPwr_hst (f : Pwr → Pwr) : (s.updPwr f).hst = s.hst := rfl
@[simp] theorem State.updPwr_free (f : Pwr → Pwr) : (s.updPwr f).free = s.free := rfl

/-! `updTwn` -/

@[simp] theorem State.updTwn_pending (f : Twn → Twn) : (s.updTwn f).pending = s.pending := rfl
@[simp] theorem State.updTwn_flds (f : Twn → Twn) : (s.updTwn f).flds = s.flds := rfl
@[simp] theorem State.updTwn_time (f : Twn → Twn) : (s.updTwn f).time = s.time := rfl
@[simp] theorem State.updTwn_inst (f : Twn → Twn) : (s.updTwn f).inst = s.inst := rfl
@[simp] theorem State.updTwn_frm (f : Twn → Twn) : (s.updTwn f).frm = s.frm := rfl
@[simp] theorem State.updTwn_ctx (f : Twn → Twn) : (s.updTwn f).ctx = s.ctx := rfl
@[simp] theorem State.updTwn_jer (f : Twn → Twn) : (s.updTwn f).jer = s.jer := rfl
@[simp] theorem State.updTwn_plc (f : Twn → Twn) : (s.updTwn f).plc = s.plc := rfl
@[simp] theorem State.updTwn_lnk (f : Twn → Twn) : (s.updTwn f).lnk = s.lnk := rfl
@[simp] theorem State.updTwn_ang (f : Twn → Twn) : (s.updTwn f).ang = s.ang := rfl
@[simp] theorem State.updTwn_fab (f : Twn → Twn) : (s.updTwn f).fab = s.fab := rfl
@[simp] theorem State.updTwn_cfg (f : Twn → Twn) : (s.updTwn f).cfg = s.cfg := rfl
@[simp] theorem State.updTwn_fls (f : Twn → Twn) : (s.updTwn f).fls = s.fls := rfl
@[simp] theorem State.updTwn_pwr (f : Twn → Twn) : (s.updTwn f).pwr = s.pwr := rfl
@[simp] theorem State.updTwn_twn (f : Twn → Twn) : (s.updTwn f).twn = f s.twn := rfl
@[simp] theorem State.updTwn_hst (f : Twn → Twn) : (s.updTwn f).hst = s.hst := rfl
@[simp] theorem State.updTwn_free (f : Twn → Twn) : (s.updTwn f).free = s.free := rfl

/-! `updHst` -/

@[simp] theorem State.updHst_pending (f : Hst → Hst) : (s.updHst f).pending = s.pending := rfl
@[simp] theorem State.updHst_flds (f : Hst → Hst) : (s.updHst f).flds = s.flds := rfl
@[simp] theorem State.updHst_time (f : Hst → Hst) : (s.updHst f).time = s.time := rfl
@[simp] theorem State.updHst_inst (f : Hst → Hst) : (s.updHst f).inst = s.inst := rfl
@[simp] theorem State.updHst_frm (f : Hst → Hst) : (s.updHst f).frm = s.frm := rfl
@[simp] theorem State.updHst_ctx (f : Hst → Hst) : (s.updHst f).ctx = s.ctx := rfl
@[simp] theorem State.updHst_jer (f : Hst → Hst) : (s.updHst f).jer = s.jer := rfl
@[simp] theorem State.updHst_plc (f : Hst → Hst) : (s.updHst f).plc = s.plc := rfl
@[simp] theorem State.updHst_lnk (f : Hst → Hst) : (s.updHst f).lnk = s.lnk := rfl
@[simp] theorem State.updHst_ang (f : Hst → Hst) : (s.updHst f).ang = s.ang := rfl
@[simp] theorem State.updHst_fab (f : Hst → Hst) : (s.updHst f).fab = s.fab := rfl
@[simp] theorem State.updHst_cfg (f : Hst → Hst) : (s.updHst f).cfg = s.cfg := rfl
@[simp] theorem State.updHst_fls (f : Hst → Hst) : (s.updHst f).fls = s.fls := rfl
@[simp] theorem State.updHst_pwr (f : Hst → Hst) : (s.updHst f).pwr = s.pwr := rfl
@[simp] theorem State.updHst_twn (f : Hst → Hst) : (s.updHst f).twn = s.twn := rfl
@[simp] theorem State.updHst_hst (f : Hst → Hst) : (s.updHst f).hst = f s.hst := rfl
@[simp] theorem State.updHst_free (f : Hst → Hst) : (s.updHst f).free = s.free := rfl

/-! `updLink` -/

@[simp] theorem State.updLink_pending (l : Nat) (f : Lnk → Lnk) :
    (s.updLink l f).pending = s.pending := rfl
@[simp] theorem State.updLink_flds (l : Nat) (f : Lnk → Lnk) : (s.updLink l f).flds = s.flds := rfl
@[simp] theorem State.updLink_time (l : Nat) (f : Lnk → Lnk) : (s.updLink l f).time = s.time := rfl
@[simp] theorem State.updLink_inst (l : Nat) (f : Lnk → Lnk) : (s.updLink l f).inst = s.inst := rfl
@[simp] theorem State.updLink_frm (l : Nat) (f : Lnk → Lnk) : (s.updLink l f).frm = s.frm := rfl
@[simp] theorem State.updLink_ctx (l : Nat) (f : Lnk → Lnk) : (s.updLink l f).ctx = s.ctx := rfl
@[simp] theorem State.updLink_jer (l : Nat) (f : Lnk → Lnk) : (s.updLink l f).jer = s.jer := rfl
@[simp] theorem State.updLink_plc (l : Nat) (f : Lnk → Lnk) : (s.updLink l f).plc = s.plc := rfl
@[simp] theorem State.updLink_lnk (l : Nat) (f : Lnk → Lnk) :
    (s.updLink l f).lnk = SMap.put Lnk.down s.lnk l (f (s.link l)) := rfl
@[simp] theorem State.updLink_ang (l : Nat) (f : Lnk → Lnk) : (s.updLink l f).ang = s.ang := rfl
@[simp] theorem State.updLink_fab (l : Nat) (f : Lnk → Lnk) : (s.updLink l f).fab = s.fab := rfl
@[simp] theorem State.updLink_cfg (l : Nat) (f : Lnk → Lnk) : (s.updLink l f).cfg = s.cfg := rfl
@[simp] theorem State.updLink_fls (l : Nat) (f : Lnk → Lnk) : (s.updLink l f).fls = s.fls := rfl
@[simp] theorem State.updLink_pwr (l : Nat) (f : Lnk → Lnk) : (s.updLink l f).pwr = s.pwr := rfl
@[simp] theorem State.updLink_twn (l : Nat) (f : Lnk → Lnk) : (s.updLink l f).twn = s.twn := rfl
@[simp] theorem State.updLink_hst (l : Nat) (f : Lnk → Lnk) : (s.updLink l f).hst = s.hst := rfl
@[simp] theorem State.updLink_free (l : Nat) (f : Lnk → Lnk) : (s.updLink l f).free = s.free := rfl

/-! `mapLinks` -/

@[simp] theorem State.mapLinks_pending (f : Lnk → Lnk) : (s.mapLinks f).pending = s.pending := rfl
@[simp] theorem State.mapLinks_flds (f : Lnk → Lnk) : (s.mapLinks f).flds = s.flds := rfl
@[simp] theorem State.mapLinks_time (f : Lnk → Lnk) : (s.mapLinks f).time = s.time := rfl
@[simp] theorem State.mapLinks_inst (f : Lnk → Lnk) : (s.mapLinks f).inst = s.inst := rfl
@[simp] theorem State.mapLinks_frm (f : Lnk → Lnk) : (s.mapLinks f).frm = s.frm := rfl
@[simp] theorem State.mapLinks_ctx (f : Lnk → Lnk) : (s.mapLinks f).ctx = s.ctx := rfl
@[simp] theorem State.mapLinks_jer (f : Lnk → Lnk) : (s.mapLinks f).jer = s.jer := rfl
@[simp] theorem State.mapLinks_plc (f : Lnk → Lnk) : (s.mapLinks f).plc = s.plc := rfl
@[simp] theorem State.mapLinks_lnk (f : Lnk → Lnk) :
    (s.mapLinks f).lnk = s.lnk.foldl (fun m e => SMap.put Lnk.down m e.1 (f e.2)) s.lnk := rfl
@[simp] theorem State.mapLinks_ang (f : Lnk → Lnk) : (s.mapLinks f).ang = s.ang := rfl
@[simp] theorem State.mapLinks_fab (f : Lnk → Lnk) : (s.mapLinks f).fab = s.fab := rfl
@[simp] theorem State.mapLinks_cfg (f : Lnk → Lnk) : (s.mapLinks f).cfg = s.cfg := rfl
@[simp] theorem State.mapLinks_fls (f : Lnk → Lnk) : (s.mapLinks f).fls = s.fls := rfl
@[simp] theorem State.mapLinks_pwr (f : Lnk → Lnk) : (s.mapLinks f).pwr = s.pwr := rfl
@[simp] theorem State.mapLinks_twn (f : Lnk → Lnk) : (s.mapLinks f).twn = s.twn := rfl
@[simp] theorem State.mapLinks_hst (f : Lnk → Lnk) : (s.mapLinks f).hst = s.hst := rfl
@[simp] theorem State.mapLinks_free (f : Lnk → Lnk) : (s.mapLinks f).free = s.free := rfl

/-! `updAng` -/

@[simp] theorem State.updAng_pending (u : Nat) (f : Ang → Ang) :
    (s.updAng u f).pending = s.pending := rfl
@[simp] theorem State.updAng_flds (u : Nat) (f : Ang → Ang) : (s.updAng u f).flds = s.flds := rfl
@[simp] theorem State.updAng_time (u : Nat) (f : Ang → Ang) : (s.updAng u f).time = s.time := rfl
@[simp] theorem State.updAng_inst (u : Nat) (f : Ang → Ang) : (s.updAng u f).inst = s.inst := rfl
@[simp] theorem State.updAng_frm (u : Nat) (f : Ang → Ang) : (s.updAng u f).frm = s.frm := rfl
@[simp] theorem State.updAng_ctx (u : Nat) (f : Ang → Ang) : (s.updAng u f).ctx = s.ctx := rfl
@[simp] theorem State.updAng_jer (u : Nat) (f : Ang → Ang) : (s.updAng u f).jer = s.jer := rfl
@[simp] theorem State.updAng_plc (u : Nat) (f : Ang → Ang) : (s.updAng u f).plc = s.plc := rfl
@[simp] theorem State.updAng_lnk (u : Nat) (f : Ang → Ang) : (s.updAng u f).lnk = s.lnk := rfl
@[simp] theorem State.updAng_ang (u : Nat) (f : Ang → Ang) :
    (s.updAng u f).ang = SMap.put Ang.off s.ang u (f (s.angu u)) := rfl
@[simp] theorem State.updAng_fab (u : Nat) (f : Ang → Ang) : (s.updAng u f).fab = s.fab := rfl
@[simp] theorem State.updAng_cfg (u : Nat) (f : Ang → Ang) : (s.updAng u f).cfg = s.cfg := rfl
@[simp] theorem State.updAng_fls (u : Nat) (f : Ang → Ang) : (s.updAng u f).fls = s.fls := rfl
@[simp] theorem State.updAng_pwr (u : Nat) (f : Ang → Ang) : (s.updAng u f).pwr = s.pwr := rfl
@[simp] theorem State.updAng_twn (u : Nat) (f : Ang → Ang) : (s.updAng u f).twn = s.twn := rfl
@[simp] theorem State.updAng_hst (u : Nat) (f : Ang → Ang) : (s.updAng u f).hst = s.hst := rfl
@[simp] theorem State.updAng_free (u : Nat) (f : Ang → Ang) : (s.updAng u f).free = s.free := rfl

/-! `updEng` -/

@[simp] theorem State.updEng_pending (e : Nat) (f : Eng → Eng) :
    (s.updEng e f).pending = s.pending := rfl
@[simp] theorem State.updEng_flds (e : Nat) (f : Eng → Eng) : (s.updEng e f).flds = s.flds := rfl
@[simp] theorem State.updEng_time (e : Nat) (f : Eng → Eng) : (s.updEng e f).time = s.time := rfl
@[simp] theorem State.updEng_inst (e : Nat) (f : Eng → Eng) : (s.updEng e f).inst = s.inst := rfl
@[simp] theorem State.updEng_frm (e : Nat) (f : Eng → Eng) : (s.updEng e f).frm = s.frm := rfl
@[simp] theorem State.updEng_ctx (e : Nat) (f : Eng → Eng) : (s.updEng e f).ctx = s.ctx := rfl
@[simp] theorem State.updEng_jer (e : Nat) (f : Eng → Eng) :
    (s.updEng e f).jer = { s.jer with eng := SMap.put Eng.idle s.jer.eng e (f (s.engine e)) } := rfl
@[simp] theorem State.updEng_plc (e : Nat) (f : Eng → Eng) : (s.updEng e f).plc = s.plc := rfl
@[simp] theorem State.updEng_lnk (e : Nat) (f : Eng → Eng) : (s.updEng e f).lnk = s.lnk := rfl
@[simp] theorem State.updEng_ang (e : Nat) (f : Eng → Eng) : (s.updEng e f).ang = s.ang := rfl
@[simp] theorem State.updEng_fab (e : Nat) (f : Eng → Eng) : (s.updEng e f).fab = s.fab := rfl
@[simp] theorem State.updEng_cfg (e : Nat) (f : Eng → Eng) : (s.updEng e f).cfg = s.cfg := rfl
@[simp] theorem State.updEng_fls (e : Nat) (f : Eng → Eng) : (s.updEng e f).fls = s.fls := rfl
@[simp] theorem State.updEng_pwr (e : Nat) (f : Eng → Eng) : (s.updEng e f).pwr = s.pwr := rfl
@[simp] theorem State.updEng_twn (e : Nat) (f : Eng → Eng) : (s.updEng e f).twn = s.twn := rfl
@[simp] theorem State.updEng_hst (e : Nat) (f : Eng → Eng) : (s.updEng e f).hst = s.hst := rfl
@[simp] theorem State.updEng_free (e : Nat) (f : Eng → Eng) : (s.updEng e f).free = s.free := rfl

/-! `updMdll` -/

@[simp] theorem State.updMdll_pending (n : Nat) (f : Ck → Ck) :
    (s.updMdll n f).pending = s.pending := rfl
@[simp] theorem State.updMdll_flds (n : Nat) (f : Ck → Ck) : (s.updMdll n f).flds = s.flds := rfl
@[simp] theorem State.updMdll_time (n : Nat) (f : Ck → Ck) : (s.updMdll n f).time = s.time := rfl
@[simp] theorem State.updMdll_inst (n : Nat) (f : Ck → Ck) : (s.updMdll n f).inst = s.inst := rfl
@[simp] theorem State.updMdll_frm (n : Nat) (f : Ck → Ck) : (s.updMdll n f).frm = s.frm := rfl
@[simp] theorem State.updMdll_ctx (n : Nat) (f : Ck → Ck) : (s.updMdll n f).ctx = s.ctx := rfl
@[simp] theorem State.updMdll_jer (n : Nat) (f : Ck → Ck) : (s.updMdll n f).jer = s.jer := rfl
@[simp] theorem State.updMdll_plc (n : Nat) (f : Ck → Ck) : (s.updMdll n f).plc = s.plc := rfl
@[simp] theorem State.updMdll_lnk (n : Nat) (f : Ck → Ck) : (s.updMdll n f).lnk = s.lnk := rfl
@[simp] theorem State.updMdll_ang (n : Nat) (f : Ck → Ck) : (s.updMdll n f).ang = s.ang := rfl
@[simp] theorem State.updMdll_fab (n : Nat) (f : Ck → Ck) : (s.updMdll n f).fab = s.fab := rfl
@[simp] theorem State.updMdll_cfg (n : Nat) (f : Ck → Ck) : (s.updMdll n f).cfg = s.cfg := rfl
@[simp] theorem State.updMdll_fls (n : Nat) (f : Ck → Ck) : (s.updMdll n f).fls = s.fls := rfl
@[simp] theorem State.updMdll_pwr (n : Nat) (f : Ck → Ck) :
    (s.updMdll n f).pwr = { s.pwr with ck := SMap.put Ck.off s.pwr.ck n (f (s.mdll n)) } := rfl
@[simp] theorem State.updMdll_twn (n : Nat) (f : Ck → Ck) : (s.updMdll n f).twn = s.twn := rfl
@[simp] theorem State.updMdll_hst (n : Nat) (f : Ck → Ck) : (s.updMdll n f).hst = s.hst := rfl
@[simp] theorem State.updMdll_free (n : Nat) (f : Ck → Ck) : (s.updMdll n f).free = s.free := rfl

/-! `at_` -/

@[simp] theorem State.atTime_pending (t : Time) : (s.at_ t).pending = s.pending := rfl
@[simp] theorem State.atTime_flds (t : Time) : (s.at_ t).flds = s.flds := rfl
@[simp] theorem State.atTime_time (t : Time) : (s.at_ t).time = s.timeAt t := rfl
@[simp] theorem State.atTime_frm (t : Time) : (s.at_ t).frm = s.frm := rfl
@[simp] theorem State.atTime_ctx (t : Time) : (s.at_ t).ctx = s.ctx := rfl
@[simp] theorem State.atTime_jer (t : Time) : (s.at_ t).jer = s.jer := rfl
@[simp] theorem State.atTime_plc (t : Time) : (s.at_ t).plc = s.plc := rfl
@[simp] theorem State.atTime_lnk (t : Time) : (s.at_ t).lnk = s.lnk := rfl
@[simp] theorem State.atTime_ang (t : Time) : (s.at_ t).ang = s.ang := rfl
@[simp] theorem State.atTime_fab (t : Time) : (s.at_ t).fab = s.fab := rfl
@[simp] theorem State.atTime_cfg (t : Time) : (s.at_ t).cfg = s.cfg := rfl
@[simp] theorem State.atTime_fls (t : Time) : (s.at_ t).fls = s.fls := rfl
@[simp] theorem State.atTime_pwr (t : Time) : (s.at_ t).pwr = s.pwr := rfl
@[simp] theorem State.atTime_twn (t : Time) : (s.at_ t).twn = s.twn := rfl
@[simp] theorem State.atTime_hst (t : Time) : (s.at_ t).hst = s.hst := rfl
@[simp] theorem State.atTime_free (t : Time) : (s.at_ t).free = s.free := rfl

/-! `answer` -/

@[simp] theorem State.answer_pending (d : List Nat) : (s.answer d).pending = s.pending := rfl
@[simp] theorem State.answer_flds (d : List Nat) : (s.answer d).flds = s.flds := rfl
@[simp] theorem State.answer_time (d : List Nat) : (s.answer d).time = s.time := rfl
@[simp] theorem State.answer_inst (d : List Nat) : (s.answer d).inst = s.inst := rfl
@[simp] theorem State.answer_frm (d : List Nat) : (s.answer d).frm = s.frm := rfl
@[simp] theorem State.answer_ctx (d : List Nat) : (s.answer d).ctx = s.ctx := rfl
@[simp] theorem State.answer_jer (d : List Nat) : (s.answer d).jer = s.jer := rfl
@[simp] theorem State.answer_plc (d : List Nat) : (s.answer d).plc = s.plc := rfl
@[simp] theorem State.answer_lnk (d : List Nat) : (s.answer d).lnk = s.lnk := rfl
@[simp] theorem State.answer_ang (d : List Nat) : (s.answer d).ang = s.ang := rfl
@[simp] theorem State.answer_fab (d : List Nat) : (s.answer d).fab = s.fab := rfl
@[simp] theorem State.answer_cfg (d : List Nat) : (s.answer d).cfg = s.cfg := rfl
@[simp] theorem State.answer_fls (d : List Nat) : (s.answer d).fls = s.fls := rfl
@[simp] theorem State.answer_pwr (d : List Nat) : (s.answer d).pwr = s.pwr := rfl
@[simp] theorem State.answer_twn (d : List Nat) : (s.answer d).twn = s.twn := rfl
@[simp] theorem State.answer_hst (d : List Nat) :
    (s.answer d).hst = { s.hst with rdata := d } := rfl
@[simp] theorem State.answer_free (d : List Nat) : (s.answer d).free = s.free := rfl

/-! `setFld` -/

@[simp] theorem State.setFld_pending (p : Nat) (f : Fld) (v : Nat) :
    (s.setFld p f v).pending = s.pending := rfl
@[simp] theorem State.setFld_flds (p : Nat) (f : Fld) (v : Nat) :
    (s.setFld p f v).flds = SMap.put (resetVal p f) s.flds (fldKey p f) (v % 2 ^ f.wid) := rfl
@[simp] theorem State.setFld_time (p : Nat) (f : Fld) (v : Nat) :
    (s.setFld p f v).time = s.time := rfl
@[simp] theorem State.setFld_inst (p : Nat) (f : Fld) (v : Nat) :
    (s.setFld p f v).inst = s.inst := rfl
@[simp] theorem State.setFld_frm (p : Nat) (f : Fld) (v : Nat) : (s.setFld p f v).frm = s.frm := rfl
@[simp] theorem State.setFld_ctx (p : Nat) (f : Fld) (v : Nat) : (s.setFld p f v).ctx = s.ctx := rfl
@[simp] theorem State.setFld_jer (p : Nat) (f : Fld) (v : Nat) : (s.setFld p f v).jer = s.jer := rfl
@[simp] theorem State.setFld_plc (p : Nat) (f : Fld) (v : Nat) : (s.setFld p f v).plc = s.plc := rfl
@[simp] theorem State.setFld_lnk (p : Nat) (f : Fld) (v : Nat) : (s.setFld p f v).lnk = s.lnk := rfl
@[simp] theorem State.setFld_ang (p : Nat) (f : Fld) (v : Nat) : (s.setFld p f v).ang = s.ang := rfl
@[simp] theorem State.setFld_fab (p : Nat) (f : Fld) (v : Nat) : (s.setFld p f v).fab = s.fab := rfl
@[simp] theorem State.setFld_cfg (p : Nat) (f : Fld) (v : Nat) : (s.setFld p f v).cfg = s.cfg := rfl
@[simp] theorem State.setFld_fls (p : Nat) (f : Fld) (v : Nat) : (s.setFld p f v).fls = s.fls := rfl
@[simp] theorem State.setFld_pwr (p : Nat) (f : Fld) (v : Nat) : (s.setFld p f v).pwr = s.pwr := rfl
@[simp] theorem State.setFld_twn (p : Nat) (f : Fld) (v : Nat) : (s.setFld p f v).twn = s.twn := rfl
@[simp] theorem State.setFld_hst (p : Nat) (f : Fld) (v : Nat) : (s.setFld p f v).hst = s.hst := rfl
@[simp] theorem State.setFld_free (p : Nat) (f : Fld) (v : Nat) :
    (s.setFld p f v).free = s.free := rfl

/-! `setBit` -/

@[simp] theorem State.setBit_pending (p : Nat) (f : Fld) (b : Bool) :
    (s.setBit p f b).pending = s.pending := rfl
@[simp] theorem State.setBit_flds (p : Nat) (f : Fld) (b : Bool) :
    (s.setBit p f b).flds = (s.setFld p f b.toNat).flds := rfl
@[simp] theorem State.setBit_time (p : Nat) (f : Fld) (b : Bool) :
    (s.setBit p f b).time = s.time := rfl
@[simp] theorem State.setBit_inst (p : Nat) (f : Fld) (b : Bool) :
    (s.setBit p f b).inst = s.inst := rfl
@[simp] theorem State.setBit_frm (p : Nat) (f : Fld) (b : Bool) :
    (s.setBit p f b).frm = s.frm := rfl
@[simp] theorem State.setBit_ctx (p : Nat) (f : Fld) (b : Bool) :
    (s.setBit p f b).ctx = s.ctx := rfl
@[simp] theorem State.setBit_jer (p : Nat) (f : Fld) (b : Bool) :
    (s.setBit p f b).jer = s.jer := rfl
@[simp] theorem State.setBit_plc (p : Nat) (f : Fld) (b : Bool) :
    (s.setBit p f b).plc = s.plc := rfl
@[simp] theorem State.setBit_lnk (p : Nat) (f : Fld) (b : Bool) :
    (s.setBit p f b).lnk = s.lnk := rfl
@[simp] theorem State.setBit_ang (p : Nat) (f : Fld) (b : Bool) :
    (s.setBit p f b).ang = s.ang := rfl
@[simp] theorem State.setBit_fab (p : Nat) (f : Fld) (b : Bool) :
    (s.setBit p f b).fab = s.fab := rfl
@[simp] theorem State.setBit_cfg (p : Nat) (f : Fld) (b : Bool) :
    (s.setBit p f b).cfg = s.cfg := rfl
@[simp] theorem State.setBit_fls (p : Nat) (f : Fld) (b : Bool) :
    (s.setBit p f b).fls = s.fls := rfl
@[simp] theorem State.setBit_pwr (p : Nat) (f : Fld) (b : Bool) :
    (s.setBit p f b).pwr = s.pwr := rfl
@[simp] theorem State.setBit_twn (p : Nat) (f : Fld) (b : Bool) :
    (s.setBit p f b).twn = s.twn := rfl
@[simp] theorem State.setBit_hst (p : Nat) (f : Fld) (b : Bool) :
    (s.setBit p f b).hst = s.hst := rfl
@[simp] theorem State.setBit_free (p : Nat) (f : Fld) (b : Bool) :
    (s.setBit p f b).free = s.free := rfl

/-! `store` -/

@[simp] theorem State.store_pending (p : Nat) (f : Fld) (v : Nat) :
    (s.store p f v).pending = s.pending := rfl
@[simp] theorem State.store_flds (p : Nat) (f : Fld) (v : Nat) :
    (s.store p f v).flds = (s.setFld p f (f.of v)).flds := rfl
@[simp] theorem State.store_time (p : Nat) (f : Fld) (v : Nat) :
    (s.store p f v).time = s.time := rfl
@[simp] theorem State.store_inst (p : Nat) (f : Fld) (v : Nat) :
    (s.store p f v).inst = s.inst := rfl
@[simp] theorem State.store_frm (p : Nat) (f : Fld) (v : Nat) : (s.store p f v).frm = s.frm := rfl
@[simp] theorem State.store_ctx (p : Nat) (f : Fld) (v : Nat) : (s.store p f v).ctx = s.ctx := rfl
@[simp] theorem State.store_jer (p : Nat) (f : Fld) (v : Nat) : (s.store p f v).jer = s.jer := rfl
@[simp] theorem State.store_plc (p : Nat) (f : Fld) (v : Nat) : (s.store p f v).plc = s.plc := rfl
@[simp] theorem State.store_lnk (p : Nat) (f : Fld) (v : Nat) : (s.store p f v).lnk = s.lnk := rfl
@[simp] theorem State.store_ang (p : Nat) (f : Fld) (v : Nat) : (s.store p f v).ang = s.ang := rfl
@[simp] theorem State.store_fab (p : Nat) (f : Fld) (v : Nat) : (s.store p f v).fab = s.fab := rfl
@[simp] theorem State.store_cfg (p : Nat) (f : Fld) (v : Nat) : (s.store p f v).cfg = s.cfg := rfl
@[simp] theorem State.store_fls (p : Nat) (f : Fld) (v : Nat) : (s.store p f v).fls = s.fls := rfl
@[simp] theorem State.store_pwr (p : Nat) (f : Fld) (v : Nat) : (s.store p f v).pwr = s.pwr := rfl
@[simp] theorem State.store_twn (p : Nat) (f : Fld) (v : Nat) : (s.store p f v).twn = s.twn := rfl
@[simp] theorem State.store_hst (p : Nat) (f : Fld) (v : Nat) : (s.store p f v).hst = s.hst := rfl
@[simp] theorem State.store_free (p : Nat) (f : Fld) (v : Nat) :
    (s.store p f v).free = s.free := rfl

/-! `addWrap` -/

@[simp] theorem State.addWrap_pending (p : Nat) (f : Fld) (n : Nat) :
    (s.addWrap p f n).pending = s.pending := rfl
@[simp] theorem State.addWrap_flds (p : Nat) (f : Fld) (n : Nat) :
    (s.addWrap p f n).flds = (s.setFld p f (s.fld p f + n)).flds := rfl
@[simp] theorem State.addWrap_time (p : Nat) (f : Fld) (n : Nat) :
    (s.addWrap p f n).time = s.time := rfl
@[simp] theorem State.addWrap_inst (p : Nat) (f : Fld) (n : Nat) :
    (s.addWrap p f n).inst = s.inst := rfl
@[simp] theorem State.addWrap_frm (p : Nat) (f : Fld) (n : Nat) :
    (s.addWrap p f n).frm = s.frm := rfl
@[simp] theorem State.addWrap_ctx (p : Nat) (f : Fld) (n : Nat) :
    (s.addWrap p f n).ctx = s.ctx := rfl
@[simp] theorem State.addWrap_jer (p : Nat) (f : Fld) (n : Nat) :
    (s.addWrap p f n).jer = s.jer := rfl
@[simp] theorem State.addWrap_plc (p : Nat) (f : Fld) (n : Nat) :
    (s.addWrap p f n).plc = s.plc := rfl
@[simp] theorem State.addWrap_lnk (p : Nat) (f : Fld) (n : Nat) :
    (s.addWrap p f n).lnk = s.lnk := rfl
@[simp] theorem State.addWrap_ang (p : Nat) (f : Fld) (n : Nat) :
    (s.addWrap p f n).ang = s.ang := rfl
@[simp] theorem State.addWrap_fab (p : Nat) (f : Fld) (n : Nat) :
    (s.addWrap p f n).fab = s.fab := rfl
@[simp] theorem State.addWrap_cfg (p : Nat) (f : Fld) (n : Nat) :
    (s.addWrap p f n).cfg = s.cfg := rfl
@[simp] theorem State.addWrap_fls (p : Nat) (f : Fld) (n : Nat) :
    (s.addWrap p f n).fls = s.fls := rfl
@[simp] theorem State.addWrap_pwr (p : Nat) (f : Fld) (n : Nat) :
    (s.addWrap p f n).pwr = s.pwr := rfl
@[simp] theorem State.addWrap_twn (p : Nat) (f : Fld) (n : Nat) :
    (s.addWrap p f n).twn = s.twn := rfl
@[simp] theorem State.addWrap_hst (p : Nat) (f : Fld) (n : Nat) :
    (s.addWrap p f n).hst = s.hst := rfl
@[simp] theorem State.addWrap_free (p : Nat) (f : Fld) (n : Nat) :
    (s.addWrap p f n).free = s.free := rfl

/-! `addSat` -/

@[simp] theorem State.addSat_pending (p : Nat) (f : Fld) (n : Nat) :
    (s.addSat p f n).pending = s.pending := rfl
@[simp] theorem State.addSat_flds (p : Nat) (f : Fld) (n : Nat) :
    (s.addSat p f n).flds = (s.setFld p f (Nat.min (s.fld p f + n) (2 ^ f.wid - 1))).flds := rfl
@[simp] theorem State.addSat_time (p : Nat) (f : Fld) (n : Nat) :
    (s.addSat p f n).time = s.time := rfl
@[simp] theorem State.addSat_inst (p : Nat) (f : Fld) (n : Nat) :
    (s.addSat p f n).inst = s.inst := rfl
@[simp] theorem State.addSat_frm (p : Nat) (f : Fld) (n : Nat) : (s.addSat p f n).frm = s.frm := rfl
@[simp] theorem State.addSat_ctx (p : Nat) (f : Fld) (n : Nat) : (s.addSat p f n).ctx = s.ctx := rfl
@[simp] theorem State.addSat_jer (p : Nat) (f : Fld) (n : Nat) : (s.addSat p f n).jer = s.jer := rfl
@[simp] theorem State.addSat_plc (p : Nat) (f : Fld) (n : Nat) : (s.addSat p f n).plc = s.plc := rfl
@[simp] theorem State.addSat_lnk (p : Nat) (f : Fld) (n : Nat) : (s.addSat p f n).lnk = s.lnk := rfl
@[simp] theorem State.addSat_ang (p : Nat) (f : Fld) (n : Nat) : (s.addSat p f n).ang = s.ang := rfl
@[simp] theorem State.addSat_fab (p : Nat) (f : Fld) (n : Nat) : (s.addSat p f n).fab = s.fab := rfl
@[simp] theorem State.addSat_cfg (p : Nat) (f : Fld) (n : Nat) : (s.addSat p f n).cfg = s.cfg := rfl
@[simp] theorem State.addSat_fls (p : Nat) (f : Fld) (n : Nat) : (s.addSat p f n).fls = s.fls := rfl
@[simp] theorem State.addSat_pwr (p : Nat) (f : Fld) (n : Nat) : (s.addSat p f n).pwr = s.pwr := rfl
@[simp] theorem State.addSat_twn (p : Nat) (f : Fld) (n : Nat) : (s.addSat p f n).twn = s.twn := rfl
@[simp] theorem State.addSat_hst (p : Nat) (f : Fld) (n : Nat) : (s.addSat p f n).hst = s.hst := rfl
@[simp] theorem State.addSat_free (p : Nat) (f : Fld) (n : Nat) :
    (s.addSat p f n).free = s.free := rfl

/-! `raiseTo` -/

@[simp] theorem State.raiseTo_pending (p : Nat) (f : Fld) (n : Nat) :
    (s.raiseTo p f n).pending = s.pending := rfl
@[simp] theorem State.raiseTo_flds (p : Nat) (f : Fld) (n : Nat) :
    (s.raiseTo p f n).flds = (s.setFld p f (Nat.max (s.fld p f) (Nat.min n (2 ^ f.wid - 1)))).flds := rfl
@[simp] theorem State.raiseTo_time (p : Nat) (f : Fld) (n : Nat) :
    (s.raiseTo p f n).time = s.time := rfl
@[simp] theorem State.raiseTo_inst (p : Nat) (f : Fld) (n : Nat) :
    (s.raiseTo p f n).inst = s.inst := rfl
@[simp] theorem State.raiseTo_frm (p : Nat) (f : Fld) (n : Nat) :
    (s.raiseTo p f n).frm = s.frm := rfl
@[simp] theorem State.raiseTo_ctx (p : Nat) (f : Fld) (n : Nat) :
    (s.raiseTo p f n).ctx = s.ctx := rfl
@[simp] theorem State.raiseTo_jer (p : Nat) (f : Fld) (n : Nat) :
    (s.raiseTo p f n).jer = s.jer := rfl
@[simp] theorem State.raiseTo_plc (p : Nat) (f : Fld) (n : Nat) :
    (s.raiseTo p f n).plc = s.plc := rfl
@[simp] theorem State.raiseTo_lnk (p : Nat) (f : Fld) (n : Nat) :
    (s.raiseTo p f n).lnk = s.lnk := rfl
@[simp] theorem State.raiseTo_ang (p : Nat) (f : Fld) (n : Nat) :
    (s.raiseTo p f n).ang = s.ang := rfl
@[simp] theorem State.raiseTo_fab (p : Nat) (f : Fld) (n : Nat) :
    (s.raiseTo p f n).fab = s.fab := rfl
@[simp] theorem State.raiseTo_cfg (p : Nat) (f : Fld) (n : Nat) :
    (s.raiseTo p f n).cfg = s.cfg := rfl
@[simp] theorem State.raiseTo_fls (p : Nat) (f : Fld) (n : Nat) :
    (s.raiseTo p f n).fls = s.fls := rfl
@[simp] theorem State.raiseTo_pwr (p : Nat) (f : Fld) (n : Nat) :
    (s.raiseTo p f n).pwr = s.pwr := rfl
@[simp] theorem State.raiseTo_twn (p : Nat) (f : Fld) (n : Nat) :
    (s.raiseTo p f n).twn = s.twn := rfl
@[simp] theorem State.raiseTo_hst (p : Nat) (f : Fld) (n : Nat) :
    (s.raiseTo p f n).hst = s.hst := rfl
@[simp] theorem State.raiseTo_free (p : Nat) (f : Fld) (n : Nat) :
    (s.raiseTo p f n).free = s.free := rfl

/-! `resetPage` -/

@[simp] theorem State.resetPage_pending (p : Nat) : (s.resetPage p).pending = s.pending := rfl
@[simp] theorem State.resetPage_flds (p : Nat) :
    (s.resetPage p).flds = SMap.clearRange s.flds (p * 131072) ((p + 1) * 131072) := rfl
@[simp] theorem State.resetPage_time (p : Nat) : (s.resetPage p).time = s.time := rfl
@[simp] theorem State.resetPage_inst (p : Nat) : (s.resetPage p).inst = s.inst := rfl
@[simp] theorem State.resetPage_frm (p : Nat) : (s.resetPage p).frm = s.frm := rfl
@[simp] theorem State.resetPage_ctx (p : Nat) : (s.resetPage p).ctx = s.ctx := rfl
@[simp] theorem State.resetPage_jer (p : Nat) : (s.resetPage p).jer = s.jer := rfl
@[simp] theorem State.resetPage_plc (p : Nat) : (s.resetPage p).plc = s.plc := rfl
@[simp] theorem State.resetPage_lnk (p : Nat) : (s.resetPage p).lnk = s.lnk := rfl
@[simp] theorem State.resetPage_ang (p : Nat) : (s.resetPage p).ang = s.ang := rfl
@[simp] theorem State.resetPage_fab (p : Nat) : (s.resetPage p).fab = s.fab := rfl
@[simp] theorem State.resetPage_cfg (p : Nat) : (s.resetPage p).cfg = s.cfg := rfl
@[simp] theorem State.resetPage_fls (p : Nat) : (s.resetPage p).fls = s.fls := rfl
@[simp] theorem State.resetPage_pwr (p : Nat) : (s.resetPage p).pwr = s.pwr := rfl
@[simp] theorem State.resetPage_twn (p : Nat) : (s.resetPage p).twn = s.twn := rfl
@[simp] theorem State.resetPage_hst (p : Nat) : (s.resetPage p).hst = s.hst := rfl
@[simp] theorem State.resetPage_free (p : Nat) : (s.resetPage p).free = s.free := rfl

/-! `setSlotWord` -/

@[simp] theorem State.setSlotWord_pending (p w : Nat) (v : Word) :
    (s.setSlotWord p w v).pending = s.pending := rfl
@[simp] theorem State.setSlotWord_flds (p w : Nat) (v : Word) :
    (s.setSlotWord p w v).flds = s.flds := rfl
@[simp] theorem State.setSlotWord_time (p w : Nat) (v : Word) :
    (s.setSlotWord p w v).time = s.time := rfl
@[simp] theorem State.setSlotWord_inst (p w : Nat) (v : Word) :
    (s.setSlotWord p w v).inst = s.inst := rfl
@[simp] theorem State.setSlotWord_frm (p w : Nat) (v : Word) :
    (s.setSlotWord p w v).frm = s.frm := rfl
@[simp] theorem State.setSlotWord_ctx (p w : Nat) (v : Word) :
    (s.setSlotWord p w v).ctx = { s.ctx with store := SMap.put 0 s.ctx.store (p * 64 + w) v } := rfl
@[simp] theorem State.setSlotWord_jer (p w : Nat) (v : Word) :
    (s.setSlotWord p w v).jer = s.jer := rfl
@[simp] theorem State.setSlotWord_plc (p w : Nat) (v : Word) :
    (s.setSlotWord p w v).plc = s.plc := rfl
@[simp] theorem State.setSlotWord_lnk (p w : Nat) (v : Word) :
    (s.setSlotWord p w v).lnk = s.lnk := rfl
@[simp] theorem State.setSlotWord_ang (p w : Nat) (v : Word) :
    (s.setSlotWord p w v).ang = s.ang := rfl
@[simp] theorem State.setSlotWord_fab (p w : Nat) (v : Word) :
    (s.setSlotWord p w v).fab = s.fab := rfl
@[simp] theorem State.setSlotWord_cfg (p w : Nat) (v : Word) :
    (s.setSlotWord p w v).cfg = s.cfg := rfl
@[simp] theorem State.setSlotWord_fls (p w : Nat) (v : Word) :
    (s.setSlotWord p w v).fls = s.fls := rfl
@[simp] theorem State.setSlotWord_pwr (p w : Nat) (v : Word) :
    (s.setSlotWord p w v).pwr = s.pwr := rfl
@[simp] theorem State.setSlotWord_twn (p w : Nat) (v : Word) :
    (s.setSlotWord p w v).twn = s.twn := rfl
@[simp] theorem State.setSlotWord_hst (p w : Nat) (v : Word) :
    (s.setSlotWord p w v).hst = s.hst := rfl
@[simp] theorem State.setSlotWord_free (p w : Nat) (v : Word) :
    (s.setSlotWord p w v).free = s.free := rfl

/-! `noteBit` -/

@[simp] theorem State.noteBit_pending (p : Nat) (f : Fld) (b : Nat) :
    (s.noteBit p f b).pending = s.pending := rfl
@[simp] theorem State.noteBit_flds (p : Nat) (f : Fld) (b : Nat) :
    (s.noteBit p f b).flds = s.flds := rfl
@[simp] theorem State.noteBit_time (p : Nat) (f : Fld) (b : Nat) :
    (s.noteBit p f b).time = s.time := rfl
@[simp] theorem State.noteBit_frm (p : Nat) (f : Fld) (b : Nat) :
    (s.noteBit p f b).frm = s.frm := rfl
@[simp] theorem State.noteBit_ctx (p : Nat) (f : Fld) (b : Nat) :
    (s.noteBit p f b).ctx = s.ctx := rfl
@[simp] theorem State.noteBit_jer (p : Nat) (f : Fld) (b : Nat) :
    (s.noteBit p f b).jer = s.jer := rfl
@[simp] theorem State.noteBit_plc (p : Nat) (f : Fld) (b : Nat) :
    (s.noteBit p f b).plc = s.plc := rfl
@[simp] theorem State.noteBit_lnk (p : Nat) (f : Fld) (b : Nat) :
    (s.noteBit p f b).lnk = s.lnk := rfl
@[simp] theorem State.noteBit_ang (p : Nat) (f : Fld) (b : Nat) :
    (s.noteBit p f b).ang = s.ang := rfl
@[simp] theorem State.noteBit_fab (p : Nat) (f : Fld) (b : Nat) :
    (s.noteBit p f b).fab = s.fab := rfl
@[simp] theorem State.noteBit_cfg (p : Nat) (f : Fld) (b : Nat) :
    (s.noteBit p f b).cfg = s.cfg := rfl
@[simp] theorem State.noteBit_fls (p : Nat) (f : Fld) (b : Nat) :
    (s.noteBit p f b).fls = s.fls := rfl
@[simp] theorem State.noteBit_pwr (p : Nat) (f : Fld) (b : Nat) :
    (s.noteBit p f b).pwr = s.pwr := rfl
@[simp] theorem State.noteBit_twn (p : Nat) (f : Fld) (b : Nat) :
    (s.noteBit p f b).twn = s.twn := rfl
@[simp] theorem State.noteBit_hst (p : Nat) (f : Fld) (b : Nat) :
    (s.noteBit p f b).hst = s.hst := rfl
@[simp] theorem State.noteBit_free (p : Nat) (f : Fld) (b : Nat) :
    (s.noteBit p f b).free = s.free := rfl

/-! `timeAt` -/

/-- R308: while MDLL0 runs device time is the command's. -/
theorem State.timeAt_on (t : Time) (h : s.mdllOn 0 = true) : s.timeAt t = Nat.max s.time t := by
  simp [State.timeAt, h]

/-- R308: device time never decreases. -/
theorem State.le_timeAt (t : Time) : s.time ≤ s.timeAt t := by
  unfold State.timeAt
  split
  · exact Nat.le_max_left _ _
  · exact Nat.le_add_right _ _

/-- R7: an instant in which time does not move on keeps what it has recorded. -/
theorem State.atTime_inst_same (t : Time) (h : s.timeAt t = s.time) : (s.at_ t).inst = s.inst := by
  simp [State.at_, h]

/-- R308: whole cycles of the slow clock take no more than the time that has passed, -/
theorem slowNs_slowCycles_le (acc d : Nat) : slowNs acc (slowCycles acc d) ≤ d := by
  unfold slowNs slowCycles
  have := Nat.mod_lt acc (show 0 < 128 by decide)
  generalize acc % 128 = a at *
  omega

/-- and what is left of it takes none. -/
theorem slowCycles_rest (acc d : Nat) :
    slowCycles ((acc + 74 * slowCycles acc d) % 128) (d - slowNs acc (slowCycles acc d)) = 0 := by
  unfold slowNs slowCycles
  have := Nat.mod_lt acc (show 0 < 128 by decide)
  have h : ∀ k, (acc + 74 * k) % 128 % 128 = (acc % 128 + 3906250 * k) % 128 := by intro k; omega
  rw [h]
  generalize acc % 128 = a at *
  omega

theorem slowNs_zero (acc : Nat) : slowNs acc 0 = 0 := by
  unfold slowNs; have := Nat.mod_lt acc (show 0 < 128 by decide); omega

/-- R308: device time that has come to `t` stays there. -/
theorem State.timeAt_timeAt (t : Time) : (s.at_ t).timeAt t = (s.at_ t).time := by
  have e : (s.at_ t).mdllOn 0 = s.mdllOn 0 := rfl
  cases h : s.mdllOn 0 with
  | true => simp [State.timeAt, h, e]
  | false =>
    have k : (s.at_ t).slowTo t = 0 := by
      simp only [State.slowTo, e, h, State.atTime_time, State.timeAt]
      by_cases c : slowCycles s.inst.acc (t - s.time) = 0
      · simp [State.at_, State.timeAt, State.slowTo, h, c, slowNs_zero]
      · have lt : s.time < s.time + slowNs s.inst.acc (slowCycles s.inst.acc (t - s.time)) := by
          refine Nat.lt_add_of_pos_right ?_
          unfold slowNs
          generalize slowCycles _ _ = k at *
          exact Nat.div_pos (by omega) (by decide)
        simp only [State.at_, State.timeAt, State.slowTo, h, Bool.false_eq_true, if_false, if_pos lt]
        rw [← Nat.sub_sub]
        exact slowCycles_rest _ _
    simp [State.timeAt, h, e, k, slowNs_zero]

/-- A command of the time that another has brought finds device time there. -/
@[simp] theorem State.atTime_atTime (t : Time) : (s.at_ t).at_ t = s.at_ t := by
  have h := State.timeAt_timeAt s t
  have e : (s.at_ t).at_ t = { s.at_ t with
      time := (s.at_ t).timeAt t
      inst := if (s.at_ t).time < (s.at_ t).timeAt t then
        ⟨(s.at_ t).flds, [], ((s.at_ t).inst.acc + 74 * (s.at_ t).slowTo t) % 128⟩ else (s.at_ t).inst } := rfl
  rw [e, h, if_neg (Nat.lt_irrefl _)]

end Sys2Proof.Machine
end

