-- ==== Sys2Proof/Laws/Fields.lean ====
section
/-! SUPPORT. Register fields: what a field reads as after each operation that writes one. A field keeps its
value under every update that leaves the table of fields alone. -/

namespace Sys2Proof.Machine

/-- A field is known by the table of fields alone. -/
theorem State.fld_of_flds {s u : State} (h : u.flds = s.flds) (p : Nat) (f : Fld) :
    u.fld p f = s.fld p f := by simp [State.fld, h]

/-- The field written reads as the value cut to its width. -/
@[simp] theorem State.fld_setFld_same (s : State) (p : Nat) (f : Fld) (v : Nat) :
    (s.setFld p f v).fld p f = v % 2 ^ f.wid := by simp [State.fld]

/-- Every other field is as it was. -/
theorem State.fld_setFld_ne (s : State) (p q : Nat) (f g : Fld) (v : Nat)
    (h : fldKey q g ≠ fldKey p f) : (s.setFld p f v).fld q g = s.fld q g := by
  simp [State.fld, SMap.get_put_ne _ _ _ _ _ _ h]

/-- A field of another page is as it was. -/
theorem fldKey_page_ne (p q : Nat) (f g : Fld) (hf : f.off * 32 + f.lo < 131072)
    (hg : g.off * 32 + g.lo < 131072) (h : q ≠ p) : fldKey q g ≠ fldKey p f := by
  unfold fldKey; omega

/-- Two fields of one page at different places have different keys. -/
theorem fldKey_field_ne (p : Nat) (f g : Fld) (h : g.off * 32 + g.lo ≠ f.off * 32 + f.lo) :
    fldKey p g ≠ fldKey p f := by unfold fldKey; omega

/-- The page of a key. -/
theorem fldKey_div (p : Nat) (f : Fld) (hf : f.off * 32 + f.lo < 131072) :
    fldKey p f / 131072 = p := by unfold fldKey; omega

@[simp] theorem State.fld_setBit_same (s : State) (p : Nat) (f : Fld) (b : Bool) :
    (s.setBit p f b).fld p f = b.toNat % 2 ^ f.wid := State.fld_setFld_same s p f b.toNat

theorem State.fld_setBit_ne (s : State) (p q : Nat) (f g : Fld) (b : Bool)
    (h : fldKey q g ≠ fldKey p f) : (s.setBit p f b).fld q g = s.fld q g :=
  State.fld_setFld_ne s p q f g b.toNat h

@[simp] theorem State.fld_store_same (s : State) (p : Nat) (f : Fld) (v : Nat) :
    (s.store p f v).fld p f = f.of v := by
  show (s.setFld p f (f.of v)).fld p f = f.of v
  rw [State.fld_setFld_same]
  exact Nat.mod_eq_of_lt (Nat.mod_lt _ (Nat.two_pow_pos _))

theorem State.fld_store_ne (s : State) (p q : Nat) (f g : Fld) (v : Nat)
    (h : fldKey q g ≠ fldKey p f) : (s.store p f v).fld q g = s.fld q g :=
  State.fld_setFld_ne s p q f g (f.of v) h

@[simp] theorem State.fld_addWrap_same (s : State) (p : Nat) (f : Fld) (n : Nat) :
    (s.addWrap p f n).fld p f = (s.fld p f + n) % 2 ^ f.wid :=
  State.fld_setFld_same s p f (s.fld p f + n)

theorem State.fld_addWrap_ne (s : State) (p q : Nat) (f g : Fld) (n : Nat)
    (h : fldKey q g ≠ fldKey p f) : (s.addWrap p f n).fld q g = s.fld q g :=
  State.fld_setFld_ne s p q f g (s.fld p f + n) h

@[simp] theorem State.fld_addSat_same (s : State) (p : Nat) (f : Fld) (n : Nat) :
    (s.addSat p f n).fld p f = Nat.min (s.fld p f + n) (2 ^ f.wid - 1) := by
  show (s.setFld p f (Nat.min (s.fld p f + n) (2 ^ f.wid - 1))).fld p f = _
  rw [State.fld_setFld_same]
  exact Nat.mod_eq_of_lt (Nat.lt_of_le_of_lt (Nat.min_le_right _ _)
    (Nat.sub_lt (Nat.two_pow_pos _) Nat.one_pos))

theorem State.fld_addSat_ne (s : State) (p q : Nat) (f g : Fld) (n : Nat)
    (h : fldKey q g ≠ fldKey p f) : (s.addSat p f n).fld q g = s.fld q g :=
  State.fld_setFld_ne s p q f g (Nat.min (s.fld p f + n) (2 ^ f.wid - 1)) h

theorem State.fld_raiseTo_ne (s : State) (p q : Nat) (f g : Fld) (n : Nat)
    (h : fldKey q g ≠ fldKey p f) : (s.raiseTo p f n).fld q g = s.fld q g :=
  State.fld_setFld_ne s p q f g (Nat.max (s.fld p f) (Nat.min n (2 ^ f.wid - 1))) h

/-! Updates of other parts keep every field. -/

variable (s : State) (p : Nat) (f : Fld)

@[simp] theorem State.updFrm_fld (g : Frm → Frm) : (s.updFrm g).fld p f = s.fld p f := rfl
@[simp] theorem State.updCtx_fld (g : Ctx → Ctx) : (s.updCtx g).fld p f = s.fld p f := rfl
@[simp] theorem State.updJer_fld (g : Jer → Jer) : (s.updJer g).fld p f = s.fld p f := rfl
@[simp] theorem State.updPlc_fld (g : Plc → Plc) : (s.updPlc g).fld p f = s.fld p f := rfl
@[simp] theorem State.updFab_fld (g : Fab → Fab) : (s.updFab g).fld p f = s.fld p f := rfl
@[simp] theorem State.updCfg_fld (g : Cfg → Cfg) : (s.updCfg g).fld p f = s.fld p f := rfl
@[simp] theorem State.updFls_fld (g : Fls → Fls) : (s.updFls g).fld p f = s.fld p f := rfl
@[simp] theorem State.updPwr_fld (g : Pwr → Pwr) : (s.updPwr g).fld p f = s.fld p f := rfl
@[simp] theorem State.updTwn_fld (g : Twn → Twn) : (s.updTwn g).fld p f = s.fld p f := rfl
@[simp] theorem State.updHst_fld (g : Hst → Hst) : (s.updHst g).fld p f = s.fld p f := rfl
@[simp] theorem State.updLink_fld (l : Nat) (g : Lnk → Lnk) : (s.updLink l g).fld p f = s.fld p f := rfl
@[simp] theorem State.mapLinks_fld (g : Lnk → Lnk) : (s.mapLinks g).fld p f = s.fld p f := rfl
@[simp] theorem State.updAng_fld (u : Nat) (g : Ang → Ang) : (s.updAng u g).fld p f = s.fld p f := rfl
@[simp] theorem State.updEng_fld (e : Nat) (g : Eng → Eng) : (s.updEng e g).fld p f = s.fld p f := rfl
@[simp] theorem State.updMdll_fld (n : Nat) (g : Ck → Ck) : (s.updMdll n g).fld p f = s.fld p f := rfl
@[simp] theorem State.atTime_fld (t : Time) : (s.at_ t).fld p f = s.fld p f := rfl
@[simp] theorem State.noteBit_fld (q : Nat) (g : Fld) (b : Nat) : (s.noteBit q g b).fld p f = s.fld p f := rfl
@[simp] theorem State.answer_fld (d : List Nat) : (s.answer d).fld p f = s.fld p f := rfl
@[simp] theorem State.setSlotWord_fld (b w : Nat) (v : Word) : (s.setSlotWord b w v).fld p f = s.fld p f := rfl

end Sys2Proof.Machine
end

