-- ==== Sys2Proof/Laws/Ops.lean ====
section
/-! SUPPORT. What the shared operations over errors, interrupts, the log and the host's accesses can do. -/

namespace Sys2Proof.Machine

variable (s : State)

/-! `sendOrPend` -/

@[simp] theorem State.sendOrPend_pending (v : Nat) : (s.sendOrPend v).pending = s.pending := rfl
@[simp] theorem State.sendOrPend_flds (v : Nat) : (s.sendOrPend v).flds = s.flds := rfl
@[simp] theorem State.sendOrPend_time (v : Nat) : (s.sendOrPend v).time = s.time := rfl
@[simp] theorem State.sendOrPend_frm (v : Nat) : (s.sendOrPend v).frm = s.frm := rfl
@[simp] theorem State.sendOrPend_ctx (v : Nat) : (s.sendOrPend v).ctx = s.ctx := rfl
@[simp] theorem State.sendOrPend_jer (v : Nat) : (s.sendOrPend v).jer = s.jer := rfl
@[simp] theorem State.sendOrPend_plc (v : Nat) : (s.sendOrPend v).plc = s.plc := rfl
@[simp] theorem State.sendOrPend_lnk (v : Nat) : (s.sendOrPend v).lnk = s.lnk := rfl
@[simp] theorem State.sendOrPend_ang (v : Nat) : (s.sendOrPend v).ang = s.ang := rfl
@[simp] theorem State.sendOrPend_fab (v : Nat) : (s.sendOrPend v).fab = s.fab := rfl
@[simp] theorem State.sendOrPend_cfg (v : Nat) : (s.sendOrPend v).cfg = s.cfg := rfl
@[simp] theorem State.sendOrPend_fls (v : Nat) : (s.sendOrPend v).fls = s.fls := rfl
@[simp] theorem State.sendOrPend_pwr (v : Nat) : (s.sendOrPend v).pwr = s.pwr := rfl
@[simp] theorem State.sendOrPend_twn (v : Nat) : (s.sendOrPend v).twn = s.twn := rfl
@[simp] theorem State.sendOrPend_free (v : Nat) : (s.sendOrPend v).free = s.free := rfl

/-! `noteVec` -/

@[simp] theorem State.noteVec_pending (v : Nat) :
    (s.noteVec v).pending = s.pending := by
  simp only [State.noteVec]; split <;> rfl
@[simp] theorem State.noteVec_flds (v : Nat) :
    (s.noteVec v).flds = s.flds := by
  simp only [State.noteVec]; split <;> rfl
@[simp] theorem State.noteVec_time (v : Nat) :
    (s.noteVec v).time = s.time := by
  simp only [State.noteVec]; split <;> rfl
@[simp] theorem State.noteVec_frm (v : Nat) :
    (s.noteVec v).frm = s.frm := by
  simp only [State.noteVec]; split <;> rfl
@[simp] theorem State.noteVec_ctx (v : Nat) :
    (s.noteVec v).ctx = s.ctx := by
  simp only [State.noteVec]; split <;> rfl
@[simp] theorem State.noteVec_jer (v : Nat) :
    (s.noteVec v).jer = s.jer := by
  simp only [State.noteVec]; split <;> rfl
@[simp] theorem State.noteVec_plc (v : Nat) :
    (s.noteVec v).plc = s.plc := by
  simp only [State.noteVec]; split <;> rfl
@[simp] theorem State.noteVec_lnk (v : Nat) :
    (s.noteVec v).lnk = s.lnk := by
  simp only [State.noteVec]; split <;> rfl
@[simp] theorem State.noteVec_ang (v : Nat) :
    (s.noteVec v).ang = s.ang := by
  simp only [State.noteVec]; split <;> rfl
@[simp] theorem State.noteVec_fab (v : Nat) :
    (s.noteVec v).fab = s.fab := by
  simp only [State.noteVec]; split <;> rfl
@[simp] theorem State.noteVec_cfg (v : Nat) :
    (s.noteVec v).cfg = s.cfg := by
  simp only [State.noteVec]; split <;> rfl
@[simp] theorem State.noteVec_fls (v : Nat) :
    (s.noteVec v).fls = s.fls := by
  simp only [State.noteVec]; split <;> rfl
@[simp] theorem State.noteVec_pwr (v : Nat) :
    (s.noteVec v).pwr = s.pwr := by
  simp only [State.noteVec]; split <;> rfl
@[simp] theorem State.noteVec_twn (v : Nat) :
    (s.noteVec v).twn = s.twn := by
  simp only [State.noteVec]; split <;> rfl
@[simp] theorem State.noteVec_free (v : Nat) :
    (s.noteVec v).free = s.free := by
  simp only [State.noteVec]; split <;> rfl

/-! `irq` -/

@[simp] theorem State.irq_pending (p b : Nat) :
    (s.irq p b).pending = s.pending := by
  simp [State.irq]
@[simp] theorem State.irq_time (p b : Nat) : (s.irq p b).time = s.time := by
  simp [State.irq]
@[simp] theorem State.irq_frm (p b : Nat) : (s.irq p b).frm = s.frm := by
  simp [State.irq]
@[simp] theorem State.irq_ctx (p b : Nat) : (s.irq p b).ctx = s.ctx := by
  simp [State.irq]
@[simp] theorem State.irq_jer (p b : Nat) : (s.irq p b).jer = s.jer := by
  simp [State.irq]
@[simp] theorem State.irq_plc (p b : Nat) : (s.irq p b).plc = s.plc := by
  simp [State.irq]
@[simp] theorem State.irq_lnk (p b : Nat) : (s.irq p b).lnk = s.lnk := by
  simp [State.irq]
@[simp] theorem State.irq_ang (p b : Nat) : (s.irq p b).ang = s.ang := by
  simp [State.irq]
@[simp] theorem State.irq_fab (p b : Nat) : (s.irq p b).fab = s.fab := by
  simp [State.irq]
@[simp] theorem State.irq_cfg (p b : Nat) : (s.irq p b).cfg = s.cfg := by
  simp [State.irq]
@[simp] theorem State.irq_fls (p b : Nat) : (s.irq p b).fls = s.fls := by
  simp [State.irq]
@[simp] theorem State.irq_pwr (p b : Nat) : (s.irq p b).pwr = s.pwr := by
  simp [State.irq]
@[simp] theorem State.irq_twn (p b : Nat) : (s.irq p b).twn = s.twn := by
  simp [State.irq]
@[simp] theorem State.irq_free (p b : Nat) : (s.irq p b).free = s.free := by
  simp [State.irq]

/-! `err` -/

@[simp] theorem State.err_pending (p b : Nat) :
    (s.err p b).pending = s.pending := by
  simp [State.err]
@[simp] theorem State.err_time (p b : Nat) : (s.err p b).time = s.time := by
  simp [State.err]
@[simp] theorem State.err_frm (p b : Nat) : (s.err p b).frm = s.frm := by
  simp [State.err]
@[simp] theorem State.err_ctx (p b : Nat) : (s.err p b).ctx = s.ctx := by
  simp [State.err]
@[simp] theorem State.err_jer (p b : Nat) : (s.err p b).jer = s.jer := by
  simp [State.err]
@[simp] theorem State.err_plc (p b : Nat) : (s.err p b).plc = s.plc := by
  simp [State.err]
@[simp] theorem State.err_lnk (p b : Nat) : (s.err p b).lnk = s.lnk := by
  simp [State.err]
@[simp] theorem State.err_ang (p b : Nat) : (s.err p b).ang = s.ang := by
  simp [State.err]
@[simp] theorem State.err_fab (p b : Nat) : (s.err p b).fab = s.fab := by
  simp [State.err]
@[simp] theorem State.err_cfg (p b : Nat) : (s.err p b).cfg = s.cfg := by
  simp [State.err]
@[simp] theorem State.err_fls (p b : Nat) : (s.err p b).fls = s.fls := by
  simp [State.err]
@[simp] theorem State.err_pwr (p b : Nat) : (s.err p b).pwr = s.pwr := by
  simp [State.err]
@[simp] theorem State.err_twn (p b : Nat) : (s.err p b).twn = s.twn := by
  simp [State.err]
@[simp] theorem State.err_free (p b : Nat) : (s.err p b).free = s.free := by
  simp [State.err]

/-! `log` -/

@[simp] theorem State.log_pending (p c v a : Nat) :
    (s.log p c v a).pending = s.pending := by
  simp only [State.log]; split
  · simp
  · split <;> simp
@[simp] theorem State.log_time (p c v a : Nat) :
    (s.log p c v a).time = s.time := by
  simp only [State.log]; split
  · simp
  · split <;> simp
@[simp] theorem State.log_frm (p c v a : Nat) :
    (s.log p c v a).frm = s.frm := by
  simp only [State.log]; split
  · simp
  · split <;> simp
@[simp] theorem State.log_ctx (p c v a : Nat) :
    (s.log p c v a).ctx = s.ctx := by
  simp only [State.log]; split
  · simp
  · split <;> simp
@[simp] theorem State.log_jer (p c v a : Nat) :
    (s.log p c v a).jer = s.jer := by
  simp only [State.log]; split
  · simp
  · split <;> simp
@[simp] theorem State.log_plc (p c v a : Nat) :
    (s.log p c v a).plc = s.plc := by
  simp only [State.log]; split
  · simp
  · split <;> simp
@[simp] theorem State.log_lnk (p c v a : Nat) :
    (s.log p c v a).lnk = s.lnk := by
  simp only [State.log]; split
  · simp
  · split <;> simp
@[simp] theorem State.log_ang (p c v a : Nat) :
    (s.log p c v a).ang = s.ang := by
  simp only [State.log]; split
  · simp
  · split <;> simp
@[simp] theorem State.log_fab (p c v a : Nat) :
    (s.log p c v a).fab = s.fab := by
  simp only [State.log]; split
  · simp
  · split <;> simp
@[simp] theorem State.log_cfg (p c v a : Nat) :
    (s.log p c v a).cfg = s.cfg := by
  simp only [State.log]; split
  · simp
  · split <;> simp
@[simp] theorem State.log_fls (p c v a : Nat) :
    (s.log p c v a).fls = s.fls := by
  simp only [State.log]; split
  · simp
  · split <;> simp
@[simp] theorem State.log_pwr (p c v a : Nat) :
    (s.log p c v a).pwr = s.pwr := by
  simp only [State.log]; split
  · simp
  · split <;> simp
@[simp] theorem State.log_twn (p c v a : Nat) :
    (s.log p c v a).twn = s.twn := by
  simp only [State.log]; split
  · simp
  · split <;> simp
@[simp] theorem State.log_free (p c v a : Nat) :
    (s.log p c v a).free = s.free := by
  simp only [State.log]; split
  · simp
  · split <;> simp

/-! `contained` -/

@[simp] theorem State.contained_pending  : s.contained.pending = s.pending := rfl
@[simp] theorem State.contained_time  : s.contained.time = s.time := rfl
@[simp] theorem State.contained_frm  : s.contained.frm = s.frm := rfl
@[simp] theorem State.contained_ctx  : s.contained.ctx = s.ctx := rfl
@[simp] theorem State.contained_jer  : s.contained.jer = s.jer := rfl
@[simp] theorem State.contained_plc  : s.contained.plc = s.plc := rfl
@[simp] theorem State.contained_lnk  : s.contained.lnk = s.lnk := rfl
@[simp] theorem State.contained_ang  : s.contained.ang = s.ang := rfl
@[simp] theorem State.contained_fab  : s.contained.fab = s.fab := rfl
@[simp] theorem State.contained_cfg  : s.contained.cfg = s.cfg := rfl
@[simp] theorem State.contained_fls  : s.contained.fls = s.fls := rfl
@[simp] theorem State.contained_pwr  : s.contained.pwr = s.pwr := rfl
@[simp] theorem State.contained_twn  : s.contained.twn = s.twn := rfl
@[simp] theorem State.contained_hst  : s.contained.hst = s.hst := rfl
@[simp] theorem State.contained_free  : s.contained.free = s.free := rfl

/-! `corrected` -/

@[simp] theorem State.corrected_pending  : s.corrected.pending = s.pending := rfl
@[simp] theorem State.corrected_time  : s.corrected.time = s.time := rfl
@[simp] theorem State.corrected_frm  : s.corrected.frm = s.frm := rfl
@[simp] theorem State.corrected_ctx  : s.corrected.ctx = s.ctx := rfl
@[simp] theorem State.corrected_jer  : s.corrected.jer = s.jer := rfl
@[simp] theorem State.corrected_plc  : s.corrected.plc = s.plc := rfl
@[simp] theorem State.corrected_lnk  : s.corrected.lnk = s.lnk := rfl
@[simp] theorem State.corrected_ang  : s.corrected.ang = s.ang := rfl
@[simp] theorem State.corrected_fab  : s.corrected.fab = s.fab := rfl
@[simp] theorem State.corrected_cfg  : s.corrected.cfg = s.cfg := rfl
@[simp] theorem State.corrected_fls  : s.corrected.fls = s.fls := rfl
@[simp] theorem State.corrected_pwr  : s.corrected.pwr = s.pwr := rfl
@[simp] theorem State.corrected_twn  : s.corrected.twn = s.twn := rfl
@[simp] theorem State.corrected_hst  : s.corrected.hst = s.hst := rfl
@[simp] theorem State.corrected_free  : s.corrected.free = s.free := rfl

/-! `dropWrite` -/

@[simp] theorem State.dropWrite_pending  :
    s.dropWrite.pending = s.pending := by simp [State.dropWrite]
@[simp] theorem State.dropWrite_time  : s.dropWrite.time = s.time := by simp [State.dropWrite]
@[simp] theorem State.dropWrite_frm  : s.dropWrite.frm = s.frm := by simp [State.dropWrite]
@[simp] theorem State.dropWrite_ctx  : s.dropWrite.ctx = s.ctx := by simp [State.dropWrite]
@[simp] theorem State.dropWrite_jer  : s.dropWrite.jer = s.jer := by simp [State.dropWrite]
@[simp] theorem State.dropWrite_plc  : s.dropWrite.plc = s.plc := by simp [State.dropWrite]
@[simp] theorem State.dropWrite_lnk  : s.dropWrite.lnk = s.lnk := by simp [State.dropWrite]
@[simp] theorem State.dropWrite_ang  : s.dropWrite.ang = s.ang := by simp [State.dropWrite]
@[simp] theorem State.dropWrite_fab  : s.dropWrite.fab = s.fab := by simp [State.dropWrite]
@[simp] theorem State.dropWrite_cfg  : s.dropWrite.cfg = s.cfg := by simp [State.dropWrite]
@[simp] theorem State.dropWrite_fls  : s.dropWrite.fls = s.fls := by simp [State.dropWrite]
@[simp] theorem State.dropWrite_pwr  : s.dropWrite.pwr = s.pwr := by simp [State.dropWrite]
@[simp] theorem State.dropWrite_twn  : s.dropWrite.twn = s.twn := by simp [State.dropWrite]
@[simp] theorem State.dropWrite_free  : s.dropWrite.free = s.free := by simp [State.dropWrite]

/-! `hang` -/

@[simp] theorem State.hang_pending (p : Nat) (w : Bool) (o : Nat) :
    (s.hang p w o).pending = s.pending := by
  simp [State.hang]
@[simp] theorem State.hang_time (p : Nat) (w : Bool) (o : Nat) :
    (s.hang p w o).time = s.time := by
  simp [State.hang]
@[simp] theorem State.hang_frm (p : Nat) (w : Bool) (o : Nat) :
    (s.hang p w o).frm = s.frm := by
  simp [State.hang]
@[simp] theorem State.hang_ctx (p : Nat) (w : Bool) (o : Nat) :
    (s.hang p w o).ctx = s.ctx := by
  simp [State.hang]
@[simp] theorem State.hang_jer (p : Nat) (w : Bool) (o : Nat) :
    (s.hang p w o).jer = s.jer := by
  simp [State.hang]
@[simp] theorem State.hang_plc (p : Nat) (w : Bool) (o : Nat) :
    (s.hang p w o).plc = s.plc := by
  simp [State.hang]
@[simp] theorem State.hang_lnk (p : Nat) (w : Bool) (o : Nat) :
    (s.hang p w o).lnk = s.lnk := by
  simp [State.hang]
@[simp] theorem State.hang_ang (p : Nat) (w : Bool) (o : Nat) :
    (s.hang p w o).ang = s.ang := by
  simp [State.hang]
@[simp] theorem State.hang_fab (p : Nat) (w : Bool) (o : Nat) :
    (s.hang p w o).fab = s.fab := by
  simp [State.hang]
@[simp] theorem State.hang_cfg (p : Nat) (w : Bool) (o : Nat) :
    (s.hang p w o).cfg = s.cfg := by
  simp [State.hang]
@[simp] theorem State.hang_fls (p : Nat) (w : Bool) (o : Nat) :
    (s.hang p w o).fls = s.fls := by
  simp [State.hang]
@[simp] theorem State.hang_pwr (p : Nat) (w : Bool) (o : Nat) :
    (s.hang p w o).pwr = s.pwr := by
  simp [State.hang]
@[simp] theorem State.hang_twn (p : Nat) (w : Bool) (o : Nat) :
    (s.hang p w o).twn = s.twn := by
  simp [State.hang]
@[simp] theorem State.hang_free (p : Nat) (w : Bool) (o : Nat) :
    (s.hang p w o).free = s.free := by
  simp [State.hang]

/-! `parcel` -/

@[simp] theorem State.parcel_pending (x : Fwd) :
    (s.parcel x).pending = s.pending := by
  unfold State.parcel; split <;> rfl
@[simp] theorem State.parcel_flds (x : Fwd) :
    (s.parcel x).flds = s.flds := by
  unfold State.parcel; split <;> rfl
@[simp] theorem State.parcel_time (x : Fwd) :
    (s.parcel x).time = s.time := by
  unfold State.parcel; split <;> rfl
@[simp] theorem State.parcel_frm (x : Fwd) :
    (s.parcel x).frm = s.frm := by
  unfold State.parcel; split <;> rfl
@[simp] theorem State.parcel_ctx (x : Fwd) :
    (s.parcel x).ctx = s.ctx := by
  unfold State.parcel; split <;> rfl
@[simp] theorem State.parcel_jer (x : Fwd) :
    (s.parcel x).jer = s.jer := by
  unfold State.parcel; split <;> rfl
@[simp] theorem State.parcel_plc (x : Fwd) :
    (s.parcel x).plc = s.plc := by
  unfold State.parcel; split <;> rfl
@[simp] theorem State.parcel_lnk (x : Fwd) :
    (s.parcel x).lnk = s.lnk := by
  unfold State.parcel; split <;> rfl
@[simp] theorem State.parcel_ang (x : Fwd) :
    (s.parcel x).ang = s.ang := by
  unfold State.parcel; split <;> rfl
@[simp] theorem State.parcel_fab (x : Fwd) :
    (s.parcel x).fab = s.fab := by
  unfold State.parcel; split <;> rfl
@[simp] theorem State.parcel_cfg (x : Fwd) :
    (s.parcel x).cfg = s.cfg := by
  unfold State.parcel; split <;> rfl
@[simp] theorem State.parcel_fls (x : Fwd) :
    (s.parcel x).fls = s.fls := by
  unfold State.parcel; split <;> rfl
@[simp] theorem State.parcel_pwr (x : Fwd) :
    (s.parcel x).pwr = s.pwr := by
  unfold State.parcel; split <;> rfl
@[simp] theorem State.parcel_hst (x : Fwd) :
    (s.parcel x).hst = s.hst := by
  unfold State.parcel; split <;> rfl
@[simp] theorem State.parcel_free (x : Fwd) :
    (s.parcel x).free = s.free := by
  unfold State.parcel; split <;> rfl

/-! `setFn` -/

@[simp] theorem State.setFn_pending (n : Nat) : (s.setFn n).pending = s.pending := rfl
@[simp] theorem State.setFn_time (n : Nat) : (s.setFn n).time = s.time := rfl
@[simp] theorem State.setFn_frm (n : Nat) : (s.setFn n).frm = s.frm := rfl
@[simp] theorem State.setFn_ctx (n : Nat) : (s.setFn n).ctx = s.ctx := rfl
@[simp] theorem State.setFn_jer (n : Nat) : (s.setFn n).jer = s.jer := rfl
@[simp] theorem State.setFn_plc (n : Nat) : (s.setFn n).plc = s.plc := rfl
@[simp] theorem State.setFn_lnk (n : Nat) : (s.setFn n).lnk = s.lnk := rfl
@[simp] theorem State.setFn_ang (n : Nat) : (s.setFn n).ang = s.ang := rfl
@[simp] theorem State.setFn_fab (n : Nat) : (s.setFn n).fab = s.fab := rfl
@[simp] theorem State.setFn_cfg (n : Nat) : (s.setFn n).cfg = s.cfg := rfl
@[simp] theorem State.setFn_fls (n : Nat) : (s.setFn n).fls = s.fls := rfl
@[simp] theorem State.setFn_pwr (n : Nat) : (s.setFn n).pwr = s.pwr := rfl
@[simp] theorem State.setFn_twn (n : Nat) : (s.setFn n).twn = s.twn := rfl
@[simp] theorem State.setFn_hst (n : Nat) : (s.setFn n).hst = s.hst := rfl
@[simp] theorem State.setFn_free (n : Nat) : (s.setFn n).free = s.free := rfl

/-! `holdCauseArises` -/

@[simp] theorem State.holdCauseArises_pending (c : Nat) :
    (s.holdCauseArises c).pending = s.pending := by
  unfold State.holdCauseArises; split <;> rfl
@[simp] theorem State.holdCauseArises_time (c : Nat) :
    (s.holdCauseArises c).time = s.time := by
  unfold State.holdCauseArises; split <;> rfl
@[simp] theorem State.holdCauseArises_frm (c : Nat) :
    (s.holdCauseArises c).frm = s.frm := by
  unfold State.holdCauseArises; split <;> rfl
@[simp] theorem State.holdCauseArises_ctx (c : Nat) :
    (s.holdCauseArises c).ctx = s.ctx := by
  unfold State.holdCauseArises; split <;> rfl
@[simp] theorem State.holdCauseArises_jer (c : Nat) :
    (s.holdCauseArises c).jer = s.jer := by
  unfold State.holdCauseArises; split <;> rfl
@[simp] theorem State.holdCauseArises_plc (c : Nat) :
    (s.holdCauseArises c).plc = s.plc := by
  unfold State.holdCauseArises; split <;> rfl
@[simp] theorem State.holdCauseArises_lnk (c : Nat) :
    (s.holdCauseArises c).lnk = s.lnk := by
  unfold State.holdCauseArises; split <;> rfl
@[simp] theorem State.holdCauseArises_ang (c : Nat) :
    (s.holdCauseArises c).ang = s.ang := by
  unfold State.holdCauseArises; split <;> rfl
@[simp] theorem State.holdCauseArises_fab (c : Nat) :
    (s.holdCauseArises c).fab = s.fab := by
  unfold State.holdCauseArises; split <;> rfl
@[simp] theorem State.holdCauseArises_cfg (c : Nat) :
    (s.holdCauseArises c).cfg = s.cfg := by
  unfold State.holdCauseArises; split <;> rfl
@[simp] theorem State.holdCauseArises_fls (c : Nat) :
    (s.holdCauseArises c).fls = s.fls := by
  unfold State.holdCauseArises; split <;> rfl
@[simp] theorem State.holdCauseArises_pwr (c : Nat) :
    (s.holdCauseArises c).pwr = s.pwr := by
  unfold State.holdCauseArises; split <;> rfl
@[simp] theorem State.holdCauseArises_twn (c : Nat) :
    (s.holdCauseArises c).twn = s.twn := by
  unfold State.holdCauseArises; split <;> rfl
@[simp] theorem State.holdCauseArises_hst (c : Nat) :
    (s.holdCauseArises c).hst = s.hst := by
  unfold State.holdCauseArises; split <;> rfl
@[simp] theorem State.holdCauseArises_free (c : Nat) :
    (s.holdCauseArises c).free = s.free := by
  unfold State.holdCauseArises; split <;> rfl

/-! `fatal` -/

@[simp] theorem State.fatal_pending (p c : Nat) :
    (s.fatal p c).pending = s.pending := by
  simp only [State.fatal]; split
  · simp
  · split <;> simp
@[simp] theorem State.fatal_time (p c : Nat) :
    (s.fatal p c).time = s.time := by
  simp only [State.fatal]; split
  · simp
  · split <;> simp
@[simp] theorem State.fatal_frm (p c : Nat) :
    (s.fatal p c).frm = s.frm := by
  simp only [State.fatal]; split
  · simp
  · split <;> simp
@[simp] theorem State.fatal_ctx (p c : Nat) :
    (s.fatal p c).ctx = s.ctx := by
  simp only [State.fatal]; split
  · simp
  · split <;> simp
@[simp] theorem State.fatal_jer (p c : Nat) :
    (s.fatal p c).jer = s.jer := by
  simp only [State.fatal]; split
  · simp
  · split <;> simp
@[simp] theorem State.fatal_plc (p c : Nat) :
    (s.fatal p c).plc = s.plc := by
  simp only [State.fatal]; split
  · simp
  · split <;> simp
@[simp] theorem State.fatal_ang (p c : Nat) :
    (s.fatal p c).ang = s.ang := by
  simp only [State.fatal]; split
  · simp
  · split <;> simp
@[simp] theorem State.fatal_fab (p c : Nat) :
    (s.fatal p c).fab = s.fab := by
  simp only [State.fatal]; split
  · simp
  · split <;> simp
@[simp] theorem State.fatal_cfg (p c : Nat) :
    (s.fatal p c).cfg = s.cfg := by
  simp only [State.fatal]; split
  · simp
  · split <;> simp
@[simp] theorem State.fatal_fls (p c : Nat) :
    (s.fatal p c).fls = s.fls := by
  simp only [State.fatal]; split
  · simp
  · split <;> simp
@[simp] theorem State.fatal_twn (p c : Nat) :
    (s.fatal p c).twn = s.twn := by
  simp only [State.fatal]; split
  · simp
  · split <;> simp
@[simp] theorem State.fatal_free (p c : Nat) :
    (s.fatal p c).free = s.free := by
  simp only [State.fatal]; split
  · simp
  · split <;> simp

/-! ## Fields -/

variable (p q : Nat) (f : Fld)

@[simp] theorem State.sendOrPend_fld (v : Nat) : (s.sendOrPend v).fld q f = s.fld q f := rfl

@[simp] theorem State.noteVec_fld (v : Nat) : (s.noteVec v).fld q f = s.fld q f :=
  State.fld_of_flds (by simp) q f

@[simp] theorem State.parcel_fld (x : Fwd) : (s.parcel x).fld q f = s.fld q f :=
  State.fld_of_flds (by simp) q f

/-- R415: an interrupt-only event sets its bit, -/
theorem State.fld_irq_st (b : Nat) :
    (s.irq p b).fld p HDR_PG_IRQST_ST = (s.fld p HDR_PG_IRQST_ST ||| 2 ^ b) % 2 ^ 32 := by
  simp [State.irq, HDR_PG_IRQST_ST]

/-- and no other field. -/
theorem State.fld_irq_ne (b : Nat) (h : fldKey q f ≠ fldKey p HDR_PG_IRQST_ST) :
    (s.irq p b).fld q f = s.fld q f := by
  simp [State.irq, State.fld_setFld_ne _ _ _ _ _ _ h]

/-- R415: an error sets its bit of PG_ERR and of PG_IRQST, -/
theorem State.fld_err_err (b : Nat) :
    (s.err p b).fld p HDR_PG_ERR_ERR = (s.fld p HDR_PG_ERR_ERR ||| 2 ^ b) % 2 ^ 32 := by
  have h : fldKey p HDR_PG_ERR_ERR ≠ fldKey p HDR_PG_IRQST_ST := fldKey_field_ne p _ _ (by decide)
  rw [State.err, State.fld_irq_ne _ _ _ _ _ h]
  simp [HDR_PG_ERR_ERR]

theorem State.fld_err_st (b : Nat) :
    (s.err p b).fld p HDR_PG_IRQST_ST = (s.fld p HDR_PG_IRQST_ST ||| 2 ^ b) % 2 ^ 32 := by
  have h : fldKey p HDR_PG_IRQST_ST ≠ fldKey p HDR_PG_ERR_ERR := fldKey_field_ne p _ _ (by decide)
  rw [State.err, State.fld_irq_st, State.noteBit_fld, State.fld_setFld_ne _ _ _ _ _ _ h]

/-- and no other field. -/
theorem State.fld_err_ne (b : Nat) (h : fldKey q f ≠ fldKey p HDR_PG_ERR_ERR)
    (h' : fldKey q f ≠ fldKey p HDR_PG_IRQST_ST) : (s.err p b).fld q f = s.fld q f := by
  rw [State.err, State.fld_irq_ne _ _ _ _ _ h', State.noteBit_fld, State.fld_setFld_ne _ _ _ _ _ _ h]

/-- R381: a log entry changes fields of the LOG page only. -/
theorem State.fld_log_ne (g c v a : Nat) (h : fldKey q f / 131072 ≠ pLOG) :
    (s.log g c v a).fld q f = s.fld q f := by
  have k (x : Fld) (hx : x.off * 32 + x.lo < 131072) : fldKey q f ≠ fldKey pLOG x := by
    intro e; rw [e, fldKey_div pLOG x hx] at h; exact h rfl
  simp only [State.log]
  split
  · rw [State.fld_err_ne _ _ _ _ _ (k _ (by decide)) (k _ (by decide)),
      State.fld_addSat_ne _ _ _ _ _ _ (k _ (by decide))]
  · split
    · rw [State.fld_irq_ne _ _ _ _ _ (k _ (by decide)), State.fld_addWrap_ne _ _ _ _ _ _ (k _ (by decide)),
        State.fld_setFld_ne _ _ _ _ _ _ (k _ (by decide)), State.updHst_fld]
    · rw [State.fld_addWrap_ne _ _ _ _ _ _ (k _ (by decide)),
        State.fld_setFld_ne _ _ _ _ _ _ (k _ (by decide)), State.updHst_fld]

/-- R318: the pages of no domain but 6 stop and run with PWR.STAT, whatever the time. -/
theorem State.stoppedDoms_ne (k : Nat) (h : k ≠ 6) :
    s.stoppedDoms.testBit k = (s.fld pPWR PWR_STAT_STOPPED).testBit k := by
  unfold State.stoppedDoms
  split
  · have e : (0x40 : Nat) = 2 ^ 6 := rfl
    rw [Nat.testBit_or, e, Nat.testBit_two_pow_of_ne (Ne.symm h), Bool.or_false]
  · rfl

theorem pgDomain_ne (p : Nat) (h : pgClass p ≠ .pci) : pgDomain p ≠ 6 := by
  unfold pgDomain; cases e : pgClass p <;> simp_all

/-- The passing of time stops and starts no page's clock, but that of the host interface. -/
theorem State.atTime_clkOn (t : Time) (p : Nat) (h : pgClass p ≠ .pci) : (s.at_ t).clkOn p = s.clkOn p := by
  have d : (s.at_ t).stoppedDoms.testBit (pgDomain p) = s.stoppedDoms.testBit (pgDomain p) := by
    rw [State.stoppedDoms_ne _ _ (pgDomain_ne p h), State.stoppedDoms_ne _ _ (pgDomain_ne p h)]; rfl
  have m : (s.at_ t).stoppedDoms.testBit 1 = s.stoppedDoms.testBit 1 := by
    rw [State.stoppedDoms_ne _ _ (by decide), State.stoppedDoms_ne _ _ (by decide)]; rfl
  unfold State.clkOn
  rw [d, m]
  cases e : pgClass p <;> first | rfl | exact absurd e h

/-! ## Host accesses -/

/-- What a host write that reaches its page acts on: device time has moved on, and a primary has handed
the write to the pair link (R352). -/
theorem State.hostWrite_open (t : Time) (off v : Nat) (eff : State → State)
    (h : (s.at_ t).hostUp = true) (hp : s.pwr.pfwBlock = false) (hs : ¬ (s.role = 2 ∧ forwarded off = true))
    (hc : (s.at_ t).clkOn (off / 4096) = true)
    (hl : (s.bit (off / 4096) HDR_PG_LOCK_LOCKED && lockCovers (off % 4096)) = false) :
    s.hostWrite t off v eff =
      eff (if s.role = 1 ∧ forwarded off then (s.at_ t).parcel (.reg off v) else s.at_ t) := by
  have e2 : (s.at_ t).role = s.role := rfl
  have e4 : (s.at_ t).bit (off / 4096) HDR_PG_LOCK_LOCKED = s.bit (off / 4096) HDR_PG_LOCK_LOCKED := rfl
  simp only [State.hostWrite, State.pageWrite, e2, e4, State.atTime_pwr, h, hp, hc, hl, hs]
  simp

end Sys2Proof.Machine
end

