-- ==== Sys2Proof/Laws/Changes.lean ====
section
/-! SUPPORT. The calculus of frames: each plain update and each shared operation keeps `Changes` as long as
what it touches is among the parts and fields that may change. A frame of a composite operation is proved by
applying these rules from the outside in. -/

namespace Sys2Proof.Machine

/-! ## The set of parts -/

theorem State.drop_comm (s : State) (a b : Piece) : (s.drop a).drop b = (s.drop b).drop a := by
  cases a <;> cases b <;> rfl

theorem State.drop_drop (s : State) (a : Piece) : (s.drop a).drop a = s.drop a := by
  cases a <;> rfl

theorem foldl_drop_comm (ps : List Piece) (s : State) (a : Piece) :
    ps.foldl State.drop (s.drop a) = (ps.foldl State.drop s).drop a := by
  induction ps generalizing s with
  | nil => rfl
  | cons b ps ih => rw [List.foldl_cons, List.foldl_cons, State.drop_comm, ih]

theorem foldl_drop_mem (ps : List Piece) (s : State) (a : Piece) (h : a ∈ ps) :
    ps.foldl State.drop (s.drop a) = ps.foldl State.drop s := by
  induction ps generalizing s with
  | nil => cases h
  | cons b ps ih =>
    rw [List.foldl_cons, List.foldl_cons]
    rcases List.mem_cons.mp h with rfl | h
    · rw [State.drop_drop]
    · rw [State.drop_comm, ih _ h]

theorem foldl_drop_sub (ps qs : List Piece) (s : State) (h : ∀ a ∈ ps, a ∈ qs) :
    qs.foldl State.drop (ps.foldl State.drop s) = qs.foldl State.drop s := by
  induction ps generalizing s with
  | nil => rfl
  | cons a ps ih =>
    rw [List.foldl_cons, ih _ fun b hb => h b (List.mem_cons_of_mem _ hb),
      foldl_drop_mem _ _ _ (h a List.mem_cons_self)]

/-- The register fields can be set back at any point. -/
theorem foldl_drop_flds (ps : List Piece) (s : State) :
    ps.foldl State.drop (State.mk s.pending [] s.time s.inst s.frm s.ctx s.jer s.plc s.lnk s.ang s.fab s.cfg s.fls s.pwr
      s.twn s.hst s.free) = { ps.foldl State.drop s with flds := [] } := by
  induction ps generalizing s with
  | nil => rfl
  | cons a ps ih =>
    rw [List.foldl_cons, List.foldl_cons, ← ih]
    cases a <;> rfl

/-- A part that may change does not tell two states apart. -/
theorem State.blank_drop (s : State) (ps : List Piece) (a : Piece) (h : a ∈ ps) :
    (s.drop a).blank ps = s.blank ps := by
  have e : (State.mk (s.drop a).pending [] (s.drop a).time (s.drop a).inst (s.drop a).frm (s.drop a).ctx (s.drop a).jer (s.drop a).plc
      (s.drop a).lnk (s.drop a).ang (s.drop a).fab (s.drop a).cfg (s.drop a).fls (s.drop a).pwr (s.drop a).twn
      (s.drop a).hst (s.drop a).free) =
      (State.mk s.pending [] s.time s.inst s.frm s.ctx s.jer s.plc s.lnk s.ang s.fab s.cfg s.fls s.pwr
      s.twn s.hst s.free).drop a := by cases a <;> rfl
  simp only [State.blank]
  rw [e, foldl_drop_mem _ _ _ h]

/-- Setting more back. -/
theorem State.blank_mono {s u : State} {ps qs : List Piece} (e : u.blank ps = s.blank ps)
    (h : ∀ a ∈ ps, a ∈ qs) : u.blank qs = s.blank qs := by
  have k := congrArg (fun x => qs.foldl State.drop x) e
  simp only [State.blank] at k ⊢
  rwa [foldl_drop_sub _ _ _ h, foldl_drop_sub _ _ _ h] at k

/-! ## Changes -/

variable {s u w : State} {ps qs : List Piece} {K L : Nat → Bool}

theorem Changes.refl (s : State) (ps : List Piece) (K : Nat → Bool) : Changes s s ps K :=
  ⟨rfl, fun _ _ _ => rfl⟩

theorem Changes.trans (h : Changes s u ps K) (h' : Changes u w ps K) : Changes s w ps K :=
  ⟨h'.1.trans h.1, fun p f k => (h'.2 p f k).trans (h.2 p f k)⟩

theorem Changes.mono (h : Changes s u ps K) (hp : ∀ a ∈ ps, a ∈ qs) (hk : ∀ k, L k = false → K k = false) :
    Changes s u qs L :=
  ⟨State.blank_mono h.1 hp, fun p f k => h.2 p f (hk _ k)⟩

/-- A change of one part. -/
theorem Changes.part (a : Piece) (ha : a ∈ ps) (hd : w.drop a = u.drop a) (hf : w.flds = u.flds)
    (h : Changes s u ps K) : Changes s w ps K := by
  refine h.trans ⟨?_, fun p f _ => State.fld_of_flds hf p f⟩
  rw [← State.blank_drop w ps a ha, ← State.blank_drop u ps a ha, hd]

theorem Changes.setFld {p : Nat} {f : Fld} {v : Nat} (hk : K (fldKey p f) = true) (h : Changes s u ps K) :
    Changes s (u.setFld p f v) ps K := by
  refine h.trans ⟨rfl, fun q g k => State.fld_setFld_ne u p q f g v ?_⟩
  intro e; rw [e, hk] at k; cases k

theorem Changes.setBit {p : Nat} {f : Fld} {b : Bool} (hk : K (fldKey p f) = true) (h : Changes s u ps K) :
    Changes s (u.setBit p f b) ps K := h.setFld hk

theorem Changes.store {p : Nat} {f : Fld} {v : Nat} (hk : K (fldKey p f) = true) (h : Changes s u ps K) :
    Changes s (u.store p f v) ps K := h.setFld hk

theorem Changes.addWrap {p : Nat} {f : Fld} {v : Nat} (hk : K (fldKey p f) = true) (h : Changes s u ps K) :
    Changes s (u.addWrap p f v) ps K := h.setFld hk

theorem Changes.addSat {p : Nat} {f : Fld} {v : Nat} (hk : K (fldKey p f) = true) (h : Changes s u ps K) :
    Changes s (u.addSat p f v) ps K := h.setFld hk

theorem Changes.raiseTo {p : Nat} {f : Fld} {v : Nat} (hk : K (fldKey p f) = true) (h : Changes s u ps K) :
    Changes s (u.raiseTo p f v) ps K := h.setFld hk

theorem Changes.updFrm {g : Frm → Frm} (ha : Piece.frm ∈ ps) (h : Changes s u ps K) :
    Changes s (u.updFrm g) ps K := Changes.part (w := u.updFrm g) (u := u) .frm ha rfl rfl h

theorem Changes.updCtx {g : Ctx → Ctx} (ha : Piece.ctx ∈ ps) (h : Changes s u ps K) :
    Changes s (u.updCtx g) ps K := Changes.part (w := u.updCtx g) (u := u) .ctx ha rfl rfl h

theorem Changes.updJer {g : Jer → Jer} (ha : Piece.jer ∈ ps) (h : Changes s u ps K) :
    Changes s (u.updJer g) ps K := Changes.part (w := u.updJer g) (u := u) .jer ha rfl rfl h

theorem Changes.updPlc {g : Plc → Plc} (ha : Piece.plc ∈ ps) (h : Changes s u ps K) :
    Changes s (u.updPlc g) ps K := Changes.part (w := u.updPlc g) (u := u) .plc ha rfl rfl h

theorem Changes.updFab {g : Fab → Fab} (ha : Piece.fab ∈ ps) (h : Changes s u ps K) :
    Changes s (u.updFab g) ps K := Changes.part (w := u.updFab g) (u := u) .fab ha rfl rfl h

theorem Changes.updCfg {g : Cfg → Cfg} (ha : Piece.cfg ∈ ps) (h : Changes s u ps K) :
    Changes s (u.updCfg g) ps K := Changes.part (w := u.updCfg g) (u := u) .cfg ha rfl rfl h

theorem Changes.updFls {g : Fls → Fls} (ha : Piece.fls ∈ ps) (h : Changes s u ps K) :
    Changes s (u.updFls g) ps K := Changes.part (w := u.updFls g) (u := u) .fls ha rfl rfl h

theorem Changes.updPwr {g : Pwr → Pwr} (ha : Piece.pwr ∈ ps) (h : Changes s u ps K) :
    Changes s (u.updPwr g) ps K := Changes.part (w := u.updPwr g) (u := u) .pwr ha rfl rfl h

theorem Changes.updTwn {g : Twn → Twn} (ha : Piece.twn ∈ ps) (h : Changes s u ps K) :
    Changes s (u.updTwn g) ps K := Changes.part (w := u.updTwn g) (u := u) .twn ha rfl rfl h

theorem Changes.updHst {g : Hst → Hst} (ha : Piece.hst ∈ ps) (h : Changes s u ps K) :
    Changes s (u.updHst g) ps K := Changes.part (w := u.updHst g) (u := u) .hst ha rfl rfl h

theorem Changes.updLink {l : Nat} {g : Lnk → Lnk} (ha : Piece.lnk ∈ ps) (h : Changes s u ps K) :
    Changes s (u.updLink l g) ps K := Changes.part (w := u.updLink l g) (u := u) .lnk ha rfl rfl h

theorem Changes.mapLinks {g : Lnk → Lnk} (ha : Piece.lnk ∈ ps) (h : Changes s u ps K) :
    Changes s (u.mapLinks g) ps K := Changes.part (w := u.mapLinks g) (u := u) .lnk ha rfl rfl h

theorem Changes.updAng {i : Nat} {g : Ang → Ang} (ha : Piece.ang ∈ ps) (h : Changes s u ps K) :
    Changes s (u.updAng i g) ps K := Changes.part (w := u.updAng i g) (u := u) .ang ha rfl rfl h

theorem Changes.updEng {i : Nat} {g : Eng → Eng} (ha : Piece.jer ∈ ps) (h : Changes s u ps K) :
    Changes s (u.updEng i g) ps K := Changes.part (w := u.updEng i g) (u := u) .jer ha rfl rfl h

theorem Changes.updMdll {i : Nat} {g : Ck → Ck} (ha : Piece.pwr ∈ ps) (h : Changes s u ps K) :
    Changes s (u.updMdll i g) ps K := Changes.part (w := u.updMdll i g) (u := u) .pwr ha rfl rfl h

theorem Changes.atTime {t : Time} (ha : Piece.time ∈ ps) (h : Changes s u ps K) :
    Changes s (u.at_ t) ps K := Changes.part (w := u.at_ t) (u := u) .time ha rfl rfl h

theorem Changes.setSlotWord {a b : Nat} {v : Word} (ha : Piece.ctx ∈ ps) (h : Changes s u ps K) :
    Changes s (u.setSlotWord a b v) ps K := Changes.part (w := u.setSlotWord a b v) (u := u) .ctx ha rfl rfl h

theorem Changes.answer {d : List Nat} (ha : Piece.rdata ∈ ps) (h : Changes s u ps K) :
    Changes s (u.answer d) ps K := Changes.part (w := u.answer d) (u := u) .rdata ha rfl rfl h

theorem Changes.takeFree {n : Nat} (ha : Piece.free ∈ ps) (h : Changes s u ps K) :
    Changes s (u.takeFree n).2 ps K := Changes.part (w := (u.takeFree n).2) (u := u) .free ha rfl rfl h

/-! ## Shared operations -/

/-- R420: what sending or pending a message does. -/
theorem State.sendOrPend_eq (s : State) (v : Nat) :
    ∃ a c, s.sendOrPend v = { s with hst := { s.hst with pba := a, msgs := c } } := by
  simp only [State.sendOrPend, State.updHst]
  split
  · exact ⟨_, _, rfl⟩
  · exact ⟨_, _, rfl⟩

/-- R420: what noting a vector does. -/
theorem State.noteVec_eq (s : State) (v : Nat) :
    ∃ a b c, s.noteVec v = { s with hst := { s.hst with pba := a, asserted := b, msgs := c } } := by
  simp only [State.noteVec]
  split
  · obtain ⟨a, c, e⟩ := State.sendOrPend_eq (s.updHst fun h =>
      { h with asserted := if s.vecOn v then h.asserted ||| 2 ^ v else h.asserted &&& (2 ^ 32 - 1 - 2 ^ v) }) v
    exact ⟨a, _, c, e⟩
  · exact ⟨_, _, _, rfl⟩

theorem Changes.noteVec {v : Nat} (ha : Piece.msi ∈ ps) (h : Changes s u ps K) :
    Changes s (u.noteVec v) ps K := by
  obtain ⟨a, b, c, e⟩ := State.noteVec_eq u v
  rw [e]
  exact Changes.part (u := u) .msi ha rfl rfl h

theorem Changes.noteBit {p b : Nat} {f : Fld} (ha : Piece.msi ∈ ps) (h : Changes s u ps K) :
    Changes s (u.noteBit p f b) ps K := Changes.part (w := u.noteBit p f b) (u := u) .msi ha rfl rfl h

theorem Changes.irq {p b : Nat} (ha : Piece.msi ∈ ps) (hk : K (fldKey p HDR_PG_IRQST_ST) = true)
    (h : Changes s u ps K) : Changes s (u.irq p b) ps K :=
  ((h.setFld hk).noteBit ha).noteVec ha

theorem Changes.err {p b : Nat} (ha : Piece.msi ∈ ps) (hk : K (fldKey p HDR_PG_ERR_ERR) = true)
    (hk' : K (fldKey p HDR_PG_IRQST_ST) = true) (h : Changes s u ps K) : Changes s (u.err p b) ps K :=
  ((h.setFld hk).noteBit ha).irq ha hk'

/-- The fields that a log entry may change may change. -/
def logOpen (K : Nat → Bool) : Bool :=
  K (fldKey pLOG LOG_STAT_WRPTR) && K (fldKey pLOG LOG_TOTAL_COUNT) && K (fldKey pLOG LOG_DROPPED_COUNT) &&
  K (fldKey pLOG HDR_PG_ERR_ERR) && K (fldKey pLOG HDR_PG_IRQST_ST)

theorem Changes.log {p c v a : Nat} (ha : Piece.msi ∈ ps) (hr : Piece.ring ∈ ps) (hk : logOpen K = true)
    (h : Changes s u ps K) : Changes s (u.log p c v a) ps K := by
  simp only [logOpen, Bool.and_eq_true] at hk
  obtain ⟨⟨⟨⟨k1, k2⟩, k3⟩, k4⟩, k5⟩ := hk
  have e (g : SMap (BitVec 128)) : Changes s (u.updHst fun x => { x with ring := g }) ps K :=
    Changes.part (w := u.updHst fun x => { x with ring := g }) (u := u) .ring hr rfl rfl h
  simp only [State.log]
  split
  · exact (h.addSat k3).err ha k4 k5
  · split
    · exact ((((e _).setFld k1).addWrap k2).irq ha k5)
    · exact ((e _).setFld k1).addWrap k2

theorem Changes.contained (hk : K (fldKey pERR ERR_CLASSCNT_CONTAINED) = true) (h : Changes s u ps K) :
    Changes s u.contained ps K := h.addSat hk

theorem Changes.corrected (hk : K (fldKey pERR ERR_CLASSCNT_CORRECTED) = true) (h : Changes s u ps K) :
    Changes s u.corrected ps K := h.addSat hk

theorem Changes.parcel {x : Fwd} (ha : Piece.twn ∈ ps) (h : Changes s u ps K) : Changes s (u.parcel x) ps K := by
  simp only [State.parcel]
  split
  · exact h
  · exact h.updTwn ha

theorem Changes.dropWrite (ha : Piece.msi ∈ ps) (hk : K (fldKey pLOG LOG_PFW_DROPW) = true)
    (hk' : K (fldKey pLOG HDR_PG_ERR_ERR) = true) (hk2 : K (fldKey pLOG HDR_PG_IRQST_ST) = true)
    (h : Changes s u ps K) : Changes s u.dropWrite ps K := (h.addSat hk).err ha hk' hk2

theorem Changes.hang {p o : Nat} {w : Bool} (ha : Piece.hst ∈ ps) (hm : Piece.msi ∈ ps) (hr : Piece.ring ∈ ps)
    (hk : K (fldKey pERR ERR_CLASSCNT_CONTAINED) = true) (hl : logOpen K = true) (h : Changes s u ps K) :
    Changes s (u.hang p w o) ps K := ((h.updHst ha).contained hk).log hm hr hl

theorem Changes.setFn {n : Nat} (hk : K (fldKey pFRM FRM_FN_LO_FN) = true) (hk' : K (fldKey pFRM FRM_FN_HI_FN) = true)
    (h : Changes s u ps K) : Changes s (u.setFn n) ps K := (h.setFld hk).setFld hk'

theorem Changes.holdCauseArises {c : Nat} (hk : K (fldKey pFRM FRM_STAT_HOLDCAUSE) = true) (h : Changes s u ps K) :
    Changes s (u.holdCauseArises c) ps K := by
  simp only [State.holdCauseArises]
  split
  · exact h.setFld hk
  · exact h

/-- A change under every member of a list. -/
theorem Changes.foldl {α : Type} {f : State → α → State} {xs : List α}
    (hf : ∀ v x, Changes s v ps K → Changes s (f v x) ps K) (h : Changes s u ps K) :
    Changes s (xs.foldl f u) ps K := by
  induction xs generalizing u with
  | nil => exact h
  | cons x xs ih => exact ih (hf u x h)

theorem Changes.ite {c : Prop} [Decidable c] {x y : State} (hx : c → Changes s x ps K) (hy : ¬c → Changes s y ps K) :
    Changes s (if c then x else y) ps K := by
  split
  · exact hx ‹_›
  · exact hy ‹_›

/-- A field that may not change. -/
theorem Changes.fld_eq (h : Changes s u ps K) {p : Nat} {f : Fld} (hk : K (fldKey p f) = false) :
    u.fld p f = s.fld p f := h.2 p f hk

/-- R415: an error sets its two bits and nothing else. -/
theorem State.err_raises (s : State) (p b : Nat) : RaisesOnly s (s.err p b) p b :=
  ⟨State.fld_err_err s p b, State.fld_err_st s p b,
    (Changes.refl _ _ _).err (by simp) (by simp [fields, errFields]) (by simp [fields, errFields])⟩

end Sys2Proof.Machine
end

