-- ==== Sys2Proof/Laws/Host.lean ====
section
/-! SUPPORT. What a host write that reaches its page acts on, and the key sets of frames. -/

namespace Sys2Proof.Machine

theorem State.arrive_open (s : State) (t : Time) (off v : Nat) (eff : State → State) (h : (s.at_ t).writeOpen off = true) :
   s.hostWrite t off v eff = eff (s.arrive t off v) := by
  simp only [State.writeOpen, Bool.and_eq_true, Bool.not_eq_true'] at h
  obtain ⟨⟨⟨⟨h1,h2⟩,h3⟩,h4⟩,h5⟩ := h
  have e3 : (s.at_ t).role = s.role := rfl
  have h3' : ¬ (s.role = 2 ∧ forwarded off = true) := by simpa [e3] using h3
  rw [State.hostWrite_open s t off v eff h1 h2 h3' h4 h5]; rfl

@[simp] theorem State.arrive_fld (s : State) (t off v p f) : (s.arrive t off v).fld p f = s.fld p f := by
  unfold State.arrive; split <;> simp
@[simp] theorem State.arrive_time (s : State) (t off v) : (s.arrive t off v).time = s.timeAt t := by
  unfold State.arrive; split <;> simp
@[simp] theorem State.arrive_pwr (s : State) (t off v) : (s.arrive t off v).pwr = s.pwr := by
  unfold State.arrive; split <;> simp
@[simp] theorem State.arrive_frm (s : State) (t off v) : (s.arrive t off v).frm = s.frm := by
  unfold State.arrive; split <;> simp
@[simp] theorem State.arrive_ctx (s : State) (t off v) : (s.arrive t off v).ctx = s.ctx := by
  unfold State.arrive; split <;> simp
@[simp] theorem State.arrive_jer (s : State) (t off v) : (s.arrive t off v).jer = s.jer := by
  unfold State.arrive; split <;> simp
@[simp] theorem State.arrive_plc (s : State) (t off v) : (s.arrive t off v).plc = s.plc := by
  unfold State.arrive; split <;> simp
@[simp] theorem State.arrive_lnk (s : State) (t off v) : (s.arrive t off v).lnk = s.lnk := by
  unfold State.arrive; split <;> simp
@[simp] theorem State.arrive_ang (s : State) (t off v) : (s.arrive t off v).ang = s.ang := by
  unfold State.arrive; split <;> simp
@[simp] theorem State.arrive_fab (s : State) (t off v) : (s.arrive t off v).fab = s.fab := by
  unfold State.arrive; split <;> simp
@[simp] theorem State.arrive_cfg (s : State) (t off v) : (s.arrive t off v).cfg = s.cfg := by
  unfold State.arrive; split <;> simp
@[simp] theorem State.arrive_fls (s : State) (t off v) : (s.arrive t off v).fls = s.fls := by
  unfold State.arrive; split <;> simp
@[simp] theorem State.arrive_hst (s : State) (t off v) : (s.arrive t off v).hst = s.hst := by
  unfold State.arrive; split <;> simp
@[simp] theorem State.arrive_free (s : State) (t off v) : (s.arrive t off v).free = s.free := by
  unfold State.arrive; split <;> simp
@[simp] theorem State.arrive_frmState (s : State) (t off v) : (s.arrive t off v).frmState = s.frmState := by
  simp [State.frmState]
@[simp] theorem State.arrive_role (s : State) (t off v) : (s.arrive t off v).role = s.role := by
  simp [State.role]
@[simp] theorem State.arrive_bit (s : State) (t off v p f) : (s.arrive t off v).bit p f = s.bit p f := by
  simp [State.bit]
@[simp] theorem State.arrive_runRefused (s : State) (t off v) : (s.arrive t off v).runRefused = s.runRefused := by
  simp [State.runRefused, State.bit]

/-- A command that writes a register completes with its effect where the write reaches its page. -/
theorem Completes.write {c : Instr} {s : State} {P : State → Prop} {t : Time} {off v : Nat} {eff : State → State}
    (h : (s.at_ t).writeOpen off = true) (e : exec c s = .next (s.hostWrite t off v eff)) (hp : P (eff (s.arrive t off v))) :
    Completes c s P := ⟨_, e, by rw [State.arrive_open s t off v eff h]; exact hp⟩

theorem fields_false {xs : List (Nat × Fld)} {k : Nat} (h : fields xs k = false) : ∀ x ∈ xs, k ≠ fldKey x.1 x.2 := by
  intro x hx he
  simp [fields] at h
  exact h x.1 x.2 hx he.symm


end Sys2Proof.Machine
end

