-- ==== Sys2Proof/Tests/Slice0.lean ====
section
/-! SUPPORT. Tests of the model: terms that well-formedness refuses, engine instructions spelled out from the
manual's listings, and, for every statement, states and operands that meet its hypotheses, clause by clause. -/

namespace Sys2Proof.Tests

open Sys2Proof Sys2Proof.Machine

set_option Elab.async false

/-! ## Well-formedness: an ill-formed term for each check -/

theorem test_wf_window_write_odd : (Instr.contextWindowWrite 0 1 []).wf = false := by decide
theorem test_wf_set_alias_odd : (Instr.contextSetAlias 0 1 []).wf = false := by decide
theorem test_wf_clear_alias_odd : (Instr.contextClearAlias 0 1 []).wf = false := by decide
theorem test_wf_window_read_long : (Instr.contextWindowRead 0 0 257 []).wf = false := by decide
theorem test_wf_window_read_odd : (Instr.contextWindowRead 0 1 1 []).wf = false := by decide
theorem test_wf_pattern_odd : (Instr.patternRamHostWrite 0 3 [] []).wf = false := by decide
theorem test_wf_pattern_alias_odd :
    (Instr.patternSetAlias 0 3 [] []).wf = false ∧ (Instr.patternClearAlias 0 3 [] []).wf = false := by decide
theorem test_wf_fcall_past_v15 : (Instr.fcall 0 ⟨0, 15, 0, 0, true, 0⟩).wf = false := by decide
theorem test_wf_fcall_requests_past_v15 : (Instr.fcall 0 ⟨0, 0, 14, 0, false, 3⟩).wf = false := by decide
theorem test_wf_section_long :
    (Instr.sampleBatch 0 0 0 ⟨0, 0, 0, List.replicate 385 none, true⟩).wf = false := by decide +kernel
theorem test_wf_fabric_window_odd : (Instr.fabricWindowAccess 0 true 1 0).wf = false := by decide
theorem test_wf_staging_half : (Instr.stagingWrite 0 2 0 15).wf = false := by decide
theorem test_wf_record_short : (Instr.frameRecord 0 ⟨0, 0, false, [], 0, [], 0, false, false⟩).wf = false := by decide
theorem test_wf_thermal_short : (Instr.thermalRead 0 []).wf = false := by decide
theorem test_wf_margin_short : (Instr.marginCheck 0 []).wf = false := by decide
theorem test_wf_sampling_short : (Instr.samplingEvent 0 []).wf = false := by decide
theorem test_wf_adc_vref : (Instr.adcConversion 0 ⟨1, 0⟩).wf = false ∧
    (Instr.samplingEvent 0 (List.replicate 16 ⟨1, 0⟩)).wf = false := by decide
theorem test_wf_register_half :
    (Instr.registerWrite 0 false 2 0 15).wf = false ∧ (Instr.registerRead 0 false 2 15).wf = false := by decide

/-! ## Encodings, from the class 2 listing and the tables of spec/05_engine_isa.md -/

/-- CMP ANG0.DIVL, W16 (listing, 0x000). -/
theorem test_decode_cmp : decodeE (ofSyl 0x100 0x000 0x141 0x050) = some (.cmp (.angw 0 1) (.reg (.w 16))) := by decide
/-- BR NE, 0x009 (listing, 0x001). -/
theorem test_decode_br : decodeE (ofSyl 0x190 0x080 0x000 0x009) = some (.br .ne 9) := by decide
/-- AND V1, ANG0.REVL, #63 (listing, 0x002). -/
theorem test_decode_and : decodeE (ofSyl 0x0A8 0x001 0x147 0x03F) = some (.and ⟨1, .angw 0 7, .imm 63⟩) := by decide
/-- ADD V1, V1, W17 (listing, 0x003). -/
theorem test_decode_add : decodeE (ofSyl 0x060 0x001 0x001 0x051) = some (.add ⟨1, .v 1, .reg (.w 17)⟩) := by decide
/-- LUT V2, V1, W18 (listing, 0x004). -/
theorem test_decode_lut : decodeE (ofSyl 0x1B0 0x002 0x001 0x052) = some (.lut ⟨2, .v 1, .reg (.w 18)⟩) := by decide
/-- ADDS.U V3, W20, W21 (listing, 0x005). -/
theorem test_decode_adds :
    decodeE (ofSyl 0x081 0x003 0x054 0x055) = some (.adds ⟨true, 3, .w 20, .reg (.w 21)⟩) := by decide
/-- EMIT V2 at W20 + 0 and EMIT ZERO at V3 + 0 (listing, 0x006 and 0x007). -/
theorem test_decode_emit : decodeE (ofSyl 0x1D0 0x002 0x054 0x000) = some (.emit (.v 2) ⟨.w 20, 0⟩) ∧
    decodeE (ofSyl 0x1D0 0x100 0x003 0x000) = some (.emit .zero ⟨.v 3, 0⟩) := by decide
/-- END (listing, 0x008). -/
theorem test_decode_end : decodeE (ofSyl 0x010 0x000 0x000 0x000) = some .endv := by decide
/-- MCDATA0 of the listing's first row holds S0 to S2 in its lanes. -/
theorem test_encode_cmp : (encodeE (.cmp (.angw 0 1) (.reg (.w 16)))).toNat % 2 ^ 30 = 0x14100100 := by decide
/-- SHL V0, V1, #3: OP 0x0D with I. -/
theorem test_decode_shl : decodeE (ofSyl 0x0D8 0x000 0x001 0x003) = some (.shl ⟨0, .v 1, .imm 3⟩) := by decide
/-- MUL.SU A1, V2, W5: OP 0x14 with M = 2. -/
theorem test_decode_mul : decodeE (ofSyl 0x142 0x084 0x002 0x045) = some (.mul ⟨.su, 1, .v 2, .reg (.w 5)⟩) := by decide
/-- FCALL of target 2 with three words from V4, two response words to V3, code 5. -/
theorem test_decode_fcall : decodeE (ofSyl 0x1F7 0x083 0x004 0x005) = some (.fcall ⟨2, 3, 4, 5, true, 3⟩) := by decide
/-- SKIP EQ over 3. -/
theorem test_decode_skip : decodeE (ofSyl 0x1A0 0x040 0x000 0x003) = some (.skip .eq 3) := by decide
/-- LDW V5, V1 + 16 and STW V5 to ZERO + 3. -/
theorem test_decode_ldw_stw : decodeE (ofSyl 0x020 0x005 0x001 0x010) = some (.ldw 5 (.v 1) 16) ∧
    decodeE (ofSyl 0x030 0x005 0x100 0x003) = some (.stw (.v 5) .zero 3) := by decide
/-- An operation code beyond the table, and NOP with a field that is not 0, are no instructions. -/
theorem test_decode_badop : decodeE (ofSyl 0x210 0 0 0) = none ∧ decodeE (ofSyl 0x000 0x001 0 0) = none := by decide

/-! ## States that witnesses start from -/

/-- MDLL n runs. -/
def running (n : Nat) (s : State) : State := (s.setFld (pCLK n) CLK_STAT_STATE 2).setFld (pCLK n) CLK_STAT_MUTED 0
/-- The device is up on MDLL0, and its PCI Express link is in L0. -/
def up : State := running 0 ({ State.reset with pwr := { Pwr.reset with up := true } }.setFld pPCI PCI_LINK_L0 1)
def inRun : State := up.setFld pFRM FRM_STAT_STATE 1
def inHold : State := up.setFld pFRM FRM_STAT_STATE 2
def asRole (r : Nat) (s : State) : State := s.setFld pTWN TWN_STAT_ROLE r
/-- MDLL0 to MDLL2 run. -/
def clocked : State := running 2 (running 1 up)
/-- A primary with its standby, and a standby, over the pair link. -/
def primary : State := asRole 1 ((clocked.setFld pTWN TWN_STAT_LINKUP 1).setFld pTWN TWN_STAT_PAIRED 1)
def standby : State := asRole 2 (clocked.setFld pTWN TWN_STAT_LINKUP 1)

/-! ## Witnesses: frame controller -/

theorem wit_FrameCommandsAndSelection :
    (up.writeOpen 0x6044 = true ∧ up.frmState ≠ 1 ∧ up.runRefused = false) ∧
    (inRun.writeOpen 0x6044 = true ∧ inRun.frmState = 1) ∧
    (inHold.writeOpen 0x6044 = true ∧ inHold.frmState = 2 ∧ inHold.role ≠ 3) ∧
    (let s := up.setFld pFRM HDR_PG_CTRL_EN 0
     s.writeOpen 0x6044 = true ∧ s.frmState ≠ 2 ∧ s.runRefused = true) ∧
    (up.writeOpen 0x6040 = true ∧ up.writeOpen 0x604C = true ∧ up.writeOpen 0x6058 = true ∧ up.role ≠ 2) := by decide

/-- A tick issued at 100 µs, the latest frame having started at 0. -/
def ticked : State := inRun.updFrm fun f => { f with issued := [⟨100000, 1, 0, 0⟩], last := some 0 }
def heldTick : State := inRun.updFrm fun f => { f with held := true, last := some 0 }

theorem wit_TicksAndFrameStarts :
    ((up.updFrm fun f => { f with timerNext := some 5 }).frm.timerNext = some 5) ∧
    (up.pwr.up = true ∧ up.clkOn pFRM = true ∧ true ≠ up.frm.tickIn ∧ up.fld pFRM FRM_TIO_TIN_FILT * 20 ≤ 10000) ∧
    (let s := up.setFld pFRM FRM_STAT_SRCACT 2
     s.pwr.up = true ∧ s.clkOn pFRM = true ∧ true ≠ s.frm.tickIn ∧ s.fld pFRM FRM_TIO_TIN_FILT * 20 ≤ 10000 ∧
     s.fld pFRM FRM_STAT_SRCACT = 2 ∧ true = (!s.bit pFRM FRM_TIO_TIN_POL) ∧ up.fld pFRM FRM_STAT_SRCACT ≠ 2) ∧
    (let s := up.setFld pFRM FRM_TIO_TIN_FILT 1
     0 < s.fld pFRM FRM_TIO_TIN_FILT * 20) ∧
    ((up.updFrm fun f => { f with tickOut := true }).frm.tickOut = true) ∧
    (ticked.frmState = 1 ∧ ticked.role ≠ 2 ∧ ticked.frm.held = false ∧ 0 + ticked.period ≤ Tick.registers ⟨100000, 1, 0, 0⟩ ∧
      (ticked.withIssued []).startsAt 100000) ∧
    (heldTick.frm.held = true ∧ heldTick.frm.last = some 0 ∧ heldTick.time ≤ 0 + heldTick.period ∧
      heldTick.unheld.startsAt heldTick.period) ∧
    (∀ f ∈ [0, 9999999], let s := inRun.updFrm fun x => { x with fbAt := f }
     let due := s.frm.start +
       Nat.max (s.fld pFRM FRM_FBPER_FBPER) (Nat.max ((s.fld pFRM FRM_MINPER_ACT_VALUE + 99) / 100) 100) * 1000
     s.frmState = 1 ∧ s.role ≠ 2 ∧ s.frm.held = false ∧ s.frm.issued = [] ∧ decide (due ≤ s.frm.fbAt) = decide (f ≠ 0) ∧
     s.startsAt (Nat.max s.time (if due ≤ s.frm.fbAt then s.frm.fbAt + 2 else due))) := by
  unfold State.startsAt; decide +kernel

theorem wit_HeldTicksAndHold :
    (let s := ticked.updFrm fun f => { f with held := true }
     s.frm.issued = [⟨100000, 1, 0, 0⟩] ∧ s.frmState = 1 ∧ s.role ≠ 2 ∧ s.frm.held = true) ∧
    (let s := inRun.updFrm fun f => { f with issued := [⟨49999, 1, 0, 0⟩], last := some 0 }
     s.frm.held = false ∧ s.frm.last = some 0 ∧ Tick.registers ⟨49999, 1, 0, 0⟩ < 0 + s.period) ∧
    (let s := ticked.setFld pFRM FRM_STAT_HOLDREQ 1
     s.frmState = 1 ∧ s.frm.issued = [⟨100000, 1, 0, 0⟩] ∧ s.role ≠ 2 ∧ s.frm.held = false ∧
     0 + s.period ≤ Tick.registers ⟨100000, 1, 0, 0⟩ ∧ (s.withIssued []).holdAt 100000 = some 1) := by decide +kernel

/-- Admission does not check (FRM.CTRL.ADMCHK is 0, in DEVELOP). -/
def unchecked : State := up.setFld pFRM FRM_CTRL_ADMCHK 0
def waitMinper (v : Nat) (s : State) : State := s.updFrm fun f => { f with admQ := [.minper v] }
def waiting1 : Group := ⟨1, [], 0, true, true⟩
def waitGroup : State := (unchecked.updFrm fun f => { f with admQ := [.group 1] }).updCtx fun c =>
  { c with waiting := [waiting1] }
/-- Class 0 is in force with the longest programs and every handle of an engine runs each frame. -/
def overloaded : State := ((up.setFld pFRM FRM_CTRL_ADMCHK 1).updJer fun j =>
  { j with inf := [(0, ⟨true, 0, 0, 25000⟩)] }).updCtx fun c => { c with load := [(0, ⟨true, 0, 0, 0⟩)] }
def anySet : AsSet :=
  { mode := 0, fn := 0, swap := 0, unld := 0, ct := false, checking := true, mirrored := true,
    acked := 0, armAt := 0, sched := [] }

theorem wit_DeadlineAndAdmission :
    (let s := inRun.updFrm fun f => { f with inFrame := true }
     s.frmState = 1 ∧ s.frm.inFrame = true ∧ s.frm.deadline = false ∧ s.role ≠ 2 ∧ s.frm.computed = false ∧
     s.enginesDone = true ∧ s.frm.start + s.computeNs ≤ s.boundaryDue ∧ s.twn.gotRec = none) ∧
    ((waitMinper 6000 unchecked).frm.admQ = [.minper 6000] ∧ (waitMinper 6000 unchecked).admChecks = false) ∧
    (let s := waitMinper 5000 overloaded
     s.frm.admQ = [.minper 5000] ∧ s.admChecks = true ∧ s.excess s.ctx.load 5000 false ≠ none) ∧
    (let s := waitMinper 1000000 (overloaded.updCtx fun c => { c with load := [] })
     s.admChecks = true ∧ s.excess s.ctx.load 1000000 false = none) ∧
    (let a := (waitGroup.at_ 0).updFrm fun f => { f with admQ := [] }
     waitGroup.frm.admQ = [.group waiting1.id] ∧ waitGroup.ctx.waiting = [waiting1] ∧ waiting1.refused = 0 ∧
     a.admChecks = false ∧ (a.groupWords 1 []).badClass [] = false) ∧
    (let s := (overloaded.updFrm fun f => { f with admQ := [.group 1] }).updCtx fun c => { c with waiting := [waiting1] }
     let a := (s.at_ 0).updFrm fun f => { f with admQ := [] }
     let b := a.groupWords 1 []
     let hs := loadChanges a b (touched [])
     s.frm.admQ = [.group waiting1.id] ∧ s.ctx.waiting = [waiting1] ∧ b.badClass [] = false ∧ a.admChecks = true ∧
     a.excess (hs.foldl (fun m h => SMap.put Load.none m h (b.loadOf h)) s.ctx.load) s.frm.minperAdm false ≠ none) ∧
    (let s := ((unchecked.updFrm fun f => { f with admQ := [.asSet] }).updCfg fun c =>
      { c with as := some { anySet with ct := true } }).setFld (pJE 0) JE_CTSTAT_VERIFIED 1
     s.frm.admQ = [.asSet] ∧ s.cfg.as = some { anySet with ct := true } ∧ anySet.checking = true ∧
     s.admChecks = false ∧ s.bit (pJE 0) JE_CTSTAT_VERIFIED = true) := by decide +kernel

/-! ## Witnesses: contexts -/

theorem wit_WindowWrites :
    (up.role = 0 ∧ up.ctxBlocked = none ∧ up.bit pCTX CTX_GOPEN_OVF = false ∧ up.writeOpen2 pCTX true = true ∧
      up.ctx.open_.length + 2 ≤ 4096 ∧ up.writeOpen 0x7058 = true ∧
      CTX_QREL_HANDLE.of (49151 : Dword).toNat < 49152) ∧
    ((∀ x ∈ ([⟨1, 3⟩, ⟨2, 3⟩] : List Hw), x.be = 3) ∧
      ∀ i < 2, (32 + 2 * i) / 128 < 49152 ∧ hostWord ((32 + 2 * i) % 128 / 2) = true) ∧
    (49152 ≤ (49152 * 128 : BitVec 23).toNat / 128 ∧ hostWord (8 % 128 / 2) = false ∧ hostWord 3 = true) ∧
    (let s := up.updCtx fun c => { c with open_ := List.replicate 4096 (.rel 0) }
     4096 ≤ s.ctx.open_.length ∧ s.role = 0 ∧ s.writeOpen2 pCTX true = true ∧ s.ctxBlocked = none) := by decide +kernel

theorem wit_WindowReads : up.hostUp = true ∧ up.npNow < 32 ∧ up.clkOn pCTX = true ∧
    up.bit pCTX HDR_PG_CTRL_EN = true ∧ 6291328 + 2 * 64 ≤ 49152 * 128 ∧ up.ctx.ecc = [] ∧ up.plc.hmBad = [] ∧
    up.ctx.qmapBad = [] := by decide

theorem wit_CommitGroups :
    (up.writeOpen 0x7048 = true ∧ up.ctx.waiting.length < 16) ∧
    (let s := up.updCtx fun c => { c with waiting := List.replicate 16 ⟨1, [], 0, false, true⟩ }
     s.writeOpen 0x7048 = true ∧ 16 ≤ s.ctx.waiting.length) ∧
    (let s := up.updCtx fun c => { c with waiting := [⟨7, [.put 49151 63 5], 0, false, true⟩] }
     s.frmState = 0 ∧ s.ctx.waiting = [⟨7, [.put 49151 63 5], 0, false, true⟩] ∧ hostWord 63 = true ∧ s.ctx.ecc = [] ∧
     s.plc.hmBad = [] ∧ s.plc.home = []) := by decide

/-- Scrub of bank 0 is about to read group 0 of slot 0, in which an error of this kind stands. -/
def scrubbing (k : Nat) : State := (((up.setFld pCTX CTX_CTRL_SCRUBEN 1).setFld pCTX CTX_CTRL_SCRUBRATE 1).updCtx
  fun c => { c with ecc := SMap.put 0 [] 0 k })

theorem wit_SafeTableAndScrub :
    (up.writeOpen 0x7070 = true ∧ up.readOpen 0x7070 = true ∧ up.fld pCTX CTX_SAFEIDX_SLOT ≤ 383) ∧
    (let s := up.setFld pCTX CTX_SAFEIDX_SLOT 384
     s.writeOpen 0x7070 = true ∧ 383 < s.fld pCTX CTX_SAFEIDX_SLOT) ∧
    (∀ k < 3, (scrubbing k).pwr.up = true ∧ (scrubbing k).clkOn pCTX = true ∧
      (scrubbing k).bit pCTX CTX_CTRL_SCRUBEN = true ∧ (scrubbing k).bit pCTX HDR_PG_CTRL_EN = true ∧
      ((scrubbing k).at_ 49999).scrubOpen 0 = true ∧ (scrubbing k).excluded 0 = false ∧ (scrubbing k).fld pCTX CTX_CTRL_SCRUBRATE = 1 ∧
      SMap.get 0 (scrubbing k).ctx.scrub 0 < 25599 ∧
      (scrubbing k).eccAt (scrubSlot (scrubbing k) 0) (scrubGrp (scrubbing k) 0) = k) ∧
    ((scrubbing 2).owner 0 = some 0 ∧ (scrubbing 2).isQuar 0 = false ∧ (scrubbing 2).ctx.qmapBad = []) ∧
    ((scrubbing 0).frmState ≠ 1 ∧ SMap.get 0 (scrubbing 0).ctx.scrubAt 0 + 49999 ≤ (scrubbing 0).timeAt 49999 ∧
      (((scrubbing 0).updCtx fun c => { c with scrubAt := [(0, 1)] }).at_ 5).scrubOpen 0 = false ∧ inRun.frm.inFrame = false) ∧
    (let s := up.updCtx fun c => { c with qmapBad := [(0, true)] }
     s.pwr.up = true ∧ s.clkOn pCTX = true ∧ s.ctx.qmapBad ≠ [] ∧ s.pwr.faultB = false) := by decide +kernel

/-! ## Witnesses: engines -/

/-- A visit of handle 0 on engine 0 at address 0 of plane 0, with 100 cycles. -/
def vis : Visit :=
  { handle := 0, phys := 0, plane := 0, pc := 0, last := 0, w := 100, cyc := 0, fetched := [], dev := [], cur := [],
    v := [], a := [], fl := ⟨false, false, false, false, false⟩, smp := Sample.none, evs := [], emits := 0,
    held := false, fc := none }
/-- A computing frame in which engine 0, in this visit, is at this instruction. -/
def atOpIn (x : Visit) (i : EInstr) : State :=
  (inRun.updFrm fun f => { f with inFrame := true }).updJer fun j =>
    { j with eng := [(0, { Eng.idle with visit := some x })], mc := SMap.put 0 [] 0 (encodeE i) }
def atOp (i : EInstr) : State := atOpIn vis i
/-- Engine 0 is about to execute the instruction, well before its last cycle. -/
def ready (i : EInstr) : Bool :=
  decide ((atOp i).fetch 0 = some (vis, i) ∧ vis.cyc + (atOp i).cost i < vis.w)

theorem ready_atInstr (i : EInstr) (h : ready i = true) : (atOp i).atInstr 0 i vis := by
  simpa [ready, State.atInstr] using h

theorem wit_WordArithmetic :
    ready (.add ⟨15, .v 1, .imm 1023⟩) = true ∧ ready (.sub ⟨0, .w 63, .reg .zero⟩) = true ∧
    ready (.adds ⟨true, 0, .smp, .imm 1⟩) = true ∧ ready (.subs ⟨false, 0, .a 3 2, .imm 1⟩) = true ∧
    ready (.and ⟨0, .angw 7 7, .imm 1⟩) = true ∧ ready (.or ⟨0, .v 0, .imm 1⟩) = true ∧
    ready (.xor ⟨0, .v 0, .imm 1⟩) = true ∧ ready (.mov 0 (.imm 1)) = true := by decide +kernel
theorem wit_Shifts : ready (.shl ⟨0, .v 0, .imm 10⟩) = true ∧ ready (.shr ⟨0, .v 0, .imm 0⟩) = true ∧
    ready (.asr ⟨0, .v 0, .imm 1023⟩) = true := by decide +kernel
theorem wit_CompareAndSelect : ready (.cmp (.v 0) (.imm 1)) = true ∧ ready (.min ⟨true, 0, .v 0, .imm 1⟩) = true ∧
    ready (.max ⟨false, 0, .v 0, .imm 1⟩) = true ∧ ready (.sel .sat ⟨0, .v 0, .imm 1⟩) = true := by decide +kernel
theorem wit_Accumulators : ready (.mul ⟨.su, 3, .v 0, .imm 1⟩) = true ∧ ready (.mac ⟨.uu, 0, .v 0, .imm 1⟩) = true ∧
    ready (.aclr 0) = true ∧ ready (.ashr 0 true (.imm 29)) = true ∧ ready (.ast 0 true 0) = true ∧
    ready (.ldi 0 false 512 0) = true := by decide +kernel
theorem wit_LoadsAndBranches : ready .nop = true ∧ ready (.ldw 0 (.v 0) 63) = true ∧ ready (.stw (.v 0) .zero 3) = true ∧
    ready (.stw (.v 0) .zero 16) = true ∧ ready (.lut ⟨0, .v 0, .imm 1⟩) = true ∧ ready (.ang 0 7 (.imm 1)) = true ∧
    ready (.br .al 4095) = true ∧ ready (.skip .le 1023) = true := by decide +kernel

def callOp : FcallOp := ⟨2, 3, 4, 5, true, 3⟩
def callOp1 : FcallOp := ⟨15, 15, 0, 0, false, 0⟩

theorem wit_OutputsAndFcall : ready (.emit (.v 0) ⟨.zero, 1023⟩) = true ∧ vis.emits < 2 ∧ ready .hold = true ∧
    ready (.safe ⟨.v 0, 0⟩) = true ∧ SMap.get false (atOp (.safe ⟨.v 0, 0⟩)).ctx.safeBad 0 = false ∧
    (let s := (atOp (.fcall callOp)).setFld (pJE 0) (JE_FCTGT_ENACT 2) 1
     s.fetch 0 = some (vis, .fcall callOp) ∧ vis.cyc + s.cost (.fcall callOp) < vis.w ∧ vis.fc = none ∧
     s.bit (pJE 0) (JE_FCTGT_ENACT 2) = true) ∧
    (let x := { vis with fc := some (some (1, 2)) }
     let s := atOpIn x (.fcall callOp)
     s.fetch 0 = some (x, .fcall callOp) ∧ x.cyc + s.cost (.fcall callOp) < x.w ∧ callOp.r2 = true) ∧
    (let x := { vis with fc := some (some (1, 2)) }
     let s := atOpIn x (.fcall callOp1)
     s.fetch 0 = some (x, .fcall callOp1) ∧ x.cyc + s.cost (.fcall callOp1) < x.w ∧ callOp1.r2 = false) := by
  decide +kernel

/-- A computing frame in which slot 0 is due on engine 0; class 0 is in force or not; group 0 of the slot holds an
error of this kind. -/
def dueState (valid : Bool) (k : Nat) : State :=
  ((inRun.updFrm fun f => { f with inFrame := true }).updJer fun j =>
    { j with eng := [(0, { Eng.idle with due := [0] })], inf := if valid then [(0, ⟨true, 0, 0, 9⟩)] else [] }).updCtx
    fun c => { c with ecc := SMap.put 0 [] 0 k }

theorem wit_Visits :
    (∀ v : Bool, (dueState v 0).computing = true ∧ ((dueState v 0).engine 0).visit = none ∧
      ((dueState v 0).engine 0).due = [0] ∧ (dueState v 0).owner 0 = some 0 ∧ (dueState v 0).cycleIn 0 1 = true ∧ (∀ g < 16, (dueState v 0).eccAt 0 g = 0) ∧
      (SMap.get ClsEnt.none (dueState v 0).jer.inf (w0Class ((dueState v 0).slotWord 0 0))).valid = v) ∧
    ((dueState true 2).computing = true ∧ ((dueState true 2).engine 0).visit = none ∧
      ((dueState true 2).engine 0).due = [0] ∧ (dueState true 2).owner 0 = some 0 ∧
      (∀ g < 16, (dueState true 2).eccAt 0 g ≠ 1) ∧ (dueState true 2).eccAt 0 0 = 2 ∧ (dueState true 2).isQuar 0 = false ∧
      (dueState true 2).ctx.qmapBad = []) ∧
    ((atOp .endv).fetch 0 = some (vis, .endv) ∧ (∀ g < 16, (atOp .endv).eccAt 0 g ≠ 2) ∧
      ∀ w < 64, (atOp .endv).slotWord 0 w = SMap.get 0 vis.fetched w) := by decide +kernel

theorem wit_EngineFaults : (atOp (.stw (.v 0) .zero 4)).isQuar 0 = false ∧
    ((atOp (.stw (.v 0) .zero 4)).fetch 0 = some (vis, .stw (.v 0) .zero 4) ∧
      ¬(vis.addr .zero 4 = 3 ∨ 16 ≤ vis.addr .zero 4)) ∧
    (let x := { vis with emits := 2 }
     (atOpIn x (.emit (.v 0) ⟨.zero, 0⟩)).fetch 0 = some (x, .emit (.v 0) ⟨.zero, 0⟩) ∧ 2 ≤ x.emits) ∧
    (let x := { vis with fc := some none }
     let s := atOpIn x (.fcall callOp)
     s.fetch 0 = some (x, .fcall callOp) ∧ s.cycleIn 0 (4 + (x.cyc + s.fld (pJE 0) (JE_FCTGT_LATACT 2))) = true) ∧
    (let x := { vis with cyc := 99 }
     (atOpIn x .nop).fetch 0 = some (x, .nop) ∧ x.w ≤ x.cyc + 1) := by decide +kernel

/-! ## Witnesses: microcode and placement -/

theorem wit_MicrocodeAndClasses :
    (up.writeOpen 0x20084 = true ∧ up.writeOpen 0x20088 = true ∧ up.writeOpen 0x20094 = true ∧
      up.writeOpen (0x200C0 + 4 * 15) = true ∧ up.writeOpen 0x2009C = true ∧ up.mcForbidden = false ∧
      up.verifying = false ∧ up.wf = true ∧ up.planeLive (up.fld (pJE 0) JE_MCADDR_PLANE) = false ∧
      up.fld (pJE 0) JE_MCADDR_PLANE < 2 ∧ up.fld (pJE 0) JE_MCADDR_ADDR < 4096) ∧
    (let s := up.updJer fun j => { j with inf := [(0, ⟨true, 0, 0, 1⟩)] }
     s.writeOpen 0x20088 = true ∧ s.planeLive (s.fld (pJE 0) JE_MCADDR_PLANE) = true) ∧
    (let s := up.updPwr fun p => { p with lcs := 2 }
     s.writeOpen 0x20088 = true ∧ s.mcForbidden = true) ∧
    (let s := up.setFld (pJE 0) JE_CTSTAT_BUSY 1
     s.writeOpen 0x20088 = true ∧ s.mcForbidden = false ∧ s.verifying = true) := by decide

/-- A verification runs over a pending table whose class 0 enters plane 0 at 4095, where this stands. -/
def verifies (i : EInstr) : State := (up.setFld (pJE 0) JE_CTSTAT_BUSY 1).updJer fun j =>
  { j with pend := [(0, ⟨true, 0, 4095, 0⟩)], mc := SMap.put 0 [] 4095 (encodeE i) }

theorem wit_VerificationAndParity :
    ((verifies .endv).verifying = true ∧ (verifies .endv).verify (verifies .endv).jer.pend (verifies .endv).jer.pend =
      .inl [(0, ⟨true, 0, 4095, 1⟩)] ∧ (∀ g < 8, (verifies .endv).mcBadAt g 0 4095 = false) ∧
      decodeE ((verifies .endv).mcWord 0 4095) = some .endv) ∧
    ((verifies .nop).verify (verifies .nop).jer.pend (verifies .nop).jer.pend).isRight = true ∧
    (up.pwr.up = true ∧ up.clkOn (pJE 0) = true ∧ up.computing = false ∧ up.jer.mcPos + 16 ≤ 8192 ∧ up.jer.mcBad = []) ∧
    (let s := up.updJer fun j => { j with mcPos := 8176, mcBad := [(7 * 8192 + 8176 + 15, true)] }
     s.jer.mcPos + 16 ≤ 8192 ∧ s.jer.mcBad = [(7 * 8192 + s.jer.mcPos + 15, true)]) ∧
    (let s := up.updJer fun j => { j with mcBad := (List.range 8).map fun g => (g * 8192, true) }
     s.pwr.faultB = false ∧ ∀ g < 8, SMap.get false s.jer.mcBad (g * 8192 + s.jer.mcPos + 0) = true) := by decide +kernel

def banned (st : Nat) : State := (up.setFld pPLC PLC_STAT_EXCLSTATE st).setFld pPLC PLC_STAT_EXCLBANK 31

theorem wit_PinsAndExclusion :
    (primary.mirrors = true ∧ primary.writeOpen 0x5060 = true ∧ primary.writeOpen 0x5048 = true ∧
      primary.writeOpen 0x507C = true ∧ primary.writeOpen 0x5084 = true ∧ 0x5000 + 0x84 = 0x5084) ∧
    (up.mirrors = false ∧ up.writeOpen 0x5060 = true ∧ up.writeOpen 0x5048 = true ∧ up.plc.migs = [] ∧ up.plc.hmBad = [] ∧
      SMap.get 0 up.plc.pins (up.fld pPLC PLC_HIDX_HANDLE) = 0 ∧
      SMap.get 0 (up.updPlc fun p => { p with pins := [(0, 32)] }).plc.pins 0 = 31 + 1 ∧
      up.excluded 0 = false ∧ up.excluded 31 = false ∧ bankOf (up.phys (up.fld pPLC PLC_HIDX_HANDLE)) = 0 ∧
      up.freeSlot 31 = some (31 * 1600 + 1536) ∧
      (SMap.get Load.none up.ctx.load (up.fld pPLC PLC_HIDX_HANDLE)).valid = false) ∧
    ((banned 2).writeOpen 0x5060 = true ∧ (banned 2).excluded 31 = true) ∧
    (up.fld pPLC PLC_STAT_EXCLSTATE = 0 ∧ (up.plc.pins.any fun e => bankOf (up.phys e.1) = 3) = false) ∧
    (let s := up.updPlc fun p => { p with pins := [(3, 4)] }
     s.fld pPLC PLC_STAT_EXCLSTATE = 0 ∧ (s.plc.pins.any fun e => bankOf (s.phys e.1) = 3) = true) := by decide +kernel

def moving : State := up.updPlc fun p => { p with migs := [newMig 0 3136 .balance] }

theorem wit_MigrationAndPlanning :
    (moving.settled ∧ moving.settleStop = moving ∧ moving.role ≠ 2 ∧ moving.ctx.qmapBad = [] ∧ moving.wf = true ∧ moving.pwr.up = true ∧ moving.clkOn pPLC = true ∧ moving.bit pPLC HDR_PG_CTRL_EN = true ∧
      moving.plc.made < moving.fld pPLC PLC_CTRL_MIGMAX ∧ moving.frmState = 0 ∧ moving.mirrors = false ∧
      moving.nextCopy = some (newMig 0 3136 .balance) ∧ 3136 ≠ moving.phys 0 ∧ moving.ctx.ecc = [] ∧
      moving.plc.hmBad = []) ∧
    (up.pwr.up = true ∧ up.clkOn pPLC = true ∧ up.plc.hmBad = [] ∧ up.frmState = 0 ∧ up.settled ∧ up.ctx.qmapBad = []) ∧
    ((up.updPlc fun p => { p with hmBad := [(49151, 2)] }).plc.hmBad = [(49151, 2)]) ∧
    ((up.updPlc fun p => { p with hmBad := [(0, 3)] }).plc.hmBad = [(0, 3)]) := by
  unfold State.settled; decide +kernel

/-- A write of RREQ for k regions. -/
def asks (k : Nat) : Dword := BitVec.ofNat 32 (k * 2 ^ PLC_RREQ_K.lo)
/-- Every region up to n is PENDING for allocation 2. -/
def taken (n : Nat) : State := up.updPlc fun p => { p with rgn := (List.range n).map fun r => (r, ⟨1, 2⟩) }

theorem wit_SelfTestAndRegions :
    (let s := (banned 2).setFld (pJE 31) HDR_PG_CTRL_EN 0
     s.writeOpen 0x5074 = true ∧ s.fld pPLC PLC_STAT_EXCLSTATE = 2 ∧
     s.bit (pJE (s.fld pPLC PLC_STAT_EXCLBANK)) HDR_PG_CTRL_EN = false) ∧
    (up.writeOpen 0x5074 = true ∧ up.fld pPLC PLC_STAT_EXCLSTATE ≠ 2) ∧
    ((banned 3).fld pPLC PLC_STAT_EXCLSTATE = 3 ∧ (banned 3).fld pPLC PLC_STAT_EXCLBANK < 32) ∧
    ((taken 63).mirrors = false ∧ (taken 63).writeOpen 0x507C = true ∧ (taken 63).bit pPLC HDR_PG_CTRL_EN = true ∧
      legalK (PLC_RREQ_K.of (asks 1).toNat) = true ∧ PLC_RREQ_NAMED.of (asks 1).toNat = 0 ∧
      legalBase (PLC_RREQ_K.of (asks 1).toNat) 63 = true ∧ (taken 63).runFree (PLC_RREQ_K.of (asks 1).toNat) 63 = true ∧
      ∀ c < 63, (taken 63).runFree (PLC_RREQ_K.of (asks 1).toNat) c = false) ∧
    (legalK (PLC_RREQ_K.of (asks 9).toNat) = false ∧ legalK (PLC_RREQ_K.of (asks 64).toNat) = true ∧
      up.runFree (PLC_RREQ_K.of (asks 64).toNat) 0 = true) ∧
    (∀ c < 64, (taken 64).runFree (PLC_RREQ_K.of (asks 1).toNat) c = false) ∧
    (let v : Dword := BitVec.ofNat 32 (2 * 2 ^ PLC_RFREE_ALLOCID.lo)
     (taken 3).writeOpen 0x5084 = true ∧ PLC_RFREE_ALLOCID.of v.toNat ≠ 0 ∧
     (taken 3).regionsOf (PLC_RFREE_ALLOCID.of v.toNat) = [0, 1, 2] ∧ (∀ n < 3, ((taken 3).region n).state = 1) ∧
     up.regionsOf (PLC_RFREE_ALLOCID.of v.toNat) = []) := by decide +kernel

/-! ## Witnesses: links -/

/-- Link 0 is enabled and its receiver aligned. -/
def ulState (st : Nat) : State :=
  ((up.setFld (pUL 0) HDR_PG_CTRL_EN 1).setFld (pUL 0) UL_STAT_STATE st).setFld (pUL 0) UL_STAT_RXALIGN 1
/-- Well-framed symbols. -/
def rxSyms (xs : List Symbol) : List RxSym := xs.map fun x => ⟨true, x⟩
def inTraining (step : Nat) (ms : List Module) : State :=
  (ulState 1).updLink 0 fun p => { p with step := step, mods := ms }
def mod1 (acked : Bool) : Module := ⟨384, 0, 0, 0, 0, 0, acked⟩
/-- R186: an ID record of this position and count, the last or not. -/
def idSyms (last : Bool) (pos count : Nat) : List RxSym :=
  rxSyms (withCrc [symCtl (0xA0 + (if last then 8 else 0) + pos), symVal count, symVal 3, symVal 4])
/-- A receiver that has found 64 framed symbols, the latest 48 of them SYNC, and 128 SYNC in all; the next one fails. -/
def lockedRx (sync : Nat) : Rx := { Rx.none with seen := 200, framed := 64, sync := sync, good := 128, lock := decide (48 ≤ sync) }

theorem wit_LinkTraining :
    (∀ st < 4, (ulState st).writeOpen (pUL 0 * 4096 + 0x44) = true ∧ (ulState st).fld (pUL 0) UL_STAT_STATE = st ∧
      (ulState st).bit (pUL 0) HDR_PG_CTRL_EN = true) ∧
    (∀ a : Bool, let s := ((ulState 0).updLink 0 fun p => { p with autoAt := some 5 }).setFld (pUL 0) UL_CTRL_AUTOTRAIN a.toNat
     (s.link 0).autoAt = some 5 ∧ s.pwr.up = true ∧ s.clkOn (pUL 0) = true ∧ s.bit (pUL 0) HDR_PG_CTRL_EN = true ∧
     s.fld (pUL 0) UL_STAT_STATE = 0 ∧ s.role ≠ 2 ∧ s.bit (pUL 0) UL_CTRL_AUTOTRAIN = a) ∧
    ((inTraining 1 []).inStep 0 1 = true ∧ (inTraining 2 []).inStep 0 2 = true ∧
      (inTraining 3 [mod1 false]).inStep 0 3 = true ∧ ((inTraining 3 [mod1 false]).link 0).mods = [mod1 false]) ∧
    (∀ n ∈ [47, 48], let s := (inTraining 1 []).updLink 0 fun p => { p with rx := lockedRx n }
     s.inStep 0 1 = true ∧ s.clkOn (pUL 0) = true ∧ 128 ≤ (s.link 0).rx.good ∧ (s.link 0).rx.lock = decide (n = 48) ∧
     (ulState 0).fld (pUL 0) UL_STAT_STATE ≠ 1) ∧
    (let s := inTraining 2 []
     s.receives 0 = true ∧ s.inStep 0 2 = true ∧ (s.link 0).mods.length = 0 ∧
     idRecOf (s.heard 0 (idSyms true 0 384)) = some ⟨true, 0, 384, 3, 4, true⟩ ∧
     idRecOf (s.heard 0 (idSyms false 0 1)) = some ⟨false, 0, 1, 3, 4, true⟩ ∧ idRecOf (s.heard 0 []) = none ∧
     slotSum (s.link 0).mods + (384 : Word).toNat ≤ 384) ∧
    (let s := inTraining 2 [mod1 false]
     idRecOf (s.heard 0 (idSyms true 1 1)) = some ⟨true, 1, 1, 3, 4, true⟩ ∧ (s.link 0).mods.length = 1 ∧
     384 < slotSum (s.link 0).mods + (1 : Word).toNat ∧
     (idRecOf (s.heard 0 (rxSyms [symCtl 0xA1]))).map IdRec.good = some false) ∧
    (symAck ⟨true, symCtl 0xC0⟩ = some 0 ∧ (inTraining 3 [mod1 false]).receives 0 = true ∧ (inTraining 3 [mod1 false]).role ≠ 1 ∧
      (((inTraining 3 [mod1 false]).link 0).mods.zipIdx.all fun x => x.1.acked || x.2 == 0) = true ∧
      (((inTraining 3 [mod1 false, mod1 false]).link 0).mods.zipIdx.all fun x => x.1.acked || x.2 == 0) = false) := by
  decide +kernel

def faulted (s : State) : State := s.updPwr fun p => { p with faultB := true }
def sending (run : Bool) : State :=
  ((clocked.setFld (pUL 127) UL_STAT_STATE 3).updLink 127 fun p =>
    { p with emitAt := some 1000, emitRun := run, emitFn := 5, built := [⟨0, 0, 1, false, false⟩] })

theorem wit_Emission :
    (∀ r : Bool, (sending r).sendsFrames = true ∧ ((sending r).link 127).emitAt = some 1000 ∧
      (sending r).fld (pUL 127) UL_STAT_STATE = 3 ∧ (sending r).pwr.faultB = false ∧
      ((sending r).link 127).emitRun = r ∧ ((sending r).link 127).safeOf = []) ∧
    (let s := ((sending true).updLink 127 fun p => { p with safeOf := [0] }).updCtx fun c =>
      { c with safeBad := [(127 * 384 + 0, true)] }
     (s.link 127).safeOf.contains 0 && SMap.get false s.ctx.safeBad (127 * 384 + 0)) = true ∧
    (let s := (clocked.setFld (pUL 0) UL_STAT_STATE 2).updLink 0 fun p => { p with txHold := true }
     s.sendsFrames = true ∧ s.fld (pUL 0) UL_STAT_STATE = 2 ∧ (s.link 0).txHold = true) ∧
    (let s := faulted (sending true)
     s.sendsFrames = true ∧ s.fld (pUL 127) UL_STAT_STATE = 3 ∧ s.pwr.faultB = true) ∧
    (Lnk.down.origin ≤ 34) := by decide +kernel

/-- A RUN frame of one command is in transmission since 0. -/
def nakked (resent : Nat) : State :=
  (ulState 3).updLink 0 fun p =>
    { p with txOn := true, segs := [[⟨0, 500, 1, false, false⟩]], parts := [⟨0, 0, 4⟩], resent := SMap.put 0 [] 0 resent }

theorem wit_ResendsAndLoss :
    ((ulState 2).receives 0 = true ∧ symNak ⟨false, 0⟩ = none ∧ symNak ⟨true, symCtl 0x50⟩ = some 0) ∧
    (let a := ((ulState 2).at_ 350).hear 0 [⟨true, symCtl 0x50⟩]
     2 ≤ a.fld (pUL 0) UL_STAT_STATE ∧ (ulState 2).role ≠ 2 ∧ (a.link 0).txOn = false ∧
     (((ulState 1).at_ 350).hear 0 [⟨true, symCtl 0x50⟩]).fld (pUL 0) UL_STAT_STATE < 2) ∧
    (∀ n < 4, let a := ((nakked n).at_ 350).hear 0 [⟨true, symCtl 0x50⟩]
     let p := a.link 0
     (nakked n).receives 0 = true ∧ 2 ≤ a.fld (pUL 0) UL_STAT_STATE ∧ p.txOn = true ∧ p.txHold = false ∧
     p.segs.getD 0 [] ≠ [] ∧ (p.resend (((nakked n).timeAt 350 - p.txAt) / 35) 0
        (capOf ((nakked n).fld pFRM FRM_MINPER_ACT_VALUE))).isSome = decide (n < 3)) ∧
    ((rxScan ((ulState 2).link 0).rxErrs [⟨false, 0⟩]).2.2 = false ∧
      (rxScan ((ulState 2).link 0).rxErrs (List.replicate 4 ⟨false, 0⟩)).2.2 = true ∧
      2 ≤ (ulState 2).fld (pUL 0) UL_STAT_STATE ∧ (ulState 1).fld (pUL 0) UL_STAT_STATE < 2 ∧
      (ulState 2).pwr.up = true ∧ (ulState 2).clkOn (pUL 0) = true) ∧
    (symErr ⟨true, 0⟩ = 0 ∧ loses [] = false ∧ symErr ⟨true, symCtl 0xD0⟩ = 2) := by decide +kernel

/-- R174, R175: an upstream frame in RUN of one section of these symbols of samples, with its CRC or a wrong one. -/
def upSyms (tag : Nat) (good : Bool) (xs : List Symbol) : List RxSym :=
  rxSyms ([symCtl 0x60, symVal tag] ++ (if good then withCrc else id) ([symCtl 0x70, symVal 0, symVal 0] ++ xs) ++ [symCtl 0x80])
def tagged : State := (ulState 3).updLink 0 fun p => { p with mods := [{ mod1 true with count := 2 }], tag := some 1023 }

theorem wit_UpstreamSamples : tagged.role = 0 ∧ tagged.receives 0 = true ∧
    (tagged.link 0).mods[0]? = some { mod1 true with count := 2 } ∧
    tagged.fld (pUL 0) UL_STAT_STATE = 3 ∧ (tagged.link 0).tag = some 1023 ∧
    upFrames (tagged.heard 0 (upSyms 1023 true [symSlt false 0, symVal 7])) =
      [⟨false, some 1023, [⟨0, 0, 0, [none, some 7], true⟩]⟩] ∧
    upFrames (tagged.heard 0 (upSyms 1022 false [symSlt false 0, symVal 7])) = [⟨false, some 1022, [⟨0, 0, 0, [], false⟩]⟩] ∧
    (some (1023 : Word)).map BitVec.toNat = some 1023 ∧ (some (1022 : Word)).map BitVec.toNat ≠ some 1023 ∧
    (0 : Word) &&& 0x1FF = 0 ∧ ([none, some 7] : List (Option Word)).length = ({ mod1 true with count := 2 } : Module).count ∧
    (rxScan (tagged.link 0).rxErrs (upSyms 1023 true [symSlt false 0, symVal 7])).2.2 = false := by decide +kernel

/-! ## Witnesses: angle units -/

/-- Unit 7 counts 8 per turn, stands at `pos`, in this state, with A and B low. -/
def angle (st pos : Nat) : State :=
  ((((clocked.setFld (pANG 7) HDR_PG_CTRL_EN 1).setFld (pANG 7) ANG_STAT_STATE st).setFld (pANG 7) ANG_CPR_VALUE 7).setFld
    (pANG 7) ANG_POS_POS pos).updAng 7 fun g => { g with a := false, b := false }
def step (s : State) (a b : Bool) : Nat := (quadIndex a b + 4 - quadIndex (s.angu 7).a (s.angu 7).b) % 4

/-- R435: a disconnected encoder reads high on both inputs. -/
theorem test_undriven_encoder_high : (State.reset.angu 7).a = true ∧ (State.reset.angu 7).b = true := by decide +kernel

theorem wit_EdgesAndTicks :
    (angle 1 0).fld (pANG 7) ANG_CTRL_FILT * 2 ≤ 510 ∧
    (let s := (angle 1 0).setFld (pANG 7) ANG_CTRL_FILT 1
     1 < s.fld (pANG 7) ANG_CTRL_FILT * 2 ∧ up.angOn 7 = false) ∧
    (∀ pos < 8, (angle 1 pos).angOn 7 = true ∧ (angle 1 pos).fld (pANG 7) ANG_CPR_VALUE < 2 ^ 20 ∧
      (angle 1 pos).fld (pANG 7) ANG_POS_POS = pos ∧ pos < (angle 1 pos).cpr 7) ∧
    (step (angle 1 0) true false = 1 ∧ step (angle 1 0) false true = 3 ∧ step (angle 1 0) false false = 0 ∧
      step (angle 1 0) true true = 2) ∧
    (∀ h < 2, let s := (angle 2 0).setFld (pANG 7) ANG_CTRL_NEEDHOME h
     s.angState 7 = 2 ∧ s.bit (pANG 7) ANG_CTRL_NEEDHOME = decide (h = 1)) ∧
    (let s := ((angle 2 6).setFld pFRM FRM_STAT_ANGACT 7).setFld (pANG 7) ANG_DPR_VALUE 7
     s.angOn 7 = true ∧ s.angState 7 = 2 ∧ step s true false = 1 ∧ s.bit (pANG 7) ANG_CTRL_SWAPAB = false ∧
     s.fld (pANG 7) ANG_POS_POS + 1 < s.cpr 7 ∧ s.bit (pANG 7) ANG_STAT_DIR = false ∧
     s.divOf 7 (s.fld (pANG 7) ANG_POS_POS + 1) ≠ (s.angu 7).lastDiv ∧ s.fld pFRM FRM_STAT_SRCACT = 0 ∧
     s.fld pFRM FRM_STAT_ANGACT = 7) ∧
    (let s := ((angle 2 0).setFld (pANG 7) ANG_STAT_DIR 1).setFld (pANG 7) ANG_CTRL_REVHYS 2
     s.bit (pANG 7) ANG_STAT_DIR = true ∧ (s.angu 7).run + 1 < s.fld (pANG 7) ANG_CTRL_REVHYS) ∧
    (let s := ((angle 3 0).setFld (pANG 7) ANG_CTRL_NEEDHOME 0).updAng 7 fun g => { g with four := [3000, 2000, 1000] }
     s.angOn 7 = true ∧ s.angState 7 = 3 ∧ (s.angu 7).four = [3000, 2000, 1000] ∧ (s.angu 7).fourRev = false ∧
     3000 ≤ 3000 + s.fld (pANG 7) ANG_STOPTIME_TIME * 1000 ∧ s.bit (pANG 7) ANG_CTRL_NEEDHOME = false) ∧
    (let s := (angle 2 0).updAng 7 fun g => { g with lastAt := some 9, prevAt := some 5 }
     (s.angu 7).lastAt = some 9 ∧ (s.angu 7).prevAt = some 5 ∧ s.angState 7 = 2) := by decide +kernel

theorem wit_HomingAndAngleRegisters :
    (∀ h < 2, let s := (((angle 1 0).setFld (pANG 7) ANG_CTRL_IDXEN 1).setFld (pANG 7) ANG_CTRL_IDXGATE 0).setFld (pANG 7) ANG_STAT_HOMED h
     s.angOn 7 = true ∧ (s.bit (pANG 7) ANG_CTRL_IDXEN && gateOpen (s.fld (pANG 7) ANG_CTRL_IDXGATE) (s.angu 7).a (s.angu 7).b) = true ∧
     s.fld (pANG 7) ANG_STAT_HOMED = h ∧ s.fld (pANG 7) ANG_IDXPOS_VALUE < 2 ^ 20 ∧ s.fld (pANG 7) ANG_CTRL_MODE = 0 ∧
     s.fld (pANG 7) ANG_POS_POS = s.fld (pANG 7) ANG_IDXPOS_VALUE) ∧
    (let s := ((angle 1 0).setFld (pANG 7) ANG_CTRL_IDXEN 1).setFld (pANG 7) ANG_CTRL_IDXGATE 3
     (s.bit (pANG 7) ANG_CTRL_IDXEN && gateOpen (s.fld (pANG 7) ANG_CTRL_IDXGATE) (s.angu 7).a (s.angu 7).b) = false) ∧
    (∀ st < 4, (angle st 0).writeOpen (pANG 7 * 4096 + 0x68) = true ∧ (angle st 0).angState 7 = st ∧
      (angle st 0).fld (pANG 7) ANG_PRESET_VALUE < 2 ^ 20) ∧
    (up.writeOpen (pANG 7 * 4096 + 0x44) = true ∧ up.writeOpen (pANG 7 * 4096 + 0x48) = true ∧
      up.writeOpen (pANG 7 * 4096 + 0x40) = true ∧ up.bit (pANG 7) HDR_PG_CTRL_EN = false ∧
      up.readOpen (pANG 7 * 4096 + 0x74) = true ∧ up.fld (pANG 7) HDR_PG_CTRL_FREEZE = 0) ∧
    ((angle 1 0).bit (pANG 7) HDR_PG_CTRL_EN = true) := by decide +kernel

/-! ## Witnesses: logic fabric -/

def ramCfg : RamCfg := ⟨true, true, false, true, 0, 1⟩
def arCfg (n : Nat) (pre clamp : Bool) : ArCfg := ⟨n, true, true, true, pre, true, true, clamp⟩
/-- Region 63 is LOADED, with a best-effort port, a RAM block and four arithmetic blocks; its clock lines 0 and 1 run, if
MDLL3 does, and its lines 2 and 3 do not. -/
def fabricked : State := ((up.updPlc fun p => { p with rgn := [(63, ⟨2, 2⟩)] }).updFab fun f =>
  { f with desc := [(63, ⟨[⟨4, 0, 0, 9, 0x222⟩], [0, 3, 20], 0, [], [ramCfg, { ramCfg with clkA := 2, clkB := 3 }],
    [arCfg 1 false true, arCfg 2 true false, arCfg 3 true true, arCfg 4 true true]⟩)] })
def ramAcc (portB : Bool) (other : Option (RamOp × BitVec 20)) : RamAcc := ⟨63, 0, portB, 2047, 5, other⟩

theorem wit_RamAndArithmeticBlocks :
    (let s := running 3 fabricked
     (s.desc 63).rams[0]? = some ramCfg ∧ s.clkRun 63 ramCfg.clkA = true ∧ s.clkRun 63 ramCfg.clkB = true ∧
     fabricked.clkRun 63 ramCfg.clkA = false ∧ ramCfg.parity = true ∧ s.clkRun 63 2 = false ∧ s.clkRun 63 3 = false) ∧
    ((ramAcc true none).other = none ∧ (ramAcc false (some (.read, 0))).other = some (.read, 0) ∧
      (ramAcc false (some (.write, 3))).other = some (.write, 3) ∧ (ramAcc true (some (.set, 3))).portB = true) ∧
    (∀ k, (running 3 fabricked).ramSound k) ∧
    (∀ t < 4, fabricked.rgnLive 63 = true ∧ ((fabricked.desc 63).ars[t]?).map ArCfg.n = some (t + 1) ∧
      (arWidths (t + 1)).isSome = true) := by
  refine ⟨by decide +kernel, by decide, fun k => ⟨rfl, rfl⟩, by decide +kernel⟩

def stopped (s : State) : State := s.setFld pPWR PWR_STAT_STOPPED 0x3E

theorem wit_PatternRam : up.writeOpen2 pCTX true = true ∧ up.role ≠ 1 ∧ up.patOn = true ∧
    ([⟨5, 3⟩] : List Hw).length ≤ 1048576 ∧ (∀ x ∈ ([⟨5, 3⟩] : List Hw), x.be = 3) ∧
    (stopped up).patOn = false ∧ (up.fab.streams.filter fun z => z.src = 0x222) = [] ∧
    (let x : Stream := ⟨0x222, 5, 9, 1, 0, [7]⟩
     (((up.updFab fun f => { f with streams := [x] }).fab.streams.filter fun z => z.src = 0x222) = [x])) := by decide +kernel

/-- R219: a request of this operation at address 9 of pattern RAM, on its way. -/
def patFlight (op : Nat) : Flight := ⟨5, 0x222, 10, BitVec.ofNat 80 (op * 2 ^ 78 + 9 * 2 ^ 20 + 5 * 2 ^ 10 + 3), false⟩
def stream1 : Stream := ⟨5, 0x237, 3, 1, 0, [2]⟩
def flight1 : Flight := ⟨5, 0x237, 10, 0, false⟩
/-- Engine 0 waits for a request that was shown to port 0 of region 63 at 100. -/
def request1 (dropped : Bool) : FcReq := ⟨0, 0, 0, 8 * 63, 0, [], 100, dropped⟩
def waits (dropped : Bool) : State := (((atOpIn { vis with fc := some none } .nop).updJer fun j =>
  { j with fcOut := [request1 dropped] })).updFab fun f => { f with desc := fabricked.fab.desc }

theorem wit_StreamsAndResponses :
    (let s := up.updFab fun f => { f with streams := [stream1] }
     s.clkOn pTUL = true ∧ (s.fab.streams.filter fun y => y.src = (5 : BitVec 10).toNat) = [stream1] ∧
     4 % 2 = 0 ∧ (4 / 2 % 8) ∈ stream1.phases ∧ (6 / 2 % 8) ∉ stream1.phases ∧ (s.portOf 5).kind ≠ 4) ∧
    (fabricked.clkOn pTUL = true ∧ (0x1F8 : BitVec 10).toNat < 0x200 ∧ (fabricked.portOf 0x1F8).kind = 4 ∧
      (stopped up).clkOn pTUL = false) ∧
    (∀ op < 4, firstDue (up.updFab fun f => { f with flights := [patFlight op] }).fab.flights = some (patFlight op) ∧
      flitBits (patFlight op).flit 78 2 = op ∧ up.patOn = true) ∧
    (firstDue (up.updFab fun f => { f with flights := [flight1] }).fab.flights = some flight1) ∧
    (up.clkOn (pRGN 63) = true ∧ (stopped up).clkOn (pRGN 63) = false ∧
      up.jer.fcOut.find? (fun q => decide (q.engine = 0 ∧ q.port / 8 = 63 ∧ q.shownAt ≤ 118)) = none) ∧
    (∀ d : Bool, ∀ t ∈ [118, 119], (waits d).clkOn (pRGN 63) = true ∧
      (waits d).jer.fcOut.find? (fun q => decide (q.engine = 0 ∧ q.port / 8 = 63 ∧ q.shownAt ≤ t)) = some (request1 d) ∧
      (request1 d).dropped = d ∧ ((waits d).engine 0).visit = some { vis with fc := some none } ∧
      decide (t ≤ (request1 d).shownAt + 2 * ((waits d).portOf (request1 d).port).turn) = decide (t = 118)) ∧
    (up.hostUp = true ∧ up.npNow < 32 ∧ up.writeOpen2 pSYS false = true ∧
      (up.region 63).state = 0 ∧ (fabricked.region 63).state ≠ 0 ∧ fabricked.writeOpen2 pSYS false = true ∧
      up.bit pTUL TUL_BELAST_VALID = false) ∧
    (let x : HpAcc := ⟨63, true, 0, 0, 0⟩
     let s := fabricked.updFab fun f => { f with hp := [x] }
     s.fab.hp = [x] ∧ x.region < 64 ∧ s.fab.hp.find? (fun x => x.region = 63) = some x ∧ s.rgnLive 63 = true ∧
     0 + s.fld pTUL TUL_CTRL_BETO * 1000 < 100000000) := by decide +kernel

theorem wit_UserPins :
    (up.clkOn (pIOB 7) = true ∧ 3 ≠ up.fld (pIOB 7) IOB_CTRL_VIO ∧ up.pwr.up = true ∧ (up.iob 7).vmis = false ∧
      up.fld (pIOB 7) IOB_CTRL_VIO < 3 ∧ up.writeOpen (pIOB 7 * 4096 + 0x4C) = true ∧ (up.iob 7).held = false ∧
      up.scanDrives = false ∧
      (stopped up).clkOn (pIOB 7) = false ∧ (up.setFld (pIOB 7) IOB_CTRL_VIO 3).fld (pIOB 7) IOB_CTRL_VIO = (3 : Fin 4).val) ∧
    (∀ f ∈ [0, 1], let s := up.updFab fun x => { x with pincfg := [(7 * 48 + 47, f * 2 ^ IOB_PINCFG_FILT.lo)] }
     IOB_PINCFG_FILT.of (s.pincfg 7 47) = f ∧
     decide (IOB_PINCFG_FILT.of (s.pincfg 7 47) * 20 + 6 ≤ Nat.min 26 (26 - SMap.get 0 s.fab.filtAt (7 * 48 + 47))) = true) ∧
    (let x : Stream := ⟨0x237, 5, 3, 1, 0, [7]⟩
     let s := up.updFab fun f => { f with streams := [x] }
     (s.fab.streams.filter fun y => y.src = 0x230 + 7) = [x] ∧ ∃ f ∈ x.phases, f < 8) := by decide +kernel

/-! ## Witnesses: configuration -/

def setMask (s : State) : State := s.setFld pCFG CFG_ASSWAP_HI_MASK (2 ^ 31)
def loadedVoile (s : State) : State := s.updCfg fun c => { c with voile := [(63, { Plane.empty with state := 2 })] }

theorem wit_PlaneCheckAndArm :
    (up.pwr.up = true ∧ up.clkOn pCFG = true ∧ up.bit pCFG HDR_PG_CTRL_EN = true ∧
      (up.active (up.cfg.chk / 64)).state ≠ 2) ∧
    (let s := up.updCfg fun c => { c with act := [(63, { Plane.empty with state := 2 })], chk := 4095 }
     (s.active (s.cfg.chk / 64)).state = 2 ∧ up.bit pCFG CFG_PLCHK_VALID = false) ∧
    (up.writeOpen (pCFG * 4096 + 0x4C) = true ∧ up.cfg.as = none ∧
      up.badMember up.asSwap up.asUnld (up.bit pCFG CFG_ASOPT_CT) = true) ∧
    ((setMask up).badMember (setMask up).asSwap (setMask up).asUnld ((setMask up).bit pCFG CFG_ASOPT_CT) = false ∧
      (setMask up).asSwap.testBit 63 = true ∧ ((setMask up).voile 63).state ≠ 2) ∧
    (let s := (setMask (loadedVoile up)).setFld pCFG CFG_ASOPT_CT 1
     s.badMember s.asSwap s.asUnld true = false ∧ (∀ r < 64, s.asSwap.testBit r = true → (s.voile r).state = 2) ∧
     s.bit pCFG CFG_ASOPT_CT = true ∧ s.bit (pJE 0) JE_CTSTAT_VERIFIED = false) ∧
    ((up.updCfg fun c => { c with as := some anySet }).cfg.as.isSome = true) := by decide +kernel

/-- The last case of ARM: a set that passes; its Voile plane declares no port. -/
theorem wit_PlaneCheckAndArm_passes :
    let s := (up.setFld pCFG CFG_ASUNLD_HI_MASK (2 ^ 31)).updPlc fun p => { p with rgn := [(63, ⟨2, 2⟩)] }
    s.badMember s.asSwap s.asUnld false = false ∧ s.bit pCFG CFG_ASOPT_CT = false ∧ s.mirrors = false ∧
    (∀ r < 64, s.asSwap.testBit r = true → (s.voile r).state = 2) ∧ s.tulle s.asSwap s.asUnld false = .inl [] := by
  decide +kernel

/-- A set that waits for region 63, and one whose members have acknowledged. -/
def swapSet (acked : Nat) : AsSet := { anySet with checking := false, swap := 2 ^ 63, acked := acked }
/-- The clock lines of region 63 are stopped. -/
def swapping (acked : Nat) : State := ((up.updPlc fun p => { p with rgn := [(63, ⟨3, 2⟩)] }).updCfg fun c =>
  { c with as := some (swapSet acked) }).updFab fun f => { f with desc := fabricked.fab.desc }
/-- A class table alone, due at frame `fn`. -/
def tableSet (fn : Nat) : AsSet := { anySet with checking := false, mode := 1, fn := fn, ct := true }

theorem wit_ActivationSets :
    ((swapping 0).writeOpen (pCFG * 4096 + 0x4C) = true ∧ (swapping 0).cfg.as = some (swapSet 0) ∧
      (swapping 0).fld pCFG CFG_ASSTAT_STATE ≠ 3 ∧ (swapping 0).asAwaits 63 = true ∧ (swapping 0).windowOpen = false ∧
      (swapping 0).rgnClocked 63 = false ∧ (running 3 (swapping 0)).rgnClocked 63 = true ∧
      (running 3 (swapping 0)).asAwaits 63 = true ∧ (swapping 0).frmState ≠ 1 ∧ (swapSet 0).ready = false) ∧
    (∀ v < 2, let s := (up.setFld (pJE 0) JE_CTSTAT_VERIFIED v).updCfg fun c => { c with as := some (tableSet 0) }
     s.cfg.as = some (tableSet 0) ∧ s.frmState ≠ 1 ∧ (tableSet 0).ready = true ∧ (tableSet 0).fn ≤ s.asNextFn ∧
     (tableSet 9).ready = true ∧ (tableSet 9).mode ≠ 0 ∧ s.asNextFn < (tableSet 9).fn ∧ (tableSet 0).ct = true ∧
     s.bit (pJE 0) JE_CTSTAT_VERIFIED = decide (v = 1) ∧ (tableSet 0).swap = 0 ∧ (tableSet 0).unld = 0) ∧
    (up.writeOpen (pCFG * 4096 + 0x4C) = true ∧ up.cfg.as = none ∧
      ((swapping 0).setFld pCFG CFG_ASSTAT_STATE 3).fld pCFG CFG_ASSTAT_STATE = 3) ∧
    ((swapping (2 ^ 63)).cfg.as = some (swapSet (2 ^ 63)) ∧ (swapSet (2 ^ 63)).ready = true ∧ (swapSet (2 ^ 63)).mode = 0 ∧
      (swapSet (2 ^ 63)).ct = false ∧ (swapSet (2 ^ 63)).swap &&& (swapSet (2 ^ 63)).unld = 0) := by decide +kernel

/-! ## Witnesses: flash and routines -/

/-- Routine `code` at this step with these arguments. -/
def routineOf (code step chunk : Nat) (args : List Nat) : Run := ⟨⟨code, 1, args⟩, 0, step, chunk, 0, 0, []⟩
def routine (code step chunk : Nat) (args : List Nat) (s : State) : State := s.updFls fun f =>
  { f with run := some (routineOf code step chunk args) }
def env0 : FlashEnv := ⟨[], 0, [], [], []⟩

theorem wit_MailboxAndStaging :
    (up.writeOpen (pSVC * 4096 + 0x60) = true ∧ up.pwr.trans = none ∧ up.queued < 8 ∧
      SVC_CMD_CODE.of (0x07 : Dword).toNat ∈ routineCodes ∧ SVC_CMD_CODE.of (0x0D : Dword).toNat ∉ routineCodes ∧
      up.fls.run = none ∧ up.fls.bg = none ∧ up.fls.queue = []) ∧
    ((routine 7 0 0 [] up).queued < 8 ∧ (routine 7 0 0 [] up).fls.run ≠ none) ∧
    (let s := up.updFls fun f => { f with cpls := List.replicate 8 ⟨7, 0, 0, 0⟩ }
     8 ≤ s.queued ∧ s.readOpen (pSVC * 4096 + 0x6C) = true ∧ s.fls.cpls = ⟨7, 0, 0, 0⟩ :: List.replicate 7 ⟨7, 0, 0, 0⟩) ∧
    (up.readOpen (pSVC * 4096 + 0x6C) = true ∧ up.fls.cpls = [] ∧ up.writeOpen2 pCFG false = true ∧
      up.bit pCFG CFG_STGSTAT_REQ = false ∧ up.writeOpen (pCFG * 4096 + 0x88) = true ∧
      CFG_STGCTL_DONE.of (0x80000000 : Dword).toNat = 1) ∧
    (let s := (routine 2 1 63 [] up).setFld pCFG CFG_STGSTAT_REQ 1 |>.setFld pCFG CFG_STGSTAT_CHUNK 63
     s.writeOpen2 pCFG false = true ∧ s.bit pCFG CFG_STGSTAT_REQ = true ∧ s.fld pCFG CFG_STGSTAT_CHUNK = 63 ∧
     CFG_STGCTL_CHUNK.of (0x8000003F : Dword).toNat = 63 ∧ CFG_STGCTL_CHUNK.of (0x80000000 : Dword).toNat ≠ 63 ∧
     SMap.wf (fun _ => 0) s.cfg.stg = true ∧ s.fls.run = some (routineOf 2 1 63 [])) ∧
    (let r := routineOf 7 0 0 []
     let s := routine 7 0 0 [] up
     s.fls.run = some r ∧ r.step ≠ 1 ∧ r.since + limitOf r < s.timeAt 1000001 ∧ s.timeAt 1000000 ≤ r.since + limitOf r) := by
  decide +kernel

/-- The bytes of a physical block that nothing has programmed are erased. -/
theorem erased (s : State) (h : s.fls.mem = []) (k : Nat) : SMap.get 0xFF s.fls.mem k = 0xFF := by rw [h]; rfl

def pageUsed (n : Nat) (s : State) : State := s.updFls fun f => { f with used := [(83 * 128 + n, true)] }
def zoneLocked (s : State) : State := s.updFls fun f => { f with zperm := 4 }

theorem wit_FlashRoutines_read_program :
    (let r := routineOf 1 0 0 [122, 0, 128]
     (routine 1 0 0 [122, 0, 128] up).runs 0 0x01 0 r ∧ r.pagesOk = true ∧ (userBlock 122 || slotBlock 122) = true ∧
     (userBlock 82 || slotBlock 82) = true ∧ (userBlock 123 || slotBlock 123) = false ∧
     (routine 1 0 0 [122, 0, 128] up).blockStop 122 = none ∧ env0.unc = []) ∧
    (let r := routineOf 2 0 0 [83, 0, 128]
     let s := routine 2 0 0 [83, 0, 128] up
     s.runs 0 0x02 0 r ∧ r.pagesOk = true ∧ userBlock 83 = true ∧ (zoneLocked s).protectedBlock 83 = true ∧
     s.protectedBlock 83 = false ∧ s.blockStop 83 = none ∧ s.physBlock 83 = 83 ∧
     (∀ k < 128, s.usedPage (83 * 128 + k) = false) ∧
     (pageUsed 0 s).usedPage (83 * 128 + r.arg 1) = true ∧
     (∀ k < 128, 0 < k → (pageUsed 0 s).usedPage (83 * 128 + k) = false) ∧
     (pageUsed 127 s).usedPage (83 * 128 + 127) = true) ∧
    (let r := routineOf 2 2 0 [83, 0, 128]
     let s := routine 2 2 0 [83, 0, 128] up
     s.runs 0 0x02 2 r ∧ env0.progBad = [] ∧ ∀ k < 128, s.usedPage (83 * 128 + k) = false) := by
  unfold State.runs; decide +kernel

/-- An erase of block 83 that takes n pulses. -/
def pulsing (n : Nat) : FlashEnv := { env0 with pulses := [(83, n)] }

theorem wit_FlashRoutines_erase :
    let r := routineOf 3 0 0 [83]
    let s := routine 3 0 0 [83] up
    s.runs 0 0x03 0 r ∧ userBlock (r.arg 0) = true ∧ (zoneLocked s).protectedBlock 83 = true ∧
    s.protectedBlock 83 = false ∧ s.retiredBlock 83 = false ∧ pulsesOf (pulsing 40) (s.physBlock 83) ≤ 40 ∧
    (pulsing 40).margin = [] ∧ 1 ≤ s.fld pFLS FLS_CTRL_MWTHR ∧ 40 < pulsesOf (pulsing 41) (s.physBlock 83) ∧
    (s.updFls fun f => blankBlock f 83).spareFor 0 = some 123 := by
  unfold State.runs; decide +kernel

theorem wit_FlashRoutines_margins :
    (let r := routineOf 4 0 0 [83, 1]
     let s := routine 4 0 0 [83, 1] up
     s.runs 0 0x04 0 r ∧ (userBlock 83 || slotBlock 83) = true ∧ s.blockStop 83 = none ∧
     (s.worstPage env0 (s.physBlock 83) fun used => used != decide (r.arg 1 % 2 = 1)) = some (0, 0) ∧
     83 * 512 / 512 = s.physBlock 83 ∧ (s.usedPage (83 * 512 / 4) != decide (r.arg 1 % 2 = 1)) = true) ∧
    (let r := routineOf 5 0 0 [83, 2]
     let s := routine 5 0 0 [83, 2] up
     s.runs 0 0x05 0 r ∧ env0.unc = [] ∧ r.arg 0 + r.arg 1 ≤ 512 ∧ s.scanned 83 = false ∧ s.scanned 84 = false) ∧
    (let s := pageUsed 0 (routine 5 0 0 [83, 1] up)
     let e : FlashEnv := { env0 with margin := [(83 * 128, 31)] }
     s.scanned 83 = true ∧ s.fld pFLS FLS_CTRL_MWTHR ≤ ((s.worstPage e (s.physBlock 83) id).getD (0, 0)).1) := by
  unfold State.runs; decide +kernel

theorem wit_FlashRoutines_refresh_info :
    (let r := routineOf 6 0 0 [83]
     let s := routine 6 0 0 [83] up
     s.runs 0 0x06 0 r ∧ (userBlock 83 || slotBlock 83) = true ∧ s.pendingBlock (s.physBlock 83) = false ∧
     s.retiredBlock 83 = false ∧ s.spareFor (83 / 128) = some 123 ∧ env0.unc = [] ∧ env0.progBad = [] ∧ s.wf = true ∧
     s.fls.mem = []) ∧
    (routine 7 0 0 [511 - 5] up).runs 0 0x07 0 (routineOf 7 0 0 [506]) ∧ (506 < 512 ∧ 506 % 128 < 123) ∧
    (512 ≤ 512 ∨ 123 ≤ 123 % 128) := by
  unfold State.runs; decide +kernel

/-- A CRC-32 is below 2 ^ 32. -/
theorem crc32_lt (bs : List Nat) : crc32 bs < 2 ^ 32 := by
  have step : ∀ c : Nat, c < 2 ^ 32 → crc32Step c < 2 ^ 32 := by
    intro c h
    unfold crc32Step
    split
    · exact Nat.xor_lt_two_pow (by omega) (by decide)
    · omega
  have byte : ∀ c b : Nat, c < 2 ^ 32 → crc32Byte c b < 2 ^ 32 := by
    intro c b h
    have h0 : c ^^^ (b % 256) < 2 ^ 32 := Nat.xor_lt_two_pow h (by omega)
    have fold : ∀ (ns : List Nat) (x : Nat), x < 2 ^ 32 → ns.foldl (fun x _ => crc32Step x) x < 2 ^ 32 := by
      intro ns
      induction ns with
      | nil => intro x hx; exact hx
      | cons n ns ih => intro x hx; exact ih _ (step x hx)
    exact fold _ _ h0
  have fold : ∀ (bs : List Nat) (c : Nat), c < 2 ^ 32 → bs.foldl crc32Byte c < 2 ^ 32 := by
    intro bs
    induction bs with
    | nil => intro c hc; exact hc
    | cons b bs ih => intro c hc; exact ih _ (byte c b hc)
  exact Nat.xor_lt_two_pow (fold _ _ (by decide)) (by decide)

/-- A save whose data is zeros, with its magic number and its CRC. -/
def saveHead : List Nat := leBytes 4 0x5A3C96E1 ++ List.replicate 2040 0
def savePageBytes : List Nat := saveHead ++ leBytes 4 (crc32 saveHead)

theorem leBytes_length (n v : Nat) : (leBytes n v).length = n := by
  induction n generalizing v with
  | zero => rfl
  | succ n ih => simp [leBytes, ih]

theorem leNum_leBytes4 (v : Nat) (h : v < 2 ^ 32) : leNum (leBytes 4 v) = v := by
  simp only [leBytes, leNum]
  omega

theorem savePageBytes_valid : saveValid savePageBytes = true := by
  have hl : saveHead.length = 2044 := by
    rw [saveHead, List.length_append, List.length_replicate, leBytes_length]
  have ht : savePageBytes.take 2044 = saveHead := by
    rw [savePageBytes, List.take_append_of_le_length (by omega), List.take_of_length_le (by omega)]
  have hd : savePageBytes.drop 2044 = leBytes 4 (crc32 saveHead) := by
    rw [savePageBytes, List.drop_append_of_le_length (by omega), List.drop_of_length_le (by omega), List.nil_append]
  have hm : savePageBytes.take 4 = leBytes 4 0x5A3C96E1 := by
    rw [savePageBytes, saveHead, List.append_assoc, List.take_append_of_le_length (by rw [leBytes_length]),
      List.take_of_length_le (by rw [leBytes_length])]
  have hn : savePageBytes.length = 2048 := by rw [savePageBytes, List.length_append, hl, leBytes_length]
  have hv := leNum_leBytes4 (crc32 saveHead) (crc32_lt saveHead)
  have hg := leNum_leBytes4 0x5A3C96E1 (by decide)
  simp only [saveValid, ht, hd, hm, hn, hv, hg, and_self, decide_true]

def fails (n : Nat) (s : State) : State := s.setFld pFLS FLS_ZONEPW_FAILS n

theorem wit_OtpZonesAndSaves :
    (up.pwr.pfwBlock = false ∧ up.pwr.lcs ≠ 4) ∧
    ((routine 8 0 0 [0, 2048] up).runs 0 0x08 0 (routineOf 8 0 0 [0, 2048]) ∧ otpRange 0 2048 = true ∧
      otpRange 8 16 = false) ∧
    (let s := routine 9 0 0 [0x200, 16] up
     s.runs 0 0x09 0 (routineOf 9 0 0 [0x200, 16]) ∧ s.otpDenied 0x200 16 = false ∧ otpRange 0x200 16 = true ∧
     otpPart 0x200 16 = false ∧ (∀ i < 16 / 16, s.otpLocked (0x200 / 16 + i) = false) ∧
     (s.updFls fun f => { f with otpLock := [(0x20, true)] }).otpLocked (0x200 / 16 + 0) = true) := by
  unfold State.runs; decide +kernel

theorem wit_OtpZonesAndSaves_lock_passwords :
    (let s := routine 9 2 0 [0x200, 16] up
     s.runs 0 0x09 2 (routineOf 9 2 0 [0x200, 16]) ∧ env0.progBad = [] ∧
     s.otpDataOk 0x200 16 (s.bufBytes 0 16) = true) ∧
    ((routine 0x0A 0 0 [0x8001] up).runs 0 0x0A 0 (routineOf 0x0A 0 0 [0x8001])) ∧
    (∀ n < 9, (fails n (routine 0x0B 0 0 [1] up)).fld pFLS FLS_ZONEPW_FAILS = n ∧
      (fails n (routine 0x0C 0 0 [] up)).fld pFLS FLS_ZONEPW_FAILS = n) ∧
    ((fails 8 (routine 0x0B 0 0 [1] up)).runs 0 0x0B 0 (routineOf 0x0B 0 0 [1]) ∧
      (fails 8 (routine 0x0C 0 0 [] up)).runs 0 0x0C 0 (routineOf 0x0C 0 0 [])) ∧
    ((routine 0x18 0 0 [0] up).runs 0 0x18 0 (routineOf 0x18 0 0 [0]) ∧
      (routine 0x18 0 0 [0] up).validSaves[0]? = none) := by
  unfold State.runs; decide +kernel

theorem oneSave (s : State) (bs : List Nat) (h : s.fls.saves = [bs]) (hb : saveValid bs = true) :
    s.validSaves[0]? = some (0, bs) := by
  simp [State.validSaves, h, hb, List.range, List.range.loop]

theorem wit_OtpZonesAndSaves_save :
    (up.updFls fun f => { f with saves := [savePageBytes] }).validSaves[0]? = some (0, savePageBytes) :=
  oneSave _ _ rfl savePageBytes_valid

theorem same_hash (n : Nat) (o : Option Nat) (h : o = none) : decide (n = o.getD n) = true := by subst h; simp
theorem other_hash (n x : Nat) (o : Option Nat) (h : o = some x) (hx : n ≠ x) : decide (n = o.getD n) = false := by
  subst h; simpa using hx
theorem another (n : Nat) : ∃ x, n ≠ x := ⟨n + 1, by omega⟩
theorem right_password (s : State) (h : s.fls.pw = none) : s.pwRight 0 = true := same_hash _ _ h
theorem wrong_password (s : State) (x : Nat) (h : s.fls.pw = some x) (hx : pwHash 0 ≠ x) : s.pwRight 0 = false :=
  other_hash _ x _ h hx

/-- The initial password is 0; another stored hash makes it wrong. -/
theorem wit_OtpZonesAndSaves_passwords :
    (routine 0x0B 0 0 [1, 0, 0, 0] up).pwRight 0 = true ∧
    ∃ x, (up.updFls fun f => { f with pw := some x }).pwRight 0 = false :=
  ⟨right_password _ rfl, (another (pwHash 0)).elim fun x hx => ⟨x, wrong_password _ x rfl hx⟩⟩

/-- An unsigned image header of a type and length in the program buffer: KREA, format 1, k regions in GEOM. -/
def header (typ k len : Nat) : List Nat :=
  [0x4B, 0x52, 0x45, 0x41, 1, 0, typ, 0] ++ leBytes 4 (256 + k) ++ leBytes 4 len ++ List.replicate 496 0
/-- These bytes, none of them `d`, from an address. -/
def listed (d : Byte) (base : Nat) (bs : List Nat) : List (Nat × Byte) :=
  (bs.zipIdx.map fun x => (base + x.2, BitVec.ofNat 8 x.1)).filter fun x => decide (x.2 ≠ d)
/-- The bytes of a list read back. -/
theorem get_listed (d : Byte) (base : Nat) : ∀ (bs : List Nat) (n i : Nat),
    SMap.get d (((bs.zipIdx n).map fun x => (base + x.2, BitVec.ofNat 8 x.1)).filter fun x => decide (x.2 ≠ d))
      (base + n + i) = (BitVec.ofNat 8 (bs.getD i d.toNat)) := by
  intro bs
  induction bs with
  | nil => intro n i; simp [SMap.get]
  | cons b t ih =>
    intro n i
    have below : ∀ (l : List Nat) (m k : Nat), k < m → SMap.get d
        (((l.zipIdx m).map fun x => (base + x.2, BitVec.ofNat 8 x.1)).filter fun x => decide (x.2 ≠ d)) (base + k) = d := by
      intro l
      induction l with
      | nil => intros; rfl
      | cons c l ih =>
        intro m k h
        by_cases hc : BitVec.ofNat 8 c = d
        · simpa [List.filter_cons, hc] using ih (m + 1) k (by omega)
        · have : ¬ m = k := by omega
          simpa [List.filter_cons, hc, SMap.get, this] using ih (m + 1) k (by omega)
    by_cases hc : BitVec.ofNat 8 b = d
    · cases i with
      | zero => simpa [List.filter_cons, hc] using below t (n + 1) n (by omega)
      | succ i => simpa [List.filter_cons, hc, Nat.add_assoc, Nat.add_comm 1] using ih (n + 1) i
    · cases i with
      | zero => simp [hc, SMap.get]
      | succ i =>
        have : ¬ base + n = base + n + (i + 1) := by omega
        simpa [List.filter_cons, hc, SMap.get, this, Nat.add_assoc, Nat.add_comm 1] using ih (n + 1) i

def buffered (bs : List Nat) (s : State) : State := s.updFls fun f => { f with buf := listed 0 0 bs }
def dirEnt (slot typ len : Nat) : DirEnt := ⟨1, slot, true, typ, len, 0, 0⟩
def holding (slot typ len : Nat) (s : State) : State := s.updFls fun f => { f with dir := [(dirEnt slot typ len).bytes] }

theorem wit_Images_install :
    (let s := routine 0x10 0 0 [1, 16777216] up
     s.runs 0 0x10 0 (routineOf 0x10 0 0 [1, 16777216]) ∧ s.installArgs 1 16777216 = true ∧
     s.installArgs 1 511 = false ∧ (∀ b ∈ imageBlocks 1 16777216, s.protectedBlock b = false ∧ s.retiredBlock b = false)) ∧
    (let s := routine 0x10 2 0 [1, 524288] up
     s.runs 0 0x10 2 (routineOf 0x10 2 0 [1, 524288]) ∧ (s.headStatus (s.bufBytes 0 512) ≠ stOK) ∧
     1 < chunkCount 524288) ∧
    (let s := buffered (header 2 2 524288) (routine 0x10 2 0 [1, 524288] up)
     s.headStatus (s.bufBytes 0 512) = stOK ∧ imgLength (s.bufBytes 0 512) = 524288 ∧
     typeFits 1 (imgType (s.bufBytes 0 512)) = true) := by
  unfold State.runs; decide +kernel

/-- The last chunk of an image of one chunk: its blocks are programmed. -/
theorem wit_Images_end :
    let s := buffered (header 4 0 832) (routine 0x10 2 0 [4, 832] up)
    s.runs 0 0x10 2 (routineOf 0x10 2 0 [4, 832]) ∧ 0 + 1 = chunkCount 832 ∧
    s.headStatus (s.bufBytes 0 512) = stOK ∧ imgLength (s.bufBytes 0 512) = 832 ∧
    typeFits 4 (imgType (s.bufBytes 0 512)) = true ∧
    (((s.at_ 0).installHead 4 832).1.installBlocks env0 4 832 (groupChunks 0)).2 = none ∧
    (((s.at_ 0).installHead 4 832).1.installBlocks env0 4 832 (groupChunks 0)).1.badSectors env0 4 832 = (false, false) := by
  unfold State.runs; decide +kernel

/-- The digest of an image of 512 bytes 0xFF but for byte 7, its flags, which is 0. -/
def digest512 : List Nat := beBytes 32 0x0fe32c2cbc945ac77f7140eb9cc2e9cfbc02b584f537043873c3c5c723767ed8
/-- That image in slot 0, with its digest or without. -/
def digested (d : List Nat) : State := (holding 0 1 512 (routine 0x11 0 0 [0] up)).updFls fun f =>
  { f with mem := (3 * 262144 + 7, 0) :: listed 0xFF (3 * 262144 + 0x40) d }

theorem wit_Images_select :
    (let s := digested digest512
     s.runs 0 0x11 0 (routineOf 0x11 0 0 [0]) ∧ s.slotImage 0 = some (dirEnt 0 1 512) ∧
     s.imageStop 0 512 = none ∧ classOk s.pwr.lcs (s.imageBytes 0 512) = true ∧ env0.unc = [] ∧
     s.bodyStatus (s.imageBytes 0 512) false = stOK) ∧
    (let s := digested []
     classOk s.pwr.lcs (s.imageBytes 0 512) = true ∧ s.bodyStatus (s.imageBytes 0 512) false ≠ stOK) ∧
    (routine 0x11 0 0 [0] up).slotImage 0 = none := by
  unfold State.runs; decide +kernel

/-- The header of a partial image of one region; with key 3 it claims a signature of the maker's. -/
def loadHead (key : Nat) : List Nat := ((header 2 1 262144).set 20 key).set 7 (if key = 0 then 0 else 2)

/-- That header in slot 0; allocation 2 is region 63. -/
def loadRun (step : Nat) : Run := { routineOf 0x12 step 0 [0, 2, 0] with dest := if step = 2 then [(63, 0, 2)] else [] }
def loadable (key : Nat) (step : Nat) : State :=
  (holding 0 2 512 up).updPlc (fun p => { p with allocs := [⟨2, 63, 1⟩], rgn := [(63, ⟨2, 2⟩)] }) |>.updFls fun f =>
    { f with mem := listed 0xFF (3 * 262144) (loadHead key), run := some (loadRun step) }

theorem loadable_bytes (key step : Nat) (hp : (loadable key step).physBlock 3 = 3) (hl : (loadHead key).length = 512) :
    (loadable key step).imageBytes 0 512 = (loadHead key).map (· % 256) := by
  apply List.ext_getElem
  · simp [State.imageBytes, hl]
  · intro i h1 h2
    have hi : i < 512 := by simpa [hl] using h2
    have hd : i / 262144 = 0 := by omega
    have hm : i % 262144 = i := by omega
    have := get_listed 0xFF (3 * 262144) (loadHead key) 0 i
    simp only [State.imageBytes, List.getElem_map, List.getElem_range, State.flashByte, slotChunk, hd, hm] 
    simp only [Nat.mul_zero, Nat.zero_mod, Nat.add_zero, Nat.zero_div, if_true, Nat.zero_lt_succ, hp]
    rw [show (loadable key step).fls.mem = listed 0xFF (3 * 262144) (loadHead key) from rfl]
    simpa [listed, hl, hi] using congrArg BitVec.toNat this

theorem wit_Images_load :
    ((loadable 0 0).runs 0 0x12 0 (loadRun 0) ∧ (loadable 0 0).slotImage 0 = some (dirEnt 0 2 512) ∧
      (loadable 0 0).imageStop 0 512 = none ∧
      (loadable 0 0).loadStatus ((loadable 0 0).imageBytes 0 512) false false = stOK ∧
      imgType ((loadable 0 0).imageBytes 0 512) ≤ 2 ∧
      (loadable 0 0).loadRegions (loadRun 0) 2 1 = some [(63, 0)] ∧
      imgK ((loadable 0 0).imageBytes 0 512) = 1 ∧ (loadable 0 0).armedRegion 63 = false) ∧
    ((loadable 3 0).loadStatus ((loadable 3 0).imageBytes 0 512) false false ≠ stOK) ∧
    ((loadable 0 2).runs 0 0x12 2 (loadRun 2) ∧ (loadable 0 2).fls.ctxLoad = false ∧
      ((loadRun 2).dest.map (·.1)).Nodup ∧ (loadable 0 2).stillOwn (63, 0, 2) = true ∧
      ((loadable 0 2).opened ((loadable 0 2).imageBytes 0 512)).isSome = true) := by
  simp only [loadable_bytes 0 0 (by decide +kernel) (by decide +kernel), loadable_bytes 3 0 (by decide +kernel) (by decide +kernel),
    loadable_bytes 0 2 (by decide +kernel) (by decide +kernel)]
  unfold State.runs; decide +kernel

def bgOp (susp : Bool) (s : State) : State := s.updFls fun f => { f with bg := some ⟨1, 83, susp, 0⟩ }

theorem wit_BackgroundWork :
    (let s := up.updFls fun f => { f with flag := [(83, true)] }
     s.pwr.up = true ∧ s.fls.run = none ∧ s.fls.queue = [] ∧ s.fls.bg = none ∧ s.pwr.pfwBlock = false ∧
     s.pwr.trans = none ∧ s.clkOn pFLS = true ∧ s.bgDue = some (1, 83)) ∧
    ((routine 7 0 0 [] up).fls.run ≠ none) ∧
    ((bgOp false up).fls.bg = some ⟨1, 83, false, 0⟩ ∧ (bgOp false up).fls.run = none ∧ (bgOp false up).pwr.trans = none ∧
      pulsesOf (pulsing 40) 83 ≤ 40 ∧ (bgOp true up).fls.bg = some ⟨1, 83, true, 0⟩) ∧
    (let s := (bgOp false up).updFls fun f => { f with queue := [⟨7, 0, []⟩] }
     s.fls.queue = [⟨7, 0, []⟩] ∧ readOnly 7 = true ∧ 0 < 0 + s.fld pFLS FLS_CTRL_SUSPMIN * 1000) := by decide +kernel

/-! ## Witnesses: clocks -/

/-- Band 0 of MDLL n holds these limits. -/
def banded (n lo hi : Nat) (s : State) : State := s.updPwr fun p => { p with band := SMap.put none p.band (n * 16) (some (lo, hi)) }
def acquiring (n k : Nat) (s : State) : State := s.updPwr fun p => { p with ck := SMap.put Ck.off p.ck n { Ck.off with acq := k } }
/-- No band of MDLL 7 fits. -/
def bandless : State := up.updPwr fun p => { p with band := (List.range 16).map fun b => (7 * 16 + b, some (1, 0)) }
def coasting : State := clocked.updPwr fun p => { p with coastAt := some 5 }

theorem wit_ClocksAndReference :
    (let s := banded 7 0 65535 up
     s.writeOpen (pCLK 7 * 4096 + 0x40) = true ∧ s.mdllOn 7 = false ∧ (s.mdll 7).acq = 0 ∧
     s.pickBand 7 = some 0) ∧
    (bandless.writeOpen (pCLK 7 * 4096 + 0x40) = true ∧ bandless.pickBand 7 = none ∧ (bandless.mdll 7).acq = 0 ∧
      bandless.mdllOn 7 = false ∧ clocked.mdllOn 2 = true) ∧
    (up.writeOpen (pCLK 1 * 4096 + 0x40) = true ∧ up.pwr.up = true ∧ (up.mdll 7).acq ≠ 1) ∧
    (let s := acquiring 7 1 up
     (s.mdll 7).acq = 1 ∧ (s.mdll 7).enAt + s.refNs 20000 ≤ s.timeAt 798000 ∧
     s.timeAt 797999 < (s.mdll 7).enAt + s.refNs 20000) ∧
    (let s := (acquiring 7 2 up)
     ((s.at_ 10188).mayLock 7 = true ∧ (s.at_ 5000000).mayLock 7 = true ∧ s.timeAt 10187 < (s.mdll 7).fpEnd + s.refNs 256)) ∧
    (let s := (List.range 8).foldl (fun s n => banded n 0 65535 s) State.reset
     s.sixDue (s.timeAt 800000 - s.refNs 20000) = true ∧ s.refNs 20000 ≤ s.timeAt 800000 ∧ s.pwr.coastAt = none ∧
     s.pwr.up = false ∧ s.mdllOn 7 = false ∧ (s.mdll 7).acq = 0 ∧
     ∀ k < 8, s.mdllOn k = false → (s.mdll k).acq = 0 → (s.pickBand k).isSome = true) ∧
    (∀ w < 2, let s := clocked.setFld (pCLK 1) CLK_STAT_WINDOW w
     s.fld (pCLK 1) CLK_STAT_STATE = 2 ∧ s.bit (pCLK 1) CLK_STAT_WINDOW = decide (w = 1)) ∧
    (clocked.pwr.coastAt = none ∧ clocked.mdllOn 0 = true ∧ coasting.pwr.coastAt = some 5 ∧
      coasting.pwr.coastHit = false ∧ (coasting.updPwr fun p => { p with coastHit := true }).pwr.coastHit = true ∧
      (clocked.fld (pCLK 7) CLK_STAT_STATE < 2 → clocked.bit (pCLK 7) CLK_STAT_MUTED = true)) ∧
    ((coasting.setFld (pCLK 2) CLK_STAT_STATE 3).fld (pCLK 2) CLK_STAT_STATE = 3 ∧
      ((acquiring 7 3 coasting).mdll 7).acq = 3 ∧ (coasting.mdll 7).acq ≠ 3) ∧
    (let s := up.setFld pPWR PWR_STAT_STOPPED 0x3E
     (s.at_ 0).hostUp = true ∧ pgClass ((0x7058 : BitVec 21).toNat / 4096) ≠ .reserved ∧
     (s.at_ 0).clkOn ((0x7058 : BitVec 21).toNat / 4096) = false ∧ (up.at_ 0).clkOn ((0x7058 : BitVec 21).toNat / 4096) = true ∧
     s.npNow < 32 ∧ s.pwr.pfwBlock = false ∧ s.role ≠ 2) := by decide +kernel

theorem wit_MdllSettings :
    (up.writeOpen (pCLK 7 * 4096 + 0x48) = true ∧ up.writeOpen (pCLK 2 * 4096 + 0x48) = true ∧
      CLK_MULT_M.of (0x03FFFF : Dword).toNat < 0x040000 ∧ 0x1C0000 < CLK_MULT_M.of (0x1C0001 : Dword).toNat ∧
      0x040000 ≤ CLK_MULT_M.of (0x040000 : Dword).toNat ∧ CLK_MULT_M.of (0x1C0000 : Dword).toNat ≤ 0x1C0000 ∧
      up.mdllOff 7 = true) ∧
    (let s := banded 7 1024 7168 (running 7 up)
     s.mdllOff 7 = false ∧ s.fld (pCLK 7) CLK_STAT_BAND = 0 ∧
     (0x1C0000 + 255) / 256 ≤ (s.bandOf 7 0).2 ∧ (s.bandOf 7 0).1 ≤ 0x040000 / 256 ∧
     s.fld (pCLK 7) CLK_MACT_M < 2 ^ CLK_MACT_M.wid ∧ s.fld (pCLK 7) CLK_MULT_M < 2 ^ CLK_MACT_M.wid ∧
     s.bit (pCLK 7) CLK_STAT_RAMP = false ∧
     ((banded 7 2000 3000 s).bandOf 7 0).2 < (0x1C0000 + 255) / 256 ∧ 0x040000 / 256 < ((banded 7 2000 3000 s).bandOf 7 0).1) ∧
    (let s := (((running 7 up).setFld (pCLK 7) CLK_STAT_RAMP 1).setFld (pCLK 7) CLK_MULT_M 0x1C0000).setFld (pCLK 7) CLK_MACT_M 0x040000
     (s.at_ 5000000).rampEnds 7 = true ∧
     (s.at_ 5).rampFar 7 < Nat.max (s.fld (pCLK 7) CLK_MACT_M) (s.fld (pCLK 7) CLK_MULT_M) -
       Nat.min (s.fld (pCLK 7) CLK_MACT_M) (s.fld (pCLK 7) CLK_MULT_M)) ∧
    (up.writeOpen (pCLK 1 * 4096 + 0x40) = true ∧ up.mdllOff 1 = true) ∧
    (let s := banded 1 4096 65535 (running 1 up)
     s.mdllOff 1 = false ∧ (s.bandOf 1 (s.fld (pCLK 1) CLK_STAT_BAND)).1 ≤ lowEnd (s.fld (pCLK 1) CLK_MULT_M) 0 ∧
     lowEnd (s.fld (pCLK 1) CLK_MULT_M) 10 < (s.bandOf 1 (s.fld (pCLK 1) CLK_STAT_BAND)).1) ∧
    (up.writeOpen (pCLK 3 * 4096 + 0x50) = true ∧ up.writeOpen (pCLK 2 * 4096 + 0x50) = true ∧
      up.writeOpen (pCLK 2 * 4096 + 0x54) = true ∧ up.writeOpen (pCLK 1 * 4096 + 0x54) = true ∧ clocked.mdllOff 2 = false ∧
      clocked.writeOpen (pCLK 2 * 4096 + 0x54) = true ∧ up.writeOpen (pCLK 7 * 4096 + 0x5C) = true ∧
      clocked.fld (pCLK 2) CLK_BANDIDX_BAND = clocked.fld (pCLK 2) CLK_STAT_BAND) := by decide +kernel

/-! ## Witnesses: power, reset and bring-up -/

def gauze (k : Nat) (s : State) : State := s.updPwr fun p => { p with gz := k }
/-- In GAUZE, where the device is not up. -/
def asleep : State := { State.reset with pwr := { Pwr.reset with gz := 2 } }
def transiting (s : State) : State := s.updPwr fun p => { p with trans := some (3, env0, (false, false), .none) }

theorem wit_GauzeEntry :
    (inHold.writeOpen (pPWR * 4096 + 0x40) = true ∧ inHold.pwr.gz = 0 ∧ inHold.pwr.trans = none ∧
      (inHold.arrive 0 (pPWR * 4096 + 0x40) 1).firstRefusal [0, 1, 2, 3, 4, 5] = none) ∧
    (up.writeOpen (pPWR * 4096 + 0x40) = true ∧
      (up.arrive 0 (pPWR * 4096 + 0x40) 1).firstRefusal [0, 1, 2, 3, 4, 5] = some (0, 1) ∧ up.frmState ≠ 2) ∧
    ((gauze 1 up).writeOpen (pPWR * 4096 + 0x40) = true ∧ (gauze 1 up).pwr.gz ≠ 0 ∧ (gauze 1 up).pwr.gz = 1 ∧
      (gauze 1 up).pwr.muslin = 0 ∧ ((gauze 1 up).at_ 0).refusal 6 = none ∧
      ((gauze 1 up).updPwr fun p => { p with muslin := 2 }).pwr.muslin ≠ 0) ∧
    (let s := (gauze 1 up).updHst fun h => { h with hung := [⟨7, false⟩] }
     s.pwr.gz = 1 ∧ s.pwr.muslin = 0 ∧ (s.at_ 0).refusal 6 = some 1) ∧
    ((transiting up).pwr.trans.isSome = true ∧ up.writeOpen (pSYS * 4096 + 0x44) = true) := by decide +kernel

/-- Pin 15 is sampled, and the channel 15 of the ADC against its limits, each for one event. -/
def sampled : State := ((asleep.setFld pPWR PWR_CTRL_CONSEC 1).setFld pPWR PWR_WPMODE_MODE (3 * 2 ^ 30))
def sampledAdc : State := (((asleep.setFld pPWR PWR_CTRL_CONSEC 1).setFld pPWR PWR_ADCSEL_CH (2 ^ 15)).setFld pPWR
  (PWR_THR_LO 15) 100).setFld pPWR (PWR_THR_HI 15) 200
/-- The k-th source passes at an event with these pins and conversions. -/
def passes (s : State) (pins : BitVec 16) (adc : List AdcIn) (k : Nat) : Bool :=
  decide (s.fld pPWR PWR_CTRL_CONSEC ≤ (if s.outOfLimit pins adc k = true then SMap.get 0 s.pwr.outOf k + 1 else 0))
def someAdc : List AdcIn := List.replicate 15 ⟨0, 1⟩ ++ [⟨199, 2048⟩]
/-- The level of pin 15 that its limit does not allow. -/
def badPins (s : State) : BitVec 16 := if (s.fld pPWR PWR_WPPOL_POL).testBit 15 then 0xFFFF else 0

theorem wit_WakesAndSamples :
    (let s := asleep.setFld pPWR PWR_WCFG_WIMODE 1
     let q := asleep.setFld pPWR PWR_WPMODE_MODE (2 * 2 ^ 30)
     asleep.pwr.up = false ∧ asleep.pwr.gz = 2 ∧ asleep.pwr.gzAt ≤ 0 ∧
     detectCounts (.edge (s.bit pPWR PWR_WCFG_WIPOL) 200) (s.fld pPWR PWR_WCFG_WIMODE) (s.bit pPWR PWR_WCFG_WIPOL) = true ∧
     detectCounts (.level ((q.fld pPWR PWR_WPPOL_POL).testBit 15) 3) (q.pinMode 15)
       ((q.fld pPWR PWR_WPPOL_POL).testBit 15) = true ∧
     detectCounts (.level ((q.fld pPWR PWR_WPPOL_POL).testBit 15) 2) (q.pinMode 15)
       ((q.fld pPWR PWR_WPPOL_POL).testBit 15) = false ∧
     asleep.fld pPWR PWR_WCFG_WIMODE ≠ 1 ∧ asleep.fld pPWR PWR_WCFG_WIMODE ≠ 2) ∧
    (∀ k ∈ [1, 2], ((gauze 1 up).setFld pPWR PWR_WCFG_WIMODE k).fld pPWR PWR_WCFG_WIMODE = k ∧
      ((gauze 1 up).setFld pPWR PWR_WCFG_WIMODE k).pwr.gz = 1) ∧
    (passes sampled (badPins sampled) someAdc 15 = true ∧ ∀ j < 15, passes sampled (badPins sampled) someAdc j = false) ∧
    (passes sampledAdc 0 someAdc 31 = true ∧ ∀ j < 31, passes sampledAdc 0 someAdc j = false) ∧
    (∀ n < 2, let s := (asleep.setFld pPWR PWR_CTRL_CONSEC 1).setFld pPWR PWR_TWAKE_COUNT n
     (∀ j < 32, passes s 0 someAdc j = false) ∧ s.fld pPWR PWR_TWAKE_COUNT = n ∧ s.fld pPWR PWR_TWAKE_COUNT ≤ s.pwr.events + 1 ∧
     s.pwr.events + 1 < (s.setFld pPWR PWR_TWAKE_COUNT 2).fld pPWR PWR_TWAKE_COUNT) ∧
    (let s := (up.setFld pADC HDR_PG_CTRL_EN 1).setFld pADC ADC_CTRL_CHEN (2 ^ 15)
     s.pwr.up = true ∧ s.clkOn pADC = true ∧ s.bit pADC HDR_PG_CTRL_EN = true ∧ s.pwr.adcMask = 0 ∧
     (s.fld pADC ADC_CTRL_CHEN).testBit 15 = true ∧ (∀ k < 15, (s.fld pADC ADC_CTRL_CHEN).testBit k = false) ∧
     s.fld pADC ADC_CTRL_CHEN < 2 ^ 16 ∧ s.fld pADC (ADC_RES_LANES (15 / 3)) < 2 ^ 30) := by decide +kernel

theorem wit_Resets :
    State.reset.pwr.up = false ∧ up.writeOpen (pSYS * 4096 + 0x40) = true ∧ up.pwr.gz ≠ 4 ∧ up.fls.run = none ∧
    SYS_RESET_KEY.of (0x3C5A0001 : Dword).toNat = 0x3C5A ∧ SYS_RESET_WARM.of (0x3C5A0001 : Dword).toNat = 1 ∧
    SYS_RESET_KEY.of (0x3C5B0001 : Dword).toNat ≠ 0x3C5A ∧ SYS_RESET_WARM.of (0x3C5A0000 : Dword).toNat = 0 := by decide

theorem wit_ReadyAndPowerFail :
    (let s := running 1 (running 0 State.reset)
     s.pwr.up = false ∧ s.pwr.gz = 0 ∧ s.pwr.kind = 0 ∧ s.pwr.pfw = false ∧ s.mdllOn 0 = true ∧ s.mdllOn 1 = true ∧
     s.pwr.tripped = false ∧ s.decodedState ≠ 4 ∧ s.pendingState = none ∧ s.fld (pCLK 0) CLK_STAT_REFSEL = 0 ∧
     s.refSel [(2899, 700), (2900, 0)] = some 1 ∧ s.refSel [(3201, 831), (3200, 0)] = some 2 ∧ s.refSel [(0, 699)] = none) ∧
    (up.pwr.up = true ∧ up.fls.bg = none ∧ up.pwr.gz = 0 ∧ up.pwr.pfw = false ∧ up.fls.run = none ∧ up.fls.saves.length < 512) := by
  decide +kernel

/-! ## Witnesses: life cycle -/

/-- DEVELOP to RETURN. -/
def toReturn : Dword := BitVec.ofNat 32 (lcsCode 1 * 256 + lcsCode 3)

theorem wit_LifeCycle :
    (up.writeOpen (pLCS * 4096 + 0x44) = true ∧ up.pwr.trans = none ∧ up.fls.bg = none ∧
      (up.arrive 0 (pLCS * 4096 + 0x44) toReturn.toNat).checkTransition toReturn.toNat = .inl 3 ∧
      (inRun.arrive 0 (pLCS * 4096 + 0x44) toReturn.toNat).checkTransition toReturn.toNat = .inr stBUSY ∧
      (up.arrive 0 (pLCS * 4096 + 0x44) 0).checkTransition 0 = .inr stBADARG) ∧
    (permitted 0 1 = true ∧ permitted 3 4 = true ∧ up.writeOpen (pLCS * 4096 + 0x60) = true ∧ up.pwr.certBusy = false) ∧
    ((up.updPwr fun p => { p with certBusy := true }).pwr.certBusy = true) := by decide +kernel

/-! ## Witnesses: twin pairs -/

def linkUp (s : State) : State := s.setFld pTWN TWN_STAT_LINKUP 1
/-- A SOLO unit that may join as standby: the partner is healthy and its LIVE pulse came at 0. -/
def joinable : State := ((linkUp clocked).setFld pTWN TWN_STAT_PHLTH 1).updTwn fun w => { w with liveAt := some 0 }
def inFrames : State := clocked.setFld pFRM FRM_STAT_STATE 1
def noLinks (s : State) : Prop := ∀ l < 128, s.bit (pUL l) HDR_PG_CTRL_EN = false

theorem wit_JoinAndLeave :
    (∀ r < 4, (asRole r clocked).writeOpen (pTWN * 4096 + 0x44) = true ∧ (asRole r clocked).role = r ∧ (asRole r clocked).twn.held = []) ∧
    ((faulted clocked).role = 0 ∧ (faulted clocked).writeOpen (pTWN * 4096 + 0x44) = true ∧ (faulted clocked).pwr.faultB = true ∧
      clocked.pwr.faultB = false ∧ inFrames.role = 0 ∧ inFrames.writeOpen (pTWN * 4096 + 0x44) = true ∧ inFrames.frmState ≠ 0) ∧
    (let s := clocked.setFld (pUL 127) HDR_PG_CTRL_EN 1
     s.role = 0 ∧ s.frmState = 0 ∧ s.bit (pUL 127) HDR_PG_CTRL_EN = true) ∧
    (let s := clocked.setFld pTWN TWN_STAT_PHLTH 0
     s.bit pTWN TWN_STAT_LINKUP = false ∧ (linkUp s).bit pTWN TWN_STAT_LINKUP = true ∧
     (linkUp s).bit pTWN TWN_STAT_PHLTH = false ∧ (linkUp s).role = 0 ∧ (linkUp s).frmState = 0) ∧
    (joinable.writeOpen (pTWN * 4096 + 0x44) = true ∧ joinable.role = 0 ∧ joinable.frmState = 0 ∧
      joinable.bit pTWN TWN_STAT_LINKUP = true ∧ joinable.bit pTWN TWN_STAT_PHLTH = true ∧
      joinable.twn.liveAt = some 0 ∧ (joinable.at_ 50500).time ≤ 0 + Nat.max 50500 joinable.fallbackNs ∧
      0 + Nat.max 50500 joinable.fallbackNs < (joinable.at_ 100000001).time ∧ joinable.pwr.faultB = false ∧
      (faulted joinable).pwr.faultB = true ∧ (faulted joinable).role = 0 ∧ (faulted joinable).twn.liveAt = some 0) ∧
    (primary.role = 1 ∧ primary.bit pTWN TWN_STAT_PAIRED = true ∧ (asRole 1 clocked).bit pTWN TWN_STAT_PAIRED = false) := by
  decide +kernel
/-- The units of the witnesses of JoinAndLeave have no enabled link. -/
theorem wit_JoinAndLeave_links : noLinks clocked ∧ noLinks (linkUp clocked) ∧ noLinks joinable ∧ noLinks (faulted joinable) := by
  unfold noLinks; decide +kernel

def parcels (xs : List (Nat × Fwd)) (s : State) : State := s.updTwn fun w => { w with out := xs }

theorem wit_PairLinkAndTransfer_link :
    ((asRole 2 clocked).clkOn pTWN = true ∧ (asRole 2 clocked).bit pTWN TWN_STAT_LINKUP = false ∧ (asRole 2 clocked).role = 2 ∧
      (∀ k ∈ [2, 3], 2 ≤ ((asRole 2 clocked).setFld pTWN TWN_STAT_SSTATE k).fld pTWN TWN_STAT_SSTATE) ∧
      up.fld pTWN TWN_STAT_SSTATE < 2) ∧
    ((7 : BitVec 4) ≠ 15 ∧ primary.clkOn pTWN = true ∧ primary.bit pTWN TWN_STAT_LINKUP = true ∧ primary.role = 1 ∧
      primary.twn.held = [] ∧ standby.clkOn pTWN = true ∧ standby.bit pTWN TWN_STAT_LINKUP = true ∧ standby.role ≠ 1) ∧
    (∀ k ∈ [6, 7], let s := (parcels [(1, .actSet)] standby).updTwn fun w => { w with resends := k }
     s.bit pTWN TWN_STAT_LINKUP = true ∧ s.twn.out ≠ [] ∧ s.twn.resends = k ∧ s.role ≠ 1) ∧
    standby.twn.out = [] ∧
    (∀ x ∈ [Fwd.bar2 8 1, .reg 0x604C 5000, .group 1, .actSet, .training 0 [], .place 7 3136],
      (parcels [(1, x)] primary).twn.out = [(1, x)] ∧ ∀ h ∈ (parcels [(1, x)] primary).twn.held, h.1 ≠ 1) ∧
    (let s := parcels [(1, .place 7 3136)] (primary.setFld pFRM FRM_STAT_STATE 1)
     s.frmState ≠ 0 ∧ s.windowOpen = false) ∧
    (let s := (parcels [(1, .reg 0x5060 128)] (primary.setFld pFRM FRM_STAT_STATE 1)).updTwn fun w => { w with held := [(1, 0x60, 128, 0)] }
     s.frmState = 1 ∧ s.twn.out = [(1, .reg 0x5060 128)] ∧ s.twn.held = [(1, 0x60, 128, 0)]) ∧
    (let s := (parcels [(1, .actSet)] primary).updCfg fun c => { c with as := some anySet }
     s.windowOpen = false ∧ s.cfg.as = some anySet) := by decide +kernel

def following (k : Nat) (s : State) : State := (s.setFld pTWN TWN_STAT_SSTATE k).updTwn fun w => { w with xfer := 1 }
def anyXfer : XferIn :=
  { regs := [], home := [], pins := [], allocs := [(2, 63, 1)], nextAlloc := 3, words := [(0, 1), (3145727, 2)],
    groups := [(1, [])], quar := [(49151, 5)], safe := [], smps := [], inf := [], pend := [], ports := [], mc := [],
    pat := [], frame := none, tags := [] }
/-- The record of an idle frame 77. -/
def rec77 : RecIn := ⟨0, 77, true, [], 0, [], 0, false, false⟩

theorem wit_PairLinkAndTransfer_resync :
    ((asRole 2 up).bit pTWN TWN_STAT_LINKUP = false ∧ primary.bit pTWN TWN_STAT_LINKUP = true ∧ primary.role = 1) ∧
    (standby.bit pTWN TWN_STAT_LINKUP = true ∧ standby.role = 2 ∧ standby.fld pTWN TWN_STAT_SSTATE ≠ 3 ∧
      (anyXfer.words.map fun e => e.1.val).Nodup ∧ (anyXfer.quar.map fun e => e.1.val).Nodup ∧ anyXfer.frame = none ∧
      ({ anyXfer with frame := some rec77 }).frame = some rec77 ∧ anyXfer.regs = [] ∧
      (standby.setFld pFRM FRM_STAT_STATE 1).frmState = 1) ∧
    ((following 2 standby).role = 2 ∧ (following 2 standby).fld pTWN TWN_STAT_SSTATE = 2 ∧
      (following 2 standby).twn.xfer = 1 ∧ (following 2 standby).twn.replay = none ∧ standby.twn.xfer ≠ 1) := by decide +kernel

/-- A standby in RUN that follows its primary and has seen frame `n`. -/
def inStep (n : Nat) : State := ((following 3 standby).setFld pFRM FRM_STAT_STATE 1).updFrm fun f => { f with last := some n }
def anyRec (s : State) : RecIn :=
  { lat := 0, fn := BitVec.ofNat 48 s.nextFn, idle := true, snap := [], batch := 0, visits := [], digest := 0, sw := false, set := false }
def busyEngine (s : State) : State := s.updJer fun j => { j with eng := [(31, { Eng.idle with due := [31] })] }

def oneModule : Module := ⟨1, 0, 0, 0, 0, 0, true⟩

theorem wit_StandbyFollows_frames :
    (standby.twn.xfer ≠ 1 ∧ standby.frmState ≠ 1) ∧
    (let s := inStep 0
     s.role = 2 ∧ s.twn.xfer = 1 ∧ s.frmState = 1 ∧ s.bit pTWN TWN_STAT_LINKUP = true ∧ s.twn.gotRec = none ∧
     (∀ e < 32, (anyRec s).visits.getD e 0 = 0) ∧ s.nextFn = (anyRec s).fn.toNat ∧ (anyRec s).sw = false ∧
     s.frm.inFrame = false ∧ (∀ e < 32, (s.engine e).wbs = []) ∧ s.pwr.faultB = false ∧ s.frm.roleHold = false ∧
     s.bit pFRM FRM_STAT_HOLDREQ = false ∧ s.twn.switch = false ∧ (anyRec s).lat ≤ s.time) ∧
    ((inStep 0).nextFn ≠ ({ anyRec (inStep 0) with fn := 77 }).fn.toNat) ∧
    (let s := busyEngine (inStep 0)
     s.twn.xfer = 1 ∧ s.frmState = 1 ∧ s.twn.gotRec = none ∧ s.twn.replay = none ∧ (s.engine 31).busy = true ∧
     (s.engine 31).wbs.length < ({ anyRec s with visits := List.replicate 32 1 }).visits.getD 31 0) ∧
    (∀ g, ((inStep 0).updTwn fun w => { w with gotRec := some g }).twn.gotRec = some g) ∧
    (let s := standby.updLink 127 fun k => { k with mods := [oneModule] }
     s.role = 2 ∧ s.bit pTWN TWN_STAT_LINKUP = true ∧ (s.link 127).mods[(0 : Fin 8).val]? = some oneModule) := by
  refine ⟨by decide, by decide +kernel, by decide +kernel, by decide +kernel, fun _ => rfl, by decide +kernel⟩

theorem wit_StandbyFollows_writes :
    (up.role ≠ 2 ∧ standby.role = 2 ∧ standby.bit pTWN TWN_STAT_LINKUP = true ∧ (asRole 2 up).bit pTWN TWN_STAT_LINKUP = false) ∧
    (forwarded (0x58 : BitVec 21).toNat = false ∧ forwarded (0x7058 : BitVec 21).toNat = true ∧
      (standby.setFld pPWR PWR_STAT_STOPPED 0x3E).clkOn ((0x7058 : BitVec 21).toNat / 4096) = false ∧
      (standby.setFld pPWR PWR_STAT_STOPPED 0x3E).role = 2) ∧
    standby.clkOn pFRM = true ∧
    ((0x5060 : BitVec 21).toNat / 4096 = pPLC ∧ mirrored ((0x5060 : BitVec 21).toNat % 4096) = true ∧
      (inStep 0).clkOn pPLC = true ∧ (inStep 0).frmState = 1) ∧
    ((6291328 : BitVec 26).toNat / 128 < 49152 ∧ hostWord ((6291328 : BitVec 26).toNat % 128 / 2) = true ∧
      standby.ctx.open_.length < 4096 ∧ standby.bit pCTX CTX_GOPEN_OVF = false) ∧
    (let s := (following 3 standby).updCtx fun c => { c with lastId := 65535 }
     s.twn.xfer = 1 ∧ (1 : BitVec 16).toNat = (if s.ctx.lastId = 65535 then 1 else s.ctx.lastId + 1) ∧ s.role = 2) ∧
    ((inStep 0).twn.xfer = 1 ∧ (inStep 0).frmState ≠ 0 ∧ (inStep 0).cfg.as = none ∧
      ((inStep 0).updCfg fun c => { c with as := some anySet }).cfg.as.isSome = true) ∧
    ([] : List IdRec).length ≤ 8 := by decide +kernel

def promoting (k : Nat) (s : State) : State := s.updTwn fun w => { w with promo := k }
def pulsed (s : State) : State := s.updTwn fun w => { w with liveAt := some 0 }

theorem wit_Failover :
    (up.role ≠ 2) ∧
    (let s := inStep 0
     let e := s.expected
     let t := e + s.hbWin
     s.role = 2 ∧ s.frmState = 1 ∧ s.twn.xfer ≠ 0 ∧ s.twn.gotRec = none ∧ s.timeAt t = t ∧
     s.beatAt e s.frm.last = false ∧ s.beatAt e s.twn.liveAt = false ∧ s.timeAt 0 < t ∧
     (inStep e).beatAt (inStep 0).expected (inStep e).frm.last = true) ∧
    (standby.clkOn pTWN = true ∧ standby.twn.promo = 0) ∧
    (∀ k ∈ [1, 2], let s := promoting k (pulsed (inStep 0))
     s.role = 2 ∧ s.twn.promo ≠ 0 ∧ s.frm.inFrame = false ∧ s.twn.liveAt = some 0 ∧ s.twn.promoAt = 0 ∧
     (s.updTwn fun w => { w with promoAt := 1 }).twn.promoAt = 1 ∧ s.timeAt 0 < 1 + 2000 ∧ s.timeAt 2001 = 2001 ∧
     s.frmState = 1 ∧ s.pwr.faultB = false ∧ s.frm.roleHold = false ∧ s.bit pFRM FRM_STAT_HOLDREQ = false) ∧
    ((promoting 2 standby).role = 2 ∧ (promoting 2 standby).twn.promo ≠ 0 ∧ (promoting 2 standby).frm.inFrame = false ∧
      (promoting 2 standby).frmState ≠ 1 ∧ (promoting 2 standby).twn.liveAt = none) ∧
    (standby.role ≠ 1 ∧ primary.clkOn pTWN = true ∧ primary.role = 1 ∧ primary.twn.pulseAt = none ∧ primary.twn.held = [] ∧ primary.frmState = 0 ∧
      (primary.setFld pFRM FRM_STAT_STATE 1).frmState = 1) := by decide +kernel

/-! ## Witnesses: environment, log and host interface -/

theorem wit_EnvironmentAndLog :
    ((gauze 2 up).pwr.gz = 2 ∧ (gauze 4 up).pwr.gz = 4 ∧ State.reset.pwr.gz = 0 ∧ State.reset.pwr.up = false ∧
      up.pwr.gz ≠ 2 ∧ up.pwr.gz ≠ 4 ∧ up.pwr.up = true) ∧
    (let s := up.updPwr fun p => { p with hot := 2 ^ 63 }
     let temps : List (Fin 1024) := List.replicate 63 0 ++ [620]
     s.pwr.up = true ∧ s.pwr.gz = 0 ∧ 620 ≤ (temps.getD 63 0).val ∧ s.pwr.hot.testBit 63 = true ∧
     s.pwr.tripped = false ∧ up.pwr.hot.testBit 63 = false) ∧
    (8200 ∈ [8200, 8000] ∧ 8000 ∈ [8200, 8000] ∧ (∀ x ∈ [8200, 8000], 8000 ≤ x ∧ x ≤ 8200) ∧ 200 ≤ 8200 - 8000 ∧
      8174 - 8000 < 175 ∧ up.pwr.armV = true ∧ (up.updPwr fun p => { p with armV := false }).pwr.armV = false) ∧
    (up.writeOpen (pLOG * 4096 + 0x64) = true ∧ up.writeOpen (pLOG * 4096 + 0x40) = true ∧
      up.bit pLOG LOG_STAT_FROZEN = false ∧
      (up.setFld pLOG LOG_STAT_FROZEN 1).bit pLOG LOG_STAT_FROZEN = true ∧
      (up.setFld pLOG LOG_STAT_FROZEN 1).writeOpen (pLOG * 4096 + 0x64) = true) := by decide +kernel

def blocked (s : State) : State := s.updPwr fun p => { p with pfwBlock := true }

theorem wit_HostAccessGates :
    (hostWriteOf (.qrelWrite 0 1) = some (0, 0x7058) ∧ hostReadOf (.fnLoRead 0) = some (0, 0x605C)) ∧
    (State.reset.hostUp = false ∧ up.hostUp = true ∧ (blocked up).hostUp = true ∧ (blocked up).pwr.pfwBlock = true ∧
      standby.hostUp = true ∧ standby.pwr.pfwBlock = false ∧ standby.role = 2 ∧ forwarded 0x7058 = true ∧
      (stopped up).hostUp = true ∧ (stopped up).clkOn (0x7058 / 4096) = false ∧ (stopped up).npNow < 32 ∧
      (stopped up).clkOn ((pSVC * 4096 + 0x6C) / 4096) = false ∧
      hostReadOf (.cplRead 0) = some (0, pSVC * 4096 + 0x6C) ∧ up.role ≠ 2) ∧
    (let s := up.setFld pCTX HDR_PG_LOCK_LOCKED 1
     s.hostUp = true ∧ s.clkOn (0x7058 / 4096) = true ∧ s.bit (0x7058 / 4096) HDR_PG_LOCK_LOCKED = true ∧
     lockCovers (0x7058 % 4096) = true) ∧
    (up.time < up.timeAt 5 ∧ ∀ f ∈ rcFields pFRM 0x8C, up.fld pFRM f < 2 ^ f.wid) ∧
    (∀ off ∈ [0x605C, 0x608C, pANG 7 * 4096 + 0x74, pSVC * 4096 + 0x6C, pCLK 0 * 4096 + 0x68, pLOG * 4096 + 0x54],
      up.readOpen off = true) ∧
    (up.fld pFRM HDR_PG_CTRL_FREEZE = 0 ∧ up.fld (pANG 7) HDR_PG_CTRL_FREEZE = 0 ∧ up.fls.cpls = [] ∧
      (up.updFls fun f => { f with cpls := [⟨1, 0, 0, 0⟩] }).fls.cpls = [⟨1, 0, 0, 0⟩]) := by decide +kernel

theorem wit_RegisterAccess :
    up.hostUp = true ∧ up.pwr.pfwBlock = false ∧ (7 : BitVec 4) ≠ 15 ∧
    (0xF000 : BitVec 26).toNat < 0x200000 ∧ (0xF000 : BitVec 26).toNat % 4 = 0 ∧
    pgClass ((0xF000 : BitVec 26).toNat / 4096) = .reserved ∧ up.bit pPCI PCI_BADADDR_VALID = false ∧
    up.writeOpen 0x58 = true ∧ up.readOpen 0x58 = true ∧ up.readOpen 0x1F040 = true ∧
    pgClass (0x58 / 4096) ∈ [PgCls.sys, .lcs, .cfg, .plc, .fls, .pwr, .adc, .tul, .err, .rgn, .iob, .ul, .je] ∧
    (0x58 : BitVec 26).toNat ≠ pPLC * 4096 + 0x5C ∧ pgClass (pJE 0) = .je ∧ rcFields (pJE 0) 0x54 ≠ [] ∧ up.time < up.timeAt 5 ∧
    fieldsOf pFRM ≠ [] ∧ isMax FRM_TICKCNT_EARLY = false ∧
    up.fld pSYS HDR_PG_CTRL_FREEZE = 0 ∧ (up.setFld pPLC HDR_PG_CTRL_FREEZE 1).fld pPLC HDR_PG_CTRL_FREEZE ≠ 0 := by
  decide +kernel

theorem wit_PagesAndInterrupts :
    (∀ p ∈ [pFRM, pCTX, pADC, pUL 0, pANG 0, pJE 0, pSYS, pRGN 0], up.writeOpen (p * 4096 + 8) = true ∧
      up.writeOpen (p * 4096 + 0x1C) = true ∧ up.writeOpen (p * 4096 + 0x18) = true) ∧
    (fixedEn pSYS = true ∧ fixedEn (pJE 0) = false ∧ inRun.mayDisable (pJE 0) = false ∧ up.mayDisable pFRM = true ∧
      ((up.setFld pPLC PLC_STAT_EXCLSTATE 2).setFld pPLC PLC_STAT_EXCLBANK 31).mayDisable (pJE 31) = true ∧
      inRun.writeOpen (pJE 0 * 4096 + 8) = true ∧ inRun.mayDisable pFRM = false ∧
      inRun.writeOpen (pFRM * 4096 + 8) = true ∧ pgClass (pJE 0) = .je ∧ pgClass pFRM = .frm ∧ pgClass pCTX = .ctx ∧
      pgClass pADC = .adc ∧ pgClass (pUL 0) = .ul ∧ up.bit pSYS HDR_PG_CTRL_EN = true ∧
      noFreeze pSYS = true ∧ noFreeze pCTX = false) ∧
    (∀ p ∈ [pFRM, pCTX, pADC], (up.setFld p HDR_PG_CTRL_EN 0).bit p HDR_PG_CTRL_EN = false ∧
      (up.setFld p HDR_PG_CTRL_EN 0).writeOpen (p * 4096 + 8) = true) ∧
    (HDR_PG_LOCK_KEY.of (0xC10C0001 : Dword).toNat = 0xC10C ∧ HDR_PG_LOCK_KEY.of (0xC10D0001 : Dword).toNat ≠ 0xC10C) ∧
    (let s := ((up.setFld pLOG HDR_PG_IRQST_ST 3).setFld pLOG HDR_PG_IRQEN_EN 3).updHst fun h =>
      { h with msixEn := true, msix := SMap.put 1 [] (4 * vecOf pLOG + 3) 0, asserted := 2 ^ vecOf pLOG }
     let u := s.setFld pLOG HDR_PG_IRQST_ST 1
     s.writeOpen (pLOG * 4096 + 0x18) = true ∧ u.vecOn (vecOf pLOG) = true ∧ s.hst.asserted.testBit (vecOf pLOG) = true ∧
     s.vecMasked (vecOf pLOG) = false ∧ up.vecMasked (vecOf pLOG) = true ∧ up.vecOn (vecOf pLOG) = false) ∧
    (let s := up.updHst fun h => { h with pba := 2 ^ 31, msixEn := true, msixMask := false }
     s.writeOpen (pPCI * 4096 + 0x80C + 16 * 31) = true ∧ s.hst.pba.testBit 31 = true ∧ s.hst.pba.testBit 0 = false ∧
     s.hst.msixEn = true ∧ s.hst.msixMask = false ∧ s.pwr.up = true ∧ s.pwr.perst = false ∧
     s.bit pPCI PCI_LINK_L0 = true ∧ up.hst.msixEn = false) := by decide +kernel

theorem wit_ServicePortAndLink :
    (∀ k < 5, (gauze k up).pwr.gz = k) ∧
    (State.reset.pwr.gz = 0 ∧ State.reset.pwr.up = false ∧ State.reset.pendingState = none ∧
      (gauze 3 State.reset).pwr.up = false ∧ asleep.pwr.gz = 2 ∧ asleep.hst.spPend = none) ∧
    (spAt (0x1 : BitVec 24).toNat = .none ∧ spAt (0x58 : BitVec 24).toNat ≠ .none ∧ (0x58 : BitVec 24) ≠ 0x1 ∧
      (300 ≤ 17 * 20 ∧ 17 * 17 < 300) ∧ (63 < 64 ∧ 31 < 32 ∧ 71 < 72) ∧ ((0 : BitVec 8) ≠ 5 ∧ (9 : Nat) ≠ 8) ∧
      (0x3FFFC < 0x40000 ∧ 0x3FFFC % 4 = 0) ∧ (0x58 : BitVec 24).toNat % 4 = 0 ∧ (0x58 : BitVec 24).toNat < 0x200000 ∧
      (blocked up).pwr.pfwBlock = true ∧ up.pwr.pfwBlock = false ∧ up.bit pSYS HDR_PG_LOCK_LOCKED = false ∧
      asleep.bit pSYS HDR_PG_LOCK_LOCKED = false) ∧
    (let s := asleep.updHst fun h => { h with spPend := some (61036, 0x58) }
     s.pwr.gz = 2 ∧ s.hst.spPend = some (61036, 0x58) ∧ s.timeAt 5 < 61036) ∧
    ((0x7058 : BitVec 24).toNat / 4096 ≠ pSYS ∧ (0x7058 : BitVec 24).toNat / 4096 ≠ pLCS ∧
      (0x7058 : BitVec 24).toNat / 4096 ≠ pPWR) ∧
    ((up.at_ 5).clkOn pPCI = true ∧ ((up.setFld pPWR PWR_STAT_STOPPED 0x40).at_ 5).clkOn pPCI = false ∧ up.bit pPCI PCI_LINK_L0 = true ∧ State.reset.bit pPCI PCI_LINK_L0 = false ∧
      up.pwr.perst = false) ∧
    (let at_ (k : Nat) : State := up.updPwr fun p => { p with lcs := k }
     (up.hst.jtag = 0xFF ∧ ∀ k ∈ [1, 3], (up.updHst fun h => { h with jtag := k }).hst.jtag = k ∧
       (up.updHst fun h => { h with jtag := k }).pwr.lcs ≠ 4) ∧
     (at_ 4).pwr.lcs = 4 ∧ (at_ 4).pwr.up = true ∧ (at_ 1).pwr.lcs ≤ 1 ∧ up.clkOn pCFG = true ∧ (at_ 3).pwr.lcs = 3 ∧
     (at_ 2).pwr.lcs = 2 ∧ (at_ 2).pwr.certIn = none ∧ (at_ 1).makerOpen = false ∧ (at_ 0).makerOpen = true ∧
     (1 : BitVec 8).toNat = 1 ∧ (7 : BitVec 8).toNat = 7 ∧ (8 : BitVec 8).toNat = 8) := by decide +kernel

/-! ## Witnesses: the block as a whole -/

theorem wit_StepTakesFront :
    ({ State.reset with pending := [.por ⟨0, none⟩] } : State).pending = .por ⟨0, none⟩ :: [] ∧ State.reset.pending = [] ∧
    ∀ r < 64, State.reset.rgnClocked r = false := by decide +kernel
theorem test_reset_wf : State.reset.wf = true := by decide +kernel
theorem wit_StepKeepsWf : State.reset.wf = true ∧ Sys2Proof.Machine.step State.reset = .next State.reset :=
  ⟨test_reset_wf, congrArg Host.Outcome.next (if_neg (by decide +kernel))⟩
theorem wit_TimeNeverDecreases : exec (.livePulse 5) State.reset = .next (State.reset.at_ 5) ∧
    (∀ x t, (.livePulse 5 : Instr) ≠ .por x ∧ (.livePulse 5 : Instr) ≠ .vccMusLoss t) ∧
    (∀ t v env bad x, (.livePulse 5 : Instr) ≠ .lcsTransition t v env bad (some x)) ∧ State.reset.pwr.trans = none :=
  ⟨rfl, by intro x t; simp, by intro t v env bad x; simp, rfl⟩
theorem wit_EncodeDecode : (EInstr.fcall ⟨15, 14, 13, 1023, true, 3⟩).wf = true ∧ (EInstr.br .le 4095).wf = true ∧
    decodeE (ofSyl 0x100 0x000 0x141 0x050) = some (.cmp (.angw 0 1) (.reg (.w 16))) := by decide

end Sys2Proof.Tests
end

/-! # REGISTER_WRITE and REGISTER_READ (R5, R7, R410, R411) -/

namespace Sys2Proof.Machine

/-! ## Writes of a whole dword -/

/-- An offset of BAR0 at which a block register of a page that is not reserved can stand (R409, R411). -/
abbrev blockOffset (off : Nat) : Prop :=
  off < 0x200000 ∧ off % 4 = 0 ∧ 0x40 ≤ off % 4096 ∧ reservedAt off = false

/-- An aligned offset of BAR0 is taken as it stands. -/
theorem bar0_offset {off : Nat} (h : off < 0x200000) (h4 : off % 4 = 0) : off / 4 * 4 % 0x200000 = off := by
  omega

/-- R5, R410: a whole dword written to a block register goes through the host's gates to its page. -/
theorem exec_registerWrite_block (s : State) (t : Time) (v : Dword) {off : BitVec 26} (h : blockOffset off.toNat) :
    exec (.registerWrite t false off v 15) s = .next (s.hostWrite t off.toNat v.toNat fun s =>
      s.doBlock false (off.toNat / 4096) (off.toNat % 4096) v.toNat) := by
  obtain ⟨hlt, h4, h40, hres⟩ := h
  have heff : (fun s : State => s.regEffect false off.toNat v.toNat) =
      fun s => s.doBlock false (off.toNat / 4096) (off.toNat % 4096) v.toNat :=
    funext fun s => if_neg (Nat.not_lt.mpr h40)
  show Host.Outcome.next (s.hostReg t (off.toNat / 4 * 4 % 0x200000) v.toNat) = _
  rw [bar0_offset hlt h4, State.hostReg, hres, heff]
  rfl

/-- The offset of register `o` of page `p`, as an operand of an access. -/
theorem toNat_pageOffset {p o : Nat} (hp : p < 512) (ho : o < 4096) :
    (BitVec.ofNat 26 (p * 4096 + o)).toNat = p * 4096 + o := by
  rw [BitVec.toNat_ofNat]; omega

/-- R409: a register of a page that is not reserved, at its block offset. -/
theorem blockOffset_page {p o : Nat} (hp : p < 512) (ho : o < 4096) (h4 : o % 4 = 0) (h40 : 0x40 ≤ o)
    (hr : pgClass p ≠ .reserved) : blockOffset (p * 4096 + o) := by
  refine ⟨by omega, by omega, by omega, ?_⟩
  have hpage : (p * 4096 + o) / 4096 = p := by omega
  rw [reservedAt, hpage]
  exact decide_eq_false hr

/-- R5: a whole dword written to register `o` of page `p`. -/
theorem exec_registerWrite_page (s : State) (t : Time) (v : Dword) {p o : Nat} (hp : p < 512) (ho : o < 4096)
    (h4 : o % 4 = 0) (h40 : 0x40 ≤ o) (hr : pgClass p ≠ .reserved) :
    exec (.registerWrite t false (BitVec.ofNat 26 (p * 4096 + o)) v 15) s =
      .next (s.hostWrite t (p * 4096 + o) v.toNat fun s => s.doBlock false p o v.toNat) := by
  have hoff := toNat_pageOffset hp ho
  have hpage : (p * 4096 + o) / 4096 = p := by omega
  have hreg : (p * 4096 + o) % 4096 = o := by omega
  have hw := exec_registerWrite_block s t v (hoff.symm ▸ blockOffset_page hp ho h4 h40 hr)
  rwa [hoff, hpage, hreg] at hw

theorem pgClass_pCLK (n : Mdll) : pgClass (pCLK n.val) = .clk := by revert n; decide

theorem pgClass_pANG (n : Unit8) : pgClass (pANG n.val) = .ang := by revert n; decide

/-- R301: CLKn.MULT. -/
theorem State.doBlock_mult (s : State) (n : Mdll) (v : Nat) :
    s.doBlock false (pCLK n.val) 0x48 v = s.doMult n.val v := by
  have hn : pCLK n.val - 16 = n.val := Nat.add_sub_cancel_left 16 n.val
  simp only [State.doBlock, pgClass_pCLK, State.doClk, hn]

/-- R192: ANGn.CPR. -/
theorem State.doBlock_cpr (s : State) (n : Unit8) (v : Nat) :
    s.doBlock false (pANG n.val) 0x44 v = s.doCpr n.val v := by
  have hn : pANG n.val - 24 = n.val := Nat.add_sub_cancel_left 24 n.val
  simp only [State.doBlock, pgClass_pANG, State.doAng, hn]

/-- A write to a register that the primary does not forward acts on the block as time has brought it (R352). -/
theorem State.arrive_local (s : State) (t : Time) {off : Nat} (v : Nat) (h : forwarded off = false) :
    s.arrive t off v = s.at_ t :=
  if_neg fun hf => Bool.false_ne_true (h ▸ hf.2)

/-! ## Writes that are dropped, and addresses that name nothing -/

/-- R410: a write that is not whole, once the host interface is up and PFW_B does not block it. -/
theorem exec_registerWrite_partial (s : State) (t : Time) (off : BitVec 26) (v : Dword) {be : BitVec 4}
    (hbe : be ≠ 15) (hup : (s.at_ t).hostUp = true) (hpfw : s.pwr.pfwBlock = false) :
    exec (.registerWrite t false off v be) s = .next ((s.at_ t).err pPCI PCI_E_PARTIAL) := by
  simp only [exec, execRegisterWrite, if_neg hbe, State.atTime_pwr, hup, hpfw, Bool.not_true, Bool.false_eq_true, if_false]

/-- R411: a write to a reserved page, likewise. -/
theorem exec_registerWrite_reserved (s : State) (t : Time) {off : BitVec 26} (v : Dword)
    (hlt : off.toNat < 0x200000) (h4 : off.toNat % 4 = 0) (hr : pgClass (off.toNat / 4096) = .reserved)
    (hup : (s.at_ t).hostUp = true) (hpfw : s.pwr.pfwBlock = false) :
    exec (.registerWrite t false off v 15) s = .next ((s.at_ t).badAddr false true off.toNat) := by
  have hres : reservedAt off.toNat = true := decide_eq_true hr
  show Host.Outcome.next (s.hostReg t (off.toNat / 4 * 4 % 0x200000) v.toNat) = _
  rw [bar0_offset hlt h4]
  simp [State.hostReg, hres, hup, hpfw]

/-- A listed field is among the fields. -/
theorem fields_mem {xs : List (Nat × Fld)} {p : Nat} {f : Fld} (h : (p, f) ∈ xs) : fields xs (fldKey p f) = true :=
  List.any_eq_true.mpr ⟨(p, f), h, decide_eq_true rfl⟩

/-- The fields of PCI.BADADDR. -/
def badAddrFields : List (Nat × Fld) :=
  [(pPCI, PCI_BADADDR_VALID), (pPCI, PCI_BADADDR_OFFSET), (pPCI, PCI_BADADDR_WRITE), (pPCI, PCI_BADADDR_BAR2)]

/-- The error of an access leaves BADADDR alone. -/
theorem State.fld_err_badAddr (s : State) (b : Nat) {f : Fld} (hf : (pPCI, f) ∈ badAddrFields) :
    (s.err pPCI b).fld pPCI f = s.fld pPCI f := by
  have hne : ∀ x ∈ badAddrFields, fldKey x.1 x.2 ≠ fldKey pPCI HDR_PG_ERR_ERR ∧
      fldKey x.1 x.2 ≠ fldKey pPCI HDR_PG_IRQST_ST := by decide
  exact State.fld_err_ne s pPCI pPCI f b (hne _ hf).1 (hne _ hf).2

/-- R411: BADADDR holds an access already: only UNMAPPED is set. -/
theorem State.badAddr_held (s : State) (bar2 write : Bool) (off : Nat) (h : s.bit pPCI PCI_BADADDR_VALID = true) :
    s.badAddr bar2 write off = s.err pPCI PCI_E_UNMAPPED := by
  have hbit : (s.err pPCI PCI_E_UNMAPPED).bit pPCI PCI_BADADDR_VALID = true := by
    rw [State.bit, State.fld_err_badAddr s _ (by decide)]; exact h
  exact if_pos hbit

/-- R411: BADADDR is free: it takes the access. -/
theorem State.badAddr_free (s : State) (bar2 write : Bool) (off : Nat) (h : s.bit pPCI PCI_BADADDR_VALID = false) :
    s.badAddr bar2 write off =
      ((((s.err pPCI PCI_E_UNMAPPED).setFld pPCI PCI_BADADDR_VALID 1).setBit pPCI PCI_BADADDR_BAR2 bar2).setBit pPCI
        PCI_BADADDR_WRITE write).setFld pPCI PCI_BADADDR_OFFSET off := by
  have hbit : (s.err pPCI PCI_E_UNMAPPED).bit pPCI PCI_BADADDR_VALID = false := by
    rw [State.bit, State.fld_err_badAddr s _ (by decide)]; exact h
  exact if_neg (by rw [hbit]; decide)

/-- R411: an access that names nothing sets UNMAPPED. -/
theorem State.badAddr_flags (s : State) (bar2 write : Bool) (off : Nat) :
    s.flags (s.badAddr bar2 write off) pPCI PCI_E_UNMAPPED := by
  have hne : ∀ x ∈ badAddrFields, fldKey pPCI HDR_PG_ERR_ERR ≠ fldKey x.1 x.2 := by decide
  cases h : s.bit pPCI PCI_BADADDR_VALID with
  | true => rw [State.badAddr_held s _ _ _ h]; exact State.fld_err_err s _ _
  | false =>
    rw [State.badAddr_free s _ _ _ h, State.flags,
      State.fld_setFld_ne _ _ _ _ _ _ (hne (pPCI, PCI_BADADDR_OFFSET) (by decide)),
      State.fld_setBit_ne _ _ _ _ _ _ (hne (pPCI, PCI_BADADDR_WRITE) (by decide)),
      State.fld_setBit_ne _ _ _ _ _ _ (hne (pPCI, PCI_BADADDR_BAR2) (by decide)),
      State.fld_setFld_ne _ _ _ _ _ _ (hne (pPCI, PCI_BADADDR_VALID) (by decide)), State.fld_err_err]

/-- R411: what a free BADADDR records of an access. -/
theorem State.badAddr_records (s : State) (bar2 write : Bool) {off : Nat} (hoff : off < 2 ^ 26)
    (h : s.bit pPCI PCI_BADADDR_VALID = false) :
    (s.badAddr bar2 write off).fld pPCI PCI_BADADDR_VALID = 1 ∧
    (s.badAddr bar2 write off).fld pPCI PCI_BADADDR_OFFSET = off ∧
    (s.badAddr bar2 write off).fld pPCI PCI_BADADDR_WRITE = write.toNat ∧
    (s.badAddr bar2 write off).fld pPCI PCI_BADADDR_BAR2 = bar2.toNat := by
  have hne : badAddrFields.Pairwise fun x y => fldKey x.1 x.2 ≠ fldKey y.1 y.2 := by decide
  simp only [badAddrFields, List.pairwise_cons, List.forall_mem_cons] at hne
  obtain ⟨⟨hvo, hvw, hvb, -⟩, ⟨how, hob, -⟩, ⟨hwb, -⟩, -⟩ := hne
  rw [State.badAddr_free s _ _ _ h]
  refine ⟨?_, ?_, ?_, ?_⟩
  · rw [State.fld_setFld_ne _ _ _ _ _ _ hvo, State.fld_setBit_ne _ _ _ _ _ _ hvw, State.fld_setBit_ne _ _ _ _ _ _ hvb,
      State.fld_setFld_same]
    rfl
  · rw [State.fld_setFld_same]; exact Nat.mod_eq_of_lt hoff
  · rw [State.fld_setFld_ne _ _ _ _ _ _ how.symm, State.fld_setBit_same]; cases write <;> rfl
  · rw [State.fld_setFld_ne _ _ _ _ _ _ hob.symm, State.fld_setBit_ne _ _ _ _ _ _ hwb.symm, State.fld_setBit_same]
    cases bar2 <;> rfl

/-- R411: BADADDR is valid after an access that names nothing. -/
theorem State.badAddr_valid (s : State) (bar2 write : Bool) {off : Nat} (hoff : off < 2 ^ 26) :
    (s.badAddr bar2 write off).bit pPCI PCI_BADADDR_VALID = true := by
  cases h : s.bit pPCI PCI_BADADDR_VALID with
  | true => rw [State.badAddr_held s _ _ _ h, State.bit, State.fld_err_badAddr s _ (by decide)]; exact h
  | false => rw [State.bit, (State.badAddr_records s bar2 write hoff h).1]; rfl

/-- R411: an access that names nothing changes BADADDR and sets an error, and nothing else. -/
theorem State.badAddr_changes (s : State) (bar2 write : Bool) (off : Nat) :
    Changes s (s.badAddr bar2 write off) [.msi] (fields (badAddrFields ++ errFields pPCI)) := by
  have hk : ∀ x ∈ badAddrFields ++ errFields pPCI, fields (badAddrFields ++ errFields pPCI) (fldKey x.1 x.2) = true :=
    fun x hx => fields_mem hx
  have herr : Changes s (s.err pPCI PCI_E_UNMAPPED) [.msi] (fields (badAddrFields ++ errFields pPCI)) :=
    (Changes.refl s _ _).err (by decide) (hk (pPCI, HDR_PG_ERR_ERR) (by decide)) (hk (pPCI, HDR_PG_IRQST_ST) (by decide))
  cases h : s.bit pPCI PCI_BADADDR_VALID with
  | true => rw [State.badAddr_held s _ _ _ h]; exact herr
  | false =>
    rw [State.badAddr_free s _ _ _ h]
    exact (((herr.setFld (hk (pPCI, PCI_BADADDR_VALID) (by decide))).setBit
      (hk (pPCI, PCI_BADADDR_BAR2) (by decide))).setBit (hk (pPCI, PCI_BADADDR_WRITE) (by decide))).setFld
      (hk (pPCI, PCI_BADADDR_OFFSET) (by decide))

/-! ## The read-clear fields of a register (R5) -/

/-- The read-clear fields of a table stand at places of their own, within their dwords. -/
def rcPlaced (fs : List Fld) : Prop :=
  (fs.filter fun f => f.acc = .rc).Pairwise (fun f g => f.off * 32 + f.lo ≠ g.off * 32 + g.lo) ∧
  ∀ f ∈ fs.filter fun f => f.acc = .rc, f.lo < 32

/-- Every page's table of fields is so. -/
theorem rcPlaced_fieldsOf (p : Nat) : rcPlaced (fieldsOf p) := by
  unfold fieldsOf rcPlaced
  cases pgClass p with
  | je => dsimp only; split <;> decide
  | clk => dsimp only; split <;> decide
  | _ => dsimp only; decide

theorem rcFields_eq_filter (p o : Nat) :
    rcFields p o = ((fieldsOf p).filter fun f => f.acc = .rc).filter fun f => f.off = o := by
  simp only [rcFields, List.filter_filter, Bool.decide_and]

/-- The read-clear fields of a register have keys of their own. -/
theorem rcFields_keys (p o : Nat) : (rcFields p o).Pairwise fun f g => fldKey p f ≠ fldKey p g := by
  rw [rcFields_eq_filter]
  exact ((rcPlaced_fieldsOf p).1.imp fun h => fldKey_field_ne p _ _ h).filter _

theorem off_of_mem_rcFields {p o : Nat} {f : Fld} (h : f ∈ rcFields p o) : f.off = o := by
  rw [rcFields_eq_filter] at h
  simpa using (List.mem_filter.mp h).2

theorem lo_of_mem_rcFields {p o : Nat} {f : Fld} (h : f ∈ rcFields p o) : f.lo < 32 := by
  rw [rcFields_eq_filter] at h
  exact (rcPlaced_fieldsOf p).2 f (List.mem_filter.mp h).1

/-! ## Clearing on a read (R5, R7) -/

section Clearing
variable {p q : Nat} {f g : Fld} {ps : List Piece} {K : Nat → Bool}

theorem State.clearOne_fld_same (s : State) :
    (State.clearOne p s f).fld p f = rcHolds f (s.before p f) (s.fld p f) % 2 ^ f.wid :=
  State.fld_setFld_same s p f _

theorem State.clearOne_fld_ne (s : State) (h : fldKey q g ≠ fldKey p f) : (State.clearOne p s f).fld q g = s.fld q g :=
  State.fld_setFld_ne s p q f g _ h

theorem State.clearOne_before_ne (s : State) (h : fldKey q g ≠ fldKey p f) :
    (State.clearOne p s f).before q g = s.before q g :=
  SMap.get_put_ne _ _ _ _ _ _ h

theorem Changes.clearOne {s u : State} (ht : Piece.time ∈ ps) (hk : K (fldKey p f) = true) (h : Changes s u ps K) :
    Changes s (State.clearOne p u f) ps K :=
  Changes.part (w := State.clearOne p u f) (u := u.setFld p f (rcHolds f (u.before p f) (u.fld p f))) .time ht rfl rfl
    (h.setFld hk)

/-- A field that is none of those cleared. -/
theorem State.clearFold_fld_ne (fs : List Fld) (s : State) (h : ∀ f ∈ fs, fldKey q g ≠ fldKey p f) :
    (fs.foldl (State.clearOne p) s).fld q g = s.fld q g := by
  induction fs generalizing s with
  | nil => rfl
  | cons f fs ih =>
    obtain ⟨hf, hfs⟩ := List.forall_mem_cons.mp h
    rw [List.foldl_cons, ih _ hfs, State.clearOne_fld_ne s hf]

/-- R7: each of several fields with keys of their own is cleared as if alone. -/
theorem State.clearFold_fld (fs : List Fld) (s : State) (hfs : fs.Pairwise fun f g => fldKey p f ≠ fldKey p g)
    (hg : g ∈ fs) :
    (fs.foldl (State.clearOne p) s).fld p g = rcHolds g (s.before p g) (s.fld p g) % 2 ^ g.wid := by
  induction fs generalizing s with
  | nil => cases hg
  | cons f fs ih =>
    obtain ⟨hf, hrest⟩ := List.pairwise_cons.mp hfs
    rw [List.foldl_cons]
    rcases List.mem_cons.mp hg with rfl | hmem
    · rw [State.clearFold_fld_ne fs _ hf, State.clearOne_fld_same]
    · have hne := (hf g hmem).symm
      rw [ih _ hrest hmem, State.clearOne_before_ne s hne, State.clearOne_fld_ne s hne]

/-- What is beside the register fields and the record of the instant stays. -/
theorem State.clearFold_time (fs : List Fld) (s : State) : (fs.foldl (State.clearOne p) s).time = s.time := by
  induction fs generalizing s with
  | nil => rfl
  | cons f fs ih => rw [List.foldl_cons, ih]; rfl

end Clearing

/-- The register is FLTLAST of an engine, with whose VALID the record in FLTHDL clears (R109). -/
abbrev isFltlast (p o : Nat) : Prop := pgClass p = .je ∧ o = 0x54

/-- R416: under FREEZE a read clears nothing. -/
theorem State.clearRc_frozen (s : State) (p o : Nat) (h : s.fld p HDR_PG_CTRL_FREEZE ≠ 0) : s.clearRc p o = s :=
  if_pos h

/-- Without FREEZE the fields clear, and FLTHDL with them or not. -/
theorem State.clearRc_thawed (s : State) (p o : Nat) (h : s.fld p HDR_PG_CTRL_FREEZE = 0) :
    let v := (rcFields p o).foldl (State.clearOne p) s
    isFltlast p o ∧ v.fld p JE_FLTLAST_VALID = 0 ∧ s.clearRc p o = v.setFld p JE_FLTHDL_HANDLE 0 ∨
    ¬ (isFltlast p o ∧ v.fld p JE_FLTLAST_VALID = 0) ∧ s.clearRc p o = v := by
  intro v
  by_cases hc : pgClass p = .je ∧ o = 0x54 ∧ v.fld p JE_FLTLAST_VALID = 0
  · exact .inl ⟨⟨hc.1, hc.2.1⟩, hc.2.2, (if_neg (not_not.mpr h)).trans (if_pos hc)⟩
  · exact .inr ⟨fun hf => hc ⟨hf.1.1, hf.1.2, hf.2⟩, (if_neg (not_not.mpr h)).trans (if_neg hc)⟩

/-- R5, R7: without FREEZE each read-clear field of the register holds what `rcHolds` says. -/
theorem State.clearRc_fld (s : State) {p o : Nat} {f : Fld} (h : s.fld p HDR_PG_CTRL_FREEZE = 0)
    (hf : f ∈ rcFields p o) :
    (s.clearRc p o).fld p f = rcHolds f (s.before p f) (s.fld p f) % 2 ^ f.wid := by
  have hfold := State.clearFold_fld (rcFields p o) s (rcFields_keys p o) hf
  rcases State.clearRc_thawed s p o h with ⟨⟨-, ho⟩, -, e⟩ | ⟨-, e⟩
  · have hplace : f.off * 32 + f.lo ≠ JE_FLTHDL_HANDLE.off * 32 + JE_FLTHDL_HANDLE.lo := by
      have hoff := off_of_mem_rcFields hf
      have hlo := lo_of_mem_rcFields hf
      simp only [JE_FLTHDL_HANDLE]; omega
    rw [e, State.fld_setFld_ne _ _ _ _ _ _ (fldKey_field_ne p _ _ hplace), hfold]
  · rw [e, hfold]

/-- R109: FLTHDL is clear when a read of FLTLAST leaves VALID clear. -/
theorem State.clearRc_fltHdl (s : State) {p o : Nat} (h : s.fld p HDR_PG_CTRL_FREEZE = 0) (hl : isFltlast p o)
    (hv : (s.clearRc p o).fld p JE_FLTLAST_VALID = 0) : (s.clearRc p o).fld p JE_FLTHDL_HANDLE = 0 := by
  rcases State.clearRc_thawed s p o h with ⟨-, -, e⟩ | ⟨hn, e⟩
  · rw [e, State.fld_setFld_same]; rfl
  · exact absurd ⟨hl, e ▸ hv⟩ hn

theorem State.clearRc_time (s : State) (p o : Nat) : (s.clearRc p o).time = s.time := by
  by_cases h : s.fld p HDR_PG_CTRL_FREEZE = 0
  · rcases State.clearRc_thawed s p o h with ⟨-, -, e⟩ | ⟨-, e⟩
    · rw [e, State.setFld_time, State.clearFold_time]
    · rw [e, State.clearFold_time]
  · rw [State.clearRc_frozen s p o h]

/-- A read's clearing changes the register's read-clear fields, FLTHDL with FLTLAST, and the record of the instant. -/
theorem Changes.clearRc {s u : State} {ps : List Piece} {K : Nat → Bool} {p o : Nat} (ht : Piece.time ∈ ps)
    (hk : ∀ f ∈ rcFields p o, K (fldKey p f) = true) (hh : isFltlast p o → K (fldKey p JE_FLTHDL_HANDLE) = true)
    (h : Changes s u ps K) : Changes s (u.clearRc p o) ps K := by
  have hfold : ∀ fs ⊆ rcFields p o, ∀ v, Changes s v ps K → Changes s (fs.foldl (State.clearOne p) v) ps K := by
    intro fs hfs
    induction fs with
    | nil => exact fun _ hv => hv
    | cons f fs ih =>
      obtain ⟨hf, hrest⟩ := List.cons_subset.mp hfs
      exact fun v hv => ih hrest _ (hv.clearOne ht (hk f hf))
  have hclear := hfold _ (List.Subset.refl _) u h
  by_cases hz : u.fld p HDR_PG_CTRL_FREEZE = 0
  · rcases State.clearRc_thawed u p o hz with ⟨hl, -, e⟩ | ⟨-, e⟩
    · rw [e]; exact hclear.setFld (hh hl)
    · rw [e]; exact hclear
  · rw [State.clearRc_frozen u p o hz]; exact h

/-! ## Reads that reach their page (R5, R313) -/

/-- R313: a read that is accepted raises NPOUT.MAX, and no other field. -/
theorem State.noteNp_fld_ne (s : State) {p : Nat} {f : Fld} (h : fldKey p f ≠ fldKey pPCI PCI_NPOUT_MAX) :
    s.noteNp.fld p f = s.fld p f :=
  State.fld_raiseTo_ne s pPCI p PCI_NPOUT_MAX f _ h

/-- R312, R313: it stops and starts no page's clock. -/
theorem State.noteNp_clkOn (s : State) (p : Nat) : s.noteNp.clkOn p = s.clkOn p := by
  have hstate : s.noteNp.fld (pCLK 2) CLK_STAT_STATE = s.fld (pCLK 2) CLK_STAT_STATE := s.noteNp_fld_ne (by decide)
  have hmuted : s.noteNp.fld (pCLK 2) CLK_STAT_MUTED = s.fld (pCLK 2) CLK_STAT_MUTED := s.noteNp_fld_ne (by decide)
  have hstop : s.noteNp.fld pPWR PWR_STAT_STOPPED = s.fld pPWR PWR_STAT_STOPPED := s.noteNp_fld_ne (by decide)
  have hmdll : s.noteNp.mdllOn 2 = s.mdllOn 2 := by simp only [State.mdllOn, State.bit, hstate, hmuted]
  have hdoms : s.noteNp.stoppedDoms = s.stoppedDoms := by simp only [State.stoppedDoms, hstop]; rfl
  simp only [State.clkOn, hmdll, hdoms]; rfl

/-- R5, R313: a read that reaches its page. -/
theorem State.hostRead_open (s : State) (t : Time) {off : Nat} (eff : State → State)
    (h : (s.at_ t).readOpen off = true) : s.hostRead t off eff = eff (s.at_ t).noteNp := by
  simp only [State.readOpen, Bool.and_eq_true, decide_eq_true_eq] at h
  obtain ⟨⟨hup, hnp⟩, hclk⟩ := h
  have hnp' : ¬ 32 ≤ (s.at_ t).npNow := Nat.not_le.mpr hnp
  simp [State.hostRead, hup, hnp', State.noteNp_clkOn, hclk]

/-- The page classes whose registers, HMAP aside, have no read of their own. -/
def plainReads : List PgCls := [.sys, .lcs, .cfg, .plc, .fls, .pwr, .adc, .tul, .err, .rgn, .iob, .ul, .je]

/-- No other page is of the placement controller's class (R409). -/
theorem pgClass_eq_plc {p : Nat} (h : pgClass p = .plc) : p = pPLC := by
  unfold pgClass at h
  split at h
  case h_6 => rfl
  case h_16 => split_ifs at h
  all_goals cases h

/-- R5: a register of these classes is read as it stands. -/
theorem State.readReg_plain (s : State) {off : Nat} (hc : pgClass (off / 4096) ∈ plainReads)
    (hm : off ≠ pPLC * 4096 + 0x5C) : s.readReg off = s.readPlain (off / 4096) (off % 4096) := by
  have hno : ∀ c ∉ plainReads, pgClass (off / 4096) ≠ c := fun c hn e => hn (e ▸ hc)
  simp only [State.readReg]
  split
  case h_4 hplc ho =>
    have hp := pgClass_eq_plc hplc
    omega
  case h_16 => rfl
  all_goals exact absurd ‹pgClass (off / 4096) = _› (hno _ (by decide))

/-- R5, R7: REGISTER_READ of a whole dword of such a register: the value as it stood before the events of the instant,
and then the clearing. -/
theorem exec_registerRead_plain (s : State) (t : Time) {off : BitVec 26} (hlt : off.toNat < 0x200000)
    (h4 : off.toNat % 4 = 0) (ho : (s.at_ t).readOpen off.toNat = true)
    (hc : pgClass (off.toNat / 4096) ∈ plainReads) (hm : off.toNat ≠ pPLC * 4096 + 0x5C) :
    exec (.registerRead t false off 15) s =
      .next (((s.at_ t).noteNp.clearRc (off.toNat / 4096) (off.toNat % 4096)).answer
        [maskBytes (((s.at_ t).noteNp.rewind (off.toNat / 4096) (off.toNat % 4096)).regValue (off.toNat / 4096)
          (off.toNat % 4096)) 15]) := by
  have hres : reservedAt off.toNat = false := decide_eq_false fun e => absurd (e ▸ hc) (by decide)
  show Host.Outcome.next (s.hostRegRead t (off.toNat / 4 * 4 % 0x200000) 15) = _
  rw [bar0_offset hlt h4, State.hostRegRead, hres, State.hostRead_open s t _ ho, State.readReg_plain _ hc hm]
  rfl

/-- R7: once time has moved on, an instant begins with the fields as they stand. -/
theorem State.before_of_time_moves (s : State) (t : Time) (h : s.time < s.timeAt t) (p : Nat) (f : Fld) :
    (s.at_ t).before p f = s.fld p f := by
  have hinst : (s.at_ t).inst.flds = s.flds := congrArg Inst.flds (if_pos h)
  rw [State.before, hinst, State.fld]

/-- R7: a field that no event has changed clears to 0, -/
theorem rcHolds_unchanged (f : Fld) (x : Nat) : rcHolds f x x = 0 := if_pos rfl

/-- and a counter keeps what events have added. -/
theorem rcHolds_counted (f : Fld) (x n : Nat) (hf : isMax f = false) (hn : 0 < n) : rcHolds f x (x + n) = n := by
  have hne : x + n ≠ x := by omega
  have hcount : ¬ (isMax f = true ∨ x + n < x) := by rw [hf]; simp
  rw [rcHolds, if_neg hne, if_neg hcount, Nat.add_sub_cancel_left]

/-! ## The statement -/

/-- Writes of a whole dword that act as the commands of their registers. -/
theorem registerWrite_commands (s : State) (t : Time) (v : Dword) :
    ∀ x ∈ ([(0x6040, .sourceSwitch t v), (0x604C, .minperWrite t v), (0x6058, .fbperWrite t v), (0x7058, .qrelWrite t v),
      (0x7070, .safedataWrite t v), (0x20084, .mcdata0Write t v), (0x20088, .mcdata1Write t v),
      (0x20094, .ctdataWrite t v), (0x2060, .svcCmdWrite t v), (0x40, .sysReset t v), (0x8064, .user t v)] :
      List (BitVec 26 × Instr)), exec (.registerWrite t false x.1 v 15) s = exec x.2 s := by
  simp only [List.forall_mem_cons]
  refine ⟨?_, ?_, ?_, ?_, ?_, ?_, ?_, ?_, ?_, ?_, ?_, fun _ h => nomatch h⟩
  all_goals exact exec_registerWrite_block s t v (by decide)

/-- R301: MULT_WRITE. -/
theorem registerWrite_mult (s : State) (t : Time) (v : Dword) (n : Mdll) :
    exec (.registerWrite t false (BitVec.ofNat 26 (pCLK n.val * 4096 + 0x48)) v 15) s = exec (.multWrite t n v) s := by
  have hp : pCLK n.val < 512 := by have := n.isLt; simp only [pCLK]; omega
  rw [exec_registerWrite_page s t v hp (by decide) (by decide) (by decide) (by rw [pgClass_pCLK]; decide)]
  simp only [State.doBlock_mult]
  rfl

/-- R192: CPR_WRITE. -/
theorem registerWrite_cpr (s : State) (t : Time) (v : Dword) (n : Unit8) :
    exec (.registerWrite t false (BitVec.ofNat 26 (pANG n.val * 4096 + 0x44)) v 15) s = exec (.cprWrite t n v) s := by
  have hp : pANG n.val < 512 := by have := n.isLt; simp only [pANG]; omega
  rw [exec_registerWrite_page s t v hp (by decide) (by decide) (by decide) (by rw [pgClass_pANG]; decide)]
  simp only [State.doBlock_cpr]
  rfl

/-- R411: what a write to a reserved page records. -/
theorem registerWrite_reserved (s : State) (t : Time) (v : Dword) (off : BitVec 26)
    (hup : (s.at_ t).hostUp = true) (hpfw : s.pwr.pfwBlock = false) (hlt : off.toNat < 0x200000)
    (h4 : off.toNat % 4 = 0) (hr : pgClass (off.toNat / 4096) = .reserved) :
    Completes (.registerWrite t false off v 15) s fun u =>
      s.flags u pPCI PCI_E_UNMAPPED ∧ u.bit pPCI PCI_BADADDR_VALID = true ∧
      (s.bit pPCI PCI_BADADDR_VALID = false → u.fld pPCI PCI_BADADDR_OFFSET = off.toNat ∧
        u.fld pPCI PCI_BADADDR_WRITE = 1 ∧ u.fld pPCI PCI_BADADDR_BAR2 = 0) ∧
      Changes (s.at_ t) u [.msi] (fields (badAddrFields ++ errFields pPCI)) :=
  ⟨_, exec_registerWrite_reserved s t v hlt h4 hr hup hpfw, State.badAddr_flags _ _ _ _,
    State.badAddr_valid _ _ _ off.isLt, fun hfree => (State.badAddr_records (s.at_ t) false true off.isLt hfree).2,
    State.badAddr_changes _ _ _ _⟩

/-- R5: SYS.SCRATCH takes a whole dword. -/
theorem registerWrite_scratch (s : State) (t : Time) (v : Dword) (h : (s.at_ t).writeOpen 0x58 = true) :
    Completes (.registerWrite t false 0x58 v 15) s fun u =>
      u.fld pSYS SYS_SCRATCH_VALUE = v.toNat ∧ Changes (s.at_ t) u [] (fields [(pSYS, SYS_SCRATCH_VALUE)]) := by
  have hexec := exec_registerWrite_block s t v (off := 0x58) (by decide)
  have hof : SYS_SCRATCH_VALUE.of v.toNat = v.toNat := by
    have hv := v.isLt
    simp only [Fld.of, bitsN, SYS_SCRATCH_VALUE]; omega
  refine Completes.write h hexec ?_
  rw [State.arrive_local s t _ (by decide)]
  exact ⟨(State.fld_store_same _ _ _ _).trans hof, (Changes.refl _ _ _).store (fields_mem (by decide))⟩

/-- The fields that a read of a register may change. -/
def readFields (p o : Nat) : List (Nat × Fld) :=
  (pPCI, PCI_NPOUT_MAX) :: ((rcFields p o).map fun f => (p, f)) ++
    if isFltlast p o then [(p, JE_FLTHDL_HANDLE)] else []

/-- The field of PCI that an accepted read raises is none of a page whose class is read plainly. -/
theorem fldKey_ne_npout {p : Nat} {f : Fld} (hc : pgClass p ∈ plainReads) (hf : f.off * 32 + f.lo < 131072) :
    fldKey p f ≠ fldKey pPCI PCI_NPOUT_MAX :=
  fldKey_page_ne pPCI p PCI_NPOUT_MAX f (by decide) hf fun e => absurd (e ▸ hc) (by decide)

/-- R313: an accepted read leaves the read-clear fields of such a page as they are. -/
theorem State.noteNp_rcFields (s : State) {p o : Nat} {f : Fld} (hc : pgClass p ∈ plainReads) (ho : o < 4096)
    (hf : f ∈ rcFields p o) : s.noteNp.fld p f = s.fld p f := by
  have hoff := off_of_mem_rcFields hf
  have hlo := lo_of_mem_rcFields hf
  exact s.noteNp_fld_ne (fldKey_ne_npout hc (by omega))

theorem Changes.readPlain {s : State} (p o : Nat) (d : List Nat) :
    Changes s ((s.noteNp.clearRc p o).answer d) [.time, .rdata] (fields (readFields p o)) := by
  have hnp : Changes s s.noteNp [.time, .rdata] (fields (readFields p o)) :=
    (Changes.refl s _ _).raiseTo (fields_mem (by simp [readFields]))
  refine (hnp.clearRc (by decide) (fun f hf => fields_mem ?_) fun hl => fields_mem ?_).answer (by decide)
  · exact List.mem_append_left _ (List.mem_cons_of_mem _ (List.mem_map_of_mem hf))
  · exact List.mem_append_right _ (by rw [if_pos hl]; exact List.mem_singleton_self _)

/-- R5, R7, R416: what a read of a register returns, and what it leaves in the register's read-clear fields. -/
theorem registerRead_plain (s : State) (t : Time) (off : BitVec 26) (hlt : off.toNat < 0x200000)
    (h4 : off.toNat % 4 = 0) (hopen : (s.at_ t).readOpen off.toNat = true)
    (hc : pgClass (off.toNat / 4096) ∈ plainReads) (hm : off.toNat ≠ pPLC * 4096 + 0x5C) :
    Completes (.registerRead t false off 15) s fun u =>
      let p := off.toNat / 4096
      let o := off.toNat % 4096
      u.hst.rdata = [maskBytes (((s.at_ t).noteNp.rewind p o).regValue p o) 15] ∧ u.time = s.timeAt t ∧
      (s.fld p HDR_PG_CTRL_FREEZE = 0 →
        (∀ f ∈ rcFields p o, u.fld p f = rcHolds f ((s.at_ t).before p f) (s.fld p f) % 2 ^ f.wid) ∧
        (isFltlast p o → u.fld p JE_FLTLAST_VALID = 0 → u.fld p JE_FLTHDL_HANDLE = 0)) ∧
      (s.fld p HDR_PG_CTRL_FREEZE ≠ 0 → ∀ f ∈ rcFields p o, u.fld p f = s.fld p f) ∧
      Changes (s.at_ t) u [.time, .rdata] (fields (readFields p o)) := by
  refine ⟨_, exec_registerRead_plain s t hlt h4 hopen hc hm, ?_⟩
  beta_reduce
  intro p o
  have ho : o < 4096 := Nat.mod_lt _ (by decide)
  have hrc : ∀ f ∈ rcFields p o, (s.at_ t).noteNp.fld p f = s.fld p f := fun f hf =>
    (s.at_ t).noteNp_rcFields hc ho hf
  have hfreeze : (s.at_ t).noteNp.fld p HDR_PG_CTRL_FREEZE = s.fld p HDR_PG_CTRL_FREEZE :=
    (s.at_ t).noteNp_fld_ne (fldKey_ne_npout hc (by decide))
  refine ⟨rfl, State.clearRc_time _ p o, fun hz => ⟨fun f hf => ?_, ?_⟩, fun hz f hf => ?_, Changes.readPlain p o _⟩
  · exact ((s.at_ t).noteNp.clearRc_fld (hfreeze.trans hz) hf).trans (by rw [hrc f hf]; rfl)
  · exact (s.at_ t).noteNp.clearRc_fltHdl (hfreeze.trans hz)
  · rw [State.answer_fld, State.clearRc_frozen _ p o (hfreeze.symm ▸ hz), hrc f hf]

/-- Settles O53: a whole dword written takes the path of its register's command, a dropped write and an address that
names nothing are recorded in the PCI page, and a read clears each read-clear field by itself, the fields of a register
having keys of their own. -/
theorem registerAccess : Obligations.RegisterAccess := fun s t v =>
  ⟨registerWrite_commands s t v, registerWrite_mult s t v, registerWrite_cpr s t v,
    fun hup hpfw =>
      ⟨fun off _ hbe => ⟨_, exec_registerWrite_partial s t off v hbe hup hpfw, State.err_raises _ _ _⟩,
        fun off => registerWrite_reserved s t v off hup hpfw⟩,
    registerWrite_scratch s t v,
    fun off hlt h4 hopen hc hm => registerRead_plain s t off hlt h4 hopen hc hm,
    State.before_of_time_moves s t, rcHolds_unchanged, rcHolds_counted⟩

end Sys2Proof.Machine

/-! # Frame controller: the order of events and the segments of a frame (R51, R170) -/

namespace Sys2Proof.Machine

/-! ## The order of the commands of a frame (R51) -/

/-- R51: a command may stand before another: a smaller offset, or the same one and no larger slot. -/
abbrev cmdOrder (x y : Cmd) : Prop := x.off < y.off ∨ (x.off = y.off ∧ x.slot ≤ y.slot)

theorem cmdOrder_of_cmdBefore {x y : Cmd} (h : cmdBefore x y = true) : cmdOrder x y :=
  (of_decide_eq_true h).imp id fun ⟨ho, hs⟩ => ⟨ho, hs.le⟩

theorem cmdOrder_of_not_cmdBefore {x y : Cmd} (h : ¬ cmdBefore y x = true) : cmdOrder x y := by
  simp only [cmdBefore, decide_eq_true_eq] at h
  unfold cmdOrder
  omega

theorem cmdOrder_trans {x y z : Cmd} (h : cmdOrder x y) (h' : cmdOrder y z) : cmdOrder x z := by
  unfold cmdOrder at *
  omega

theorem insertCmd_perm (x : Cmd) (xs : List Cmd) : (insertCmd x xs).Perm (x :: xs) := by
  induction xs with
  | nil => exact .refl _
  | cons y ys ih =>
    rw [insertCmd]
    split
    · exact (ih.cons y).trans (.swap x y ys)
    · exact .refl _

theorem insertCmd_sorted (x : Cmd) {xs : List Cmd} (h : xs.Pairwise cmdOrder) : (insertCmd x xs).Pairwise cmdOrder := by
  induction xs with
  | nil => exact List.pairwise_singleton _ _
  | cons y ys ih =>
    obtain ⟨hy, hys⟩ := List.pairwise_cons.mp h
    rw [insertCmd]
    split
    case isTrue hb =>
      refine List.pairwise_cons.mpr ⟨fun z hz => ?_, ih hys⟩
      rcases List.mem_cons.mp ((insertCmd_perm x ys).mem_iff.mp hz) with rfl | hz
      · exact cmdOrder_of_cmdBefore hb
      · exact hy z hz
    case isFalse hb =>
      have hxy := cmdOrder_of_not_cmdBefore hb
      exact List.pairwise_cons.mpr
        ⟨List.forall_mem_cons.mpr ⟨hxy, fun z hz => cmdOrder_trans hxy (hy z hz)⟩, h⟩

theorem sortCmds_perm (xs : List Cmd) : (sortCmds xs).Perm xs := by
  induction xs with
  | nil => exact .refl _
  | cons x xs ih => exact (insertCmd_perm x _).trans (ih.cons x)

theorem sortCmds_sorted (xs : List Cmd) : (sortCmds xs).Pairwise cmdOrder := by
  induction xs with
  | nil => exact .nil
  | cons x xs ih => exact insertCmd_sorted x ih

/-! ## The segments (R170) -/

section Classes
variable {α : Type} (f : α → Nat)

/-- A list whose classes do not decrease and are at most `n`: first those below `n`, then those of class `n`. -/
theorem filter_below_append_class (n : Nat) (ys : List α) (hs : ys.Pairwise fun a b => f a ≤ f b)
    (hn : ∀ y ∈ ys, f y ≤ n) : ys.filter (fun y => f y < n) ++ ys.filter (fun y => f y = n) = ys := by
  induction ys with
  | nil => rfl
  | cons y ys ih =>
    obtain ⟨hy, hys⟩ := List.pairwise_cons.mp hs
    obtain ⟨hyn, hrest⟩ := List.forall_mem_cons.mp hn
    rcases Nat.lt_or_eq_of_le hyn with hlt | heq
    · simp [hlt, hlt.ne, ih hys hrest]
    · have hall : ∀ z ∈ y :: ys, f z = n :=
        List.forall_mem_cons.mpr ⟨heq, fun z hz => le_antisymm (hrest z hz) (heq ▸ hy z hz)⟩
      rw [List.filter_eq_nil_iff.mpr fun z hz => by simp [hall z hz],
        List.filter_eq_self.mpr fun z hz => by simp [hall z hz], List.nil_append]

/-- Cut into its classes, such a list is the list of them in order. -/
theorem flatten_classes (n : Nat) (ys : List α) (hs : ys.Pairwise fun a b => f a ≤ f b) (hn : ∀ y ∈ ys, f y < n) :
    ((List.range n).map fun k => ys.filter fun y => f y = k).flatten = ys := by
  induction n generalizing ys with
  | zero => exact (List.eq_nil_iff_forall_not_mem.mpr fun y hy => Nat.not_lt_zero _ (hn y hy)).symm
  | succ n ih =>
    have hbelow := ih (ys.filter fun y => f y < n) (hs.filter _) fun y hy => by simpa using (List.mem_filter.mp hy).2
    have hclass : ∀ k ∈ List.range n, (ys.filter fun y => f y < n).filter (fun y => f y = k) = ys.filter fun y => f y = k := by
      intro k hk
      have hkn := List.mem_range.mp hk
      rw [List.filter_filter]
      refine List.filter_congr fun y _ => ?_
      by_cases hy : f y = k <;> simp [hy, hkn]
    rw [List.map_congr_left hclass] at hbelow
    rw [List.range_succ, List.map_append, List.flatten_append, hbelow, List.map_singleton, List.flatten_singleton]
    exact filter_below_append_class f n ys hs fun y hy => Nat.le_of_lt_succ (hn y hy)

end Classes

/-- The positions in a list rise. -/
theorem zipIdx_positions_rise {α : Type} (xs : List α) (i : Nat) : (xs.zipIdx i).Pairwise fun a b => a.2 ≤ b.2 := by
  induction xs generalizing i with
  | nil => exact .nil
  | cons x xs ih =>
    rw [List.zipIdx_cons]
    exact List.pairwise_cons.mpr ⟨fun y hy => (Nat.le_succ i).trans (List.le_snd_of_mem_zipIdx hy), ih (i + 1)⟩

/-- R170: the eight segments together are the list in its order. -/
theorem segments_flatten (xs : List Cmd) : (segments xs).flatten = xs := by
  have hcut : segments xs =
      ((List.range 8).map fun k => xs.zipIdx.filter fun x => 8 * x.2 / xs.length = k).map (List.map Prod.fst) := by
    rw [List.map_map]; rfl
  have hrise : xs.zipIdx.Pairwise fun a b => 8 * a.2 / xs.length ≤ 8 * b.2 / xs.length :=
    (zipIdx_positions_rise xs 0).imp fun h => Nat.div_le_div_right (Nat.mul_le_mul_left 8 h)
  have hlt : ∀ x ∈ xs.zipIdx, 8 * x.2 / xs.length < 8 := by
    intro x hx
    have hpos := List.snd_lt_of_mem_zipIdx hx
    exact (Nat.div_lt_iff_lt_mul (by omega)).mpr (by omega)
  rw [hcut, ← List.map_flatten, flatten_classes (fun x : Cmd × Nat => 8 * x.2 / xs.length) 8 _ hrise hlt,
    List.zipIdx_map_fst]

/-- Settles O22: insertion keeps the order and every event, and the segment of an event rises with its place. -/
theorem eventsSortedAndSegmented : Obligations.EventsSortedAndSegmented := fun xs =>
  ⟨sortCmds_perm xs, sortCmds_sorted xs, rfl, segments_flatten xs⟩

end Sys2Proof.Machine

/-! # Commands of the frame controller, the source selection and the written periods (R11 to R20) -/

namespace Sys2Proof.Machine

/-! ## FRM.CMD (R11, R13) -/

theorem State.doFrmCmd_run (s : State) (h : s.frmState ≠ 1) (hr : s.runRefused = false) : s.doFrmCmd 2 = s.enterRun :=
  if_pos ⟨h, hr⟩

theorem State.doFrmCmd_run_refused (s : State) (h : s.frmState = 1 ∨ s.runRefused = true) :
    s.doFrmCmd 2 = s.err pFRM FRM_E_CMDERR :=
  if_neg fun ⟨hstate, hfree⟩ => h.elim hstate fun hr => Bool.false_ne_true (hfree.symm.trans hr)

theorem State.doFrmCmd_hold (s : State) (h : s.frmState = 1) : s.doFrmCmd 4 = s.setFld pFRM FRM_STAT_HOLDREQ 1 :=
  if_pos h

theorem State.doFrmCmd_hold_refused (s : State) (h : s.frmState ≠ 1) : s.doFrmCmd 4 = s.err pFRM FRM_E_CMDERR :=
  if_neg h

theorem State.doFrmCmd_stop (s : State) (h : s.frmState = 2) (hr : s.role ≠ 3) : s.doFrmCmd 1 = s.enterStop :=
  if_pos ⟨h, hr⟩

theorem State.doFrmCmd_stop_refused (s : State) (h : s.frmState ≠ 2 ∨ s.role = 3) :
    s.doFrmCmd 1 = s.err pFRM FRM_E_CMDERR :=
  if_neg fun ⟨hstate, hrole⟩ => h.elim (· hstate) hrole

theorem Changes.startTimer {s u : State} {ps : List Piece} {K : Nat → Bool} {t : Nat} (ha : Piece.frm ∈ ps)
    (h : Changes s u ps K) : Changes s (u.startTimer t) ps K := h.updFrm ha

/-- R13: what entry to RUN leaves. -/
theorem State.enterRun_spec (s : State) :
    s.enterRun.frmState = 1 ∧ s.enterRun.fld pFRM FRM_STAT_HOLDCAUSE = 0 ∧
    s.enterRun.frm = { s.frm with
      issued := [], held := false, start := s.time, inFrame := false, roleHold := false
      timerNext := if s.fld pFRM FRM_STAT_SRCACT = 1 then some (s.time + s.timerNs) else none } ∧
    s.enterRun.ctx = { s.ctx with bvalid := false } ∧
    Changes s s.enterRun [.frm, .ctx] (fields [(pFRM, FRM_STAT_STATE), (pFRM, FRM_STAT_HOLDCAUSE)]) := by
  refine ⟨?_, ?_, ?_, rfl, ?_⟩
  · simp (disch := decide) [State.enterRun, State.startTimer, State.frmState, State.fld_setFld_ne, FRM_STAT_STATE]
  · simp [State.enterRun, State.startTimer]
  · simp (disch := decide) [State.enterRun, State.startTimer, State.timerNs, State.fld_setFld_ne]
  · exact ((((((Changes.refl s _ _).setFld (by decide)).setFld (by decide)).updFrm (by decide)).updCtx
      (by decide)).startTimer (by decide))

/-- R11: what entry to STOP leaves. -/
theorem State.enterStop_spec (s : State) :
    s.enterStop.frmState = 0 ∧ s.enterStop.fld pFRM FRM_STAT_HOLDCAUSE = 0 ∧
    s.enterStop.frm = { s.frm with fromStop := true, timerNext := none } ∧ s.enterStop.ctx = { s.ctx with bvalid := false } ∧
    Changes s s.enterStop [.frm, .ctx] (fields [(pFRM, FRM_STAT_STATE), (pFRM, FRM_STAT_HOLDCAUSE)]) := by
  refine ⟨?_, ?_, rfl, rfl, ?_⟩
  · simp (disch := decide) [State.enterStop, State.frmState, State.fld_setFld_ne]
  · simp [State.enterStop]
  · exact ((((Changes.refl s _ _).setFld (by decide)).setFld (by decide)).updFrm (by decide)).updCtx (by decide)

/-! ## FRM.CTRL (R17, R41) -/

/-- The state once FRM.CTRL has taken a dword, before the selection in it is looked at. -/
def State.ctrlStored (s : State) (v : Nat) : State :=
  let a := if 2 ≤ s.pwr.lcs then s else s.store pFRM FRM_CTRL_ADMCHK v
  (((a.store pFRM FRM_CTRL_OVRLIM v).store pFRM FRM_CTRL_IDLERUN v).store pFRM FRM_CTRL_ANGSEL v).store pFRM FRM_CTRL_SRC v

theorem State.doFrmCtrl_eq (s : State) (v : Nat) :
    s.doFrmCtrl v = (s.ctrlStored v).selectSource (FRM_CTRL_SRC.of v, FRM_CTRL_ANGSEL.of v) := rfl

theorem fields_append_false {xs ys : List (Nat × Fld)} {k : Nat} (h : fields (xs ++ ys) k = false) :
    fields xs k = false ∧ fields ys k = false := by
  rwa [fields, List.any_append, Bool.or_eq_false_iff] at h

/-- The fields of FRM.CTRL. -/
def ctrlFields : List (Nat × Fld) :=
  [(pFRM, FRM_CTRL_SRC), (pFRM, FRM_CTRL_ANGSEL), (pFRM, FRM_CTRL_OVRLIM), (pFRM, FRM_CTRL_IDLERUN),
    (pFRM, FRM_CTRL_ADMCHK)]

/-- The selection in force. -/
def sourceFields : List (Nat × Fld) := [(pFRM, FRM_STAT_SRCACT), (pFRM, FRM_STAT_ANGACT)]

theorem State.ctrlStored_changes (s : State) (v : Nat) : Changes s (s.ctrlStored v) [] (fields ctrlFields) := by
  have hadm : Changes s (if 2 ≤ s.pwr.lcs then s else s.store pFRM FRM_CTRL_ADMCHK v) [] (fields ctrlFields) :=
    Changes.ite (fun _ => Changes.refl _ _ _) fun _ => (Changes.refl _ _ _).store (by decide)
  exact (((hadm.store (by decide)).store (by decide)).store (by decide)).store (by decide)

/-- The parts that a frame leaves alone, one at a time. -/
theorem State.ctrlStored_frm (s : State) (v : Nat) : (s.ctrlStored v).frm = s.frm := by
  unfold State.ctrlStored; split <;> rfl

/-- R17, R41: what the fields of FRM.CTRL hold after a write. -/
theorem State.ctrlStored_fields (s : State) (v : Nat) :
    (s.ctrlStored v).fld pFRM FRM_CTRL_SRC = FRM_CTRL_SRC.of v ∧
    (s.ctrlStored v).fld pFRM FRM_CTRL_ANGSEL = FRM_CTRL_ANGSEL.of v ∧
    (s.ctrlStored v).fld pFRM FRM_CTRL_OVRLIM = FRM_CTRL_OVRLIM.of v ∧
    (s.ctrlStored v).fld pFRM FRM_CTRL_IDLERUN = FRM_CTRL_IDLERUN.of v ∧
    (s.ctrlStored v).fld pFRM FRM_CTRL_ADMCHK =
      (if 2 ≤ s.pwr.lcs then s.fld pFRM FRM_CTRL_ADMCHK else FRM_CTRL_ADMCHK.of v) := by
  unfold State.ctrlStored
  split <;> simp (disch := decide) [State.fld_store_ne]

theorem State.ctrlStored_role (s : State) (v : Nat) : (s.ctrlStored v).role = s.role :=
  (s.ctrlStored_changes v).fld_eq (by decide)

theorem State.ctrlStored_frmState (s : State) (v : Nat) : (s.ctrlStored v).frmState = s.frmState :=
  (s.ctrlStored_changes v).fld_eq (by decide)

theorem State.selectSource_changes (s : State) (x : Nat × Nat) :
    Changes s (s.selectSource x) [.frm, .twn] (fields sourceFields) := by
  refine Changes.ite (fun _ => (Changes.refl _ _ _).updTwn (by decide)) fun _ => ?_
  refine Changes.ite (fun _ => ?_) fun _ => ?_
  · exact (((Changes.refl _ _ _).setFld (by decide)).setFld (by decide)).updFrm (by decide)
  · exact Changes.ite (fun _ => (Changes.refl _ _ _).updFrm (by decide))
      fun _ => (Changes.refl _ _ _).updFrm (by decide)

theorem State.setSource_src (s : State) (x : Nat × Nat) : (s.setSource x).fld pFRM FRM_STAT_SRCACT = x.1 % 4 := by
  simp (disch := decide) [State.setSource, State.fld_setFld_ne, FRM_STAT_SRCACT]

theorem State.setSource_ang (s : State) (x : Nat × Nat) : (s.setSource x).fld pFRM FRM_STAT_ANGACT = x.2 % 8 := by
  simp [State.setSource, FRM_STAT_ANGACT]

/-- R17: outside RUN a selection takes effect at once. -/
theorem State.selectSource_idle (s : State) (x : Nat × Nat) (hr : s.role ≠ 2) (hs : s.frmState ≠ 1) :
    s.selectSource x = s.setSource x := (if_neg hr).trans (if_pos hs)

/-- R17: in RUN a selection waits where it differs from the one in force, and cancels a waiting switch where it does
not. -/
theorem State.selectSource_run (s : State) (x : Nat × Nat) (hr : s.role ≠ 2) (hs : s.frmState = 1) :
    s.selectSource x = s.updFrm fun f =>
      { f with
        srcPend := if x.1 = s.fld pFRM FRM_STAT_SRCACT ∧ x.2 = s.fld pFRM FRM_STAT_ANGACT then none else some x } := by
  refine ((if_neg hr).trans (if_neg (not_not.mpr hs))).trans ?_
  obtain ⟨src, ang⟩ := x
  simp only [Prod.mk.injEq]
  split <;> rfl

/-- What a field takes of a dword is no wider than the field. -/
theorem Fld.of_mod (f : Fld) (v : Nat) : f.of v % 2 ^ f.wid = f.of v := Nat.mod_mod _ _

theorem sourceSwitch_completes (s : State) (t : Time) (v : Dword) (hopen : (s.at_ t).writeOpen 0x6040 = true) :
    Completes (.sourceSwitch t v) s fun u =>
      u.fld pFRM FRM_CTRL_SRC = FRM_CTRL_SRC.of v.toNat ∧
      u.fld pFRM FRM_CTRL_ANGSEL = FRM_CTRL_ANGSEL.of v.toNat ∧
      u.fld pFRM FRM_CTRL_OVRLIM = FRM_CTRL_OVRLIM.of v.toNat ∧
      u.fld pFRM FRM_CTRL_IDLERUN = FRM_CTRL_IDLERUN.of v.toNat ∧
      u.fld pFRM FRM_CTRL_ADMCHK =
        (if 2 ≤ s.pwr.lcs then s.fld pFRM FRM_CTRL_ADMCHK else FRM_CTRL_ADMCHK.of v.toNat) ∧
      (s.role ≠ 2 → s.frmState ≠ 1 →
        u.fld pFRM FRM_STAT_SRCACT = FRM_CTRL_SRC.of v.toNat ∧
        u.fld pFRM FRM_STAT_ANGACT = FRM_CTRL_ANGSEL.of v.toNat ∧ u.frm = { s.frm with srcPend := none }) ∧
      (s.role ≠ 2 → s.frmState = 1 →
        u.fld pFRM FRM_STAT_SRCACT = s.fld pFRM FRM_STAT_SRCACT ∧
        u.fld pFRM FRM_STAT_ANGACT = s.fld pFRM FRM_STAT_ANGACT ∧
        u.frm = { s.frm with
          srcPend := if FRM_CTRL_SRC.of v.toNat = s.fld pFRM FRM_STAT_SRCACT ∧
            FRM_CTRL_ANGSEL.of v.toNat = s.fld pFRM FRM_STAT_ANGACT then none
          else some (FRM_CTRL_SRC.of v.toNat, FRM_CTRL_ANGSEL.of v.toNat) }) ∧
      Changes (s.arrive t 0x6040 v.toNat) u [.frm, .twn] (fields (ctrlFields ++ sourceFields)) := by
  refine Completes.write hopen rfl ?_
  rw [State.doFrmCtrl_eq]
  set a := s.arrive t 0x6040 v.toNat with ha
  set x := (FRM_CTRL_SRC.of v.toNat, FRM_CTRL_ANGSEL.of v.toNat) with hx
  have hsel := (a.ctrlStored v.toNat).selectSource_changes x
  have hst := a.ctrlStored_changes v.toNat
  have hrole : (a.ctrlStored v.toNat).role = s.role := (a.ctrlStored_role _).trans (s.arrive_role _ _ _)
  have hstate : (a.ctrlStored v.toNat).frmState = s.frmState := (a.ctrlStored_frmState _).trans (s.arrive_frmState _ _ _)
  have hfrm : (a.ctrlStored v.toNat).frm = s.frm := (a.ctrlStored_frm _).trans (s.arrive_frm _ _ _)
  have hsrc : (a.ctrlStored v.toNat).fld pFRM FRM_STAT_SRCACT = s.fld pFRM FRM_STAT_SRCACT :=
    (hst.fld_eq (by decide)).trans (s.arrive_fld _ _ _ _ _)
  have hang : (a.ctrlStored v.toNat).fld pFRM FRM_STAT_ANGACT = s.fld pFRM FRM_STAT_ANGACT :=
    (hst.fld_eq (by decide)).trans (s.arrive_fld _ _ _ _ _)
  obtain ⟨f1, f2, f3, f4, f5⟩ := a.ctrlStored_fields v.toNat
  refine ⟨(hsel.fld_eq (by decide)).trans f1, (hsel.fld_eq (by decide)).trans f2, (hsel.fld_eq (by decide)).trans f3,
    (hsel.fld_eq (by decide)).trans f4, ((hsel.fld_eq (by decide)).trans f5).trans (by simp [ha]), fun hr hs => ?_,
    fun hr hs => ?_, ?_⟩
  · rw [State.selectSource_idle _ _ (hrole ▸ hr) (hstate ▸ hs)]
    exact ⟨(State.setSource_src _ x).trans (FRM_CTRL_SRC.of_mod _), (State.setSource_ang _ x).trans (FRM_CTRL_ANGSEL.of_mod _),
      by simp [State.setSource, hfrm]⟩
  · rw [State.selectSource_run _ _ (hrole ▸ hr) (hstate ▸ hs)]
    exact ⟨hsrc, hang, by rw [State.updFrm_frm, hfrm, hsrc, hang]⟩
  · exact (hst.mono (by simp) fun k hk => (fields_append_false hk).1).trans
      (hsel.mono (fun _ h => h) fun k hk => (fields_append_false hk).2)

/-! ## FRM.MINPER and FRM.FBPER (R15, R20) -/

theorem minperWrite_completes (s : State) (t : Time) (v : Dword) (hopen : (s.at_ t).writeOpen 0x604C = true) :
    Completes (.minperWrite t v) s fun u =>
      u.fld pFRM FRM_MINPER_VALUE = Nat.max 5000 (v.toNat % 2 ^ 20) ∧
      u.frm = { s.frm with admQ := s.frm.admQ ++ [.minper (Nat.max 5000 (v.toNat % 2 ^ 20))] } ∧
      Changes (s.arrive t 0x604C v.toNat) u [.frm] (fields [(pFRM, FRM_MINPER_VALUE)]) := by
  have hof : FRM_MINPER_VALUE.of v.toNat = v.toNat % 2 ^ 20 := by simp [Fld.of, bitsN, FRM_MINPER_VALUE]
  have hfits : Nat.max 5000 (v.toNat % 2 ^ 20) % 2 ^ 20 = Nat.max 5000 (v.toNat % 2 ^ 20) :=
    Nat.mod_eq_of_lt (Nat.max_lt.mpr ⟨by decide, Nat.mod_lt _ (by decide)⟩)
  refine Completes.write hopen rfl ⟨?_, ?_, ((Changes.refl _ _ _).setFld (by decide)).updFrm (by decide)⟩
  · rw [State.doMinper, hof, State.updFrm_fld, State.fld_setFld_same]; exact hfits
  · rw [State.doMinper, hof]; simp

theorem Changes.noteFallback {s u : State} {ps : List Piece} {K : Nat → Bool} {was : Nat} (ha : Piece.frm ∈ ps)
    (h : Changes s u ps K) : Changes s (u.noteFallback was) ps K :=
  Changes.ite (fun _ => h) fun _ => h.updFrm ha

theorem State.noteFallback_fld (s : State) (was p : Nat) (f : Fld) : (s.noteFallback was).fld p f = s.fld p f := by
  unfold State.noteFallback; split <;> rfl

/-- R20: a change of the fallback period notes its time. -/
theorem State.noteFallback_frm (s : State) (was : Nat) :
    (s.noteFallback was).frm = { s.frm with fbAt := if s.fallbackNs = was then s.frm.fbAt else s.time } := by
  unfold State.noteFallback; split <;> rfl

/-- R20: the fallback period is that of the registers. -/
theorem State.fallbackNs_congr {s u : State} (h : u.fld pFRM FRM_FBPER_FBPER = s.fld pFRM FRM_FBPER_FBPER)
    (h' : u.fld pFRM FRM_MINPER_ACT_VALUE = s.fld pFRM FRM_MINPER_ACT_VALUE) : u.fallbackNs = s.fallbackNs := by
  rw [State.fallbackNs, State.fallbackNs, h, h']

theorem fbperWrite_completes (s : State) (t : Time) (v : Dword) (hopen : (s.at_ t).writeOpen 0x6058 = true) :
    Completes (.fbperWrite t v) s fun u =>
      u.fld pFRM FRM_FBPER_FBPER = Nat.max 100 (FRM_FBPER_FBPER.of v.toNat) ∧
      u.frm = { s.frm with fbAt := if u.fallbackNs = s.fallbackNs then s.frm.fbAt else s.timeAt t } ∧
      Changes (s.arrive t 0x6058 v.toNat) u [.frm] (fields [(pFRM, FRM_FBPER_FBPER)]) := by
  have hfits : Nat.max 100 (FRM_FBPER_FBPER.of v.toNat) % 2 ^ 16 = Nat.max 100 (FRM_FBPER_FBPER.of v.toNat) :=
    Nat.mod_eq_of_lt (Nat.max_lt.mpr ⟨by decide, Nat.mod_lt _ (by decide)⟩)
  refine Completes.write hopen rfl ⟨?_, ?_, ((Changes.refl _ _ _).setFld (by decide)).noteFallback (by decide)⟩
  · rw [State.doFbper, State.noteFallback_fld, State.fld_setFld_same]; exact hfits
  · have hwas : (s.arrive t 0x6058 v.toNat).fallbackNs = s.fallbackNs :=
      State.fallbackNs_congr (s.arrive_fld _ _ _ _ _) (s.arrive_fld _ _ _ _ _)
    have hnow : ∀ u : State, ∀ was, (u.noteFallback was).fallbackNs = u.fallbackNs := fun u was =>
      State.fallbackNs_congr (u.noteFallback_fld was _ _) (u.noteFallback_fld was _ _)
    rw [State.doFbper, State.noteFallback_frm, hnow, hwas]
    simp

/-- Settles O1: each command takes the branch of its register's write that its state selects. -/
theorem frameCommandsAndSelection : Obligations.FrameCommandsAndSelection := by
  refine ⟨fun s t hopen => ⟨fun h hr => ?_, fun h => ?_, fun h => ?_, fun h => ?_, fun h hr => ?_, fun h => ?_⟩,
    fun s t v => ⟨sourceSwitch_completes s t v, minperWrite_completes s t v, fbperWrite_completes s t v⟩⟩
  all_goals refine Completes.write hopen rfl ?_
  · rw [State.doFrmCmd_run _ (by simpa using h) (by simpa using hr)]
    simpa [State.timerNs] using (s.arrive t 0x6044 2).enterRun_spec
  · rw [State.doFrmCmd_run_refused _ (by simpa using h)]
    exact State.err_raises _ _ _
  · rw [State.doFrmCmd_hold _ (by simpa using h)]
    exact ⟨State.fld_setFld_same _ _ _ _, (Changes.refl _ _ _).setFld (by decide)⟩
  · rw [State.doFrmCmd_hold_refused _ (by simpa using h)]
    exact State.err_raises _ _ _
  · rw [State.doFrmCmd_stop _ (by simpa using h) (by simpa using hr)]
    simpa using (s.arrive t 0x6044 1).enterStop_spec
  · rw [State.doFrmCmd_stop_refused _ (by simpa using h)]
    exact State.err_raises _ _ _

end Sys2Proof.Machine

/-! # What the work of a frame boundary leaves alone

Placement, contexts, activation and the repair of microcode touch neither the frame controller nor the pair link: the
frame number, the state of FRM and the whole TWN page stand. -/

namespace Sys2Proof.Machine

/-- The parts that such work may change. -/
def workPieces : List Piece := [.ctx, .jer, .plc, .lnk, .fab, .cfg, .fls, .pwr, .msi, .ring]

/-- The fields of FRM that it leaves alone. -/
def frmKept : List (Nat × Fld) :=
  [(pFRM, FRM_STAT_STATE), (pFRM, FRM_STAT_IDLE), (pFRM, FRM_FN_LO_FN), (pFRM, FRM_FN_HI_FN), (pFRM, FRM_CMPEND_END),
    (pFRM, FRM_CMPMAX_MAX)]

/-- Every register field but these and those of the TWN page. -/
def workKeys (k : Nat) : Bool := !fields frmKept k && !pages [pTWN] k

/-- From `s` to `u` such work has been done, and nothing else. -/
abbrev Works (s u : State) : Prop := Changes s u workPieces workKeys

/-- A field of the pages of clocks, angle units, engines, regions and links may change. -/
theorem workKeys_high {p : Nat} {f : Fld} (h : 12 ≤ p) : workKeys (fldKey p f) = true := by
  have hle : 12 * 131072 ≤ fldKey p f := by unfold fldKey; omega
  have hlow : ∀ x ∈ frmKept, fldKey x.1 x.2 < 12 * 131072 := by decide
  have hfrm : fields frmKept (fldKey p f) = false :=
    List.any_eq_false.mpr fun x hx => by simpa using Nat.ne_of_lt (Nat.lt_of_lt_of_le (hlow x hx) hle)
  have htwn : fldKey p f / 131072 ≠ pTWN := by simp only [pTWN]; omega
  simp [workKeys, hfrm, pages, htwn]

theorem workKeys_pJE {e : Nat} {f : Fld} : workKeys (fldKey (pJE e) f) = true :=
  workKeys_high (Nat.le_add_right_of_le (by decide))

theorem workKeys_pUL {l : Nat} {f : Fld} : workKeys (fldKey (pUL l) f) = true :=
  workKeys_high (Nat.le_add_right_of_le (by decide))

section
variable {s u w : State} {ps : List Piece} {K : Nat → Bool}

/-- More may change. -/
theorem Changes.works (h : Changes s u ps K) (hw : Works u w) (hp : ∀ a ∈ workPieces, a ∈ ps)
    (hk : ∀ k, K k = false → workKeys k = false) : Changes s w ps K := h.trans (hw.mono hp hk)

theorem Works.frm (h : Works s u) : u.frm = s.frm :=
  show (u.blank workPieces).frm = (s.blank workPieces).frm by rw [h.1]

theorem Works.twn (h : Works s u) : u.twn = s.twn :=
  show (u.blank workPieces).twn = (s.blank workPieces).twn by rw [h.1]

theorem Works.time (h : Works s u) : u.time = s.time :=
  show (u.blank workPieces).time = (s.blank workPieces).time by rw [h.1]

theorem Works.twnFld (h : Works s u) {f : Fld} (hf : f.off * 32 + f.lo < 131072) : u.fld pTWN f = s.fld pTWN f :=
  h.fld_eq (by simp [workKeys, pages, fldKey_div _ _ hf])

/-! ## Fatal errors and the checks of tables (R374, R137, R449) -/

theorem Works.fatal {p c : Nat} (h : Works s u) : Works s (u.fatal p c) := by
  unfold State.fatal
  split
  · exact (((h.err (by decide) (by decide) (by decide)).log (by decide) (by decide) (by decide)).setFld
      (by decide)).holdCauseArises (by decide)
  · refine Changes.holdCauseArises (by decide) (Changes.mapLinks (by decide) (Changes.updPwr (by decide)
      (Changes.setFld (by decide) (Changes.log (by decide) (by decide) (by decide) (Changes.err (by decide) (by decide)
      (by decide) ?_)))))
    exact Changes.ite (fun _ => h) fun _ => ((h.setFld (by decide)).setFld (by decide)).setFld (by decide)

theorem Works.hmCheck {x : Nat} (h : Works s u) : Works s (u.hmCheck x) := by
  unfold State.hmCheck
  split
  · exact h
  · exact Works.fatal (h.err (by decide) (by decide) (by decide))
  · exact (((h.updPlc (by decide)).err (by decide) (by decide) (by decide)).corrected (by decide)).log (by decide)
      (by decide) (by decide)

theorem Works.hmCheckAll {xs : List Nat} (h : Works s u) : Works s (u.hmCheckAll xs) :=
  Changes.foldl (fun _ _ => Works.hmCheck) h

theorem Works.qmapCheck {x : Nat} (h : Works s u) : Works s (u.qmapCheck x) := Changes.ite (fun _ => Works.fatal h) fun _ => h

theorem Works.qmapCheckAll {xs : List Nat} (h : Works s u) : Works s (u.qmapCheckAll xs) :=
  Changes.ite (fun _ => Works.fatal h) fun _ => h

theorem Works.admRefuse {c : Nat} {x : Nat × Nat × Nat × Nat} (h : Works s u) : Works s (u.admRefuse c x) := by
  refine Changes.log (by decide) (by decide) (by decide) (Changes.err (by decide) (by decide) (by decide) ?_)
  exact Changes.ite (fun _ => h) fun _ => (((((h.setFld (by decide)).setFld (by decide)).setFld (by decide)).setFld
    (by decide)).setFld (by decide)).setFld (by decide)

/-! ## Migrations (R142 to R148) -/

theorem Works.setMigLast {r t b x : Nat} (h : Works s u) : Works s (u.setMigLast r t b x) :=
  (((h.setFld (by decide)).setFld (by decide)).setFld (by decide)).setFld (by decide)

theorem Works.evacDone (h : Works s u) : Works s u.evacDone :=
  Changes.ite (fun _ => (h.setFld (by decide)).irq (by decide) (by decide)) fun _ => h

theorem Works.moveRecord {x a b : Nat} (h : Works s u) : Works s (u.moveRecord x a b) :=
  (h.updCtx (by decide)).updPlc (by decide)

theorem Works.commitMig {m : Mig} (h : Works s u) : Works s (u.commitMig m) :=
  Changes.updPlc (by decide) (Works.evacDone (Works.setMigLast (Changes.addWrap (by decide)
    (Changes.updPlc (by decide) h.hmCheck.moveRecord))))

theorem Works.dropMig {m : Mig} (h : Works s u) : Works s (u.dropMig m) := h.updPlc (by decide)

theorem Works.cancelMig {m : Mig} (h : Works s u) : Works s (u.cancelMig m) := h.dropMig.setMigLast

theorem Works.stepTwo {m : Mig} (h : Works s u) : Works s (u.stepTwo m) :=
  Changes.ite (fun _ => Works.cancelMig h) fun _ => Changes.ite (fun _ => Works.commitMig h) fun _ => h

theorem Works.commitMigs (h : Works s u) : Works s u.commitMigs := Changes.foldl (fun _ _ => Works.stepTwo) h

theorem Works.uncopy (h : Works s u) : Works s u.uncopy := h.updPlc (by decide)

theorem Works.cancelAll {ms : List Mig} (h : Works s u) : Works s (ms.foldl State.cancelMig u) :=
  Changes.foldl (fun _ _ => Works.cancelMig) h

theorem Works.cancelWhere {f : Mig → Bool} (h : Works s u) : Works s (u.cancelWhere f) :=
  Changes.ite (fun _ => h.updPlc (by decide)) fun _ => Works.cancelAll (h.updPlc (by decide))

theorem Works.addMig {m : Mig} (h : Works s u) : Works s (u.addMig m) :=
  Changes.ite (fun _ => h) fun _ => h.updPlc (by decide)

theorem Works.evStall (h : Works s u) : Works s u.evStall :=
  (h.setFld (by decide)).err (by decide) (by decide) (by decide)

theorem Works.requestEvac {xs : List Nat} (h : Works s u) : Works s (State.requestEvac xs u) := by
  induction xs generalizing u with
  | nil => exact h
  | cons x xs ih =>
    rw [State.requestEvac]
    split
    · exact ih h
    · split
      · exact ih h.addMig
      · exact h.evStall

/-! ## Pins and exclusion (R146 to R149) -/

theorem Works.exclude {b : Nat} (h : Works s u) : Works s (u.exclude b) := by
  refine Changes.ite (fun _ => h) fun _ => Changes.ite (fun _ => h.err (by decide) (by decide) (by decide)) fun _ => ?_
  exact ((Works.hmCheckAll ((h.setFld (by decide)).setFld (by decide))).cancelWhere.requestEvac).evacDone

theorem Works.doExcl {v : Nat} (h : Works s u) : Works s (u.doExcl v) := by
  unfold State.doExcl
  split
  · exact h
  · exact h.exclude
  · exact Changes.ite (fun _ => h) fun _ => h.updPlc (by decide)
  · exact h.err (by decide) (by decide) (by decide)

theorem Works.includeNow (h : Works s u) : Works s u.includeNow :=
  Changes.ite (fun _ => ((((Works.cancelAll h).updPlc (by decide)).setFld (by decide)).setFld (by decide)).setFld
    (by decide)) fun _ => h

theorem Works.setPin {x n : Nat} (h : Works s u) : Works s (u.setPin x n) := h.updPlc (by decide)

theorem Works.requestPin {x b : Nat} {ok : State → Mig → State} (hok : ∀ m, Works s (ok u m)) (h : Works s u) :
    Works s (u.requestPin x b ok) := by
  unfold State.requestPin
  dsimp only
  split
  · exact h.err (by decide) (by decide) (by decide)
  · split
    · exact h.admRefuse.err (by decide) (by decide) (by decide)
    · exact hok _

theorem Works.pin {x b : Nat} (h : Works s u) : Works s (u.pin x b) := by
  have hrec : Works s (((u.hmCheck x).setPin x (b + 1)).cancelWhere fun m => m.handle = x) :=
    h.hmCheck.setPin.cancelWhere
  exact Changes.ite (fun _ => h.hmCheck) fun _ =>
    Changes.ite (fun _ => Changes.err (by decide) (by decide) (by decide) h.hmCheck) fun _ =>
    Changes.ite (fun _ => hrec) fun _ => Works.requestPin (fun _ => hrec.addMig) h.hmCheck

theorem Works.doPin {v : Nat} (h : Works s u) : Works s (u.doPin v) := by
  unfold State.doPin
  dsimp only
  split
  · exact h
  · exact h.pin
  · exact Changes.ite (fun _ => h) fun _ => h.setPin.cancelWhere
  · exact h.err (by decide) (by decide) (by decide)

theorem Works.requestFor {x : Nat} (h : Works s u) : Works s (u.requestFor x) :=
  Changes.ite (fun _ => h.hmCheck) fun _ =>
    Changes.ite (fun _ => Works.requestPin (fun _ => h.hmCheck.setPin.setPin.addMig) h.hmCheck.setPin) fun _ =>
    Changes.ite (fun _ => h.hmCheck.requestEvac) fun _ => h.hmCheck

theorem Works.requestAgain (h : Works s u) : Works s u.requestAgain :=
  Changes.foldl (fun _ _ => Works.requestFor) (h.updPlc (by decide))

/-! ## Regions, and the writes that wait for the standby (R150 to R155) -/

theorem Works.setRegion {n : Nat} {r : RgnAlloc} (h : Works s u) : Works s (u.setRegion n r) := h.updPlc (by decide)

theorem Works.dropEmptyAllocs (h : Works s u) : Works s u.dropEmptyAllocs := h.updPlc (by decide)

theorem Works.setRres {a b c d : Nat} (h : Works s u) : Works s (u.setRres a b c d) :=
  (((h.setFld (by decide)).setFld (by decide)).setFld (by decide)).setFld (by decide)

theorem Works.rreqFails {a : Nat} (h : Works s u) : Works s (u.rreqFails a) :=
  h.setRres.err (by decide) (by decide) (by decide)

theorem Works.doRreq {v : Nat} (h : Works s u) : Works s (u.doRreq v) := by
  unfold State.doRreq
  dsimp only
  split
  · exact h.rreqFails
  split
  · exact h.rreqFails
  split
  · exact h.rreqFails
  split
  · exact h.rreqFails
  · exact Works.setRres (Changes.updPlc (by decide) (Changes.foldl (fun _ _ => Works.setRegion) h))

theorem Works.doRfree {v : Nat} (h : Works s u) : Works s (u.doRfree v) :=
  Changes.ite (fun _ => h.err (by decide) (by decide) (by decide)) fun _ =>
    Works.dropEmptyAllocs (Changes.foldl (fun _ _ => Works.setRegion) h)

theorem Works.doBtcmd {v : Nat} (h : Works s u) : Works s (u.doBtcmd v) :=
  Changes.ite (fun _ => h) fun _ =>
    Changes.ite (fun _ => ((h.setFld (by decide)).setFld (by decide)).updPlc (by decide)) fun _ =>
    h.err (by decide) (by decide) (by decide)

theorem Works.doPlc {o v : Nat} (h : Works s u) : Works s (u.doPlc o v) := by
  unfold State.doPlc
  split
  · exact ((h.setFld (by decide)).store (by decide)).store (by decide)
  · exact h.doExcl
  · exact h.setFld (by decide)
  · exact h.doPin
  · exact h.store (by decide)
  · exact h.doBtcmd
  · exact h.doRreq
  · exact h.doRfree
  · exact h.store (by decide)
  · exact h

theorem Works.heldWrite {x : Nat × Nat × Nat × Nat} (h : Works s u) : Works s (u.heldWrite x) :=
  (Works.doPlc (h.setFld (by decide))).setFld (by decide)

/-! ## Records, groups and the safe table (R62, R71 to R87) -/

theorem Works.setEcc {p g v : Nat} (h : Works s u) : Works s (u.setEcc p g v) := h.updCtx (by decide)

theorem Works.setWord {p a : Nat} {v : Word} (h : Works s u) : Works s (u.setSlotWord p a v) := h.setSlotWord (by decide)

theorem Works.devWord {p a : Nat} {v : Word} (h : Works s u) : Works s (u.devWord p a v) :=
  Changes.ite (fun _ => h) fun _ => h.setWord

theorem Works.cleanGroup {p g : Nat} (h : Works s u) : Works s (u.cleanGroup p g) := h.setEcc.updCtx (by decide)

theorem Works.fixCe {p g : Nat} (h : Works s u) : Works s (u.fixCe p g) := by
  have hcount : Works s ((u.setEcc p g 0).addSat pCTX CTX_ECCCNT_CE 1) := h.setEcc.addSat (by decide)
  unfold State.fixCe
  dsimp only
  split
  · exact (((Works.devWord hcount).err (by decide) (by decide) (by decide)).corrected (by decide)).log (by decide)
      (by decide) (by decide)
  · exact ((hcount.err (by decide) (by decide) (by decide)).corrected (by decide)).log (by decide) (by decide) (by decide)

theorem Works.safeRead {k : Nat} (h : Works s u) : Works s (u.safeRead k).2 := by
  unfold State.safeRead
  split
  · exact (((h.updCtx (by decide)).err (by decide) (by decide) (by decide)).contained (by decide)).log (by decide)
      (by decide) (by decide)
  · exact h

theorem Works.groupWrite {x a : Nat} {f : Word → Word} (h : Works s u) : Works s (u.groupWrite x a f) := by
  unfold State.groupWrite
  dsimp only
  split
  · exact Works.setWord (Changes.updCtx (by decide) h.hmCheck.cleanGroup)
  · exact h.hmCheck.setWord
  · exact h.hmCheck.fixCe.setWord

theorem Works.applyEntry {e : GEntry} (h : Works s u) : Works s (u.applyEntry e) := by
  cases e with
  | put x a v => rw [State.applyEntry]; exact h.groupWrite
  | set x a v => rw [State.applyEntry]; exact h.groupWrite
  | clr x a v => rw [State.applyEntry]; exact h.groupWrite
  | rel x => exact h

theorem Works.release {id x : Nat} (h : Works s u) : Works s (State.release id u x) :=
  Changes.ite (fun _ => Works.devWord (Works.devWord (Changes.setFld (by decide)
    (Changes.updCtx (by decide) h.qmapCheck)))) fun _ => h.qmapCheck

theorem Works.regroup {p g : Nat} (h : Works s u) : Works s (u.regroup p g) :=
  Changes.ite (fun _ => h.cleanGroup.updCtx (by decide)) fun _ => h

theorem Works.initRecord {x : Nat} (h : Works s u) : Works s (u.initRecord x) :=
  h.safeRead.regroup.setWord.setWord.setWord.setWord.regroup.setWord.setWord.regroup.setWord.setWord.setWord

theorem Works.setDue {x : Nat} (h : Works s u) : Works s (u.setDue x) := h.updCtx (by decide)

theorem Works.groupRecord {id : Nat} {o : Nat × Bool} (h : Works s u) : Works s (State.groupRecord id u o) :=
  (Works.devWord (Changes.ite (fun _ => h.initRecord) fun _ => h)).setDue

theorem Works.groupWords {id : Nat} {es : List GEntry} (h : Works s u) : Works s (u.groupWords id es) :=
  Changes.foldl (fun _ _ => Works.release) (Changes.foldl (fun _ _ => Works.groupRecord)
    (Changes.foldl (fun _ _ => Works.applyEntry) h))

theorem Works.clearHistory (h : Works s u) : Works s u.clearHistory := (h.setFld (by decide)).updPlc (by decide)

theorem Works.noteAccepted (h : Works s u) : Works s u.noteAccepted := by
  unfold State.noteAccepted
  split
  · exact h.setBit (by decide)
  · exact h

theorem Works.complete {id r : Nat} (h : Works s u) : Works s (u.complete id r) := by
  have hdone : Works s ((((u.noteLoadGroup id r).setFld pCTX CTX_GDONE_ID id).setFld pCTX CTX_GDONE_RESULT r).irq pCTX
      CTX_E_GDONE) :=
    (((Changes.updFls (by decide) h).setFld (by decide)).setFld (by decide)).irq (by decide) (by decide)
  have herr := Changes.err (p := pCTX) (b := CTX_E_GREF) (by decide) (by decide) (by decide) hdone
  exact Changes.ite (fun _ => hdone) fun _ => Changes.ite (fun _ => herr) fun _ =>
    ((herr.setFld (by decide)).setFld (by decide)).setFld (by decide)

theorem Works.completeRefused {gs : List Group} (h : Works s u) : Works s (State.completeRefused gs u) := by
  induction gs generalizing u with
  | nil => exact h.updCtx (by decide)
  | cons g gs ih =>
    rw [State.completeRefused]
    split
    · exact h.updCtx (by decide)
    · exact ih h.complete

theorem Works.flushRefused (h : Works s u) : Works s u.flushRefused := h.completeRefused

/-! ## Activation sets (R257 to R261) -/

theorem Works.asRefuse {a b : Nat} (h : Works s u) : Works s (u.asRefuse a b) := by
  refine Changes.updCfg (by decide) (Changes.setFld (by decide) (Changes.setFld (by decide) (Works.dropEmptyAllocs
    (Changes.foldl (fun _ _ => Works.setRegion) ?_))))
  exact ((h.setFld (by decide)).err (by decide) (by decide) (by decide)).log (by decide) (by decide) (by decide)

theorem Works.asShow (h : Works s u) : Works s u.asShow := by
  unfold State.asShow
  split
  · exact (h.setFld (by decide)).setFld (by decide)
  · exact (h.setFld (by decide)).setFld (by decide)

theorem Works.asDrop {a : AsSet} (h : Works s u) : Works s (u.asDrop a) :=
  Works.asRefuse (Changes.updCfg (by decide)
    (Changes.foldl (fun _ _ hv => Changes.ite (fun _ => Works.setRegion hv) fun _ => hv) h))

theorem Works.asPrepare (h : Works s u) : Works s u.asPrepare := by
  unfold State.asPrepare
  split
  · exact h
  · exact Changes.ite (fun _ => Changes.ite (fun _ => h.asDrop) fun _ => h.setFld (by decide)) fun _ => h

theorem Works.imageInForce {r : Nat} {live : Bool} (h : Works s u) : Works s (u.imageInForce r live) := by
  have hpins : ∀ v (x : Nat × Nat × Nat), Works s v →
      Works s ((v.setPincfg x.1 x.2.1 x.2.2).updIob x.1 fun i => { i with cfgd := true }) :=
    fun _ _ hv => Changes.updFab (by decide) (Changes.updFab (by decide) hv)
  refine Changes.ite (fun _ => h.updFab (by decide)) fun _ => Changes.foldl hpins (Changes.updFab (by decide) ?_)
  exact Changes.foldl (fun _ _ => Changes.updFab (by decide)) (h.updFab (by decide))

theorem Works.swapRegion {r : Nat} (h : Works s u) : Works s (u.swapRegion r) := by
  have hplanes : Works s ((u.setActive r (u.voile r)).setVoile r (u.active r)) :=
    Changes.updCfg (by decide) (Changes.updCfg (by decide) h)
  exact Works.imageInForce (Changes.ite (fun _ => hplanes) fun _ => hplanes.setRegion)

theorem Works.unloadRegion {r : Nat} (h : Works s u) : Works s (u.unloadRegion r) :=
  Changes.updFab (by decide) (Works.setRegion (Changes.updCfg (by decide) (Changes.updCfg (by decide) h)))

theorem Works.ctEffect (h : Works s u) : Works s u.ctEffect := by
  refine Changes.ite (fun _ => Works.clearHistory ?_) fun _ => ?_
  all_goals exact Changes.setFld (by decide) (Changes.updJer (by decide) (Changes.foldl (fun _ _ hv =>
    ((hv.setFld workKeys_pJE).setFld workKeys_pJE).updJer (by decide)) h))

theorem Works.asEffect {n : Nat} (h : Works s u) : Works s (u.asEffect n) := by
  unfold State.asEffect
  split
  · exact h
  case h_2 a _ =>
    refine Changes.irq (by decide) (by decide) (Works.asShow (Changes.updCfg (by decide) (Changes.setFld (by decide) ?_)))
    have hregions : ∀ v, Works s v → Works s (((inMask a.unld).foldl State.unloadRegion
        ((inMask a.swap).foldl State.swapRegion v)).dropEmptyAllocs) := fun v hv =>
      Works.dropEmptyAllocs (Changes.foldl (fun _ _ => Works.unloadRegion) (Changes.foldl (fun _ _ => Works.swapRegion) hv))
    have htable : ∀ v, Works s v → Works s (if a.ct then v.ctEffect else v) := fun v hv =>
      Changes.ite (fun _ => Works.ctEffect hv) fun _ => hv
    have hlate : ∀ v b, Works s v → Works s (if b = true then v.err pCFG CFG_E_ASLATE else v) := fun v b hv =>
      Changes.ite (fun _ => hv.err (by decide) (by decide) (by decide)) fun _ => hv
    exact hlate _ _ (Changes.setBit (by decide) (Changes.setFld (by decide)
      (htable _ (hregions _ (h.updFab (by decide))))))

theorem Works.asTake {n : Nat} (h : Works s u) : Works s (u.asTake n) := by
  unfold State.asTake
  split
  · exact h
  · exact Changes.ite (fun _ => h.asDrop) fun _ => h.asEffect

theorem Works.asBoundary {n : Nat} (h : Works s u) : Works s (u.asBoundary n) :=
  Changes.ite (fun _ => h.asTake) fun _ => h

/-! ## What the standby's acknowledgement lets the primary do (R55, R264) -/

theorem Works.mirrorGroups {f : Nat → Bool} (h : Works s u) : Works s (u.mirrorGroups f) :=
  (Works.noteAccepted (h.updCtx (by decide))).flushRefused

theorem Works.mirrorSet (h : Works s u) : Works s u.mirrorSet := by
  have hshow : Works s (u.updAs fun a => { a with mirrored := true }).asShow := Works.asShow (h.updCfg (by decide))
  exact Changes.ite (fun _ => hshow.asPrepare) fun _ => hshow

theorem Works.mirrorMaps (h : Works s u) : Works s u.mirrorMaps := Changes.ite (fun _ => h.commitMigs) fun _ => h

/-! ## Microcode repair and handover (R110, R168) -/

theorem Works.mcRewrite {k : Nat} (h : Works s u) : Works s (u.mcRewrite k) := by
  refine Changes.ite (fun _ => h) fun _ => ?_
  dsimp only
  split
  · exact Works.fatal (h.err (by decide) (by decide) (by decide))
  · exact (((h.updJer (by decide)).addSat (by decide)).corrected (by decide)).log (by decide) (by decide) (by decide)

theorem Works.mcSlack (h : Works s u) : Works s u.mcSlack :=
  Changes.foldl (fun _ _ => Works.mcRewrite) (h.updJer (by decide))

theorem Works.noteSafeSlots (h : Works s u) : Works s u.noteSafeSlots := h.qmapCheckAll.updCtx (by decide)

end

/-- The parts and fields of a handover: link transmit and its errors. -/
def handoverPieces : List Piece := [.lnk, .msi, .ring]

theorem Changes.handoverLink {s u : State} {c : List Nat} {l : Nat} (h : Changes s u handoverPieces workKeys) :
    Changes s (State.handoverLink c u l) handoverPieces workKeys := by
  have hbuilt := fun g => Changes.updLink (l := l) (g := g) (by decide) h
  refine Changes.ite (fun _ => hbuilt _) fun _ => Changes.ite (fun _ => (hbuilt _).raiseTo workKeys_pUL) fun _ => ?_
  exact (((((hbuilt _).raiseTo workKeys_pUL).addSat workKeys_pUL).err (by decide) workKeys_pUL workKeys_pUL).contained
    (by decide)).log (by decide) (by decide) (by decide)

theorem State.handover_changes (s : State) (c : List Nat) : Changes s (s.handover c) handoverPieces workKeys :=
  Changes.foldl (fun _ _ => Changes.handoverLink) (Changes.refl s _ _)

theorem Works.handover {s u : State} {c : List Nat} (h : Works s u) : Works s (u.handover c) :=
  h.works ((u.handover_changes c).mono (by decide) fun _ hk => hk) (fun _ ha => ha) fun _ hk => hk

end Sys2Proof.Machine

/-! # Ticks and the start of a frame (R13 to R25) -/

namespace Sys2Proof.Machine

/-! ## Ticks as they are issued (R13, R14, R18, R19) -/

/-- R14, R17: what a source that needs no sampling issues. -/
theorem State.issueTick_frm (s : State) (n : Nat) :
    (s.issueTick 1 0 n).frm = { s.frm with
      issued := if s.fld pFRM FRM_STAT_SRCACT = 1 then s.frm.issued ++ [⟨n, 1, 0, 0⟩] else s.frm.issued } := by
  by_cases h : s.fld pFRM FRM_STAT_SRCACT = 1 <;> simp [State.issueTick, State.tickLatency, h]

theorem State.tickLatency_changes (s : State) (src : Nat) : Changes s (s.tickLatency src).2 [.frm, .free] noField := by
  unfold State.tickLatency
  split
  · exact Changes.refl _ _ _
  · exact (Changes.refl _ _ _).takeFree (n := 1) (by decide)
  · exact Changes.refl _ _ _

theorem State.issueTick_changes (s : State) (src unit n : Nat) :
    Changes s (s.issueTick src unit n) [.frm, .free] noField :=
  Changes.ite (fun _ => (s.tickLatency_changes src).updFrm (by decide)) fun _ => Changes.refl _ _ _

theorem State.issueTick_timer_changes (s : State) (n : Nat) : Changes s (s.issueTick 1 0 n) [.frm] noField :=
  Changes.ite (fun _ => (Changes.refl _ _ _).updFrm (by decide)) fun _ => Changes.refl _ _ _

/-- R13: the fixed timer issues a tick and sets its next. -/
theorem fixedTimerTick_completes (s : State) (n : Nat) (h : s.frm.timerNext = some n) :
    Completes .fixedTimerTick s fun u =>
      u.frm = { s.frm with
        issued := if s.fld pFRM FRM_STAT_SRCACT = 1 then s.frm.issued ++ [⟨n, 1, 0, 0⟩] else s.frm.issued
        timerNext := some (n + s.timerNs) } ∧
      Changes (s.at_ n) u [.frm] noField := by
  have hissue := (s.at_ n).issueTick_timer_changes n
  have hns : ((s.at_ n).issueTick 1 0 n).timerNs = s.timerNs := by
    rw [State.timerNs, hissue.fld_eq rfl, hissue.fld_eq rfl]; rfl
  refine ⟨((s.at_ n).issueTick 1 0 n).updFrm fun f =>
    { f with timerNext := some (n + ((s.at_ n).issueTick 1 0 n).timerNs) }, ?_, ?_, hissue.updFrm (by decide)⟩
  · show Host.Outcome.next _ = _
    rw [h]
  · rw [State.updFrm_frm, State.issueTick_frm, hns]; rfl

/-- R18: TICK_IN, once the filter has passed it. -/
theorem execTickInEdge_accepted (s : State) (t : Time) (level : Bool) (stable : Time) (hup : s.pwr.up = true)
    (hclk : s.clkOn pFRM = true) (hlevel : level ≠ s.frm.tickIn) (hstable : s.fld pFRM FRM_TIO_TIN_FILT * 20 ≤ stable) :
    exec (.tickInEdge t level stable) s = .next (
      let a := (s.at_ t).updFrm fun f => { f with tickIn := level }
      if level = !s.bit pFRM FRM_TIO_TIN_POL then a.issueTick 2 0 (t + s.fld pFRM FRM_TIO_TIN_FILT * 20) else a) := by
  have hclk' : (s.at_ t).clkOn pFRM = true := (s.atTime_clkOn t pFRM (by decide)).trans hclk
  have hpol : ((s.at_ t).updFrm fun f => { f with tickIn := level }).bit pFRM FRM_TIO_TIN_POL =
    s.bit pFRM FRM_TIO_TIN_POL := rfl
  simp [exec, execTickInEdge, hup, hclk', hlevel, Nat.not_lt.mpr hstable, hpol]

/-- R14, R18: an accepted active edge issues a tick, which is registered 6 ns or 8 ns later. -/
theorem State.issueTick_pin (s : State) (n : Nat) (h : s.fld pFRM FRM_STAT_SRCACT = 2) :
    ∃ d : Nat, (d = 6 ∨ d = 8) ∧ (s.issueTick 2 0 n).frm = { s.frm with issued := s.frm.issued ++ [⟨n, 2, 0, d⟩] } := by
  have hissue : s.issueTick 2 0 n = (s.takeFree 1).2.updFrm fun f =>
      { f with issued := f.issued ++ [⟨n, 2, 0, 6 + 2 * (s.takeFree 1).1⟩] } := if_pos ⟨h, fun e => by cases e⟩
  have hlt : (s.takeFree 1).1 < 2 := Nat.mod_lt _ (by decide)
  exact ⟨6 + 2 * (s.takeFree 1).1, by omega, by rw [hissue]; rfl⟩

theorem tickInEdge_source (s : State) (t : Time) (level : Bool) (stable : Time) (hup : s.pwr.up = true)
    (hclk : s.clkOn pFRM = true) (hlevel : level ≠ s.frm.tickIn) (hstable : s.fld pFRM FRM_TIO_TIN_FILT * 20 ≤ stable)
    (hsrc : s.fld pFRM FRM_STAT_SRCACT = 2) (hpol : level = !s.bit pFRM FRM_TIO_TIN_POL) :
    Completes (.tickInEdge t level stable) s fun u => ∃ d, (d = 6 ∨ d = 8) ∧
      u.frm = { s.frm with
        tickIn := level, issued := s.frm.issued ++ [⟨t + s.fld pFRM FRM_TIO_TIN_FILT * 20, 2, 0, d⟩] } ∧
      Changes (s.at_ t) u [.frm, .free] noField := by
  let a := (s.at_ t).updFrm fun f => { f with tickIn := level }
  obtain ⟨d, hd, hfrm⟩ := a.issueTick_pin (t + s.fld pFRM FRM_TIO_TIN_FILT * 20) hsrc
  exact ⟨_, (execTickInEdge_accepted s t level stable hup hclk hlevel hstable).trans (congrArg _ (if_pos hpol)), d, hd, hfrm,
    ((Changes.refl _ _ _).updFrm (by decide)).trans (a.issueTick_changes _ _ _)⟩

theorem tickInEdge_other (s : State) (t : Time) (level : Bool) (stable : Time) (hup : s.pwr.up = true)
    (hclk : s.clkOn pFRM = true) (hlevel : level ≠ s.frm.tickIn) (hstable : s.fld pFRM FRM_TIO_TIN_FILT * 20 ≤ stable)
    (hno : s.fld pFRM FRM_STAT_SRCACT ≠ 2 ∨ level ≠ !s.bit pFRM FRM_TIO_TIN_POL) :
    Completes (.tickInEdge t level stable) s fun u =>
      u.frm = { s.frm with tickIn := level } ∧ Changes (s.at_ t) u [.frm] noField := by
  refine ⟨(s.at_ t).updFrm fun f => { f with tickIn := level }, ?_, rfl, (Changes.refl _ _ _).updFrm (by decide)⟩
  rw [execTickInEdge_accepted s t level stable hup hclk hlevel hstable]
  dsimp only
  split
  case isTrue hpol => exact congrArg _ (if_neg fun ⟨hsrc, _⟩ => hno.elim (· hsrc) (· hpol))
  case isFalse => rfl

theorem execTickInEdge_short (s : State) (t : Time) (level : Bool) (stable : Time)
    (h : stable < s.fld pFRM FRM_TIO_TIN_FILT * 20) : exec (.tickInEdge t level stable) s = .next (s.at_ t) := by
  simp [exec, execTickInEdge, h]

/-! ## The start of a frame (R22, R23, R25) -/

/-- The parts that the start of a frame may change. -/
def startPieces : List Piece := .frm :: .twn :: .free :: workPieces

/-- What waits for a boundary comes into force, and the frame number rises (R15, R17, R25, R54, R68). -/
def State.startInForce (s : State) (t : Nat) (ended : Bool) : State :=
  let full := !s.frm.empty
  let s := s.setFn s.nextFn
  let s := (s.minperNow.sourceNow t).placeBoundary
  let s := if ended then s.noteOnce full else s
  (s.asBoundary s.fn).tablesNow

/-- The frame is idle or not, and its samples, angles and records are captured (R25, R27, R81, R97). -/
def State.startCapture (s : State) (idle : Bool) (snap : Option (List Word)) : State :=
  let s := s.setBit pFRM FRM_STAT_IDLE idle
  let s := if idle then s.addWrap pFRM FRM_IDLECNT_IDLE 1 else s
  let s := s.capture
  let s := match snap with
    | some ws => s.updJer fun j => { j with snap := SMap.putAll 0 [] 0 ws }
    | none => s.latchSnapshot idle
  s.updCtx fun c =>
    { c with
      bstore := c.store, becc := c.ecc, bflip := c.flip, bhome := s.plc.home, bquar := c.quar, bvalid := true
      safeSlots := [] }

/-- R25: the frame controller at the start of a frame. -/
def Frm.started (f : Frm) (t : Nat) (empty : Bool) : Frm :=
  { f with
    start := t, last := some t, inFrame := true, held := false, fromStop := false, empty := empty
    computed := false, deadline := false, window := false }

/-- The frame's outputs, ports, engines and record start (R19, R25, R166, R353). -/
def State.startOutputs (s : State) (t old : Nat) (idle ended full set : Bool) (visits : List Nat) : State :=
  let s := (s.frameFlit t idle).tickOutPulse t idle
  let s := (List.range 128).foldl (State.portFrame t old ended full) s
  let s := s.qmapCheckAll s.dueHandles
  let s := (List.range 32).foldl (fun s e => s.startEngine s.fn e) s
  let s := s.sendRecord idle visits false set
  s.updTwn fun w => { w with applied := [] }

theorem State.startFrame_eq (s : State) (t : Nat) (idle ended : Bool) (snap : Option (List Word)) :
    ∃ old full set visits, s.startFrame t idle ended snap =
      (((s.startInForce t ended).startCapture idle snap).updFrm fun f =>
        f.started t (idle && !((s.startInForce t ended).startCapture idle snap).bit pFRM FRM_CTRL_IDLERUN)).startOutputs
          t old idle ended full set visits := ⟨_, _, _, _, rfl⟩

section
variable {s u : State} {t : Nat}

theorem Changes.minperNow (h : Changes s u startPieces workKeys) : Changes s u.minperNow startPieces workKeys := by
  unfold State.minperNow
  split
  · exact ((h.setFld (by decide)).noteFallback (by decide)).updFrm (by decide)
  · exact h

theorem Changes.sourceNow (h : Changes s u startPieces workKeys) : Changes s (u.sourceNow t) startPieces workKeys := by
  unfold State.sourceNow
  split
  · exact Changes.irq (by decide) (by decide) (Changes.startTimer (by decide) (Changes.updFrm (by decide)
      (Changes.updFrm (by decide) ((h.setFld (by decide)).setFld (by decide)))))
  · exact h

theorem Changes.workStart {w : State} (h : Changes s u startPieces workKeys) (hw : Works u w) :
    Changes s w startPieces workKeys := h.works hw (by decide) fun _ hk => hk

theorem Changes.placeBoundary (h : Changes s u startPieces workKeys) : Changes s u.placeBoundary startPieces workKeys := by
  have hheld := Changes.foldl (f := State.heldWrite) (xs := u.twn.due) (fun _ _ => Works.heldWrite)
    (Changes.refl ((u.updPlc fun p => { p with done := [], made := 0, wrote := [] }).updTwn fun w => { w with due := [] }) _ _)
  exact ((h.updPlc (by decide)).updTwn (by decide)).workStart (Works.includeNow (Works.requestAgain hheld))

theorem Changes.noteOnce {full : Bool} (h : Changes s u startPieces workKeys) :
    Changes s (u.noteOnce full) startPieces workKeys :=
  Changes.foldl (fun _ _ hv => Changes.ite (fun _ => hv.updCtx (by decide)) fun _ => hv) h

/-- What comes into force leaves the new frame number. -/
theorem State.startInForce_changes (s : State) (t : Nat) (ended : Bool) :
    Changes (s.setFn s.nextFn) (s.startInForce t ended) startPieces workKeys := by
  have hplaced := (((Changes.refl (s.setFn s.nextFn) startPieces workKeys).minperNow).sourceNow (t := t)).placeBoundary
  have honce := Changes.ite (c := ended = true) (fun _ => hplaced.noteOnce (full := !s.frm.empty)) fun _ => hplaced
  exact (honce.workStart (Works.asBoundary (Changes.refl _ _ _))).updCtx (by decide)

theorem State.nearest_changes (s : State) (a b : Nat) : Changes s (s.nearest a b).2 startPieces workKeys := by
  unfold State.nearest
  dsimp only
  split
  · exact Changes.refl _ _ _
  split
  · exact Changes.refl _ _ _
  · exact (Changes.refl _ _ _).takeFree (n := 1) (by decide)

theorem State.snapTpd_changes (s : State) (i : Nat) (idle : Bool) :
    Changes s (s.snapTpd i idle).2 startPieces workKeys := by
  unfold State.snapTpd
  dsimp only
  split
  · exact s.nearest_changes _ _
  · exact Changes.refl _ _ _

theorem Changes.latchSnapshot {idle : Bool} (h : Changes s u startPieces workKeys) :
    Changes s (u.latchSnapshot idle) startPieces workKeys := by
  refine Changes.foldl (fun v i hv => ?_) h
  unfold State.snapUnit
  dsimp only
  split
  · exact (hv.trans (v.snapTpd_changes i idle)).updJer (by decide)
  · exact hv.updJer (by decide)

theorem State.startCapture_changes (s : State) (idle : Bool) (snap : Option (List Word)) :
    Changes (s.setBit pFRM FRM_STAT_IDLE idle) (s.startCapture idle snap) startPieces workKeys := by
  have hidle := Changes.ite (c := idle = true)
    (fun _ => (Changes.refl (s.setBit pFRM FRM_STAT_IDLE idle) startPieces workKeys).addWrap
      (p := pFRM) (f := FRM_IDLECNT_IDLE) (v := 1) (by decide)) fun _ => Changes.refl _ _ _
  unfold State.startCapture
  dsimp only
  split
  · exact ((hidle.updCtx (by decide)).updJer (by decide)).updCtx (by decide)
  · exact Changes.updCtx (by decide) (Changes.latchSnapshot (hidle.updCtx (by decide)))

/-- The parts that the outputs of a frame start may change, beside the pulse of TICK_OUT. -/
def outputPieces : List Piece := .twn :: workPieces

theorem Changes.portFrame {n l : Nat} {run full : Bool} (h : Changes s u outputPieces workKeys) :
    Changes s (State.portFrame t n run full u l) outputPieces workKeys :=
  Changes.ite (fun _ => h.updLink (by decide)) fun _ => Changes.updLink (by decide) (h.setFld workKeys_pUL)

theorem Changes.frameFlit {idle : Bool} (h : Changes s u outputPieces workKeys) :
    Changes s (u.frameFlit t idle) outputPieces workKeys :=
  Changes.foldl (fun _ _ => Changes.updFab (by decide)) h

theorem Changes.checkMaps {xs : List Nat} (h : Changes s u outputPieces workKeys) :
    Changes s (u.qmapCheckAll xs) outputPieces workKeys :=
  h.works (Works.qmapCheckAll (Changes.refl _ _ _)) (by decide) fun _ hk => hk

theorem Changes.startEngines {es : List Nat} (h : Changes s u outputPieces workKeys) :
    Changes s (es.foldl (fun v e => v.startEngine v.fn e) u) outputPieces workKeys :=
  Changes.foldl (fun _ _ hv => hv.updEng (by decide)) h

theorem Changes.sendRecord {idle sw set : Bool} {visits : List Nat} (h : Changes s u outputPieces workKeys) :
    Changes s (u.sendRecord idle visits sw set) outputPieces workKeys :=
  Changes.ite (fun _ => h) fun _ => h.updTwn (by decide)

/-- After the pulse of TICK_OUT the frame controller stands. -/
theorem State.startOutputs_changes (s : State) (t old : Nat) (idle ended full set : Bool) (visits : List Nat) :
    Changes ((s.frameFlit t idle).tickOutPulse t idle) (s.startOutputs t old idle ended full set visits) outputPieces
      workKeys := by
  have hports := Changes.foldl (f := State.portFrame t old ended full) (xs := List.range 128) (fun _ _ => Changes.portFrame)
    (Changes.refl ((s.frameFlit t idle).tickOutPulse t idle) outputPieces workKeys)
  unfold State.startOutputs
  dsimp only
  exact Changes.updTwn (by decide) (Changes.sendRecord (Changes.startEngines (Changes.checkMaps hports)))

end

/-- R22: the frame number has 48 bits. -/
theorem State.fn_setFn (s : State) (n : Nat) : (s.setFn n).fn = n % 2 ^ 48 := by
  have hlo : (s.setFn n).fld pFRM FRM_FN_LO_FN = n % 2 ^ 32 := by
    simp (disch := decide) [State.setFn, State.fld_setFld_ne, FRM_FN_LO_FN]
  have hhi : (s.setFn n).fld pFRM FRM_FN_HI_FN = n / 2 ^ 32 % 2 ^ 16 := by
    simp [State.setFn, FRM_FN_HI_FN]
  rw [State.fn, hlo, hhi]
  omega

/-- The frame number is that of its two fields. -/
theorem Changes.fn_eq {s u : State} {ps : List Piece} {K : Nat → Bool} (h : Changes s u ps K)
    (hlo : K (fldKey pFRM FRM_FN_LO_FN) = false) (hhi : K (fldKey pFRM FRM_FN_HI_FN) = false) : u.fn = s.fn := by
  rw [State.fn, State.fn, h.fld_eq hlo, h.fld_eq hhi]

theorem State.frameFlit_changes (s : State) (t : Nat) (idle : Bool) :
    Changes s (s.frameFlit t idle) outputPieces workKeys := (Changes.refl _ _ _).frameFlit

/-- What may change at the outputs of a frame start leaves the frame controller. -/
theorem Changes.frm_of_outputs {s u : State} {K : Nat → Bool} (h : Changes s u outputPieces K) : u.frm = s.frm :=
  show (u.blank outputPieces).frm = (s.blank outputPieces).frm by rw [h.1]

/-- R19: the outputs of a frame start change TICK_OUT of the frame controller, and no other part of it. -/
theorem State.startOutputs_frm (s : State) (t old : Nat) (idle ended full set : Bool) (visits : List Nat) :
    ∃ on till, (s.startOutputs t old idle ended full set visits).frm = { s.frm with tickOut := on, tickOutEnd := till } := by
  rw [(s.startOutputs_changes t old idle ended full set visits).frm_of_outputs, ← (s.frameFlit_changes t idle).frm_of_outputs]
  exact ⟨_, _, rfl⟩

/-- They leave the fields that all such work leaves. -/
theorem State.startOutputs_fld (s : State) (t old : Nat) (idle ended full set : Bool) (visits : List Nat) {p : Nat} {f : Fld}
    (hk : workKeys (fldKey p f) = false) : (s.startOutputs t old idle ended full set visits).fld p f = s.fld p f :=
  ((s.startOutputs_changes t old idle ended full set visits).fld_eq hk).trans ((s.frameFlit_changes t idle).fld_eq hk)

/-- R22, R23, R25: what the start of a frame leaves. -/
theorem State.startFrame_started (s : State) (t : Nat) (idle ended : Bool) (snap : Option (List Word)) :
    let u := s.startFrame t idle ended snap
    u.fn = s.nextFn % 2 ^ 48 ∧ u.fld pFRM FRM_STAT_IDLE = idle.toNat ∧
    u.frm.start = t ∧ u.frm.last = some t ∧ u.frm.inFrame = true ∧ u.frm.held = false ∧
    u.frm.computed = false ∧ u.frm.deadline = false ∧ u.frm.window = false ∧ u.frm.fromStop = false := by
  obtain ⟨old, full, set, visits, hstart⟩ := s.startFrame_eq t idle ended snap
  dsimp only
  rw [hstart]
  set c := ((s.startInForce t ended).startCapture idle snap).updFrm _ with hc
  have hcap := (s.startInForce t ended).startCapture_changes idle snap
  have hfn : c.fn = s.nextFn % 2 ^ 48 := by
    have hbit : ((s.startInForce t ended).setBit pFRM FRM_STAT_IDLE idle).fn = (s.startInForce t ended).fn := by
      rw [State.fn, State.fn, State.fld_setBit_ne _ _ _ _ _ _ (by decide), State.fld_setBit_ne _ _ _ _ _ _ (by decide)]
    calc c.fn = ((s.startInForce t ended).setBit pFRM FRM_STAT_IDLE idle).fn := hcap.fn_eq (by decide) (by decide)
      _ = (s.setFn s.nextFn).fn := hbit.trans ((s.startInForce_changes t ended).fn_eq (by decide) (by decide))
      _ = s.nextFn % 2 ^ 48 := s.fn_setFn _
  have hidle : c.fld pFRM FRM_STAT_IDLE = idle.toNat := by
    refine (hcap.fld_eq (by decide)).trans ((State.fld_setBit_same _ _ _ _).trans ?_)
    cases idle <;> rfl
  obtain ⟨on, till, hfrm⟩ := c.startOutputs_frm t old idle ended full set visits
  refine ⟨?_, (c.startOutputs_fld t old idle ended full set visits (by decide)).trans hidle, ?_⟩
  · rw [State.fn, c.startOutputs_fld t old idle ended full set visits (by decide),
      c.startOutputs_fld t old idle ended full set visits (by decide)]
    exact hfn
  · rw [hfrm]
    exact ⟨rfl, rfl, rfl, rfl, rfl, rfl, rfl, rfl⟩

/-! ## Boundaries that start a frame (R13, R16, R20) -/

/-- R12, R25: at a boundary where neither HOLD nor a planned switch is due, the next frame starts. -/
theorem State.boundary_started (s : State) (t : Nat) (idle : Bool) (h : s.startsAt t) :
    s.started (s.boundary t idle none) t idle := by
  obtain ⟨hhold, hswitch⟩ := h
  have hstart : s.boundary t idle none = (s.ended t).startFrame t idle s.frm.inFrame none := by
    show (match (s.ended t).holdCause (s.overruns t) with
      | some c => (s.ended t).enterHold t c
      | none => if (s.ended t).twn.switch then (s.ended t).switchOver t idle
          else (s.ended t).startFrame t idle s.frm.inFrame none) = _
    rw [show (s.ended t).holdCause (s.overruns t) = none from hhold]
    exact if_neg (by rw [hswitch]; decide)
  rw [hstart]
  exact (s.ended t).startFrame_started t idle s.frm.inFrame none

/-- A boundary at `t` moves device time there itself. -/
theorem State.boundary_atTime (s : State) (t : Nat) (idle : Bool) (snap : Option (List Word)) :
    (s.at_ t).boundary t idle snap = s.boundary t idle snap := by
  rw [State.boundary, State.boundary, State.atTime_atTime]

/-- R16: a tick that is registered with none held, and no earlier than MINPER_ACT allows, is a boundary. -/
theorem State.register_boundary (s : State) (t : Nat) (hheld : s.frm.held = false)
    (hlast : ∀ l, s.frm.last = some l → l + s.period ≤ t) : s.register t = s.boundary t false none := by
  have hper : (s.at_ t).period = s.period := rfl
  rw [State.register, State.atTime_frm, if_neg (by simp [hheld])]
  split
  case h_1 l hl => rw [if_neg (Nat.not_lt.mpr (by rw [hper]; exact hlast l hl)), State.boundary_atTime]
  case h_2 => exact s.boundary_atTime t false none

theorem tickRegistration_starts (s : State) (k : Tick) (ks : List Tick) (hrun : s.frmState = 1)
    (hissued : s.frm.issued = k :: ks) (hrole : s.role ≠ 2) (hheld : s.frm.held = false)
    (hlast : ∀ l, s.frm.last = some l → l + s.period ≤ k.registers) (hstart : (s.withIssued ks).startsAt k.registers) :
    Completes .tickRegistration s fun u => (s.withIssued ks).started u k.registers false := by
  refine ⟨(s.withIssued ks).boundary k.registers false none, ?_, (s.withIssued ks).boundary_started _ _ hstart⟩
  have hreg := (s.withIssued ks).register_boundary k.registers hheld hlast
  show execTickRegistration s = _
  rw [execTickRegistration, hissued, ← hreg]
  exact congrArg _ ((if_neg (not_not.mpr hrun)).trans (if_neg hrole))

theorem heldTick_starts (s : State) (l : Nat) (hrun : s.frmState = 1) (hheld : s.frm.held = true)
    (hlast : s.frm.last = some l) (htime : s.time ≤ l + s.period) (hstart : s.unheld.startsAt (l + s.period)) :
    Completes .heldTick s fun u => s.unheld.started u (l + s.period) false := by
  refine ⟨s.unheld.boundary (l + s.period) false none, ?_, s.unheld.boundary_started _ _ hstart⟩
  have hmax : Nat.max s.time (l + s.period) = l + s.period := Nat.max_eq_right htime
  show execHeldTick s = _
  rw [execHeldTick, if_pos ⟨hheld, hrun⟩, hlast]
  show Host.Outcome.next (s.unheld.boundary (Nat.max s.time (l + s.period)) false none) = _
  rw [hmax]

theorem fallbackExpiry_starts (s : State) (t : Nat) (hrun : s.frmState = 1) (hrole : s.role ≠ 2)
    (hheld : s.frm.held = false) (ht : t = Nat.max s.time s.fallbackDue)
    (hticks : ∀ k ∈ s.frm.issued.head?, t < k.registers) (hstart : s.startsAt t) :
    Completes .fallbackExpiry s fun u => s.started u t true := by
  have hfirst : s.tickFirst = false := by
    unfold State.tickFirst
    split
    case h_1 k ks hk =>
      have hlt := hticks k (by rw [hk]; rfl)
      have hdue : s.fallbackDue ≤ t := ht ▸ Nat.le_max_right _ _
      exact decide_eq_false (Nat.not_le.mpr (Nat.lt_of_le_of_lt hdue hlt))
    case h_2 => rfl
  refine ⟨s.boundary t true none, ?_, s.boundary_started t true hstart⟩
  show execFallbackExpiry s = _
  rw [execFallbackExpiry, if_pos ⟨hrun, hrole, hheld, hfirst⟩, ← ht]

/-- Settles O2: a source's tick joins those issued, and a boundary at which nothing else is due starts a frame. -/
theorem ticksAndFrameStarts : Obligations.TicksAndFrameStarts :=
  ⟨fun s => ⟨fun n hn => fixedTimerTick_completes s n hn,
    fun t level stable hup hclk hlevel hstable =>
      ⟨fun hsrc hpol => tickInEdge_source s t level stable hup hclk hlevel hstable hsrc hpol,
        fun hno => tickInEdge_other s t level stable hup hclk hlevel hstable hno⟩,
    fun t level stable h => ⟨_, execTickInEdge_short s t level stable h, rfl⟩,
    fun hout => ⟨(s.at_ s.frm.tickOutEnd).updFrm fun f => { f with tickOut := false },
      congrArg Host.Outcome.next (if_pos hout), rfl, (Changes.refl _ _ _).updFrm (by decide)⟩⟩,
   fun s hrun => ⟨fun k ks hissued hrole hheld hlast hstart =>
      tickRegistration_starts s k ks hrun hissued hrole hheld hlast hstart,
    fun l hheld hlast htime hstart => heldTick_starts s l hrun hheld hlast htime hstart,
    fun t hrole hheld ht hticks hstart => fallbackExpiry_starts s t hrun hrole hheld ht hticks hstart⟩⟩

end Sys2Proof.Machine

/-! # The end of compute and the apply deadline (R29 to R35, R168) -/

namespace Sys2Proof.Machine

/-! ## The actions of an apply window (R31) -/

/-- From `s` to `u` the actions of an apply window have been done: beside the work of placement, contexts and activation,
the groups that applied are noted, and no record that waits is touched. -/
def WindowWorks (s u : State) : Prop :=
  Changes s u (.twn :: workPieces) workKeys ∧ u.twn.gotRec = s.twn.gotRec

section
variable {s u w : State}

theorem Works.window (h : Works s u) : WindowWorks s u :=
  ⟨h.mono (fun _ ha => List.mem_cons_of_mem _ ha) fun _ hk => hk, congrArg Twn.gotRec h.twn⟩

theorem WindowWorks.trans (h : WindowWorks s u) (h' : WindowWorks u w) : WindowWorks s w :=
  ⟨Changes.trans h.1 h'.1, h'.2.trans h.2⟩

theorem WindowWorks.fld (h : WindowWorks s u) {p : Nat} {f : Fld} (hk : workKeys (fldKey p f) = false) :
    u.fld p f = s.fld p f := h.1.fld_eq hk

theorem WindowWorks.frm (h : WindowWorks s u) : u.frm = s.frm :=
  show (u.blank (.twn :: workPieces)).frm = (s.blank (.twn :: workPieces)).frm by rw [h.1.1]

theorem WindowWorks.time (h : WindowWorks s u) : u.time = s.time :=
  show (u.blank (.twn :: workPieces)).time = (s.blank (.twn :: workPieces)).time by rw [h.1.1]

end

theorem State.applyGroup_windowWorks (s : State) (g : Group) : WindowWorks s (s.applyGroup g) := by
  have hwords : Works s (s.groupWords g.id g.entries) := Works.groupWords (Changes.refl _ _ _)
  have hclear : ∀ b : Bool, Works s (if b then (s.groupWords g.id g.entries).clearHistory
      else s.groupWords g.id g.entries) := fun _ => Changes.ite (fun _ => hwords.clearHistory) fun _ => hwords
  exact (hclear _).window.trans (WindowWorks.trans ⟨Changes.updTwn (by decide) (Changes.refl _ _ _), rfl⟩
    (Works.window (Works.complete (Changes.refl _ _ _))))

theorem State.applyWindow_windowWorks (gs : List Group) (left : Nat) (s : State) :
    WindowWorks s (State.applyWindow gs left s).1 := by
  induction gs generalizing left s with
  | nil => exact Works.window (Changes.updCtx (by decide) (Changes.refl _ _ _))
  | cons g gs ih =>
    rw [State.applyWindow]
    split
    · exact (Works.window (Works.complete (Changes.refl _ _ _))).trans (ih left _)
    · split
      · exact (s.applyGroup_windowWorks g).trans (ih _ _)
      · exact Works.window (Changes.updCtx (by decide) (Changes.refl _ _ _))

theorem State.applyFirst_windowWorks (s : State) (n left : Nat) : WindowWorks s (s.applyFirst n left) := by
  have hfirst : WindowWorks s (s.updCtx fun c => { c with waiting := c.waiting.take n }) :=
    Works.window (Changes.updCtx (by decide) (Changes.refl _ _ _))
  have happly := hfirst.trans (State.applyWindow_windowWorks (s.ctx.waiting.take n) left _)
  exact happly.trans (Works.window (Works.asPrepare (Works.commitMigs (Changes.updPlc (by decide)
    (Changes.updCtx (by decide) (Changes.refl _ _ _))))))

/-! ## The end of compute (R29, R30) -/

/-- R29: CMPEND and CMPMAX at the end of compute, `n` ns after the frame's start. -/
def State.showCompute (s : State) (n : Nat) : State :=
  if s.frm.empty then s
  else (s.setFld pFRM FRM_CMPEND_END ((n + 9) / 10)).raiseTo pFRM FRM_CMPMAX_MAX ((n + 9) / 10)

/-- R29: compute has ended, with an apply window or without. -/
def State.computeNoted (s : State) (n : Nat) (window : Bool) : State :=
  ((s.at_ (s.frm.start + n)).showCompute n).noteSafeSlots.mcSlack.updFrm fun f =>
    { f with computed := true, window := window }

theorem State.showCompute_changes (s : State) (n : Nat) :
    Changes s (s.showCompute n) [] (fields [(pFRM, FRM_CMPEND_END), (pFRM, FRM_CMPMAX_MAX)]) :=
  Changes.ite (fun _ => Changes.refl _ _ _) fun _ => ((Changes.refl _ _ _).setFld (by decide)).raiseTo (by decide)

theorem State.showCompute_frm (s : State) (n : Nat) : (s.showCompute n).frm = s.frm :=
  show ((s.showCompute n).blank []).frm = (s.blank []).frm by rw [(s.showCompute_changes n).1]

theorem State.showCompute_time (s : State) (n : Nat) : (s.showCompute n).time = s.time :=
  show ((s.showCompute n).blank []).time = (s.blank []).time by rw [(s.showCompute_changes n).1]

theorem State.showCompute_twn (s : State) (n : Nat) : (s.showCompute n).twn = s.twn :=
  show ((s.showCompute n).blank []).twn = (s.blank []).twn by rw [(s.showCompute_changes n).1]

/-- R29: CMPEND in units of 10 ns, and the largest that CMPEND has been. -/
theorem State.showCompute_fields (s : State) (n : Nat) (h : s.frm.empty = false) :
    (s.showCompute n).fld pFRM FRM_CMPEND_END = (n + 9) / 10 % 2 ^ 20 ∧
    (s.showCompute n).fld pFRM FRM_CMPMAX_MAX =
      Nat.max (s.fld pFRM FRM_CMPMAX_MAX) (Nat.min ((n + 9) / 10) (2 ^ 20 - 1)) % 2 ^ 20 := by
  have hshow : s.showCompute n =
      (s.setFld pFRM FRM_CMPEND_END ((n + 9) / 10)).raiseTo pFRM FRM_CMPMAX_MAX ((n + 9) / 10) :=
    if_neg (by simp [h])
  rw [hshow]
  constructor
  · rw [State.fld_raiseTo_ne _ _ _ _ _ _ (by decide), State.fld_setFld_same]; rfl
  · rw [State.raiseTo, State.fld_setFld_same, State.fld_setFld_ne _ _ _ _ _ _ (by decide)]; rfl

theorem State.showCompute_empty (s : State) (n : Nat) (h : s.frm.empty = true) : s.showCompute n = s := if_pos h

theorem State.computeNoted_works (s : State) (n : Nat) :
    Works ((s.at_ (s.frm.start + n)).showCompute n) ((s.at_ (s.frm.start + n)).showCompute n).noteSafeSlots.mcSlack :=
  Works.mcSlack (Works.noteSafeSlots (Changes.refl _ _ _))

/-- The fields of FRM and of TWN stand as the end of compute shows them. -/
theorem State.computeNoted_fld (s : State) (n : Nat) (window : Bool) {p : Nat} {f : Fld}
    (hk : workKeys (fldKey p f) = false) :
    (s.computeNoted n window).fld p f = ((s.at_ (s.frm.start + n)).showCompute n).fld p f :=
  (s.computeNoted_works n).fld_eq hk

theorem State.computeNoted_frm (s : State) (n : Nat) (window : Bool) :
    (s.computeNoted n window).frm = { s.frm with computed := true, window := window } := by
  rw [State.computeNoted, State.updFrm_frm, (s.computeNoted_works n).frm, State.showCompute_frm]
  rfl

theorem State.computeNoted_time (s : State) (n : Nat) (window : Bool) :
    (s.computeNoted n window).time = s.timeAt (s.frm.start + n) :=
  (s.computeNoted_works n).time.trans (State.showCompute_time _ _)

theorem State.computeNoted_twn (s : State) (n : Nat) (window : Bool) : (s.computeNoted n window).twn = s.twn :=
  (s.computeNoted_works n).twn.trans (State.showCompute_twn _ _)

theorem State.computeNoted_role (s : State) (n : Nat) (window : Bool) : (s.computeNoted n window).role = s.role :=
  (s.computeNoted_fld n window (by decide)).trans ((State.showCompute_changes _ _).fld_eq (by decide))

/-- What the apply deadline does before it is noted. -/
theorem State.deadline_works (s : State) : Works s (s.handover []).uncopy :=
  Works.uncopy (Works.handover (Changes.refl _ _ _))

theorem State.deadlineNow_frm (s : State) : s.deadlineNow.frm = { s.frm with deadline := true } := by
  rw [State.deadlineNow, State.updFrm_frm, s.deadline_works.frm]

theorem State.deadlineNow_time (s : State) : s.deadlineNow.time = s.time := by
  rw [State.deadlineNow, State.updFrm_time, s.deadline_works.time]

theorem State.deadlineNow_twn (s : State) : s.deadlineNow.twn = s.twn := by
  rw [State.deadlineNow, State.updFrm_twn, s.deadline_works.twn]

theorem State.deadlineNow_fld (s : State) {p : Nat} {f : Fld} (hk : workKeys (fldKey p f) = false) :
    s.deadlineNow.fld p f = s.fld p f := by
  rw [State.deadlineNow, State.updFrm_fld, s.deadline_works.fld_eq hk]

/-- R30, R31, R35: at the end of compute the window's actions follow, or the apply deadline has come. -/
theorem State.endCompute_eq (s : State) (hrole : s.role ≠ 2) (hopen : s.frm.deadline = false) :
    let c := s.computeNoted s.computeNs (decide (s.computeNs < s.period - 2000))
    s.endCompute = if s.computeNs < s.period - 2000 then c.applyFirst c.ctx.waiting.length c.windowCycles
      else c.deadlineNow := by
  have hwindow : (!(s.at_ (s.frm.start + s.computeNs)).frm.deadline &&
      decide (s.computeNs < (s.at_ (s.frm.start + s.computeNs)).period - 2000)) =
      decide (s.computeNs < s.period - 2000) := by
    have hper : (s.at_ (s.frm.start + s.computeNs)).period = s.period := rfl
    rw [State.atTime_frm, hopen, hper, Bool.not_false, Bool.true_and]
  intro c
  have hc : c.role ≠ 2 := (s.computeNoted_role _ _).trans_ne hrole
  show (if (s.computeNoted s.computeNs _).role = 2 then _ else if _ then _ else _) = _
  rw [hwindow, if_neg hc]
  simp only [decide_eq_true_eq]
  rfl

/-- R29, R30: what the end of compute leaves, in a frame with a window or without. -/
theorem State.endCompute_spec (s : State) (hrole : s.role ≠ 2) (hopen : s.frm.deadline = false) :
    let window := decide (s.computeNs < s.period - 2000)
    s.endCompute.twn.gotRec = s.twn.gotRec ∧ s.endCompute.time = s.timeAt (s.frm.start + s.computeNs) ∧
    s.endCompute.frm = { s.frm with computed := true, window := window, deadline := !window } ∧
    ∀ p f, workKeys (fldKey p f) = false →
      s.endCompute.fld p f = ((s.at_ (s.frm.start + s.computeNs)).showCompute s.computeNs).fld p f := by
  intro window
  have hend := s.endCompute_eq hrole hopen
  dsimp only at hend
  rw [hend]
  set c := s.computeNoted s.computeNs (decide (s.computeNs < s.period - 2000)) with hc
  have htwn : c.twn = s.twn := s.computeNoted_twn _ _
  have htime := s.computeNoted_time s.computeNs (decide (s.computeNs < s.period - 2000))
  have hfrm := s.computeNoted_frm s.computeNs (decide (s.computeNs < s.period - 2000))
  rw [← hc] at htime hfrm
  split
  case isTrue h =>
    have happly := c.applyFirst_windowWorks c.ctx.waiting.length c.windowCycles
    refine ⟨happly.2.trans (congrArg Twn.gotRec htwn), happly.time.trans htime, ?_, fun p f hk =>
      (happly.fld hk).trans (s.computeNoted_fld _ _ hk)⟩
    rw [happly.frm, hfrm]
    simp [window, h, hopen]
  case isFalse h =>
    have hgot : c.deadlineNow.twn.gotRec = s.twn.gotRec := by rw [State.deadlineNow_twn, htwn]
    refine ⟨hgot, c.deadlineNow_time.trans htime, ?_, fun p f hk =>
      (c.deadlineNow_fld hk).trans (s.computeNoted_fld _ _ hk)⟩
    rw [State.deadlineNow_frm, hfrm]
    simp [window, h]

/-- R29, R30. -/
theorem computeEnd_completes (s : State) (hrun : s.frmState = 1) (hframe : s.frm.inFrame = true)
    (hopen : s.frm.deadline = false) (hrole : s.role ≠ 2) (hnot : s.frm.computed = false) (hdone : s.enginesDone = true)
    (hend : s.frm.start + s.computeNs ≤ s.boundaryDue) (hrec : s.twn.gotRec = none) :
    Completes .computeEnd s fun u =>
      u.time = s.timeAt (s.frm.start + s.computeNs) ∧ u.frm.computed = true ∧
      u.frm.window = decide (s.computeNs < s.period - 2000) ∧
      (s.period - 2000 ≤ s.computeNs → u.frm.deadline = true) ∧
      (s.frm.empty = false → u.fld pFRM FRM_CMPEND_END = (s.computeNs + 9) / 10 % 2 ^ 20 ∧
        u.fld pFRM FRM_CMPMAX_MAX = Nat.max (s.fld pFRM FRM_CMPMAX_MAX) (Nat.min ((s.computeNs + 9) / 10) (2 ^ 20 - 1))
          % 2 ^ 20) ∧
      (s.frm.empty = true → u.fld pFRM FRM_CMPEND_END = s.fld pFRM FRM_CMPEND_END) ∧
      u.fn = s.fn ∧ u.frm.start = s.frm.start ∧ u.frm.inFrame = true ∧ u.frm.issued = s.frm.issued := by
  obtain ⟨hgot, htime, hfrm, hfld⟩ := s.endCompute_spec hrole hopen
  dsimp only at hfrm
  have hcond : s.frmState = 1 ∧ s.computing = true ∧ s.enginesDone = true ∧
      s.beforeEnd (s.frm.start + s.computeNs) = true :=
    ⟨hrun, by simp [State.computing, hframe, hnot], hdone, by simp [State.beforeEnd, hend]⟩
  have hnone : s.endCompute.waitingRecord = s.endCompute := by rw [State.waitingRecord, hgot, hrec]
  refine ⟨s.endCompute, ?_, htime, ?_⟩
  · show execComputeEnd s = _
    rw [execComputeEnd, if_pos hcond, hnone]
  · rw [hfrm, hfld _ _ (by decide), hfld _ _ (by decide)]
    dsimp only
    refine ⟨rfl, rfl, fun hlate => by simpa using hlate, fun hcount => ?_, fun hempty => ?_, ?_, rfl, hframe, rfl⟩
    · exact (s.at_ (s.frm.start + s.computeNs)).showCompute_fields s.computeNs hcount
    · rw [(s.at_ (s.frm.start + s.computeNs)).showCompute_empty s.computeNs hempty]; rfl
    · rw [State.fn, hfld _ _ (by decide), hfld _ _ (by decide), (State.showCompute_changes _ _).fld_eq (by decide),
        (State.showCompute_changes _ _).fld_eq (by decide)]
      rfl

/-! ## The handover of the event queues (R30, R168) -/

section
variable (s : State) (c : List Nat)

theorem State.link_updLink_same (l : Nat) (g : Lnk → Lnk) : (s.updLink l g).link l = g (s.link l) :=
  SMap.get_put_same _ _ _ _

theorem State.link_updLink_ne {k l : Nat} (g : Lnk → Lnk) (h : l ≠ k) : (s.updLink k g).link l = s.link l :=
  SMap.get_put_ne _ _ _ _ _ _ h

theorem State.linkCmds_congr {s u : State} {l : Nat} (hlink : u.link l = s.link l) (hctx : u.ctx = s.ctx) :
    u.linkCmds l c = s.linkCmds l c := by
  rw [State.linkCmds, State.linkCmds, hlink, hctx]

/-- R168: what the handover of one port stores in it. -/
theorem State.handoverLink_lnk (l : Nat) : ∃ fit, (State.handoverLink c s l).lnk = (s.updLink l fun p =>
    { p with merged := s.linkCmds l c, built := fit, queue := [], safeOf := s.safeOfLink l }).lnk := by
  refine ⟨fitCmds (capOf (s.fld pFRM FRM_MINPER_ACT_VALUE)) (s.linkCmds l c).length (s.linkCmds l c), ?_⟩
  unfold State.handoverLink
  dsimp only
  split
  · rfl
  split
  · rw [State.raiseTo_lnk]
  · rw [State.log_lnk, State.contained_lnk, State.err_lnk, State.addSat_lnk, State.raiseTo_lnk]

theorem State.handoverLink_link_same (l : Nat) :
    ((State.handoverLink c s l).link l).queue = [] ∧ ((State.handoverLink c s l).link l).merged = s.linkCmds l c := by
  obtain ⟨fit, hlnk⟩ := s.handoverLink_lnk c l
  have hlink : (State.handoverLink c s l).link l = _ := (congrArg (SMap.get Lnk.down · l) hlnk).trans
    (s.link_updLink_same l _)
  rw [hlink]
  exact ⟨rfl, rfl⟩

theorem State.handoverLink_link_ne {k l : Nat} (h : l ≠ k) : (State.handoverLink c s k).link l = s.link l := by
  obtain ⟨fit, hlnk⟩ := s.handoverLink_lnk c k
  exact (congrArg (SMap.get Lnk.down · l) hlnk).trans (s.link_updLink_ne _ h)

theorem Changes.handover_keeps {s u : State} {K : Nat → Bool} (h : Changes s u handoverPieces K) :
    u.ctx = s.ctx ∧ u.plc = s.plc :=
  ⟨show (u.blank handoverPieces).ctx = (s.blank handoverPieces).ctx by rw [h.1],
    show (u.blank handoverPieces).plc = (s.blank handoverPieces).plc by rw [h.1]⟩

theorem State.handoverLink_ctx (l : Nat) : (State.handoverLink c s l).ctx = s.ctx :=
  (Changes.handoverLink (Changes.refl s _ _)).handover_keeps.1

theorem State.handoverAll_link_ne {ls : List Nat} {l : Nat} (h : l ∉ ls) :
    (ls.foldl (State.handoverLink c) s).link l = s.link l := by
  induction ls generalizing s with
  | nil => rfl
  | cons k ks ih =>
    obtain ⟨hne, hrest⟩ := not_or.mp (fun hmem => h (List.mem_cons.mpr hmem))
    exact (ih _ hrest).trans (s.handoverLink_link_ne c hne)

/-- R168: each port that hands over takes its own commands, and its queue is empty then. -/
theorem State.handoverAll_link {ls : List Nat} (hnodup : ls.Nodup) {l : Nat} (hl : l ∈ ls) :
    ((ls.foldl (State.handoverLink c) s).link l).queue = [] ∧
    ((ls.foldl (State.handoverLink c) s).link l).merged = s.linkCmds l c := by
  induction ls generalizing s with
  | nil => cases hl
  | cons k ks ih =>
    obtain ⟨hnot, hrest⟩ := List.nodup_cons.mp hnodup
    rw [List.foldl_cons]
    obtain rfl | hmem := List.mem_cons.mp hl
    · rw [State.handoverAll_link_ne _ _ hnot]
      exact s.handoverLink_link_same c l
    · have hne : l ≠ k := fun e => hnot (e ▸ hmem)
      rw [← State.linkCmds_congr c (s.handoverLink_link_ne c hne) (s.handoverLink_ctx c k)]
      exact ih _ hrest hmem

end

/-- R168: after the handover every port has its commands. -/
theorem State.handover_link (s : State) (c : List Nat) {l : Nat} (hl : l < 128) :
    ((s.handover c).link l).queue = [] ∧ ((s.handover c).link l).merged = s.linkCmds l c := by
  unfold State.handover
  exact s.handoverAll_link c List.nodup_range (List.mem_range.mpr hl)

theorem State.deadlineNow_link (s : State) (l : Nat) : s.deadlineNow.link l = (s.handover []).link l := by
  rw [State.link, State.link, State.deadlineNow, State.updFrm_lnk, State.uncopy, State.updPlc_lnk]

theorem State.deadlineNow_ctx (s : State) : s.deadlineNow.ctx = s.ctx := by
  rw [State.deadlineNow, State.updFrm_ctx, State.uncopy, State.updPlc_ctx, (s.handover_changes []).handover_keeps.1]

theorem State.deadlineNow_home (s : State) : s.deadlineNow.plc.home = s.plc.home := by
  rw [State.deadlineNow, State.updFrm_plc, State.uncopy, State.updPlc_plc, (s.handover_changes []).handover_keeps.2]

theorem State.uncopy_migs (s : State) : ∀ m ∈ s.uncopy.plc.migs, m.copied = false := by
  intro m hm
  obtain ⟨x, -, rfl⟩ := List.mem_map.mp hm
  rfl

/-- R30, R35, R168. -/
theorem applyDeadline_completes (s : State) (hrun : s.frmState = 1) (hframe : s.frm.inFrame = true)
    (hopen : s.frm.deadline = false) (hrole : s.role ≠ 2) :
    Completes .applyDeadline s fun u =>
      u.time = s.timeAt (s.frm.start + s.period - 2000) ∧
      u.frm = { s.frm with deadline := true } ∧ u.ctx.store = s.ctx.store ∧ u.plc.home = s.plc.home ∧
      (∀ m ∈ u.plc.migs, m.copied = false) ∧
      (s.frm.computed = true → ∀ l < 128, (u.link l).queue = [] ∧ (u.link l).merged = s.linkCmds l []) ∧
      (s.frm.computed = false → u.lnk = s.lnk) := by
  let a := s.at_ (s.frm.start + s.period - 2000)
  have hexec : exec .applyDeadline s = .next (if s.frm.computed then a.deadlineNow
      else a.uncopy.updFrm fun f => { f with deadline := true }) :=
    congrArg Host.Outcome.next (if_pos ⟨hrun, hframe, hopen, hrole⟩)
  by_cases hdone : s.frm.computed = true
  · rw [if_pos hdone] at hexec
    refine ⟨a.deadlineNow, hexec, a.deadlineNow_time, a.deadlineNow_frm, congrArg Ctx.store a.deadlineNow_ctx,
      a.deadlineNow_home, ?_, fun _ l hl => ?_, fun h => ?_⟩
    · rw [State.deadlineNow, State.updFrm_plc]
      exact State.uncopy_migs _
    · have hcmds : a.linkCmds l [] = s.linkCmds l [] := State.linkCmds_congr [] rfl rfl
      rw [a.deadlineNow_link, ← hcmds]
      exact a.handover_link [] hl
    · rw [hdone] at h; cases h
  · rw [if_neg hdone] at hexec
    exact ⟨_, hexec, rfl, rfl, rfl, rfl, State.uncopy_migs a, fun h => absurd h hdone, fun _ => rfl⟩

end Sys2Proof.Machine

/-! # Admission of the oldest change that waits (R15, R38 to R41) -/

namespace Sys2Proof.Machine

/-- Each key of the list holds its own value. -/
theorem SMap.get_foldl_put {α : Type} [DecidableEq α] (d : α) (f : Nat → α) (ks : List Nat) (m : SMap α) (k : Nat) :
    SMap.get d (ks.foldl (fun m j => SMap.put d m j (f j)) m) k = if k ∈ ks then f k else SMap.get d m k := by
  induction ks generalizing m with
  | nil => simp
  | cons j js ih =>
    rw [List.foldl_cons, ih]
    by_cases hjs : k ∈ js
    · simp [hjs]
    · by_cases hj : k = j
      · subst hj; simp [hjs]
      · simp [hjs, hj, SMap.get_put_ne _ _ _ _ _ _ hj]

/-! ## A written minimum period (R15, R39, R40) -/

/-- The change that waits longest is taken off the queue. -/
def State.admTaken (s : State) (t : Time) (qs : List AdmReq) : State :=
  (s.at_ t).updFrm fun f => { f with admQ := qs }

theorem State.admTaken_changes (s : State) (t : Time) (qs : List AdmReq) (K : Nat → Bool) :
    Changes (s.at_ t) (s.admTaken t qs) [.frm] K := (Changes.refl _ _ _).updFrm (by decide)

/-- R39: what the evaluation of a change does, once it is taken off the queue. -/
def State.evaluate (s : State) : AdmReq → State
  | .group id => s.admitGroup id
  | .minper v => s.admitMinper v
  | .asSet => s.admitSet

theorem State.exec_admission (s : State) (t : Time) {q : AdmReq} {qs : List AdmReq} (hq : s.frm.admQ = q :: qs) :
    exec (.admissionEvaluation t) s = .next ((s.admTaken t qs).evaluate q) := by
  show execAdmissionEvaluation t s = _
  rw [execAdmissionEvaluation, State.atTime_frm, hq]
  cases q <;> rfl

theorem State.admitMinper_admitted (s : State) (v : Nat)
    (h : s.admChecks = true → s.excess s.ctx.load v false = none) :
    s.admitMinper v = if s.frmState = 1 then s.updFrm fun f => { f with minperAdm := v, minperPend := some v }
      else (s.updFrm fun f => { f with minperAdm := v }).setFld pFRM FRM_MINPER_ACT_VALUE v := by
  have hnone : (if s.admChecks then s.excess s.ctx.load v false else none) = none := by
    split
    case isTrue hc => exact h hc
    case isFalse => rfl
  rw [State.admitMinper, hnone]
  rfl

theorem minper_admitted (s : State) (t : Time) (v : Nat) (qs : List AdmReq) (hq : s.frm.admQ = .minper v :: qs)
    (h : s.admChecks = true → s.excess s.ctx.load v false = none) :
    Completes (.admissionEvaluation t) s fun u =>
      u.frm = { s.frm with
        admQ := qs, minperAdm := v, minperPend := if s.frmState = 1 then some v else s.frm.minperPend } ∧
      (s.frmState ≠ 1 → u.fld pFRM FRM_MINPER_ACT_VALUE = v % 2 ^ 20) ∧
      (s.frmState = 1 → u.fld pFRM FRM_MINPER_ACT_VALUE = s.fld pFRM FRM_MINPER_ACT_VALUE) ∧
      Changes (s.at_ t) u [.frm] (fields [(pFRM, FRM_MINPER_ACT_VALUE)]) := by
  have hexec := s.exec_admission t hq
  have htaken := s.admTaken_changes t qs (fields [(pFRM, FRM_MINPER_ACT_VALUE)])
  have hstate : (s.admTaken t qs).frmState = s.frmState := rfl
  refine ⟨_, hexec, ?_⟩
  rw [State.evaluate, State.admitMinper_admitted (s.admTaken t qs) v h, hstate]
  by_cases hrun : s.frmState = 1
  · rw [if_pos hrun, if_pos hrun]
    exact ⟨rfl, fun hno => absurd hrun hno, fun _ => rfl, htaken.updFrm (by decide)⟩
  · rw [if_neg hrun, if_neg hrun]
    exact ⟨rfl, fun _ => State.fld_setFld_same _ _ _ _, fun hyes => absurd hyes hrun,
      (htaken.updFrm (by decide)).setFld (by decide)⟩

/-- The fields in which the first refusal stands, and the page's error. -/
def refusalFields : List (Nat × Fld) :=
  [(pFRM, FRM_ADMREF_VALID), (pFRM, FRM_ADMREF_CAUSE), (pFRM, FRM_ADMREF_RESIDUE), (pFRM, FRM_ADMREF_ENGINE),
    (pFRM, FRM_ADMREF_TABLE), (pFRM, FRM_ADMREQ_LOAD)] ++ errFields pFRM

/-- R40: a refusal stands in ADMREF, raises its error and is logged; nothing else happens. -/
theorem State.admRefuse_spec (s : State) (c : Nat) (x : Nat × Nat × Nat × Nat) :
    (s.admRefuse c x).bit pFRM FRM_ADMREF_VALID = true ∧ s.flags (s.admRefuse c x) pFRM FRM_E_ADMREF ∧
    Changes s (s.admRefuse c x) [.msi, .ring] (andLog refusalFields) := by
  obtain ⟨w, hw, hvalid, herr, hchanges⟩ : ∃ w : State,
      s.admRefuse c x = (w.err pFRM FRM_E_ADMREF).log pFRM 0x021 2 (c * 2 ^ 12 + x.2.1 * 2 ^ 5 + x.1) ∧
      w.bit pFRM FRM_ADMREF_VALID = true ∧ w.fld pFRM HDR_PG_ERR_ERR = s.fld pFRM HDR_PG_ERR_ERR ∧
      Changes s w [.msi, .ring] (andLog refusalFields) := by
    refine ⟨_, rfl, ?_⟩
    by_cases hold : s.bit pFRM FRM_ADMREF_VALID = true
    · rw [if_pos hold]
      exact ⟨hold, rfl, Changes.refl _ _ _⟩
    · rw [if_neg hold]
      refine ⟨?_, ?_, ((((((Changes.refl _ _ _).setFld (by decide)).setFld (by decide)).setFld (by decide)).setFld
        (by decide)).setFld (by decide)).setFld (by decide)⟩
      · simp (disch := decide) only [State.bit, State.fld_setFld_ne, State.fld_setFld_same]
        rfl
      · simp (disch := decide) only [State.fld_setFld_ne]
  rw [hw]
  refine ⟨?_, ?_, (hchanges.err (by decide) (by decide) (by decide)).log (by decide) (by decide) (by decide)⟩
  · have hrest : Changes w ((w.err pFRM FRM_E_ADMREF).log pFRM 0x021 2 (c * 2 ^ 12 + x.2.1 * 2 ^ 5 + x.1)) [.msi, .ring]
        (andLog (errFields pFRM)) :=
      ((Changes.refl _ _ _).err (by decide) (by decide) (by decide)).log (by decide) (by decide) (by decide)
    rw [State.bit, hrest.fld_eq (by decide)]
    exact hvalid
  · rw [State.flags, State.fld_log_ne, State.fld_err_err, herr]
    decide

theorem minper_refused (s : State) (t : Time) (v : Nat) (qs : List AdmReq) (hq : s.frm.admQ = .minper v :: qs)
    (hchecks : s.admChecks = true) (h : s.excess s.ctx.load v false ≠ none) :
    Completes (.admissionEvaluation t) s fun u =>
      u.frm = { s.frm with admQ := qs } ∧
      u.fld pFRM FRM_MINPER_ACT_VALUE = s.fld pFRM FRM_MINPER_ACT_VALUE ∧
      u.bit pFRM FRM_ADMREF_VALID = true ∧ s.flags u pFRM FRM_E_ADMREF ∧
      Changes (s.at_ t) u [.frm, .msi, .ring] (andLog refusalFields) := by
  obtain ⟨x, hx⟩ := Option.ne_none_iff_exists'.mp h
  let a := s.admTaken t qs
  have hrefuse : a.evaluate (.minper v) = a.admRefuse 2 x := by
    have hsome : (if a.admChecks then a.excess a.ctx.load v false else none) = some x := (if_pos hchecks).trans hx
    rw [State.evaluate, State.admitMinper, hsome]
  obtain ⟨hvalid, hflag, hchanges⟩ := a.admRefuse_spec 2 x
  have hfrm : (a.admRefuse 2 x).frm = a.frm :=
    show ((a.admRefuse 2 x).blank [.msi, .ring]).frm = (a.blank [.msi, .ring]).frm by rw [hchanges.1]
  exact ⟨_, (s.exec_admission t hq).trans (congrArg _ hrefuse), hfrm, hchanges.fld_eq (by decide), hvalid, hflag,
    ((s.admTaken_changes t qs _).mono (by decide) fun _ hk => hk).trans (hchanges.mono (by decide) fun _ hk => hk)⟩

/-! ## A group (R39, R40, R74, R75) -/

theorem State.noteAccepted_changes (s : State) :
    Changes s s.noteAccepted [] (fields [(pCTX, CTX_GSTAT_ACCEPTED)]) := by
  unfold State.noteAccepted
  split
  · exact (Changes.refl _ _ _).setBit (by decide)
  · exact Changes.refl _ _ _

theorem State.noteAccepted_ctx (s : State) : s.noteAccepted.ctx = s.ctx :=
  show (s.noteAccepted.blank []).ctx = (s.blank []).ctx by rw [s.noteAccepted_changes.1]

theorem State.noteAccepted_frm (s : State) : s.noteAccepted.frm = s.frm :=
  show (s.noteAccepted.blank []).frm = (s.blank []).frm by rw [s.noteAccepted_changes.1]

/-- R39, R40: the evaluation of the group that is first in the order of closing. -/
theorem State.admitGroup_first (s : State) (g : Group) (gs : List Group) (h : s.ctx.waiting = g :: gs) :
    let b := s.groupWords g.id g.entries
    let load := (loadChanges s b (touched g.entries)).foldl (fun m h => SMap.put Load.none m h (b.loadOf h)) s.ctx.load
    b.badClass g.entries = false →
    s.admitGroup g.id = match if s.admChecks then s.excess load s.frm.minperAdm false else none with
      | some x => (s.admRefuse 1 x).refuseGroup s [] gs g 2
      | none => (s.updCtx fun c => { c with load := load, waiting := { g with evaluating := false } :: gs }).noteAccepted := by
  intro b load hclass
  have hpre : (s.ctx.waiting.takeWhile fun x => x.id ≠ g.id) = [] := by rw [h]; simp
  have hpost : (s.ctx.waiting.dropWhile fun x => x.id ≠ g.id) = g :: gs := by rw [h]; simp
  rw [State.admitGroup, hpre, hpost]
  exact if_neg (by simpa using hclass)

theorem group_admitted (s : State) (t : Time) (g : Group) (gs : List Group) (qs : List AdmReq)
    (hq : s.frm.admQ = .group g.id :: qs) (hwaiting : s.ctx.waiting = g :: gs) :
    let a := s.admTaken t qs
    let b := a.groupWords g.id g.entries
    let hs := loadChanges a b (touched g.entries)
    let load := hs.foldl (fun m h => SMap.put Load.none m h (b.loadOf h)) s.ctx.load
    b.badClass g.entries = false →
    (a.admChecks = false ∨ a.excess load s.frm.minperAdm false = none) →
    Completes (.admissionEvaluation t) s fun u =>
      u.ctx.waiting = { g with evaluating := false } :: gs ∧ u.ctx.store = s.ctx.store ∧
      (∀ h, SMap.get Load.none u.ctx.load h = if h ∈ hs then b.loadOf h else SMap.get Load.none s.ctx.load h) ∧
      u.frm = { s.frm with admQ := qs } ∧
      Changes (s.at_ t) u [.frm, .ctx] (fields [(pCTX, CTX_GSTAT_ACCEPTED)]) := by
  intro a b hs load hclass hfits
  let v := a.updCtx fun c => { c with load := load, waiting := { g with evaluating := false } :: gs }
  have hnone : (if a.admChecks then a.excess load s.frm.minperAdm false else none) = none := by
    obtain hno | hfit := hfits
    · rw [hno]; rfl
    · rw [hfit]; exact ite_self _
  have hadmit : a.evaluate (.group g.id) = v.noteAccepted := by
    rw [State.evaluate, a.admitGroup_first g gs hwaiting hclass]
    show (match if a.admChecks then a.excess load s.frm.minperAdm false else none with
      | some x => (a.admRefuse 1 x).refuseGroup a [] gs g 2
      | none => v.noteAccepted) = _
    rw [hnone]
  refine ⟨_, (s.exec_admission t hq).trans (congrArg _ hadmit), ?_⟩
  dsimp only
  rw [v.noteAccepted_ctx, v.noteAccepted_frm]
  refine ⟨rfl, rfl, fun h => SMap.get_foldl_put _ _ _ _ _, rfl, ?_⟩
  exact (((s.admTaken_changes t qs _).mono (by decide) fun _ hk => hk).updCtx (by decide)).trans
    (v.noteAccepted_changes.mono (by decide) fun _ hk => hk)

/-- R75: what the completion of a refused group shows. -/
def refusedFields : List (Nat × Fld) :=
  [(pCTX, CTX_GREF_VALID), (pCTX, CTX_GREF_RESULT), (pCTX, CTX_GREF_ID)] ++ errFields pCTX

/-- R75: a completion changes nothing of the contexts. -/
theorem State.complete_changes (s : State) (id r : Nat) : Changes s (s.complete id r) [.fls, .msi]
    (fields ([(pCTX, CTX_GDONE_ID), (pCTX, CTX_GDONE_RESULT)] ++ refusedFields)) := by
  have hnote : Changes s (s.noteLoadGroup id r) [.fls, .msi]
      (fields ([(pCTX, CTX_GDONE_ID), (pCTX, CTX_GDONE_RESULT)] ++ refusedFields)) :=
    Changes.updFls (by decide) (Changes.refl _ _ _)
  have hdone := ((hnote.setFld (p := pCTX) (f := CTX_GDONE_ID) (v := id) (by decide)).setFld (p := pCTX)
    (f := CTX_GDONE_RESULT) (v := r) (by decide)).irq (p := pCTX) (b := CTX_E_GDONE) (by decide) (by decide)
  have herr := hdone.err (p := pCTX) (b := CTX_E_GREF) (by decide) (by decide) (by decide)
  exact Changes.ite (fun _ => hdone) fun _ => Changes.ite (fun _ => herr) fun _ =>
    ((herr.setFld (by decide)).setFld (by decide)).setFld (by decide)

theorem State.complete_ctx (s : State) (id r : Nat) : (s.complete id r).ctx = s.ctx :=
  show ((s.complete id r).blank [.fls, .msi]).ctx = (s.blank [.fls, .msi]).ctx by rw [(s.complete_changes id r).1]

theorem State.complete_frm (s : State) (id r : Nat) : (s.complete id r).frm = s.frm :=
  show ((s.complete id r).blank [.fls, .msi]).frm = (s.blank [.fls, .msi]).frm by rw [(s.complete_changes id r).1]

/-- R75: a group that is not applied completes with its ID and result. -/
theorem State.complete_refused (s : State) (id r : Nat) (hr : r ≠ 1) :
    (s.complete id r).fld pCTX CTX_GDONE_ID = id % 2 ^ 16 ∧ (s.complete id r).fld pCTX CTX_GDONE_RESULT = r % 2 ^ 4 := by
  let d := (((s.noteLoadGroup id r).setFld pCTX CTX_GDONE_ID id).setFld pCTX CTX_GDONE_RESULT r)
  have hrest : Changes d (s.complete id r) [.fls, .msi] (fields refusedFields) := by
    have herr := ((Changes.refl d [.fls, .msi] (fields refusedFields)).irq (p := pCTX) (b := CTX_E_GDONE) (by decide)
      (by decide)).err (p := pCTX) (b := CTX_E_GREF) (by decide) (by decide) (by decide)
    exact Changes.ite (fun h => absurd h hr) fun _ => Changes.ite (fun _ => herr) fun _ =>
      ((herr.setFld (by decide)).setFld (by decide)).setFld (by decide)
  constructor
  · rw [hrest.fld_eq (by decide)]
    exact (State.fld_setFld_ne _ _ _ _ _ _ (by decide)).trans (State.fld_setFld_same _ _ _ _)
  · rw [hrest.fld_eq (by decide)]
    exact State.fld_setFld_same _ _ _ _

/-- R40, R74, R75: the only group that waits is refused: it completes with its result. -/
theorem State.refuseGroup_only (s a : State) (g : Group) (r : Nat) (hr : r ≠ 0) :
    ∃ v : State, s.refuseGroup a [] [] g r = (v.complete g.id r).updCtx (fun c => { c with waiting := [] }) ∧
      v.ctx.store = s.ctx.store ∧ v.ctx.load = s.ctx.load ∧ v.frm = s.frm ∧
      Changes s v [.ctx, .frm] (fields [(pCTX, CTX_GSTAT_ACCEPTED)]) := by
  let w := (s.updCtx fun c => { c with waiting := [{ g with evaluating := false, refused := r }] }).updFrm fun f =>
    { f with admQ := f.admQ }
  refine ⟨w.noteAccepted, ?_, ?_, ?_, ?_, ?_⟩
  · show State.completeRefused w.noteAccepted.ctx.waiting w.noteAccepted = _
    rw [w.noteAccepted_ctx]
    exact if_neg hr
  · rw [w.noteAccepted_ctx]; rfl
  · rw [w.noteAccepted_ctx]; rfl
  · rw [w.noteAccepted_frm]; rfl
  · exact Changes.trans (((Changes.refl _ _ _).updCtx (by decide)).updFrm (by decide))
      (w.noteAccepted_changes.mono (by decide) fun _ hk => hk)

theorem group_refused (s : State) (t : Time) (g : Group) (qs : List AdmReq)
    (hq : s.frm.admQ = .group g.id :: qs) (hwaiting : s.ctx.waiting = [g]) :
    let a := s.admTaken t qs
    let b := a.groupWords g.id g.entries
    let load := (loadChanges a b (touched g.entries)).foldl (fun m h => SMap.put Load.none m h (b.loadOf h)) s.ctx.load
    b.badClass g.entries = false →
    a.admChecks = true → a.excess load s.frm.minperAdm false ≠ none →
    Completes (.admissionEvaluation t) s fun u =>
      u.ctx.waiting = [] ∧ u.ctx.store = s.ctx.store ∧ u.ctx.load = s.ctx.load ∧ u.frm = { s.frm with admQ := qs } ∧
      u.fld pCTX CTX_GDONE_ID = g.id % 2 ^ 16 ∧ u.fld pCTX CTX_GDONE_RESULT = 2 ∧
      u.bit pFRM FRM_ADMREF_VALID = true ∧ s.flags u pFRM FRM_E_ADMREF := by
  intro a b load hclass hchecks hover
  obtain ⟨x, hx⟩ := Option.ne_none_iff_exists'.mp hover
  obtain ⟨hvalid, hflag, hrefuse⟩ := a.admRefuse_spec 1 x
  obtain ⟨v, hv, hstore, hload, hfrm, hchanges⟩ := (a.admRefuse 1 x).refuseGroup_only a g 2 (by decide)
  obtain ⟨hid, hresult⟩ := v.complete_refused g.id 2 (by decide)
  have hdone := v.complete_changes g.id 2
  have hsome : (if a.admChecks then a.excess load s.frm.minperAdm false else none) = some x := (if_pos hchecks).trans hx
  have heval : a.evaluate (.group g.id) = (v.complete g.id 2).updCtx fun c => { c with waiting := [] } := by
    rw [State.evaluate, a.admitGroup_first g [] hwaiting hclass, ← hv]
    show (match if a.admChecks then a.excess load s.frm.minperAdm false else none with
      | some x => (a.admRefuse 1 x).refuseGroup a [] [] g 2
      | none => _) = _
    rw [hsome]
  have hctxr : (a.admRefuse 1 x).ctx = a.ctx :=
    show ((a.admRefuse 1 x).blank [.msi, .ring]).ctx = (a.blank [.msi, .ring]).ctx by rw [hrefuse.1]
  have hfrmr : (a.admRefuse 1 x).frm = a.frm :=
    show ((a.admRefuse 1 x).blank [.msi, .ring]).frm = (a.blank [.msi, .ring]).frm by rw [hrefuse.1]
  refine ⟨_, (s.exec_admission t hq).trans (congrArg _ heval), rfl, ?_, ?_, ?_, hid, hresult, ?_, ?_⟩
  · rw [State.updCtx_ctx, v.complete_ctx, hstore, hctxr]; rfl
  · rw [State.updCtx_ctx, v.complete_ctx, hload, hctxr]; rfl
  · rw [State.updCtx_frm, v.complete_frm, hfrm, hfrmr]; rfl
  · rw [State.bit, State.updCtx_fld, hdone.fld_eq (by decide), hchanges.fld_eq (by decide)]
    exact hvalid
  · rw [State.flags, State.updCtx_fld, hdone.fld_eq (by decide), hchanges.fld_eq (by decide)]
    exact hflag

/-! ## An activation set (R39, R258, R260) -/

/-- The parts and the fields that an admitted set changes. -/
def armedPieces : List Piece := [.plc, .cfg, .twn]

def armedFields : List (Nat × Fld) := [(pCFG, CFG_ASSTAT_STATE), (pCFG, CFG_ASSTAT_WAIT)]

theorem Changes.armed_keeps {s u : State} {K : Nat → Bool} (h : Changes s u armedPieces K) :
    u.frm = s.frm ∧ u.ctx = s.ctx :=
  ⟨show (u.blank armedPieces).frm = (s.blank armedPieces).frm by rw [h.1],
    show (u.blank armedPieces).ctx = (s.blank armedPieces).ctx by rw [h.1]⟩

theorem State.asShow_cfg (s : State) : s.asShow.cfg = s.cfg := by
  unfold State.asShow
  split <;> rfl

theorem Changes.asShow {s u : State} {ps : List Piece} (h : Changes s u ps (fields armedFields)) :
    Changes s u.asShow ps (fields armedFields) := by
  unfold State.asShow
  split
  · exact (h.setFld (by decide)).setFld (by decide)
  · exact (h.setFld (by decide)).setFld (by decide)

/-- R260: a set whose class table is still verified is prepared, when its time has come, and stays. -/
theorem State.asPrepare_verified (s : State) (b : AsSet) (has : s.cfg.as = some b) (h : s.asStale b = false) :
    s.asPrepare = s ∨ s.asPrepare = s.setFld pCFG CFG_ASSTAT_STATE 3 := by
  rw [State.asPrepare, has]
  dsimp only
  rw [h]
  split
  · exact .inr rfl
  · exact .inl rfl

theorem State.setRegions_cfg (s : State) (g : State → Nat → RgnAlloc) (rs : List Nat) :
    (rs.foldl (fun v r => v.setRegion r (g v r)) s).cfg = s.cfg := by
  induction rs generalizing s with
  | nil => rfl
  | cons r rs ih => exact ih _

/-- R258, R260: an admitted set no longer waits for its evaluation. -/
theorem State.asArmed_spec (s : State) (a : AsSet) (has : s.cfg.as = some a)
    (hct : a.ct = true → s.bit (pJE 0) JE_CTSTAT_VERIFIED = true) :
    ∃ b, s.asArmed.cfg.as = some b ∧ b.checking = false ∧ Changes s s.asArmed armedPieces (fields armedFields) := by
  let live := (inMask (a.swap ||| a.unld)).filter fun r => (s.region r).state = 2
  let mask := live.foldl (fun m r => m ||| 2 ^ r) 0
  let b := { a with checking := false, acked := (a.swap ||| a.unld) ^^^ mask }
  let v := live.foldl (fun v r => v.setRegion r ⟨3, (v.region r).id⟩) s
  let w := (v.updCfg fun c => { c with swapPend := mask }).updAs fun a =>
    { a with checking := false, acked := (a.swap ||| a.unld) ^^^ mask }
  let x := (if w.role = 1 then w.parcel .actSet else w).asShow
  have harmed : s.asArmed = if x.windowOpen then x.asPrepare else x := by
    rw [State.asArmed, has]
  have hv : Changes s v armedPieces (fields armedFields) :=
    Changes.foldl (fun _ _ hv => hv.updPlc (by decide)) (Changes.refl _ _ _)
  have hw : Changes s w armedPieces (fields armedFields) := (hv.updCfg (by decide)).updCfg (by decide)
  have hx : Changes s x armedPieces (fields armedFields) :=
    Changes.asShow (Changes.ite (fun _ => hw.parcel (by decide)) fun _ => hw)
  have hasw : w.cfg.as = some b := by
    show v.cfg.as.map _ = _
    rw [State.setRegions_cfg, has]
    rfl
  have hasx : x.cfg.as = some b := by
    rw [State.asShow_cfg]
    split
    · rw [State.parcel_cfg]; exact hasw
    · exact hasw
  have hfresh : x.asStale b = false := by
    have hbit : x.bit (pJE 0) JE_CTSTAT_VERIFIED = s.bit (pJE 0) JE_CTSTAT_VERIFIED := by
      rw [State.bit, State.bit, hx.fld_eq (by decide)]
    rw [State.asStale, hbit]
    cases hc : a.ct
    · rfl
    · rw [hct hc]; rfl
  have hstay : s.asArmed = x ∨ s.asArmed = x.setFld pCFG CFG_ASSTAT_STATE 3 := by
    rw [harmed]
    split
    · exact x.asPrepare_verified b hasx hfresh
    · exact .inl rfl
  obtain h | h := hstay
  · exact ⟨b, h ▸ hasx, rfl, h ▸ hx⟩
  · rw [h]
    exact ⟨b, hasx, rfl, hx.setFld (by decide)⟩

theorem set_admitted (s : State) (t : Time) (a : AsSet) (qs : List AdmReq) (hq : s.frm.admQ = .asSet :: qs)
    (has : s.cfg.as = some a) (hchecking : a.checking = true) (hchecks : s.admChecks = false)
    (hct : a.ct = true → s.bit (pJE 0) JE_CTSTAT_VERIFIED = true) :
    Completes (.admissionEvaluation t) s fun u =>
      u.frm = { s.frm with admQ := qs } ∧ u.cfg.as.isSome = true ∧ u.ctx = s.ctx ∧
      ∀ b, u.cfg.as = some b → b.checking = false := by
  let v := s.admTaken t qs
  have hadmit : v.evaluate .asSet = v.asArmed := by
    have has' : v.cfg.as = some a := has
    have hchecks' : v.admChecks = false := hchecks
    rw [State.evaluate, State.admitSet, has']
    simp [hchecking, hchecks']
  obtain ⟨b, hb, hdone, hchanges⟩ := v.asArmed_spec a has hct
  obtain ⟨hfrm, hctx⟩ := hchanges.armed_keeps
  refine ⟨_, (s.exec_admission t hq).trans (congrArg _ hadmit), hfrm, by rw [hb]; rfl, hctx, fun c hc => ?_⟩
  rw [hb] at hc
  exact Option.some.inj hc ▸ hdone

/-- Settles O4: compute ends and the deadline comes as the frame's times have it, and each change that waits is admitted
or refused by the checks on what it would leave. -/
theorem deadlineAndAdmission : Obligations.DeadlineAndAdmission :=
  ⟨fun s hrun hframe hopen hrole =>
    ⟨fun hnot hdone hend hrec => computeEnd_completes s hrun hframe hopen hrole hnot hdone hend hrec,
      applyDeadline_completes s hrun hframe hopen hrole⟩,
   fun s t =>
    ⟨fun v qs hq h => minper_admitted s t v qs hq h, fun v qs hq hchecks h => minper_refused s t v qs hq hchecks h,
      fun g gs qs hq hwaiting _ hclass =>
        ⟨fun hfits => group_admitted s t g gs qs hq hwaiting hclass hfits,
          fun hlast hchecks hover => group_refused s t g qs hq (hlast ▸ hwaiting) hclass hchecks hover⟩,
      fun a qs hq has hchecking hchecks hct => set_admitted s t a qs hq has hchecking hchecks hct⟩⟩

end Sys2Proof.Machine

/-! # Pins, bank exclusion, and their wait for the standby (R55, R146 to R151) -/

namespace Sys2Proof.Machine

/-! ## Writes that wait for the standby (R55, R151) -/

theorem State.plcWrite_waits (s : State) (o v : Nat) (eff : State → State) (h : s.mirrors = true) :
    s.plcWrite o v eff = s.updTwn fun w =>
      { w with held := w.held ++ [((w.seq + 65535) % 65536, o, v, s.fld pPLC PLC_HIDX_HANDLE)] } := if_pos h

theorem State.plcWrite_acts (s : State) (o v : Nat) (eff : State → State) (h : s.mirrors = false) :
    s.plcWrite o v eff = eff s := if_neg (by simp [h])

@[simp] theorem State.arrive_mirrors (s : State) (t : Time) (off v : Nat) : (s.arrive t off v).mirrors = s.mirrors := by
  simp [State.mirrors]

/-- A write that waits does nothing else. -/
theorem plcWrite_waits_completes {c : Instr} {s : State} {t : Time} {o v : Nat} {eff : State → State}
    (hmirrors : s.mirrors = true) (hopen : (s.at_ t).writeOpen (0x5000 + o) = true)
    (hexec : exec c s = .next (s.hostWrite t (0x5000 + o) v fun a => a.plcWrite o v eff)) : Completes c s fun u =>
      let a := s.arrive t (0x5000 + o) v
      u.twn = { a.twn with held := a.twn.held ++ [((a.twn.seq + 65535) % 65536, o, v, s.fld pPLC PLC_HIDX_HANDLE)] } ∧
      Changes a u [.twn] noField := by
  refine Completes.write hopen hexec ?_
  rw [State.plcWrite_waits _ _ _ _ ((State.arrive_mirrors _ _ _ _).trans hmirrors), State.arrive_fld]
  exact ⟨rfl, (Changes.refl _ _ _).updTwn (by decide)⟩

theorem placement_waits (s : State) (t : Time) (hmirrors : s.mirrors = true) (c : Instr) (o v : Nat)
    (hc : (∃ b : Engine, c = .pin t b ∧ o = 0x60 ∧ v = 256 + b.val) ∨ (c = .unpin t ∧ o = 0x60 ∧ v = 128) ∨
      (∃ b : Engine, c = .exclude t b ∧ o = 0x48 ∧ v = 128 + b.val) ∨ (c = .include t ∧ o = 0x48 ∧ v = 256) ∨
      (∃ x : Dword, c = .rreq t x ∧ o = 0x7C ∧ v = x.toNat) ∨ (∃ x : Dword, c = .rfree t x ∧ o = 0x84 ∧ v = x.toNat))
    (hopen : (s.at_ t).writeOpen (0x5000 + o) = true) : Completes c s fun u =>
      let a := s.arrive t (0x5000 + o) v
      u.twn = { a.twn with held := a.twn.held ++ [((a.twn.seq + 65535) % 65536, o, v, s.fld pPLC PLC_HIDX_HANDLE)] } ∧
      Changes a u [.twn] noField := by
  obtain ⟨b, rfl, rfl, rfl⟩ | ⟨rfl, rfl, rfl⟩ | ⟨b, rfl, rfl, rfl⟩ | ⟨rfl, rfl, rfl⟩ | ⟨x, rfl, rfl, rfl⟩ |
    ⟨x, rfl, rfl, rfl⟩ := hc
  all_goals exact plcWrite_waits_completes hmirrors hopen rfl

/-- A write that does not wait acts at once. -/
theorem plcWrite_acts_completes {c : Instr} {s : State} {t : Time} {o v : Nat} {eff : State → State} {P : State → Prop}
    (hmirrors : s.mirrors = false) (hopen : (s.at_ t).writeOpen (0x5000 + o) = true)
    (hexec : exec c s = .next (s.hostWrite t (0x5000 + o) v fun a => a.plcWrite o v eff))
    (h : P (eff (s.arrive t (0x5000 + o) v))) : Completes c s P := by
  refine Completes.write hopen hexec ?_
  rw [State.plcWrite_acts _ _ _ _ ((State.arrive_mirrors _ _ _ _).trans hmirrors)]
  exact h

/-! ## What a write of PIN and EXCL says (R146, R147, R149) -/

theorem State.doPin_pin (s : State) (b : Engine) : s.doPin (256 + b.val) = s.pin (s.fld pPLC PLC_HIDX_HANDLE) b.val := by
  have hof : PLC_PIN_PIN.of (256 + b.val) = 1 ∧ PLC_PIN_UNPIN.of (256 + b.val) = 0 ∧ PLC_PIN_BANK.of (256 + b.val) = b.val := by
    revert b; decide
  obtain ⟨hpin, hunpin, hbank⟩ := hof
  rw [State.doPin, hpin, hunpin, hbank]
  rfl

theorem State.doPin_unpin (s : State) : s.doPin 128 =
    if SMap.get 0 s.plc.pins (s.fld pPLC PLC_HIDX_HANDLE) = 0 then s
    else (s.setPin (s.fld pPLC PLC_HIDX_HANDLE) 0).cancelWhere fun m => m.handle = s.fld pPLC PLC_HIDX_HANDLE := rfl

theorem State.doExcl_exclude (s : State) (b : Engine) : s.doExcl (128 + b.val) = s.exclude b.val := by
  have hof : PLC_EXCL_EXCLUDE.of (128 + b.val) = 1 ∧ PLC_EXCL_INCLUDE.of (128 + b.val) = 0 ∧
      PLC_EXCL_BANK.of (128 + b.val) = b.val := by
    revert b; decide
  obtain ⟨hexcl, hincl, hbank⟩ := hof
  rw [State.doExcl, hexcl, hincl, hbank]
  rfl

theorem State.doExcl_include (s : State) : s.doExcl 256 =
    if s.fld pPLC PLC_STAT_EXCLSTATE = 0 then s else s.updPlc fun p => { p with include_ := true } := rfl

/-! ## Handle map and migrations (R137, R144) -/

theorem State.hmCheck_sound (s : State) (x : Nat) (h : s.plc.hmBad = []) : s.hmCheck x = s := by
  rw [State.hmCheck, h]
  rfl

theorem State.hmCheckAll_sound (s : State) (xs : List Nat) (h : s.plc.hmBad = []) : s.hmCheckAll xs = s := by
  rw [State.hmCheckAll, h]
  rfl

/-- Where no migration waits none is cancelled. -/
theorem State.cancelWhere_none (s : State) (f : Mig → Bool) (h : s.plc.migs = []) : s.cancelWhere f = s := by
  have hmap : (s.updPlc fun p => { p with migs := p.migs.map fun m => if f m then { m with cancel := 2 } else m }) = s := by
    unfold State.updPlc
    dsimp only
    rw [h, List.map_nil, ← h]
  rw [State.cancelWhere, hmap, h]
  exact ite_self _

/-! ## PIN and UNPIN (R146) -/

theorem State.slotFree_congr {s u : State} (h : u.plc = s.plc) (p : Nat) : u.slotFree p = s.slotFree p := by
  unfold State.slotFree State.owner State.phys
  rw [h]

theorem State.freeSlot_congr {s u : State} (h : u.plc = s.plc) (b : Nat) : u.freeSlot b = s.freeSlot b := by
  rw [State.freeSlot, State.freeSlot, funext (State.slotFree_congr h)]

theorem State.phys_congr {s u : State} (h : u.plc = s.plc) (x : Nat) : u.phys x = s.phys x := by
  rw [State.phys, State.phys, h]

theorem State.pin_stands (s : State) (x b : Nat) (hsound : s.plc.hmBad = []) (h : SMap.get 0 s.plc.pins x = b + 1) :
    s.pin x b = s := by
  rw [State.pin, s.hmCheck_sound x hsound]
  exact if_pos h

theorem State.pin_excluded (s : State) (x b : Nat) (hsound : s.plc.hmBad = [])
    (hother : SMap.get 0 s.plc.pins x ≠ b + 1) (hexcl : s.excluded b = true) : s.pin x b = s.err pPLC PLC_E_PINREF := by
  rw [State.pin, s.hmCheck_sound x hsound]
  exact (if_neg hother).trans (if_pos hexcl)

theorem State.pin_here (s : State) (x b : Nat) (hsound : s.plc.hmBad = []) (hother : SMap.get 0 s.plc.pins x ≠ b + 1)
    (hexcl : s.excluded b = false) (hmigs : s.plc.migs = []) (hbank : bankOf (s.phys x) = b) :
    s.pin x b = s.setPin x (b + 1) := by
  have hrecord : ((s.setPin x (b + 1)).cancelWhere fun m => m.handle = x) = s.setPin x (b + 1) :=
    State.cancelWhere_none _ _ hmigs
  rw [State.pin, s.hmCheck_sound x hsound]
  exact ((if_neg hother).trans ((if_neg (by simp [hexcl])).trans (if_pos hbank))).trans hrecord

/-- R146: where a slot of the bank is free, the pin of a handle that no load stands for requests its move. -/
theorem State.requestPin_free (s : State) (x b p : Nat) (ok : State → Mig → State) (hexcl : s.excluded b = false)
    (hmigs : s.plc.migs = []) (hfree : s.freeSlot b = some p) (hload : (SMap.get Load.none s.ctx.load x).valid = false) :
    s.requestPin x b ok = ok s (newMig x p .pin) := by
  have hothers : (s.updPlc fun q => { q with migs := q.migs.filter fun y => y.handle ≠ x }) = s := by
    unfold State.updPlc
    dsimp only
    rw [hmigs, List.filter_nil, ← hmigs]
  have hslot : (if s.excluded b then none else s.freeSlot b) = some p := by
    rw [hexcl]; exact hfree
  rw [State.requestPin, hothers, hslot, hload]
  rfl

theorem State.pin_elsewhere (s : State) (x b p : Nat) (hsound : s.plc.hmBad = [])
    (hother : SMap.get 0 s.plc.pins x ≠ b + 1) (hexcl : s.excluded b = false) (hmigs : s.plc.migs = [])
    (hbank : bankOf (s.phys x) ≠ b) (hfree : s.freeSlot b = some p)
    (hload : (SMap.get Load.none s.ctx.load x).valid = false) (hrole : s.role ≠ 2) :
    s.pin x b = (s.setPin x (b + 1)).updPlc fun q => { q with migs := [newMig x p .pin] } := by
  have hrecord : ((s.setPin x (b + 1)).cancelWhere fun m => m.handle = x) = s.setPin x (b + 1) :=
    State.cancelWhere_none _ _ hmigs
  have hmigs' : (s.setPin x (b + 1)).plc.migs = [] := hmigs
  have hadd : (s.setPin x (b + 1)).addMig (newMig x p .pin) =
      (s.setPin x (b + 1)).updPlc fun q => { q with migs := [newMig x p .pin] } := by
    have hrole' : (s.setPin x (b + 1)).role ≠ 2 := hrole
    rw [State.addMig, if_neg hrole']
    unfold State.updPlc
    dsimp only
    rw [hmigs']
    rfl
  rw [State.pin, s.hmCheck_sound x hsound]
  refine (if_neg hother).trans ((if_neg (by simp [hexcl])).trans ((if_neg hbank).trans ?_))
  rw [s.requestPin_free x b p _ hexcl hmigs hfree hload]
  dsimp only
  rw [hrecord, hmigs']
  exact hadd

/-- R352: no write that the primary forwards reaches a page of a standby. -/
theorem State.writeOpen_role (s : State) (off : Nat) (h : s.writeOpen off = true) (hf : forwarded off = true) :
    s.role ≠ 2 := by
  intro hrole
  simp [State.writeOpen, hrole, hf] at h

section
variable {s : State} {t : Time}

theorem pin_completes {P : State → Prop} (b : Engine) (hmirrors : s.mirrors = false)
    (hopen : (s.at_ t).writeOpen 0x5060 = true)
    (h : P ((s.arrive t 0x5060 (256 + b.val)).pin (s.fld pPLC PLC_HIDX_HANDLE) b.val)) : Completes (.pin t b) s P := by
  refine plcWrite_acts_completes (o := 0x60) hmirrors hopen rfl ?_
  rw [State.doPin_pin, State.arrive_fld]
  exact h

theorem State.arrive_excluded (off v b : Nat) : (s.arrive t off v).excluded b = s.excluded b := by
  rw [State.excluded, State.excluded, State.arrive_fld, State.arrive_fld]

theorem pin_completes_stands (b : Engine) (hmirrors : s.mirrors = false) (hopen : (s.at_ t).writeOpen 0x5060 = true)
    (hsound : s.plc.hmBad = []) (hsame : SMap.get 0 s.plc.pins (s.fld pPLC PLC_HIDX_HANDLE) = b.val + 1) :
    Completes (.pin t b) s fun u => u = s.arrive t 0x5060 (256 + b.val) :=
  pin_completes b hmirrors hopen
    (State.pin_stands _ _ _ (State.arrive_plc s t _ _ ▸ hsound) (State.arrive_plc s t _ _ ▸ hsame))

theorem pin_completes_excluded (b : Engine) (hmirrors : s.mirrors = false) (hopen : (s.at_ t).writeOpen 0x5060 = true)
    (hsound : s.plc.hmBad = []) (hother : SMap.get 0 s.plc.pins (s.fld pPLC PLC_HIDX_HANDLE) ≠ b.val + 1)
    (hexcl : s.excluded b.val = true) :
    Completes (.pin t b) s fun u => RaisesOnly (s.arrive t 0x5060 (256 + b.val)) u pPLC PLC_E_PINREF := by
  refine pin_completes b hmirrors hopen ?_
  rw [State.pin_excluded _ _ _ (State.arrive_plc s t _ _ ▸ hsound) (State.arrive_plc s t _ _ ▸ hother)
    ((State.arrive_excluded _ _ _).trans hexcl)]
  exact State.err_raises _ _ _

theorem pin_completes_here (b : Engine) (hmirrors : s.mirrors = false) (hopen : (s.at_ t).writeOpen 0x5060 = true)
    (hsound : s.plc.hmBad = []) (hother : SMap.get 0 s.plc.pins (s.fld pPLC PLC_HIDX_HANDLE) ≠ b.val + 1)
    (hexcl : s.excluded b.val = false) (hmigs : s.plc.migs = [])
    (hbank : bankOf (s.phys (s.fld pPLC PLC_HIDX_HANDLE)) = b.val) : Completes (.pin t b) s fun u =>
      u.plc = { s.plc with pins := SMap.put 0 s.plc.pins (s.fld pPLC PLC_HIDX_HANDLE) (b.val + 1) } ∧
      Changes (s.arrive t 0x5060 (256 + b.val)) u [.plc] noField := by
  have hplc : (s.arrive t 0x5060 (256 + b.val)).plc = s.plc := State.arrive_plc _ _ _ _
  refine pin_completes b hmirrors hopen ?_
  rw [State.pin_here _ _ _ (hplc ▸ hsound) (hplc ▸ hother) ((State.arrive_excluded _ _ _).trans hexcl) (hplc ▸ hmigs)
    (State.phys_congr hplc _ ▸ hbank)]
  refine ⟨?_, (Changes.refl _ _ _).updPlc (by decide)⟩
  rw [State.setPin, State.updPlc_plc, hplc]

theorem pin_completes_elsewhere (b : Engine) (p : Nat) (hmirrors : s.mirrors = false)
    (hopen : (s.at_ t).writeOpen 0x5060 = true) (hsound : s.plc.hmBad = [])
    (hother : SMap.get 0 s.plc.pins (s.fld pPLC PLC_HIDX_HANDLE) ≠ b.val + 1) (hexcl : s.excluded b.val = false)
    (hmigs : s.plc.migs = []) (hbank : bankOf (s.phys (s.fld pPLC PLC_HIDX_HANDLE)) ≠ b.val)
    (hfree : s.freeSlot b.val = some p)
    (hload : (SMap.get Load.none s.ctx.load (s.fld pPLC PLC_HIDX_HANDLE)).valid = false) : Completes (.pin t b) s fun u =>
      u.plc = { s.plc with
        pins := SMap.put 0 s.plc.pins (s.fld pPLC PLC_HIDX_HANDLE) (b.val + 1)
        migs := [newMig (s.fld pPLC PLC_HIDX_HANDLE) p .pin] } ∧
      Changes (s.arrive t 0x5060 (256 + b.val)) u [.plc] noField := by
  have hplc : (s.arrive t 0x5060 (256 + b.val)).plc = s.plc := State.arrive_plc _ _ _ _
  have hrole : (s.arrive t 0x5060 (256 + b.val)).role ≠ 2 :=
    (State.arrive_role _ _ _ _).trans_ne ((s.at_ t).writeOpen_role _ hopen rfl)
  refine pin_completes b hmirrors hopen ?_
  rw [State.pin_elsewhere _ _ _ p (hplc ▸ hsound) (hplc ▸ hother) ((State.arrive_excluded _ _ _).trans hexcl)
    (hplc ▸ hmigs) (State.phys_congr hplc _ ▸ hbank) ((State.freeSlot_congr hplc _).trans hfree)
    (State.arrive_ctx s t _ _ ▸ hload) hrole]
  refine ⟨?_, ((Changes.refl _ _ _).updPlc (by decide)).updPlc (by decide)⟩
  rw [State.updPlc_plc, State.setPin, State.updPlc_plc, hplc]

theorem unpin_completes (hmirrors : s.mirrors = false) (hopen : (s.at_ t).writeOpen 0x5060 = true)
    (hmigs : s.plc.migs = []) (hpinned : SMap.get 0 s.plc.pins (s.fld pPLC PLC_HIDX_HANDLE) ≠ 0) :
    Completes (.unpin t) s fun u =>
      u.plc = { s.plc with pins := SMap.put 0 s.plc.pins (s.fld pPLC PLC_HIDX_HANDLE) 0 } ∧
      Changes (s.arrive t 0x5060 128) u [.plc] noField := by
  have hplc : (s.arrive t 0x5060 128).plc = s.plc := State.arrive_plc _ _ _ _
  refine plcWrite_acts_completes (o := 0x60) hmirrors hopen rfl ?_
  rw [State.doPin_unpin, State.arrive_fld, if_neg (hplc ▸ hpinned), State.cancelWhere_none]
  · refine ⟨?_, (Changes.refl _ _ _).updPlc (by decide)⟩
    rw [State.setPin, State.updPlc_plc, hplc]
  · rw [State.setPin, State.updPlc_plc, hplc]
    exact hmigs

theorem unpin_completes_unpinned (hmirrors : s.mirrors = false) (hopen : (s.at_ t).writeOpen 0x5060 = true)
    (hunpinned : SMap.get 0 s.plc.pins (s.fld pPLC PLC_HIDX_HANDLE) = 0) :
    Completes (.unpin t) s fun u => u = s.arrive t 0x5060 128 := by
  refine plcWrite_acts_completes (o := 0x60) hmirrors hopen rfl ?_
  rw [State.doPin_unpin, State.arrive_fld, State.arrive_plc, if_pos hunpinned]

end

/-! ## EXCLUDE and INCLUDE (R147 to R149) -/

/-- The fields of an evacuation's requests. -/
def evacFields : List (Nat × Fld) :=
  [(pPLC, PLC_MIGLAST_RESULT), (pPLC, PLC_MIGLAST_TARGET), (pPLC, PLC_MIGLAST_SOURCE), (pPLC, PLC_MIGLAST_HANDLE),
    (pPLC, PLC_STAT_EVSTALL)] ++ errFields pPLC

/-- From `s` to `u` moves have been cancelled or requested: no handle has moved and no pin has changed. -/
def Evacuates (s u : State) : Prop :=
  Changes s u [.plc, .msi] (fields evacFields) ∧ u.plc.home = s.plc.home ∧ u.plc.pins = s.plc.pins

section
variable {s u : State}

theorem Evacuates.refl (s : State) : Evacuates s s := ⟨Changes.refl _ _ _, rfl, rfl⟩

theorem Evacuates.cancelMig {m : Mig} (h : Evacuates s u) : Evacuates s (u.cancelMig m) :=
  ⟨((((h.1.updPlc (by decide)).setFld (by decide)).setFld (by decide)).setFld (by decide)).setFld (by decide), h.2⟩

theorem Evacuates.cancelAll {ms : List Mig} (h : Evacuates s u) : Evacuates s (ms.foldl State.cancelMig u) := by
  induction ms generalizing u with
  | nil => exact h
  | cons m ms ih => exact ih h.cancelMig

theorem Evacuates.cancelWhere {f : Mig → Bool} (h : Evacuates s u) : Evacuates s (u.cancelWhere f) := by
  have hmark : Evacuates s (u.updPlc fun p =>
      { p with migs := p.migs.map fun m => if f m then { m with cancel := 2 } else m }) := ⟨h.1.updPlc (by decide), h.2⟩
  unfold State.cancelWhere
  dsimp only
  split
  · exact hmark
  · exact hmark.cancelAll

theorem Evacuates.addMig {m : Mig} (h : Evacuates s u) : Evacuates s (u.addMig m) := by
  unfold State.addMig
  split
  · exact h
  · exact ⟨h.1.updPlc (by decide), h.2⟩

theorem Evacuates.evStall (h : Evacuates s u) : Evacuates s u.evStall :=
  ⟨(h.1.setFld (by decide)).err (by decide) (by decide) (by decide), by
    rw [State.evStall, State.err_plc, State.setFld_plc]
    exact h.2⟩

theorem Evacuates.requestEvac {xs : List Nat} (h : Evacuates s u) : Evacuates s (State.requestEvac xs u) := by
  induction xs generalizing u with
  | nil => exact h
  | cons x xs ih =>
    rw [State.requestEvac]
    split
    · exact ih h
    · split
      · exact ih h.addMig
      · exact h.evStall

theorem Evacuates.ctx (h : Evacuates s u) : u.ctx = s.ctx :=
  show (u.blank [.plc, .msi]).ctx = (s.blank [.plc, .msi]).ctx by rw [h.1.1]

theorem Evacuates.freeSlots (h : Evacuates s u) (b : Nat) : u.freeSlots b = s.freeSlots b := by
  rw [State.freeSlots, State.freeSlots, h.2.1]

end

/-- R148: the evacuation of a bank is at its end when the bank holds no handle. -/
theorem State.evacDone_spec (s : State) (hst : s.fld pPLC PLC_STAT_EXCLSTATE = 1) :
    s.evacDone.fld pPLC PLC_STAT_EXCLBANK = s.fld pPLC PLC_STAT_EXCLBANK ∧
    s.evacDone.fld pPLC PLC_STAT_EXCLSTATE = (if s.freeSlots (s.fld pPLC PLC_STAT_EXCLBANK) = 1600 then 2 else 1) ∧
    s.evacDone.ctx = s.ctx ∧ s.evacDone.plc = s.plc := by
  by_cases hempty : s.freeSlots (s.fld pPLC PLC_STAT_EXCLBANK) = 1600
  · rw [State.evacDone, if_pos ⟨hst, hempty⟩, if_pos hempty, State.irq_ctx, State.irq_plc]
    refine ⟨?_, ?_, rfl, rfl⟩
    · rw [State.fld_irq_ne, State.fld_setFld_ne] <;> decide
    · rw [State.fld_irq_ne, State.fld_setFld_same] <;> decide
  · rw [State.evacDone, if_neg fun h => hempty h.2, if_neg hempty]
    exact ⟨rfl, hst, rfl, rfl⟩

/-- R148: the exclusion of a bank without pinned handles begins its evacuation. -/
theorem State.exclude_spec (s : State) (b : Nat) (hb : b < 32) (hsound : s.plc.hmBad = [])
    (hst : s.fld pPLC PLC_STAT_EXCLSTATE = 0) (hpins : (s.plc.pins.any fun e => bankOf (s.phys e.1) = b) = false) :
    (s.exclude b).fld pPLC PLC_STAT_EXCLBANK = b ∧
    (s.exclude b).fld pPLC PLC_STAT_EXCLSTATE = (if s.freeSlots b = 1600 then 2 else 1) ∧
    (s.exclude b).ctx = s.ctx ∧ (s.exclude b).plc.home = s.plc.home ∧ (s.exclude b).plc.pins = s.plc.pins := by
  let a := (s.setFld pPLC PLC_STAT_EXCLSTATE 1).setFld pPLC PLC_STAT_EXCLBANK b
  let c := a.cancelWhere fun m => bankOf m.target = b
  let e := State.requestEvac (c.evacOrder b) c
  have hexcl : s.exclude b = e.evacDone := by
    rw [State.exclude]
    refine (if_neg fun h => h.1 hst).trans ((if_neg ?_).trans ?_)
    · rw [hpins]
      exact fun h => h.elim (fun hne => hne hst) fun hf => Bool.false_ne_true hf
    · have hall : a.hmCheckAll (a.evacOrder b) = a := a.hmCheckAll_sound _ hsound
      show (State.requestEvac (((a.hmCheckAll (a.evacOrder b)).cancelWhere _).evacOrder b) _).evacDone = _
      rw [hall]
  have hevac : Evacuates a e := (Evacuates.refl a).cancelWhere.requestEvac
  have hbank : e.fld pPLC PLC_STAT_EXCLBANK = b := by
    rw [hevac.1.fld_eq (by decide), State.fld_setFld_same]
    exact Nat.mod_eq_of_lt hb
  have hstate : e.fld pPLC PLC_STAT_EXCLSTATE = 1 := by
    rw [hevac.1.fld_eq (by decide), State.fld_setFld_ne _ _ _ _ _ _ (by decide), State.fld_setFld_same]
    rfl
  obtain ⟨hb', hs', hctx, hplc⟩ := e.evacDone_spec hstate
  rw [hexcl, hb', hs', hctx, hplc, hbank, hevac.freeSlots]
  exact ⟨rfl, rfl, hevac.ctx, hevac.2⟩

theorem State.exclude_pinned (s : State) (b : Nat) (hst : s.fld pPLC PLC_STAT_EXCLSTATE = 0)
    (hpins : (s.plc.pins.any fun e => bankOf (s.phys e.1) = b) = true) : s.exclude b = s.err pPLC PLC_E_EXCLREF :=
  (if_neg fun h => h.1 hst).trans (if_pos (.inr hpins))

section
variable {s : State} {t : Time}

theorem State.arrive_pinsIn (off v b : Nat) :
    ((s.arrive t off v).plc.pins.any fun e => bankOf ((s.arrive t off v).phys e.1) = b) =
      s.plc.pins.any fun e => bankOf (s.phys e.1) = b := by
  unfold State.phys
  rw [State.arrive_plc]

theorem exclude_completes {P : State → Prop} (b : Engine) (hmirrors : s.mirrors = false)
    (hopen : (s.at_ t).writeOpen 0x5048 = true) (h : P ((s.arrive t 0x5048 (128 + b.val)).exclude b.val)) :
    Completes (.exclude t b) s P := by
  refine plcWrite_acts_completes (o := 0x48) hmirrors hopen rfl ?_
  rw [State.doExcl_exclude]
  exact h

theorem exclude_completes_begins (b : Engine) (hmirrors : s.mirrors = false) (hopen : (s.at_ t).writeOpen 0x5048 = true)
    (hsound : s.plc.hmBad = []) (hst : s.fld pPLC PLC_STAT_EXCLSTATE = 0)
    (hpins : (s.plc.pins.any fun e => bankOf (s.phys e.1) = b.val) = false) : Completes (.exclude t b) s fun u =>
      u.fld pPLC PLC_STAT_EXCLBANK = b.val ∧
      u.fld pPLC PLC_STAT_EXCLSTATE = (if s.freeSlots b.val = 1600 then 2 else 1) ∧
      u.ctx = s.ctx ∧ u.plc.home = s.plc.home ∧ u.plc.pins = s.plc.pins := by
  have hplc : (s.arrive t 0x5048 (128 + b.val)).plc = s.plc := State.arrive_plc _ _ _ _
  have hfree : (s.arrive t 0x5048 (128 + b.val)).freeSlots b.val = s.freeSlots b.val := by
    rw [State.freeSlots, State.freeSlots, hplc]
  refine exclude_completes b hmirrors hopen ?_
  have hspec := (s.arrive t 0x5048 (128 + b.val)).exclude_spec b.val b.isLt (hplc ▸ hsound)
    ((State.arrive_fld _ _ _ _ _ _).trans hst) ((State.arrive_pinsIn _ _ _).trans hpins)
  rwa [hfree, State.arrive_ctx, hplc] at hspec

theorem exclude_completes_pinned (b : Engine) (hmirrors : s.mirrors = false) (hopen : (s.at_ t).writeOpen 0x5048 = true)
    (hst : s.fld pPLC PLC_STAT_EXCLSTATE = 0)
    (hpins : (s.plc.pins.any fun e => bankOf (s.phys e.1) = b.val) = true) : Completes (.exclude t b) s fun u =>
      RaisesOnly (s.arrive t 0x5048 (128 + b.val)) u pPLC PLC_E_EXCLREF := by
  refine exclude_completes b hmirrors hopen ?_
  rw [State.exclude_pinned _ _ ((State.arrive_fld _ _ _ _ _ _).trans hst) ((State.arrive_pinsIn _ _ _).trans hpins)]
  exact State.err_raises _ _ _

theorem include_completes (hmirrors : s.mirrors = false) (hopen : (s.at_ t).writeOpen 0x5048 = true) :
    Completes (.include t) s fun u =>
      u.plc = { s.plc with include_ := s.plc.include_ || decide (s.fld pPLC PLC_STAT_EXCLSTATE ≠ 0) } ∧
      Changes (s.arrive t 0x5048 256) u [.plc] noField := by
  refine plcWrite_acts_completes (o := 0x48) hmirrors hopen rfl ?_
  rw [State.doExcl_include, State.arrive_fld]
  by_cases hst : s.fld pPLC PLC_STAT_EXCLSTATE = 0
  · rw [if_pos hst, State.arrive_plc, hst]
    exact ⟨by simp, Changes.refl _ _ _⟩
  · rw [if_neg hst, State.updPlc_plc, State.arrive_plc]
    exact ⟨by simp [hst], (Changes.refl _ _ _).updPlc (by decide)⟩

end

/-- Settles O19: on a paired primary the write waits; else pins and exclusions are recorded, and moves only requested. -/
theorem pinsAndExclusion : Obligations.PinsAndExclusion :=
  ⟨fun s t hmirrors c o v hc hopen => placement_waits s t hmirrors c o v hc hopen,
   fun _ _ hmirrors =>
    ⟨fun b hopen hsound hsame => pin_completes_stands b hmirrors hopen hsound hsame,
      fun b hopen hsound hother hexcl => pin_completes_excluded b hmirrors hopen hsound hother hexcl,
      fun b hopen hsound hother hexcl hmigs hbank =>
        pin_completes_here b hmirrors hopen hsound hother hexcl hmigs hbank,
      fun b p hopen hsound hother hexcl hmigs hbank hfree hload =>
        pin_completes_elsewhere b p hmirrors hopen hsound hother hexcl hmigs hbank hfree hload,
      fun hopen hmigs hpinned => unpin_completes hmirrors hopen hmigs hpinned,
      fun hopen hunpinned => unpin_completes_unpinned hmirrors hopen hunpinned,
      fun b hopen hsound hst hpins => exclude_completes_begins b hmirrors hopen hsound hst hpins,
      fun b hopen hst hpins => exclude_completes_pinned b hmirrors hopen hst hpins,
      fun hopen => include_completes hmirrors hopen⟩⟩

end Sys2Proof.Machine

/-! # The pair link and what the standby acknowledges (R55, R350, R351, R362) -/

namespace Sys2Proof.Machine

/-! ## The pair link goes down (R350, R351) -/

/-- R351: what the failure of the pair link raises. -/
theorem State.raisePairdown_changes (s : State) : Changes s (s.err pTWN TWN_E_PAIRDOWN).contained [.msi]
    (fields ((pERR, ERR_CLASSCNT_CONTAINED) :: errFields pTWN)) :=
  ((Changes.refl _ _ _).err (by decide) (by decide) (by decide)).contained (by decide)

theorem State.raisePairdown_flags (s : State) : s.flags (s.err pTWN TWN_E_PAIRDOWN).contained pTWN TWN_E_PAIRDOWN ∧
    s.counts (s.err pTWN TWN_E_PAIRDOWN).contained pERR ERR_CLASSCNT_CONTAINED := by
  constructor
  · rw [State.flags, State.contained, State.fld_addSat_ne _ _ _ _ _ _ (by decide), State.fld_err_err]
  · rw [State.counts, State.contained, State.fld_addSat_same,
      ((Changes.refl s [.msi] (fields (errFields pTWN))).err (by decide) (by decide) (by decide)).fld_eq (by decide)]

theorem State.pairFails_other (s : State) (hrole : s.role ≠ 1) :
    s.pairFails.fld pTWN TWN_STAT_LINKUP = 0 ∧ s.pairFails.twn = { s.twn with out := [], resends := 0 } ∧
    s.flags s.pairFails pTWN TWN_E_PAIRDOWN ∧ s.counts s.pairFails pERR ERR_CLASSCNT_CONTAINED ∧
    s.pairFails.role = s.role := by
  let v := (s.setFld pTWN TWN_STAT_LINKUP 0).updTwn fun w => { w with out := [], resends := 0 }
  have hv : Changes s v [.twn] (fields [(pTWN, TWN_STAT_LINKUP)]) :=
    ((Changes.refl _ _ _).setFld (by decide)).updTwn (by decide)
  have hrole' : (s.setFld pTWN TWN_STAT_LINKUP 0).role ≠ 1 := by
    rw [State.role, State.fld_setFld_ne _ _ _ _ _ _ (by decide)]
    exact hrole
  have hfails : s.pairFails = (v.err pTWN TWN_E_PAIRDOWN).contained := by
    rw [State.pairFails, if_neg hrole']
  have hraise := v.raisePairdown_changes
  obtain ⟨hflags, hcounts⟩ := v.raisePairdown_flags
  rw [State.flags, hv.fld_eq (by decide)] at hflags
  rw [State.counts, hv.fld_eq (by decide)] at hcounts
  rw [hfails]
  refine ⟨?_, ?_, hflags, hcounts, ?_⟩
  · rw [hraise.fld_eq (by decide)]
    exact s.fld_setFld_same pTWN TWN_STAT_LINKUP 0
  · rw [State.contained_twn, State.err_twn]
    rfl
  · rw [State.role, hraise.fld_eq (by decide), hv.fld_eq (by decide), ← State.role]

/-- R350, R351: a primary for which nothing waits is unpaired, and stays the primary. -/
theorem State.pairFails_primary (s : State) (hrole : s.role = 1) (hheld : s.twn.held = []) :
    s.pairFails.fld pTWN TWN_STAT_LINKUP = 0 ∧ s.pairFails.fld pTWN TWN_STAT_PAIRED = 0 ∧ s.pairFails.twn.out = [] ∧
    s.pairFails.role = 1 := by
  let v := s.setFld pTWN TWN_STAT_LINKUP 0
  let a := (v.setFld pTWN TWN_STAT_PAIRED 0).updTwn fun w => { w with held := [], out := [] }
  let w := ((a.mirrorGroups fun _ => true).mirrorSet).mirrorMaps
  let x := w.updTwn fun w => { w with out := [], resends := 0 }
  have hrole' : v.role = 1 := by
    rw [State.role, State.fld_setFld_ne _ _ _ _ _ _ (by decide)]
    exact hrole
  have hunpair : v.unpair = w := by
    have hheld' : (v.setFld pTWN TWN_STAT_PAIRED 0).twn.held = [] := hheld
    rw [State.unpair, hheld']
    rfl
  have hfails : s.pairFails = (x.err pTWN TWN_E_PAIRDOWN).contained := by
    rw [State.pairFails, if_pos hrole', hunpair]
  have hw : Works a w := Works.mirrorMaps (Works.mirrorSet (Works.mirrorGroups (Changes.refl _ _ _)))
  have hraise := x.raisePairdown_changes
  rw [hfails]
  refine ⟨?_, ?_, ?_, ?_⟩
  · rw [hraise.fld_eq (by decide), State.updTwn_fld, hw.twnFld (by decide), State.updTwn_fld,
      State.fld_setFld_ne _ _ _ _ _ _ (by decide), State.fld_setFld_same]
    rfl
  · rw [hraise.fld_eq (by decide), State.updTwn_fld, hw.twnFld (by decide), State.updTwn_fld, State.fld_setFld_same]
    rfl
  · rw [State.contained_twn, State.err_twn]
    rfl
  · rw [State.role, hraise.fld_eq (by decide), State.updTwn_fld, hw.twnFld (by decide), State.updTwn_fld,
      State.fld_setFld_ne _ _ _ _ _ _ (by decide)]
    exact hrole'

/-! ## The lanes and the resends of the pair link (R351, R362) -/

section
variable (s : State) (t : Time)

theorem State.atTime_clkTwn (h : s.clkOn pTWN = true) : (s.at_ t).clkOn pTWN = true :=
  (s.atTime_clkOn t pTWN (by decide)).trans h

theorem pairdown_keeps (lanes : BitVec 4) (hclk : s.clkOn pTWN = true)
    (h : lanes = 15 ∨ s.bit pTWN TWN_STAT_LINKUP = false) : Completes (.pairdown t lanes) s fun u =>
      u.fld pTWN TWN_STAT_LANES = lanes.toNat ∧ Changes (s.at_ t) u [] (fields [(pTWN, TWN_STAT_LANES)]) := by
  let v := (s.at_ t).setFld pTWN TWN_STAT_LANES lanes.toNat
  have hup : v.bit pTWN TWN_STAT_LINKUP = s.bit pTWN TWN_STAT_LINKUP := by
    rw [State.bit, State.fld_setFld_ne _ _ _ _ _ _ (by decide)]; rfl
  have hstay : ¬(lanes ≠ 15 ∧ v.bit pTWN TWN_STAT_LINKUP = true) := by
    rw [hup]
    rintro ⟨hne, hon⟩
    exact h.elim hne fun hoff => Bool.false_ne_true (hoff.symm.trans hon)
  have hexec : exec (.pairdown t lanes) s = .next v := by
    show execPairdown t lanes s = _
    rw [execPairdown, s.atTime_clkTwn t hclk]
    exact congrArg _ (if_neg hstay)
  exact ⟨v, hexec, (State.fld_setFld_same _ _ _ _).trans (Nat.mod_eq_of_lt lanes.isLt),
    (Changes.refl _ _ _).setFld (by decide)⟩

/-- R351: a lane of a pair link that is up has lost block lock. -/
theorem pairdown_fails {P : State → Prop} (lanes : BitVec 4) (hclk : s.clkOn pTWN = true) (hlost : lanes ≠ 15)
    (hup : s.bit pTWN TWN_STAT_LINKUP = true) (h : P ((s.at_ t).setFld pTWN TWN_STAT_LANES lanes.toNat).pairFails) :
    Completes (.pairdown t lanes) s P := by
  let v := (s.at_ t).setFld pTWN TWN_STAT_LANES lanes.toNat
  have hup' : v.bit pTWN TWN_STAT_LINKUP = true := by
    rw [State.bit, State.fld_setFld_ne _ _ _ _ _ _ (by decide)]
    exact hup
  have hfails : lanes ≠ 15 ∧ v.bit pTWN TWN_STAT_LINKUP = true := ⟨hlost, hup'⟩
  have hexec : exec (.pairdown t lanes) s = .next v.pairFails := by
    show execPairdown t lanes s = _
    rw [execPairdown, s.atTime_clkTwn t hclk]
    exact congrArg _ (if_pos hfails)
  exact ⟨_, hexec, h⟩

theorem pairdown_primary (lanes : BitVec 4) (hclk : s.clkOn pTWN = true) (hlost : lanes ≠ 15)
    (hup : s.bit pTWN TWN_STAT_LINKUP = true) (hrole : s.role = 1) (hheld : s.twn.held = []) :
    Completes (.pairdown t lanes) s fun u =>
      u.fld pTWN TWN_STAT_LINKUP = 0 ∧ u.fld pTWN TWN_STAT_PAIRED = 0 ∧ u.twn.out = [] ∧ u.role = 1 := by
  refine pairdown_fails s t lanes hclk hlost hup (State.pairFails_primary _ ?_ hheld)
  rw [State.role, State.fld_setFld_ne _ _ _ _ _ _ (by decide)]
  exact hrole

theorem pairdown_other (lanes : BitVec 4) (hclk : s.clkOn pTWN = true) (hlost : lanes ≠ 15)
    (hup : s.bit pTWN TWN_STAT_LINKUP = true) (hrole : s.role ≠ 1) : Completes (.pairdown t lanes) s fun u =>
      u.fld pTWN TWN_STAT_LINKUP = 0 ∧ u.twn = { s.twn with out := [], resends := 0 } ∧
      s.flags u pTWN TWN_E_PAIRDOWN ∧ s.counts u pERR ERR_CLASSCNT_CONTAINED ∧ u.role = s.role := by
  have hv : Changes (s.at_ t) ((s.at_ t).setFld pTWN TWN_STAT_LANES lanes.toNat) [] (fields [(pTWN, TWN_STAT_LANES)]) :=
    (Changes.refl _ _ _).setFld (by decide)
  have hrole' : ((s.at_ t).setFld pTWN TWN_STAT_LANES lanes.toNat).role = s.role := hv.fld_eq (by decide)
  refine pairdown_fails s t lanes hclk hlost hup ?_
  obtain ⟨hup', htwn, hflags, hcounts, hkeep⟩ := State.pairFails_other _ (hrole'.trans_ne hrole)
  rw [State.flags, hv.fld_eq (by decide)] at hflags
  rw [State.counts, hv.fld_eq (by decide)] at hcounts
  exact ⟨hup', htwn, hflags, hcounts, hkeep.trans hrole'⟩

theorem pairLinkUp_completes (h : Bool) (hclk : s.clkOn pTWN = true) (hdown : s.bit pTWN TWN_STAT_LINKUP = false) :
    Completes (.pairLinkUp t h) s fun u =>
      u.fld pTWN TWN_STAT_LINKUP = 1 ∧ u.fld pTWN TWN_STAT_LANES = 15 ∧ u.bit pTWN TWN_STAT_PHLTH = h ∧
      u.twn.resends = 0 ∧ u.fld pTWN TWN_STAT_SSTATE = (if s.role = 2 ∧ 2 ≤ s.fld pTWN TWN_STAT_SSTATE then 2
        else s.fld pTWN TWN_STAT_SSTATE) ∧
      (s.role = 2 → 2 ≤ s.fld pTWN TWN_STAT_SSTATE → u.twn.xfer = 0 ∧ u.twn.matched = false) ∧
      Changes (s.at_ t) u [.twn] (fields [(pTWN, TWN_STAT_LINKUP), (pTWN, TWN_STAT_LANES), (pTWN, TWN_STAT_PHLTH),
        (pTWN, TWN_STAT_SSTATE)]) := by
  let v := ((s.at_ t).setFld pTWN TWN_STAT_LANES 15).setBit pTWN TWN_STAT_PHLTH h
  let w := (v.setFld pTWN TWN_STAT_LINKUP 1).updTwn fun w => { w with resends := 0 }
  let x := (w.setFld pTWN TWN_STAT_SSTATE 2).updTwn fun w =>
    { w with xfer := 0, matched := false, missed := false, gotRec := none }
  have hwc : Changes (s.at_ t) w [.twn] (fields [(pTWN, TWN_STAT_LINKUP), (pTWN, TWN_STAT_LANES), (pTWN, TWN_STAT_PHLTH),
      (pTWN, TWN_STAT_SSTATE)]) :=
    ((((Changes.refl _ _ _).setFld (by decide)).setBit (by decide)).setFld (by decide)).updTwn (by decide)
  have hdown' : ¬v.bit pTWN TWN_STAT_LINKUP = true := by
    rw [State.bit, State.fld_setBit_ne _ _ _ _ _ _ (by decide), State.fld_setFld_ne _ _ _ _ _ _ (by decide)]
    exact fun hon => Bool.false_ne_true (hdown.symm.trans hon)
  have hstate : w.role = s.role ∧ w.fld pTWN TWN_STAT_SSTATE = s.fld pTWN TWN_STAT_SSTATE := by
    constructor <;> simp (disch := decide) [w, v, State.role, State.fld_setFld_ne, State.fld_setBit_ne]
  have hexec : exec (.pairLinkUp t h) s =
      .next (if s.role = 2 ∧ 2 ≤ s.fld pTWN TWN_STAT_SSTATE then x else w) := by
    show execPairLinkUp t h s = _
    rw [execPairLinkUp, s.atTime_clkTwn t hclk, ← hstate.1, ← hstate.2]
    exact congrArg _ (if_neg hdown')
  have hw : w.fld pTWN TWN_STAT_LINKUP = 1 ∧ w.fld pTWN TWN_STAT_LANES = 15 ∧ w.fld pTWN TWN_STAT_PHLTH = h.toNat := by
    refine ⟨?_, ?_, ?_⟩
    · simp [w, TWN_STAT_LINKUP]
    · simp (disch := decide) [w, v, State.fld_setFld_ne, State.fld_setBit_ne]
      rfl
    · simp (disch := decide) [w, v, State.fld_setFld_ne]
      cases h <;> rfl
  have hbit : ∀ u : State, u.fld pTWN TWN_STAT_PHLTH = h.toNat → u.bit pTWN TWN_STAT_PHLTH = h := by
    intro u hu
    rw [State.bit, hu]
    cases h <;> rfl
  obtain ⟨hlink, hlanes, hhlth⟩ := hw
  refine ⟨_, hexec, ?_⟩
  dsimp only
  by_cases hsync : s.role = 2 ∧ 2 ≤ s.fld pTWN TWN_STAT_SSTATE
  · have hx : Changes w x [.twn] (fields [(pTWN, TWN_STAT_SSTATE)]) :=
      ((Changes.refl _ _ _).setFld (by decide)).updTwn (by decide)
    rw [if_pos hsync, if_pos hsync]
    exact ⟨(hx.fld_eq (by decide)).trans hlink, (hx.fld_eq (by decide)).trans hlanes,
      hbit _ ((hx.fld_eq (by decide)).trans hhlth), rfl, w.fld_setFld_same pTWN TWN_STAT_SSTATE 2, fun _ _ => ⟨rfl, rfl⟩,
      (hwc.setFld (by decide)).updTwn (by decide)⟩
  · rw [if_neg hsync, if_neg hsync]
    exact ⟨hlink, hlanes, hbit _ hhlth, rfl, hstate.2, fun h2 h3 => absurd ⟨h2, h3⟩ hsync, hwc⟩

/-- R351: the oldest parcel is sent again. -/
def State.resent : State := (s.addSat pTWN TWN_CNT2_RETRY 1).updTwn fun w => { w with resends := w.resends + 1 }

theorem exec_parcelResend (hup : s.bit pTWN TWN_STAT_LINKUP = true) (hout : s.twn.out ≠ []) :
    exec (.parcelResend t) s =
      .next (if 8 ≤ s.twn.resends + 1 then (s.at_ t).resent.pairFails else (s.at_ t).resent) := by
  have hgo : ¬((s.at_ t).twn.out = [] ∨ (s.at_ t).bit pTWN TWN_STAT_LINKUP = false) := fun h =>
    h.elim hout fun hoff => Bool.false_ne_true (hoff.symm.trans hup)
  exact congrArg Host.Outcome.next (if_neg hgo)

theorem State.resent_changes : Changes s s.resent [.twn] (fields [(pTWN, TWN_CNT2_RETRY)]) :=
  ((Changes.refl _ _ _).addSat (by decide)).updTwn (by decide)

theorem parcelResend_again (hup : s.bit pTWN TWN_STAT_LINKUP = true) (hout : s.twn.out ≠ []) (hfew : s.twn.resends < 7) :
    Completes (.parcelResend t) s fun u =>
      u.twn = { s.twn with resends := s.twn.resends + 1 } ∧ s.counts u pTWN TWN_CNT2_RETRY ∧
      Changes (s.at_ t) u [.twn] (fields [(pTWN, TWN_CNT2_RETRY)]) :=
  ⟨_, (exec_parcelResend s t hup hout).trans (congrArg _ (if_neg (by omega))), rfl, State.fld_addSat_same _ _ _ _,
    (s.at_ t).resent_changes⟩

theorem parcelResend_fails (hup : s.bit pTWN TWN_STAT_LINKUP = true) (hout : s.twn.out ≠ []) (hmany : 7 ≤ s.twn.resends)
    (hrole : s.role ≠ 1) : Completes (.parcelResend t) s fun u =>
      u.fld pTWN TWN_STAT_LINKUP = 0 ∧ u.twn.out = [] ∧ s.flags u pTWN TWN_E_PAIRDOWN := by
  have hv := (s.at_ t).resent_changes
  have hrole' : (s.at_ t).resent.role ≠ 1 := (hv.fld_eq (by decide)).trans_ne hrole
  obtain ⟨hdown, htwn, hflags, -, -⟩ := (s.at_ t).resent.pairFails_other hrole'
  rw [State.flags, hv.fld_eq (by decide)] at hflags
  exact ⟨_, (exec_parcelResend s t hup hout).trans (congrArg _ (if_pos (by omega))), hdown, by rw [htwn], hflags⟩

theorem nothing_out (hout : s.twn.out = []) : Completes (.parcelResend t) s (fun u => u = s.at_ t) ∧
    Completes (.mirrorAck t) s (fun u => u = s.at_ t) := by
  refine ⟨⟨_, congrArg Host.Outcome.next (if_pos (.inl hout)), rfl⟩, ⟨_, ?_, rfl⟩⟩
  show execMirrorAck t s = _
  rw [execMirrorAck, State.atTime_twn, hout]

end

end Sys2Proof.Machine

/-! # What the standby's acknowledgement of a parcel does (R55, R74, R264) -/

namespace Sys2Proof.Machine

/-- R55: the oldest parcel is acknowledged. -/
def State.ackTaken (s : State) (t : Time) (xs : List (Nat × Fwd)) : State :=
  (s.at_ t).updTwn fun w => { w with out := xs, resends := 0 }

theorem State.ackTaken_changes (s : State) (t : Time) (xs : List (Nat × Fwd)) :
    Changes (s.at_ t) (s.ackTaken t xs) [.twn] noField := (Changes.refl _ _ _).updTwn (by decide)

theorem State.exec_mirrorAck (s : State) (t : Time) {x : Nat × Fwd} {xs : List (Nat × Fwd)} (h : s.twn.out = x :: xs) :
    exec (.mirrorAck t) s = .next ((s.ackTaken t xs).acked x) := by
  show execMirrorAck t s = _
  rw [execMirrorAck, State.atTime_twn, h]
  rfl

/-! ## Parcels for which nothing waits, and writes (R55, R151) -/

theorem State.acked_reg_none (s : State) (n off v : Nat) (h : ∀ x ∈ s.twn.held, x.1 ≠ n) : s.acked (n, .reg off v) = s := by
  have hnow : (s.twn.held.filter fun x => x.1 = n) = [] := List.filter_eq_nil_iff.mpr fun x hx => by simpa using h x hx
  have hrest : (s.twn.held.filter fun x => x.1 ≠ n) = s.twn.held := List.filter_eq_self.mpr fun x hx => by simpa using h x hx
  have hheld : (s.updTwn fun w => { w with held := w.held.filter fun x => x.1 ≠ n }) = s := by
    unfold State.updTwn
    dsimp only
    rw [hrest]
  have hdue : (s.updTwn fun w => { w with due := w.due ++ [] }) = s := by
    unfold State.updTwn
    dsimp only
    rw [List.append_nil]
  show (s.updTwn fun w => { w with held := w.held.filter fun x => x.1 ≠ n }).holdWrites
    (s.twn.held.filter fun x => x.1 = n) = s
  rw [hheld, hnow, State.holdWrites, hdue]
  exact ite_self _

theorem State.acked_place (s : State) (n h p : Nat) (hrun : s.frmState ≠ 0) (hclosed : s.windowOpen = false) :
    s.acked (n, .place h p) = s :=
  if_neg fun hopen => hopen.elim hrun fun hw => Bool.false_ne_true (hclosed.symm.trans hw)

section
variable {s : State} {t : Time} {n : Nat} {x : Fwd} {xs : List (Nat × Fwd)}

theorem mirrorAck_idle (hout : s.twn.out = (n, x) :: xs) (off v l : Nat) (ms : List Module)
    (hx : x = .bar2 off v ∨ x = .training l ms ∨ (x = .reg off v ∧ ∀ h ∈ s.twn.held, h.1 ≠ n) ∨
      (x = .place off v ∧ s.frmState ≠ 0 ∧ s.windowOpen = false)) : Completes (.mirrorAck t) s fun u =>
      u.twn = { s.twn with out := xs, resends := 0 } ∧ Changes (s.at_ t) u [.twn] noField := by
  have hack : (s.ackTaken t xs).acked (n, x) = s.ackTaken t xs := by
    obtain rfl | rfl | ⟨rfl, hheld⟩ | ⟨rfl, hrun, hclosed⟩ := hx
    · rfl
    · rfl
    · exact State.acked_reg_none _ n off v hheld
    · exact State.acked_place _ n off v hrun hclosed
  exact ⟨_, (s.exec_mirrorAck t hout).trans (congrArg _ hack), rfl, s.ackTaken_changes t xs⟩

theorem mirrorAck_reg (hout : s.twn.out = (n, x) :: xs) (off v : Nat) (hx : x = .reg off v) (hrun : s.frmState = 1) :
    Completes (.mirrorAck t) s fun u =>
      u.twn = { s.twn with
        out := xs, resends := 0, held := s.twn.held.filter fun h => h.1 ≠ n
        due := s.twn.due ++ s.twn.held.filter fun h => h.1 = n } ∧ Changes (s.at_ t) u [.twn] noField := by
  subst hx
  have hack : (s.ackTaken t xs).acked (n, .reg off v) =
      ((s.ackTaken t xs).updTwn fun w => { w with held := w.held.filter fun h => h.1 ≠ n }).updTwn fun w =>
        { w with due := w.due ++ s.twn.held.filter fun h => h.1 = n } := if_pos hrun
  exact ⟨_, (s.exec_mirrorAck t hout).trans (congrArg _ hack), rfl,
    ((s.ackTaken_changes t xs).updTwn (by decide)).updTwn (by decide)⟩

end

/-! ## Groups (R74, R75) -/

/-- R75: the completion of refused groups leaves the records, and of the waiting groups only some. -/
theorem State.completeRefused_ctx (gs : List Group) (s : State) :
    (State.completeRefused gs s).ctx.store = s.ctx.store ∧ ∀ g ∈ (State.completeRefused gs s).ctx.waiting, g ∈ gs := by
  induction gs generalizing s with
  | nil => exact ⟨rfl, fun _ hg => hg⟩
  | cons g gs ih =>
    rw [State.completeRefused]
    split
    · exact ⟨rfl, fun _ hg => hg⟩
    · obtain ⟨hstore, hwaiting⟩ := ih (s.complete g.id g.refused)
      exact ⟨hstore.trans (congrArg Ctx.store (s.complete_ctx _ _)), fun x hx => List.mem_cons_of_mem _ (hwaiting x hx)⟩

theorem State.completeRefused_plc (gs : List Group) (s : State) : (State.completeRefused gs s).plc = s.plc := by
  induction gs generalizing s with
  | nil => rfl
  | cons g gs ih =>
    rw [State.completeRefused]
    split
    · rfl
    · exact (ih _).trans (show ((s.complete g.id g.refused).blank [.fls, .msi]).plc = (s.blank [.fls, .msi]).plc by
        rw [(s.complete_changes _ _).1])

/-- R55, R74: the groups that are named no longer wait for the standby. -/
theorem State.mirrorGroups_spec (s : State) (f : Nat → Bool) :
    (∀ g ∈ (s.mirrorGroups f).ctx.waiting, f g.id = true → g.mirrored = true) ∧
    (s.mirrorGroups f).ctx.store = s.ctx.store ∧ (s.mirrorGroups f).plc = s.plc := by
  let v := s.updCtx fun c =>
    { c with waiting := c.waiting.map fun g => if f g.id then { g with mirrored := true } else g }
  have hv : v.noteAccepted.ctx.store = v.ctx.store := congrArg Ctx.store v.noteAccepted_ctx
  obtain ⟨hstore, hwaiting⟩ := State.completeRefused_ctx v.noteAccepted.ctx.waiting v.noteAccepted
  have hplc : v.noteAccepted.plc = v.plc :=
    show (v.noteAccepted.blank []).plc = (v.blank []).plc by rw [v.noteAccepted_changes.1]
  refine ⟨fun g hg hf => ?_, hstore.trans hv,
    (State.completeRefused_plc _ _).trans hplc⟩
  have hmem := hwaiting g hg
  rw [v.noteAccepted_ctx] at hmem
  obtain ⟨x, -, rfl⟩ := List.mem_map.mp hmem
  by_cases hx : f x.id = true
  · rw [if_pos hx]
  · rw [if_neg hx] at hf
    exact absurd hf hx

theorem mirrorAck_group {s : State} {t : Time} {n : Nat} {x : Fwd} {xs : List (Nat × Fwd)}
    (hout : s.twn.out = (n, x) :: xs) (id : Nat) (hx : x = .group id) : Completes (.mirrorAck t) s fun u =>
      u.twn = { s.twn with out := xs, resends := 0 } ∧ (∀ g ∈ u.ctx.waiting, g.id = id → g.mirrored = true) ∧
      u.ctx.store = s.ctx.store ∧ u.plc = s.plc := by
  subst hx
  let a := s.ackTaken t xs
  have hworks : Works a (a.mirrorGroups (· = id)) := Works.mirrorGroups (Changes.refl _ _ _)
  obtain ⟨hwaiting, hstore, hplc⟩ := a.mirrorGroups_spec (· = id)
  exact ⟨a.mirrorGroups (· = id), s.exec_mirrorAck t hout, hworks.twn, fun g hg hid => hwaiting g hg (by simpa using hid),
    hstore, hplc⟩

/-! ## Activation sets (R264) -/

theorem mirrorAck_set {s : State} {t : Time} {n : Nat} {x : Fwd} {xs : List (Nat × Fwd)}
    (hout : s.twn.out = (n, x) :: xs) (set : AsSet) (hx : x = .actSet) (hclosed : s.windowOpen = false)
    (has : s.cfg.as = some set) : Completes (.mirrorAck t) s fun u =>
      u.cfg = { s.cfg with as := some { set with mirrored := true } } ∧ u.fab = s.fab := by
  subst hx
  let a := s.ackTaken t xs
  let v := (a.updAs fun b => { b with mirrored := true }).asShow
  have hshow : Changes a v [.cfg] (fields armedFields) := ((Changes.refl _ _ _).updCfg (by decide)).asShow
  have hcfg : v.cfg = { s.cfg with as := some { set with mirrored := true } } := by
    rw [State.asShow_cfg, State.updAs, State.updCfg_cfg]
    have has' : a.cfg.as = some set := has
    dsimp only
    rw [has']
    rfl
  have hfab : v.fab = s.fab := show (v.blank [.cfg]).fab = (a.blank [.cfg]).fab by rw [hshow.1]
  have hfrm : v.frm = s.frm := show (v.blank [.cfg]).frm = (a.blank [.cfg]).frm by rw [hshow.1]
  have hclosed' : ¬v.windowOpen = true := by
    have hstate : v.frmState = s.frmState := hshow.fld_eq (by decide)
    rw [State.windowOpen, hstate, hfrm, ← State.windowOpen, hclosed]
    exact Bool.false_ne_true
  have hack : a.acked (n, .actSet) = v := if_neg hclosed'
  exact ⟨v, (s.exec_mirrorAck t hout).trans (congrArg _ hack), hcfg, hfab⟩

end Sys2Proof.Machine

/-! # State transfer and the end of resynchronising (R350, R359 to R361) -/

namespace Sys2Proof.Machine

/-! ## Maps that are filled from a list -/

section
variable {α β : Type} [DecidableEq α] (d : α) (key : β → Nat) (val : β → α)

theorem SMap.get_fill_absent (xs : List β) (m : SMap α) (k : Nat) (h : ∀ e ∈ xs, key e ≠ k) :
    SMap.get d (xs.foldl (fun m e => SMap.put d m (key e) (val e)) m) k = SMap.get d m k := by
  induction xs generalizing m with
  | nil => rfl
  | cons x xs ih =>
    obtain ⟨hx, hxs⟩ := List.forall_mem_cons.mp h
    exact (ih _ hxs).trans (SMap.get_put_ne _ _ _ _ _ _ hx.symm)

theorem SMap.get_fill_mem (xs : List β) (m : SMap α) (hnodup : (xs.map key).Nodup) (e : β) (he : e ∈ xs) :
    SMap.get d (xs.foldl (fun m e => SMap.put d m (key e) (val e)) m) (key e) = val e := by
  induction xs generalizing m with
  | nil => cases he
  | cons x xs ih =>
    rw [List.map_cons, List.nodup_cons] at hnodup
    obtain ⟨hnot, hrest⟩ := hnodup
    obtain rfl | hmem := List.mem_cons.mp he
    · have habsent : ∀ y ∈ xs, key y ≠ key e := fun y hy hk => hnot (hk ▸ List.mem_map_of_mem hy)
      exact (SMap.get_fill_absent d key val xs _ _ habsent).trans (SMap.get_put_same _ _ _ _)
    · exact ih _ hrest hmem

end

/-! ## The registers (R359) -/

/-- The pages whose registers a transfer gives the standby. -/
def xferPages : List Nat := [pFRM, pCTX, pPLC, pJE 0]

theorem lo_of_xferPages : ∀ p ∈ xferPages, ∀ f ∈ fieldsOf p, f.lo < 32 := by
  have hall : ∀ p ∈ xferPages, (fieldsOf p).all (fun f => decide (f.lo < 32)) = true := by decide
  exact fun p hp f hf => of_decide_eq_true (List.all_eq_true.mp (hall p hp) f hf)

theorem State.putReg_changes (s : State) (off v : Nat) : Changes s (s.putReg off v) [] (pages xferPages) := by
  unfold State.putReg
  dsimp only
  split
  case isFalse => exact Changes.refl _ _ _
  case isTrue h =>
    have hpage : off / 4096 ∈ xferPages := by
      simpa [xferPages] using h.1
    generalize hfs : ((fieldsOf (off / 4096)).filter fun f => f.off = off % 4096) = fs
    have hkey : ∀ f ∈ fs, pages xferPages (fldKey (off / 4096) f) = true := by
      intro f hf
      rw [← hfs] at hf
      obtain ⟨hmem, hoff⟩ := List.mem_filter.mp hf
      have hlo := lo_of_xferPages _ hpage f hmem
      have hlt : f.off * 32 + f.lo < 131072 := by
        have hat : f.off = off % 4096 := by simpa using hoff
        omega
      rw [pages, fldKey_div _ _ hlt]
      simpa using hpage
    clear hfs
    have hfold : ∀ u, Changes s u [] (pages xferPages) →
        Changes s (fs.foldl (fun w f => w.store (off / 4096) f v) u) [] (pages xferPages) := by
      induction fs with
      | nil => exact fun _ hu => hu
      | cons f fs ih =>
        obtain ⟨hf, hfs⟩ := List.forall_mem_cons.mp hkey
        exact fun u hu => ih hfs _ (hu.store hf)
    exact hfold s (Changes.refl _ _ _)

theorem State.putRegs_changes (s : State) (rs : List (BitVec 21 × Dword)) :
    Changes s (rs.foldl (fun u e => u.putReg e.1.toNat e.2.toNat) s) [] (pages xferPages) :=
  Changes.foldl (fun v e hv => hv.trans (v.putReg_changes e.1.toNat e.2.toNat)) (Changes.refl _ _ _)

/-! ## The items (R151, R359) -/

/-- The due table and the load table of these handles from their records. -/
def State.putLoads (s : State) (hs : List Nat) : State :=
  hs.foldl (fun s h => (s.setDue h).updCtx fun c => { c with load := SMap.put Load.none c.load h (s.loadOf h) }) s

/-- Only those two tables change. -/
theorem State.putLoads_spec (s : State) (hs : List Nat) :
    ∃ due load, s.putLoads hs = s.updCtx fun c => { c with due := due, load := load } := by
  induction hs generalizing s with
  | nil => exact ⟨s.ctx.due, s.ctx.load, rfl⟩
  | cons h hs ih =>
    obtain ⟨due, load, hrest⟩ := ih ((s.setDue h).updCtx fun c =>
      { c with load := SMap.put Load.none c.load h (s.loadOf h) })
    exact ⟨due, load, hrest⟩

/-- R359: what a transfer gives the contexts. -/
theorem State.putContexts_spec (s : State) (x : XferIn) :
    (s.putContexts x).ctx.store = x.words.foldl (fun m e => SMap.put 0 m e.1.val e.2) [] ∧
    (s.putContexts x).ctx.ecc = [] ∧
    (s.putContexts x).ctx.quar = x.quar.foldl (fun m e => SMap.put 0 m e.1.val (e.2.toNat + 1)) [] ∧
    (s.putContexts x).ctx.waiting = x.groups.map (fun g => ⟨g.1.toNat, g.2.map xferEntry, 0, false, true⟩) ∧
    Changes s (s.putContexts x) [.ctx] noField := by
  obtain ⟨c, hs, hput, hstore, hecc, hquar, hwaiting⟩ : ∃ (c : Ctx) (hs : List Nat),
      s.putContexts x = (s.updCtx fun _ => c).putLoads hs ∧
      c.store = x.words.foldl (fun m e => SMap.put 0 m e.1.val e.2) [] ∧ c.ecc = [] ∧
      c.quar = x.quar.foldl (fun m e => SMap.put 0 m e.1.val (e.2.toNat + 1)) [] ∧
      c.waiting = x.groups.map (fun g => ⟨g.1.toNat, g.2.map xferEntry, 0, false, true⟩) :=
    ⟨_, _, rfl, rfl, rfl, rfl, rfl⟩
  obtain ⟨due, load, hloads⟩ := (s.updCtx fun _ => c).putLoads_spec hs
  rw [hput, hloads]
  exact ⟨hstore, hecc, hquar, hwaiting, ((Changes.refl _ _ _).updCtx (by decide)).updCtx (by decide)⟩

/-- The parts that the items of a transfer are in. -/
def itemPieces : List Piece := [.frm, .ctx, .jer, .plc, .twn]

/-- What the items leave. -/
theorem Changes.items_keep {s u : State} {K : Nat → Bool} (h : Changes s u itemPieces K) :
    u.cfg = s.cfg ∧ u.fab = s.fab ∧ u.lnk = s.lnk :=
  ⟨show (u.blank itemPieces).cfg = (s.blank itemPieces).cfg by rw [h.1],
    show (u.blank itemPieces).fab = (s.blank itemPieces).fab by rw [h.1],
    show (u.blank itemPieces).lnk = (s.blank itemPieces).lnk by rw [h.1]⟩

/-- The parts that a frame to make up for is in. -/
def replayPieces : List Piece := [.frm, .ctx, .jer, .twn]

theorem Changes.replay_plc {s u : State} {K : Nat → Bool} (h : Changes s u replayPieces K) : u.plc = s.plc :=
  show (u.blank replayPieces).plc = (s.blank replayPieces).plc by rw [h.1]

/-- R359: the standby holds the items. -/
def State.itemsPut (s : State) (x : XferIn) : State := (((s.putMap x).putContexts x).putTables x).putFrm

theorem State.itemsPut_changes (s : State) (x : XferIn) :
    Changes s (s.itemsPut x) itemPieces noField := by
  have hmap : Changes s (s.putMap x) itemPieces noField := (Changes.refl _ _ _).updPlc (by decide)
  have hctx := hmap.trans (((s.putMap x).putContexts_spec x).2.2.2.2.mono (by decide) fun _ hk => hk)
  exact (((hctx.updJer (by decide)).updFrm (by decide)).updCtx (by decide)).updTwn (by decide)

theorem State.itemsPut_plc (s : State) (x : XferIn) : (s.itemsPut x).plc = (s.putMap x).plc := by
  have hctx := ((s.putMap x).putContexts_spec x).2.2.2.2
  exact show (((s.putMap x).putContexts x).blank [.ctx]).plc = ((s.putMap x).blank [.ctx]).plc by rw [hctx.1]

theorem State.itemsPut_twn (s : State) (x : XferIn) :
    (s.itemsPut x).twn.xfer = 1 ∧ (s.itemsPut x).twn.xferAt = s.time ∧ (s.itemsPut x).twn.replay = none := by
  have hctx := ((s.putMap x).putContexts_spec x).2.2.2.2
  have htime : ((s.putMap x).putContexts x).time = s.time :=
    show (((s.putMap x).putContexts x).blank [.ctx]).time = ((s.putMap x).blank [.ctx]).time by rw [hctx.1]
  exact ⟨rfl, htime, rfl⟩

theorem State.itemsPut_inFrame (s : State) (x : XferIn) : (s.itemsPut x).frm.inFrame = false := rfl

/-! ## The frame that a transfer makes up for (R360) -/

/-- The due list of each engine is set. -/
theorem State.setEngines_spec (s : State) (g : Nat → Eng) (es : List Nat) :
    ∃ eng, es.foldl (fun s e => s.updEng e fun _ => g e) s = s.updJer fun j => { j with eng := eng } := by
  induction es generalizing s with
  | nil => exact ⟨s.jer.eng, rfl⟩
  | cons e es ih =>
    obtain ⟨eng, hrest⟩ := ih (s.updEng e fun _ => g e)
    exact ⟨eng, hrest⟩

/-- R360: the frame is in force again, and what it replays is noted. -/
theorem State.replayFrame_spec (s : State) (r : FrameRec) (tags : List (Handle × Fin 3)) :
    (s.replayFrame r tags).frm.inFrame = true ∧ (s.replayFrame r tags).fn = r.fn % 2 ^ 48 ∧
    (s.replayFrame r tags).jer.snap = SMap.putAll 0 [] 0 r.snap ∧
    (∃ full, (s.replayFrame r tags).twn =
      { s.twn with replay := some ((tags.filter fun y => y.2 = 0).map (fun y => s.phys y.1.val), full) }) ∧
    (s.replayFrame r tags).ctx.store = s.ctx.store ∧ (s.replayFrame r tags).ctx.ecc = s.ctx.ecc ∧
    (s.replayFrame r tags).ctx.quar = s.ctx.quar ∧ (s.replayFrame r tags).ctx.waiting = s.ctx.waiting ∧
    Changes s (s.replayFrame r tags) replayPieces (fields [(pFRM, FRM_FN_LO_FN), (pFRM, FRM_FN_HI_FN)]) := by
  obtain ⟨jer, ctx, frm, full, g, hreplay, hin, hsnap, hstore, hecc, hquar, hwaiting⟩ :
      ∃ (jer : Jer) (ctx : Ctx) (frm : Frm) (full : List (List Nat)) (g : Nat → Eng),
        s.replayFrame r tags = ((List.range 32).foldl (fun s e => s.updEng e fun _ => g e)
          ((((s.setFn r.fn).updJer fun _ => jer).updCtx fun _ => ctx).updFrm fun _ => frm)).updTwn (fun w =>
            { w with replay := some ((tags.filter fun y => y.2 = 0).map (fun y => s.phys y.1.val), full) }) ∧
        frm.inFrame = true ∧ jer.snap = SMap.putAll 0 [] 0 r.snap ∧ ctx.store = s.ctx.store ∧ ctx.ecc = s.ctx.ecc ∧
        ctx.quar = s.ctx.quar ∧ ctx.waiting = s.ctx.waiting :=
    ⟨_, _, _, _, _, rfl, rfl, rfl, rfl, rfl, rfl, rfl⟩
  obtain ⟨eng, hengines⟩ := State.setEngines_spec
    ((((s.setFn r.fn).updJer fun _ => jer).updCtx fun _ => ctx).updFrm fun _ => frm) g (List.range 32)
  rw [hreplay, hengines]
  refine ⟨hin, s.fn_setFn r.fn, hsnap, ⟨full, rfl⟩, hstore, hecc, hquar, hwaiting, ?_⟩
  have hfn : Changes s (s.setFn r.fn) replayPieces (fields [(pFRM, FRM_FN_LO_FN), (pFRM, FRM_FN_HI_FN)]) :=
    (Changes.refl _ _ _).setFn (by decide) (by decide)
  exact ((((hfn.updJer (by decide)).updCtx (by decide)).updFrm (by decide)).updJer (by decide)).updTwn (by decide)

/-- R360: the frame in force at the primary is made up for, in RUN. -/
def State.replayFrom (s : State) (frame : Option RecIn) (tags : List (Handle × Fin 3)) : State :=
  match frame with
  | some r => if s.frmState = 1 then s.replayFrame (recAt r s.time) tags else s
  | none => s

/-- R360: it leaves the items that the transfer has put. -/
theorem State.replayFrom_keeps (s : State) (frame : Option RecIn) (tags : List (Handle × Fin 3)) :
    (s.replayFrom frame tags).ctx.store = s.ctx.store ∧ (s.replayFrom frame tags).ctx.ecc = s.ctx.ecc ∧
    (s.replayFrom frame tags).ctx.quar = s.ctx.quar ∧ (s.replayFrom frame tags).ctx.waiting = s.ctx.waiting ∧
    (s.replayFrom frame tags).twn.xfer = s.twn.xfer ∧ (s.replayFrom frame tags).twn.xferAt = s.twn.xferAt ∧
    Changes s (s.replayFrom frame tags) replayPieces
      (fields [(pFRM, FRM_FN_LO_FN), (pFRM, FRM_FN_HI_FN)]) := by
  have hsame : ∀ u, u = s → u.ctx.store = s.ctx.store ∧ u.ctx.ecc = s.ctx.ecc ∧ u.ctx.quar = s.ctx.quar ∧
      u.ctx.waiting = s.ctx.waiting ∧ u.twn.xfer = s.twn.xfer ∧ u.twn.xferAt = s.twn.xferAt ∧
      Changes s u replayPieces (fields [(pFRM, FRM_FN_LO_FN), (pFRM, FRM_FN_HI_FN)]) := by
    rintro u rfl
    exact ⟨rfl, rfl, rfl, rfl, rfl, rfl, Changes.refl _ _ _⟩
  unfold State.replayFrom
  split
  case h_2 => exact hsame _ rfl
  case h_1 r =>
    split
    case isFalse => exact hsame _ rfl
    case isTrue =>
      obtain ⟨-, -, -, ⟨full, htwn⟩, hstore, hecc, hquar, hwaiting, hchanges⟩ :=
        s.replayFrame_spec (recAt r s.time) tags
      exact ⟨hstore, hecc, hquar, hwaiting, by rw [htwn], by rw [htwn], hchanges⟩

/-! ## STATE_TRANSFER (R359, R360) -/

/-- R359: the standby has taken the items, and the frame to make up for. -/
def State.transferred (s : State) (x : XferIn) : State :=
  ((x.regs.foldl (fun u e => u.putReg e.1.toNat e.2.toNat) s).itemsPut x).replayFrom x.frame x.tags

/-- R359: the standby shows that it holds the items. -/
def State.xferShown (s : State) : State := (s.recount.setFld pTWN TWN_STAT_SSTATE 2).setFld pTWN TWN_JOINSTAT_PCT 100

theorem exec_stateTransfer (s : State) (t : Time) (x : XferIn) (hup : s.bit pTWN TWN_STAT_LINKUP = true)
    (hrole : s.role = 2) (hst : s.fld pTWN TWN_STAT_SSTATE ≠ 3) :
    exec (.stateTransfer t (some x)) s = .next ((s.at_ t).transferred x).xferShown := by
  have hup' : ¬(s.at_ t).bit pTWN TWN_STAT_LINKUP = false := fun hoff => Bool.false_ne_true (hoff.symm.trans hup)
  have hrole' : ¬(s.at_ t).role = 1 := fun h1 => absurd (h1.symm.trans hrole) (by decide)
  have hgo : (s.at_ t).role = 2 ∧ (s.at_ t).fld pTWN TWN_STAT_SSTATE ≠ 3 := ⟨hrole, hst⟩
  exact congrArg Host.Outcome.next ((if_neg hup').trans ((if_neg hrole').trans (if_pos hgo)))

theorem State.xferShown_fields (s : State) :
    s.xferShown.fld pTWN TWN_STAT_SSTATE = 2 ∧ s.xferShown.fld pTWN TWN_JOINSTAT_PCT = 100 ∧
    Changes s s.xferShown []
      (fields [(pCTX, CTX_QCNT_COUNT), (pTWN, TWN_STAT_SSTATE), (pTWN, TWN_JOINSTAT_PCT)]) :=
  ⟨(State.fld_setFld_ne _ _ _ _ _ _ (by decide)).trans (State.fld_setFld_same _ _ _ _), State.fld_setFld_same _ _ _ _,
    (((Changes.refl _ _ _).setFld (by decide)).setFld (by decide)).setFld (by decide)⟩

section
variable (s : State) (x : XferIn)

/-- R359: the registers and items of the primary stand at the standby. -/
theorem State.transferred_items :
    (s.transferred x).ctx.store = x.words.foldl (fun m e => SMap.put 0 m e.1.val e.2) [] ∧
    (s.transferred x).ctx.ecc = [] ∧
    (s.transferred x).ctx.quar = x.quar.foldl (fun m e => SMap.put 0 m e.1.val (e.2.toNat + 1)) [] ∧
    (s.transferred x).ctx.waiting = x.groups.map (fun g => ⟨g.1.toNat, g.2.map xferEntry, 0, false, true⟩) ∧
    (s.transferred x).twn.xfer = 1 ∧ (s.transferred x).twn.xferAt = s.time := by
  let b := x.regs.foldl (fun u e => u.putReg e.1.toNat e.2.toNat) s
  have hb : b.time = s.time :=
    show (b.blank []).time = (s.blank []).time by rw [(s.putRegs_changes x.regs).1]
  obtain ⟨hstore, hecc, hquar, hwaiting, -⟩ := (b.putMap x).putContexts_spec x
  obtain ⟨hxfer, hat, -⟩ := b.itemsPut_twn x
  obtain ⟨hstore', hecc', hquar', hwaiting', hxfer', hat', -⟩ := (b.itemsPut x).replayFrom_keeps x.frame x.tags
  exact ⟨hstore'.trans hstore, hecc'.trans hecc, hquar'.trans hquar, hwaiting'.trans hwaiting, hxfer'.trans hxfer,
    hat'.trans (hat.trans hb)⟩

/-- R359: the rest of the device but for the frame number stands. -/
theorem State.transferred_keeps :
    (s.transferred x).role = s.role ∧ (s.transferred x).cfg = s.cfg ∧ (s.transferred x).fab = s.fab ∧
    (s.transferred x).lnk = s.lnk := by
  let b := x.regs.foldl (fun u e => u.putReg e.1.toNat e.2.toNat) s
  have hb : Changes s b [] (pages xferPages) := s.putRegs_changes x.regs
  have hc := b.itemsPut_changes x
  obtain ⟨-, -, -, -, -, -, hv⟩ := (b.itemsPut x).replayFrom_keeps x.frame x.tags
  have hrole : (s.transferred x).role = s.role :=
    (hv.fld_eq (by decide)).trans ((hc.fld_eq rfl).trans (hb.fld_eq (by decide)))
  have hputs : Changes s (b.itemsPut x) itemPieces (pages xferPages) :=
    (hb.mono (by decide) fun _ hk => hk).trans (hc.mono (fun _ h => h) fun _ _ => rfl)
  obtain ⟨hcfg, hfab, hlnk⟩ := Changes.items_keep hputs
  obtain ⟨hcfg', hfab', hlnk'⟩ := Changes.items_keep (hv.mono (qs := itemPieces) (by decide) fun _ hk => hk)
  exact ⟨hrole, hcfg'.trans hcfg, hfab'.trans hfab, hlnk'.trans hlnk⟩

/-- R151: the handle map, the pins and the allocations are the primary's. -/
theorem State.transferred_plc :
    (s.transferred x).plc = ((x.regs.foldl (fun u e => u.putReg e.1.toNat e.2.toNat) s).putMap x).plc := by
  let b := x.regs.foldl (fun u e => u.putReg e.1.toNat e.2.toNat) s
  obtain ⟨-, -, -, -, -, -, hv⟩ := (b.itemsPut x).replayFrom_keeps x.frame x.tags
  have hplc : (s.transferred x).plc = (b.itemsPut x).plc := Changes.replay_plc hv
  exact hplc.trans (b.itemsPut_plc x)

/-- R359: without a record no frame is in force. -/
theorem State.transferred_idle (h : x.frame = none) :
    (s.transferred x).frm.inFrame = false ∧ (s.transferred x).twn.replay = none := by
  rw [State.transferred, h]
  exact ⟨State.itemsPut_inFrame _ x, (State.itemsPut_twn _ x).2.2⟩

/-- R360: with one, in RUN, its frame is. -/
theorem State.transferred_frame (r : RecIn) (h : x.frame = some r) (hregs : x.regs = []) (hrun : s.frmState = 1) :
    (s.transferred x).frm.inFrame = true ∧ (s.transferred x).fn = r.fn.toNat ∧
    (s.transferred x).jer.snap = SMap.putAll 0 [] 0 r.snap ∧
    ∃ full, (s.transferred x).twn.replay =
      some ((x.tags.filter fun y => y.2 = 0).map (fun y => (s.transferred x).phys y.1.val), full) := by
  have hrun' : (s.itemsPut x).frmState = 1 := ((s.itemsPut_changes x).fld_eq rfl).trans hrun
  have hreplay : s.transferred x = (s.itemsPut x).replayFrame (recAt r (s.itemsPut x).time) x.tags := by
    rw [State.transferred, hregs, h]
    exact if_pos hrun'
  have hphys : ∀ y, (s.transferred x).phys y = (s.itemsPut x).phys y := State.phys_congr (by
    rw [State.transferred_plc, hregs, State.itemsPut_plc]
    rfl)
  obtain ⟨hin, hfn, hsnap, ⟨full, htwn⟩, -⟩ := (s.itemsPut x).replayFrame_spec (recAt r (s.itemsPut x).time) x.tags
  rw [← hreplay] at hin hfn hsnap htwn
  refine ⟨hin, hfn.trans (Nat.mod_eq_of_lt r.fn.isLt), hsnap, full, ?_⟩
  simp only [htwn, hphys]

end

theorem stateTransfer_standby (s : State) (t : Time) (x : XferIn) (hup : s.bit pTWN TWN_STAT_LINKUP = true)
    (hrole : s.role = 2) (hst : s.fld pTWN TWN_STAT_SSTATE ≠ 3) (hwords : (x.words.map fun e => e.1.val).Nodup)
    (hquars : (x.quar.map fun e => e.1.val).Nodup) : Completes (.stateTransfer t (some x)) s fun u =>
      u.role = 2 ∧ u.fld pTWN TWN_STAT_SSTATE = 2 ∧ u.fld pTWN TWN_JOINSTAT_PCT = 100 ∧ u.twn.xfer = 1 ∧
      u.twn.xferAt = s.timeAt t ∧ (∀ e ∈ x.words, SMap.get 0 u.ctx.store e.1.val = e.2) ∧
      (∀ k, (∀ e ∈ x.words, e.1.val ≠ k) → SMap.get 0 u.ctx.store k = 0) ∧ u.ctx.ecc = [] ∧
      (∀ e ∈ x.quar, SMap.get 0 u.ctx.quar e.1.val = e.2.toNat + 1) ∧
      u.ctx.waiting.map Group.id = x.groups.map (fun g => g.1.toNat) ∧ u.cfg = s.cfg ∧ u.fab = s.fab ∧ u.lnk = s.lnk ∧
      u.plc.allocs.map Alloc.id = x.allocs.map (fun a => a.1.val) ∧
      (x.frame = none → u.frm.inFrame = false ∧ u.twn.replay = none) ∧
      (∀ r, x.frame = some r → x.regs = [] → s.frmState = 1 → u.frm.inFrame = true ∧ u.fn = r.fn.toNat ∧
        u.jer.snap = SMap.putAll 0 [] 0 r.snap ∧
        ∃ full, u.twn.replay = some ((x.tags.filter fun y => y.2 = 0).map (fun y => u.phys y.1.val), full)) := by
  let v := (s.at_ t).transferred x
  obtain ⟨hstate, hpct, hshown⟩ := v.xferShown_fields
  obtain ⟨hstore, hecc, hquar, hwaiting, hxfer, hat⟩ := (s.at_ t).transferred_items x
  obtain ⟨hkeep, hcfg, hfab, hlnk⟩ := (s.at_ t).transferred_keeps x
  have hplc := (s.at_ t).transferred_plc x
  have hrole' : v.xferShown.role = 2 := (hshown.fld_eq (by decide)).trans (hkeep.trans hrole)
  have hfn : v.xferShown.fn = v.fn := hshown.fn_eq (by decide) (by decide)
  refine ⟨_, exec_stateTransfer s t x hup hrole hst, hrole', hstate, hpct, hxfer, hat, fun e he => ?_, fun k hk => ?_,
    hecc, fun e he => ?_, ?_, hcfg, hfab, hlnk, ?_, (s.at_ t).transferred_idle x, fun r hr hregs hrun => ?_⟩
  · rw [show v.xferShown.ctx.store = _ from hstore]
    exact SMap.get_fill_mem 0 (fun e => e.1.val) (fun e => e.2) _ _ hwords e he
  · rw [show v.xferShown.ctx.store = _ from hstore]
    exact SMap.get_fill_absent 0 (fun e : Fin 3276800 × Word => e.1.val) (fun e => e.2) _ _ k hk
  · rw [show v.xferShown.ctx.quar = _ from hquar]
    exact SMap.get_fill_mem 0 (fun e => e.1.val) (fun e => e.2.toNat + 1) _ _ hquars e he
  · rw [show v.xferShown.ctx.waiting = _ from hwaiting, List.map_map]
    rfl
  · rw [show v.xferShown.plc = _ from hplc]
    exact List.map_map
  · obtain ⟨hin, hnumber, hsnap, hreplay⟩ := (s.at_ t).transferred_frame x r hr hregs hrun
    exact ⟨hin, hfn.trans hnumber, hsnap, hreplay⟩

theorem stateTransfer_down (s : State) (t : Time) (x : Option XferIn) (h : s.bit pTWN TWN_STAT_LINKUP = false) :
    Completes (.stateTransfer t x) s fun u => u = s.at_ t := ⟨_, congrArg Host.Outcome.next (if_pos h), rfl⟩

theorem stateTransfer_primary (s : State) (t : Time) (x : Option XferIn) (hup : s.bit pTWN TWN_STAT_LINKUP = true)
    (hrole : s.role = 1) : Completes (.stateTransfer t x) s fun u =>
      u.fld pTWN TWN_STAT_PAIRED = 1 ∧ Changes (s.at_ t) u [] (fields [(pTWN, TWN_STAT_PAIRED)]) := by
  have hup' : ¬(s.at_ t).bit pTWN TWN_STAT_LINKUP = false := fun hoff => Bool.false_ne_true (hoff.symm.trans hup)
  have hrole' : (s.at_ t).role = 1 := hrole
  exact ⟨_, congrArg Host.Outcome.next ((if_neg hup').trans (if_pos hrole')), State.fld_setFld_same _ _ _ _,
    (Changes.refl _ _ _).setFld (by decide)⟩

/-! ## SYNCED (R361) -/

theorem synced_completes (s : State) (t : Time) (hrole : s.role = 2) (hst : s.fld pTWN TWN_STAT_SSTATE = 2)
    (hxfer : s.twn.xfer = 1) (hreplay : s.twn.replay = none) : Completes (.synced t) s fun u =>
      u.fld pTWN TWN_STAT_SSTATE = 3 ∧ u.twn = { s.twn with matched := false, cmpFrom := (s.at_ t).syncFn } ∧
      u.fld pTWN TWN_RSYNC_LAST = Nat.min 65535 ((s.timeAt t - s.twn.xferAt) / 10000) ∧
      u.fld pTWN TWN_RSYNC_COUNT = (s.fld pTWN TWN_RSYNC_COUNT + 1) % 65536 ∧ s.asserts u pTWN TWN_E_SYNCDONE := by
  let n := Nat.min 65535 ((s.timeAt t - s.twn.xferAt) / 10000)
  let a := ((s.at_ t).setFld pTWN TWN_STAT_SSTATE 3).updTwn fun w => { w with matched := false, cmpFrom := (s.at_ t).syncFn }
  let b := (a.setFld pTWN TWN_RSYNC_LAST n).addWrap pTWN TWN_RSYNC_COUNT 1
  have hexec : exec (.synced t) s = .next (b.irq pTWN TWN_E_SYNCDONE) :=
    congrArg Host.Outcome.next (if_pos ⟨hrole, hst, hxfer, hreplay⟩)
  have hirq : Changes b (b.irq pTWN TWN_E_SYNCDONE) [.msi] (fields (irqField pTWN)) :=
    (Changes.refl _ _ _).irq (by decide) (by decide)
  have hcount : Changes a b [] (fields [(pTWN, TWN_RSYNC_LAST), (pTWN, TWN_RSYNC_COUNT)]) :=
    ((Changes.refl _ _ _).setFld (by decide)).addWrap (by decide)
  have ha : Changes (s.at_ t) a [.twn] (fields [(pTWN, TWN_STAT_SSTATE)]) :=
    ((Changes.refl _ _ _).setFld (by decide)).updTwn (by decide)
  have hn : n % 2 ^ 16 = n := Nat.mod_eq_of_lt (Nat.lt_of_le_of_lt (Nat.min_le_left _ _) (by decide))
  refine ⟨_, hexec, ?_, ?_, ?_, ?_, ?_⟩
  · rw [hirq.fld_eq (by decide), hcount.fld_eq (by decide)]
    exact (s.at_ t).fld_setFld_same pTWN TWN_STAT_SSTATE 3
  · rw [State.irq_twn]
    rfl
  · rw [hirq.fld_eq (by decide)]
    exact (State.fld_addWrap_ne _ _ _ _ _ _ (by decide)).trans ((State.fld_setFld_same _ _ _ _).trans hn)
  · rw [hirq.fld_eq (by decide), State.fld_addWrap_same, State.fld_setFld_ne _ _ _ _ _ _ (by decide),
      ha.fld_eq (by decide)]
    rfl
  · rw [State.asserts, State.fld_irq_st, hcount.fld_eq (by decide), ha.fld_eq (by decide)]
    rfl

theorem synced_waits (s : State) (t : Time) (h : s.role ≠ 2 ∨ s.fld pTWN TWN_STAT_SSTATE ≠ 2 ∨ s.twn.xfer ≠ 1 ∨
    s.twn.replay.isSome = true) : Completes (.synced t) s fun u => u = s.at_ t := by
  refine ⟨_, congrArg Host.Outcome.next (if_neg ?_), rfl⟩
  rintro ⟨hrole, hst, hxfer, hreplay⟩
  obtain h | h | h | h := h
  · exact h hrole
  · exact h hst
  · exact h hxfer
  · rw [State.atTime_twn] at hreplay
    rw [hreplay] at h
    cases h

/-- Settles O48: the pair link goes up and down as its lanes and resends say, an acknowledgement lets go on what waited
for it, and a transfer puts the primary's items in place. -/
theorem pairLinkAndTransfer : Obligations.PairLinkAndTransfer :=
  ⟨fun s t =>
    ⟨fun h hclk hdown => pairLinkUp_completes s t h hclk hdown,
      fun lanes hclk => ⟨fun hkeep => pairdown_keeps s t lanes hclk hkeep, fun hlost hup =>
        ⟨fun hrole hheld => pairdown_primary s t lanes hclk hlost hup hrole hheld,
          fun hrole => pairdown_other s t lanes hclk hlost hup hrole⟩⟩,
      fun hup hout => ⟨fun hfew => parcelResend_again s t hup hout hfew,
        fun hmany hrole => parcelResend_fails s t hup hout hmany hrole⟩,
      fun hout => nothing_out s t hout,
      fun _ _ _ hout =>
        ⟨fun off v l ms hx => mirrorAck_idle hout off v l ms hx, fun off v hx hrun => mirrorAck_reg hout off v hx hrun,
          fun id hx => mirrorAck_group hout id hx, fun set hx hclosed has => mirrorAck_set hout set hx hclosed has⟩⟩,
   fun s t =>
    ⟨fun x hdown => stateTransfer_down s t x hdown, fun x hup hrole => stateTransfer_primary s t x hup hrole,
      fun x hup hrole hst hwords hquars => stateTransfer_standby s t x hup hrole hst hwords hquars,
      fun hrole hst hxfer hreplay => synced_completes s t hrole hst hxfer hreplay, fun h => synced_waits s t h⟩⟩

end Sys2Proof.Machine

/-! # The state right after power-on reset (R89, R106, R136, R241, R350, R394) -/

namespace Sys2Proof.Machine

/-- Settles O57: right after power-on reset no store lists an entry, so that each entry and each field reads as its reset
value. -/
theorem resetState : Obligations.ResetState :=
  ⟨rfl, rfl, fun _ _ => rfl, rfl, rfl, rfl, rfl, fun _ _ => rfl, fun _ => rfl, rfl, fun _ => rfl, fun _ => rfl, fun _ => rfl,
    rfl, rfl⟩

end Sys2Proof.Machine

/-! # Writes of the BAR2 windows and of the context window (R56, R57, R59, R69, R70, R76, R352) -/

namespace Sys2Proof.Machine

/-! ## Writes that reach their window (R312, R352, R383) -/

section
variable (s : State) (t : Time) (fwd : Bool) (words : List (Nat × Nat))

/-- What a host write of a BAR2 window acts on: device time has moved on, and a primary has handed its halfwords to the
pair link (R352). -/
def State.arrive2 : State :=
  if s.role = 1 ∧ fwd then words.foldl (fun s w => s.parcel (.bar2 w.1 w.2)) (s.at_ t) else s.at_ t

/-- A host write that reaches its window. -/
theorem State.hostWrite2_open {pg : Nat} (off : Nat) (eff : State → State) (h : (s.at_ t).writeOpen2 pg fwd = true) :
    s.hostWrite2 t pg off fwd words eff = eff (s.arrive2 t fwd words) := by
  simp only [State.writeOpen2, Bool.and_eq_true, Bool.not_eq_true', Bool.and_eq_false_iff, decide_eq_false_iff_not] at h
  obtain ⟨⟨⟨hup, hpfw⟩, hstandby⟩, hclk⟩ := h
  have hrole : ¬ ((s.at_ t).role = 2 ∧ fwd = true) := fun ⟨hr, hf⟩ => hstandby.elim (· hr) fun e => by simp [hf] at e
  simp only [State.hostWrite2, hup, hpfw, hclk, if_neg hrole]
  rfl

theorem State.arrive2_changes : Changes (s.at_ t) (s.arrive2 t fwd words) [.twn] noField :=
  Changes.ite (fun _ => Changes.foldl (fun _ _ hv => hv.parcel (by decide)) (Changes.refl _ _ _)) fun _ => Changes.refl _ _ _

/-- R352: only a primary hands the write on. -/
theorem State.arrive2_local (h : s.role ≠ 1) : s.arrive2 t fwd words = s.at_ t := if_neg fun hf => h hf.1

@[simp] theorem State.arrive2_fld (p : Nat) (f : Fld) : (s.arrive2 t fwd words).fld p f = s.fld p f :=
  (s.arrive2_changes t fwd words).fld_eq rfl

@[simp] theorem State.arrive2_bit (p : Nat) (f : Fld) : (s.arrive2 t fwd words).bit p f = s.bit p f := by
  rw [State.bit, State.arrive2_fld, State.bit]

@[simp] theorem State.arrive2_ctx : (s.arrive2 t fwd words).ctx = s.ctx :=
  show ((s.arrive2 t fwd words).blank [.twn]).ctx = ((s.at_ t).blank [.twn]).ctx by rw [(s.arrive2_changes t fwd words).1]

@[simp] theorem State.arrive2_jer : (s.arrive2 t fwd words).jer = s.jer :=
  show ((s.arrive2 t fwd words).blank [.twn]).jer = ((s.at_ t).blank [.twn]).jer by rw [(s.arrive2_changes t fwd words).1]

@[simp] theorem State.arrive2_fls : (s.arrive2 t fwd words).fls = s.fls :=
  show ((s.arrive2 t fwd words).blank [.twn]).fls = ((s.at_ t).blank [.twn]).fls by rw [(s.arrive2_changes t fwd words).1]

end

/-- A command that writes a window completes with its effect where the write reaches the window. -/
theorem Completes.write2 {c : Instr} {s : State} {P : State → Prop} {t : Time} {pg off : Nat} {fwd : Bool}
    {words : List (Nat × Nat)} {eff : State → State} (h : (s.at_ t).writeOpen2 pg fwd = true)
    (e : exec c s = .next (s.hostWrite2 t pg off fwd words eff)) (hp : P (eff (s.arrive2 t fwd words))) : Completes c s P :=
  ⟨_, e, by rwa [State.hostWrite2_open s t fwd words off eff h]⟩

/-! ## Entries of the open group (R69, R70) -/

section
variable (s : State)

/-- R69: these entries join the open group. -/
def State.withEntries (es : List GEntry) : State := s.updCtx fun c => { c with open_ := c.open_ ++ es }

theorem State.withEntries_nil : s.withEntries [] = s := by
  simp [State.withEntries, State.updCtx]

theorem State.withEntries_append (es fs : List GEntry) : (s.withEntries es).withEntries fs = s.withEntries (es ++ fs) := by
  simp [State.withEntries, State.updCtx]

/-- R69: a group that is neither full nor marked as overflowed takes an entry. -/
theorem State.addEntry_joins (e : GEntry) (hovf : s.bit pCTX CTX_GOPEN_OVF = false) (h : s.ctx.open_.length < 4096) :
    s.addEntry e = s.withEntries [e] := by
  simp only [State.addEntry, hovf, Bool.false_or, decide_eq_true_eq, if_neg (Nat.not_le.mpr h)]
  rfl

/-- R70: a full group takes none. -/
theorem State.addEntry_full (e : GEntry) (h : 4096 ≤ s.ctx.open_.length) :
    s.addEntry e = (s.setFld pCTX CTX_GOPEN_OVF 1).err pCTX CTX_E_GOVF := by
  simp only [State.addEntry, decide_eq_true h, Bool.or_true, if_true]

end

/-! ## Halfwords written whole (R57, R59, R69, R76) -/

/-- R59: a halfword at this window offset is a word of a record that the host may write. -/
abbrev hostOffset (off : Nat) : Prop := off / 128 < 49152 ∧ hostWord (off % 128 / 2) = true

section
variable (s : State) (mk : Nat → Nat → Word → GEntry) (off : Nat)

theorem State.ctxHalf_joins (x : Hw) (hbe : x.be = 3) (hoff : hostOffset off) (hovf : s.bit pCTX CTX_GOPEN_OVF = false)
    (h : s.ctx.open_.length < 4096) :
    s.ctxHalf mk off x = s.withEntries [mk (off / 128) (off % 128 / 2) (x.data.setWidth 10)] := by
  simp only [State.ctxHalf, hbe, if_neg (Nat.not_le.mpr hoff.1), hoff.2]
  exact s.addEntry_joins _ hovf h

/-- The entries of the halfwords written from an offset on, in ascending order. -/
def windowEntries (data : List Hw) : List GEntry :=
  data.zipIdx.map fun x => mk ((off + 2 * x.2) / 128) ((off + 2 * x.2) % 128 / 2) (x.1.data.setWidth 10)

theorem windowEntries_cons (x : Hw) (xs : List Hw) : windowEntries mk off (x :: xs) =
    mk (off / 128) (off % 128 / 2) (x.data.setWidth 10) :: windowEntries mk (off + 2) xs := by
  have hshift : ∀ i, off + 2 * (i + 1) = off + 2 + 2 * i := by intro i; omega
  simp only [windowEntries, List.zipIdx_cons', List.map_cons, List.map_map, Nat.mul_zero, Nat.add_zero]
  refine congrArg _ (List.map_congr_left fun e _ => ?_)
  simp only [Function.comp_apply, Prod.map_fst, Prod.map_snd, id_eq, hshift]

/-- R69: the halfwords of a write join the open group one after another. -/
theorem State.ctxHalves_join (data : List Hw) (hbe : ∀ x ∈ data, x.be = 3)
    (hoff : ∀ i < data.length, hostOffset (off + 2 * i)) (hovf : s.bit pCTX CTX_GOPEN_OVF = false)
    (h : s.ctx.open_.length + data.length ≤ 4096) :
    s.ctxHalves mk off data = s.withEntries (windowEntries mk off data) := by
  induction data generalizing s off with
  | nil => exact s.withEntries_nil.symm
  | cons x xs ih =>
    rw [List.length_cons] at h hoff
    obtain ⟨hx, hxs⟩ := List.forall_mem_cons.mp hbe
    have hoffs : ∀ i < xs.length, hostOffset (off + 2 + 2 * i) := fun i hi => by
      have hnext := hoff (i + 1) (Nat.succ_lt_succ hi)
      rwa [Nat.mul_add, Nat.add_comm (2 * i), ← Nat.add_assoc] at hnext
    have hroom : (s.withEntries [mk (off / 128) (off % 128 / 2) (x.data.setWidth 10)]).ctx.open_.length + xs.length ≤ 4096 := by
      simp only [State.withEntries, State.updCtx_ctx, List.length_append, List.length_singleton]; omega
    rw [State.ctxHalves, s.ctxHalf_joins mk off x hx (hoff 0 (Nat.succ_pos _)) hovf (by omega),
      ih (s.withEntries _) (off + 2) hxs hoffs hovf hroom, State.withEntries_append, windowEntries_cons]
    rfl

end

section
variable (s : State) (t : Time)

/-- R255, R417: what keeps writes out of the window is as it was when the write came. -/
theorem State.arrive2_ctxBlocked (fwd : Bool) (words : List (Nat × Nat)) :
    (s.arrive2 t fwd words).ctxBlocked = s.ctxBlocked := by
  simp only [State.ctxBlocked, State.arrive2_fls, State.arrive2_bit]

theorem State.ctxLoad_of_not_blocked (h : s.ctxBlocked = none) :
    s.fls.ctxLoad = false ∧ s.bit pCTX HDR_PG_CTRL_EN = true := by
  unfold State.ctxBlocked at h
  split at h
  · cases h
  · split at h
    · cases h
    · simp_all

theorem State.ctxEffect_open (mk : Nat → Nat → Word → GEntry) (off : Nat) (data : List Hw) (h : s.ctxBlocked = none) :
    State.ctxEffect mk off data s = s.ctxHalves mk off data := by
  simp only [State.ctxEffect, h]

/-- R57, R69, R76: a write of the window, or of an alias, whole and at words of the host. -/
theorem window_joins {c : Instr} (mk : Nat → Nat → Word → GEntry) (base off : Nat) (data : List Hw)
    (e : exec c s = .next (s.ctxWrite t mk base off data)) (hblocked : s.ctxBlocked = none)
    (hovf : s.bit pCTX CTX_GOPEN_OVF = false) (hopen : (s.at_ t).writeOpen2 pCTX true = true)
    (hroom : s.ctx.open_.length + data.length ≤ 4096) (hbe : ∀ x ∈ data, x.be = 3)
    (hoff : ∀ i < data.length, hostOffset (off + 2 * i)) : Completes c s (joined s t mk off data) := by
  refine Completes.write2 hopen e ?_
  have hjoin : (s.arrive2 t true (s.ctxWords (base + off) data)).ctxHalves mk off data =
      (s.arrive2 t true (s.ctxWords (base + off) data)).withEntries (windowEntries mk off data) :=
    State.ctxHalves_join _ mk off data hbe hoff ((s.arrive2_bit t true _ _ _).trans hovf) (by rw [s.arrive2_ctx]; exact hroom)
  rw [State.ctxEffect_open _ _ _ _ ((s.arrive2_ctxBlocked t true _).trans hblocked), hjoin]
  refine ⟨?_, ?_, fun hrole => ?_⟩
  · rw [State.withEntries, State.updCtx_ctx, s.arrive2_ctx]
    rfl
  · exact ((s.arrive2_changes t true _).mono (by decide) fun _ hk => hk).updCtx (by decide)
  · rw [State.withEntries, State.updCtx_twn, s.arrive2_local t true _ hrole, State.atTime_twn]

/-- R69, R87: a release joins the open group. -/
theorem qrel_joins (v : Dword) (hblocked : s.ctxBlocked = none) (hovf : s.bit pCTX CTX_GOPEN_OVF = false)
    (hopen : (s.at_ t).writeOpen 0x7058 = true) (hroom : s.ctx.open_.length < 4096)
    (hh : CTX_QREL_HANDLE.of v.toNat < 49152) : Completes (.qrelWrite t v) s fun u =>
      u.ctx = { s.ctx with open_ := s.ctx.open_ ++ [.rel (CTX_QREL_HANDLE.of v.toNat)] } ∧
      Changes (s.arrive t 0x7058 v.toNat) u [.ctx] noField := by
  have hload := s.ctxLoad_of_not_blocked hblocked
  refine Completes.write hopen rfl ?_
  have hrel : (s.arrive t 0x7058 v.toNat).doQrel v.toNat =
      (s.arrive t 0x7058 v.toNat).withEntries [.rel (CTX_QREL_HANDLE.of v.toNat)] := by
    simp only [State.doQrel, State.arrive_fls, State.arrive_bit, hload.1, hload.2, if_neg (Nat.not_le.mpr hh)]
    exact State.addEntry_joins _ _ ((s.arrive_bit t _ _ _ _).trans hovf) (by rw [s.arrive_ctx]; exact hroom)
  rw [hrel]
  refine ⟨?_, (Changes.refl _ _ _).updCtx (by decide)⟩
  rw [State.withEntries, State.updCtx_ctx, s.arrive_ctx]

end

/-! ## Halfwords that join no group (R56, R57, R59, R70) -/

section
variable (s : State) (t : Time) (mk : Nat → Nat → Word → GEntry) (off : Nat) (x : Hw)

theorem State.ctxHalf_disabled (h : x.be = 0) : s.ctxHalf mk off x = s := if_pos h

theorem be_partial (h : x.be = 1 ∨ x.be = 2) : x.be ≠ 0 ∧ x.be ≠ 3 := by
  obtain h | h := h <;> rw [h] <;> decide

theorem State.ctxHalf_partial (h : x.be = 1 ∨ x.be = 2) (hoff : hostOffset off) :
    s.ctxHalf mk off x = s.err pCTX CTX_E_PARTIAL := by
  obtain ⟨h0, h3⟩ := be_partial x h
  simp only [State.ctxHalf, if_neg h0, if_neg h3, if_neg (Nat.not_le.mpr hoff.1), hoff.2]
  rfl

/-- R57, R59: the error of an offset that the host cannot write. -/
def offsetError : Nat := if 49152 ≤ off / 128 then CTX_E_ADDR else CTX_E_ROWR

theorem State.ctxHalf_refused (h0 : x.be ≠ 0) (hoff : 49152 ≤ off / 128 ∨ hostWord (off % 128 / 2) = false) :
    s.ctxHalf mk off x = (if x.be = 3 then s else s.err pCTX CTX_E_PARTIAL).err pCTX (offsetError off) := by
  by_cases hbeyond : 49152 ≤ off / 128
  · simp only [State.ctxHalf, offsetError, if_neg h0, if_pos hbeyond]
  · simp only [State.ctxHalf, offsetError, if_neg h0, if_neg hbeyond, hoff.resolve_left hbeyond]
    rfl

theorem State.ctxHalf_full (h : x.be = 3) (hoff : hostOffset off) (hfull : 4096 ≤ s.ctx.open_.length) :
    s.ctxHalf mk off x = (s.setFld pCTX CTX_GOPEN_OVF 1).err pCTX CTX_E_GOVF := by
  simp only [State.ctxHalf, h, if_neg (Nat.not_le.mpr hoff.1), hoff.2]
  exact s.addEntry_full _ hfull

end

/-- A write of one halfword that no pair link takes. -/
theorem window_half {c : Instr} {s : State} {t : Time} {off : BitVec 23} {x : Hw} {P : State → Prop} (hrole : s.role = 0)
    (hopen : (s.at_ t).writeOpen2 pCTX true = true) (hblocked : s.ctxBlocked = none)
    (hc : c = .contextWindowWrite t off [x] ∨ c = .contextSetAlias t off [x] ∨ c = .contextClearAlias t off [x])
    (hp : ∀ mk, P ((s.at_ t).ctxHalf mk off.toNat x)) : Completes c s P := by
  have hwrite : ∃ mk base, exec c s = .next (s.ctxWrite t mk base off.toNat [x]) := by
    obtain rfl | rfl | rfl := hc
    · exact ⟨GEntry.put, 0, rfl⟩
    · exact ⟨GEntry.set, 0x1000000, rfl⟩
    · exact ⟨GEntry.clr, 0x2000000, rfl⟩
  obtain ⟨mk, base, e⟩ := hwrite
  refine Completes.write2 hopen e ?_
  rw [State.ctxEffect_open _ _ _ _ ((s.arrive2_ctxBlocked t true _).trans hblocked),
    s.arrive2_local t true _ (by rw [hrole]; decide)]
  exact hp mk

/-- R57: a halfword written in part at an offset that the host cannot write has both errors. -/
theorem partial_refused (s : State) (off : Nat) :
    s.flagsMask ((s.err pCTX CTX_E_PARTIAL).err pCTX (offsetError off)) pCTX
      (2 ^ CTX_E_PARTIAL + if 49152 ≤ off / 128 then 2 ^ CTX_E_ADDR else 2 ^ CTX_E_ROWR) := by
  have hmask : (2 ^ CTX_E_PARTIAL + if 49152 ≤ off / 128 then 2 ^ CTX_E_ADDR else 2 ^ CTX_E_ROWR) =
      2 ^ CTX_E_PARTIAL ||| 2 ^ offsetError off := by
    unfold offsetError; split <;> rfl
  rw [hmask, State.flagsMask, State.fld_err_err, State.fld_err_err, Nat.or_mod_two_pow, Nat.mod_mod, ← Nat.or_mod_two_pow,
    Nat.or_assoc]

/-- Settles O5: the halfwords of a write join the open group one by one; a halfword that cannot join has the error of what
keeps it out. -/
theorem windowWrites : Obligations.WindowWrites := by
  refine ⟨fun s t off data hblocked hovf => ⟨fun hopen hroom hbe hoff => ⟨?_, ?_, ?_⟩, fun v hopen hroom hh =>
    qrel_joins s t v hblocked hovf hopen hroom hh⟩, fun s t off x hrole hopen hblocked i hi => ?_⟩
  · exact window_joins s t .put 0 off.toNat data rfl hblocked hovf hopen hroom hbe hoff
  · exact window_joins s t .set 0x1000000 off.toNat data rfl hblocked hovf hopen hroom hbe hoff
  · exact window_joins s t .clr 0x2000000 off.toNat data rfl hblocked hovf hopen hroom hbe hoff
  · refine ⟨fun h => ?_, fun h hlt hw => ?_, fun h hoff => ?_, fun h hbeyond => ?_, fun h hlt hw => ?_,
      fun h hlt hw hfull => ?_⟩
    all_goals refine window_half hrole hopen hblocked hi fun mk => ?_
    · exact State.ctxHalf_disabled _ _ _ _ h
    · rw [State.ctxHalf_partial _ _ _ _ h ⟨hlt, hw⟩]
      exact State.err_raises _ _ _
    · obtain ⟨h0, h3⟩ := be_partial x h
      rw [State.ctxHalf_refused _ _ _ _ h0 hoff, if_neg h3]
      exact ⟨partial_refused (s.at_ t) off.toNat, ((Changes.refl _ _ _).err (by decide) (by decide) (by decide)).err
        (by decide) (by decide) (by decide)⟩
    · rw [State.ctxHalf_refused _ _ _ _ (by rw [h]; decide) (.inl hbeyond), if_pos h, offsetError, if_pos hbeyond]
      exact State.err_raises _ _ _
    · rw [State.ctxHalf_refused _ _ _ _ (by rw [h]; decide) (.inr hw), if_pos h, offsetError, if_neg (Nat.not_le.mpr hlt)]
      exact State.err_raises _ _ _
    · rw [(s.at_ t).ctxHalf_full mk _ x h ⟨hlt, hw⟩ hfull]
      refine ⟨?_, ?_, ((Changes.refl _ _ _).setFld (by decide)).err (by decide) (by decide) (by decide)⟩
      · rw [State.fld_err_ne _ _ _ _ _ (by decide) (by decide), State.fld_setFld_same]
        rfl
      · rw [State.fld_err_err, State.fld_setFld_ne _ _ _ _ _ _ (by decide)]
        rfl

end Sys2Proof.Machine

/-! # Reads of the context window (R81) -/

namespace Sys2Proof.Machine

/-- R313: a read of a BAR2 window that is accepted and whose page's clock runs. -/
theorem State.hostRead2_open (s : State) (t : Time) {pg : Nat} (off : Nat) (eff : State → State)
    (hup : (s.at_ t).hostUp = true) (hnp : s.npNow < 32) (hclk : (s.at_ t).clkOn pg = true) :
    s.hostRead2 t pg off eff = eff (s.at_ t).noteNp := by
  have hnp' : ¬ 32 ≤ (s.at_ t).npNow := Nat.not_le.mpr hnp
  simp [State.hostRead2, hup, hnp', State.noteNp_clkOn, hclk]

/-- A host read shows a record as the contexts, the handle table and the state of FRM give it. -/
theorem State.hostRecWord_congr {s u : State} (hctx : u.ctx = s.ctx) (hplc : u.plc = s.plc)
    (hfrm : u.frmState = s.frmState) (h w : Nat) : u.hostRecWord h w = s.hostRecWord h w := by
  simp only [State.hostRecWord, State.phys, State.eccAt, State.readsBoundary, State.slotWord, State.isQuar, hctx, hplc, hfrm]
  rfl

section
variable (s : State) (hecc : s.ctx.ecc = []) (hmap : s.plc.hmBad = []) (hqmap : s.ctx.qmapBad = [])
include hecc hmap

/-- R82, R137: a read finds no error where none stands. -/
theorem State.readCheck_sound (h w : Nat) : s.readCheck h w = s := by
  have hnone : s.eccAt (s.phys h) (w / 4) = 0 := by rw [State.eccAt, hecc]; rfl
  rw [State.readCheck, State.hmCheck_sound s h hmap]
  simp only [hnone]

include hqmap

/-- R56, R81: the halfwords of a read within the handles, none of whose checks finds an error. -/
theorem State.readHalves_sound (n off last : Nat) (hn : off + 2 * n ≤ 49152 * 128) :
    s.readHalves off last n =
      (s, (List.range n).map fun i => (s.hostRecWord ((off + 2 * i) / 128) ((off + 2 * i) % 128 / 2)).toNat) := by
  induction n generalizing off last with
  | zero => rfl
  | succ n ih =>
    have hlt : ¬ 49152 ≤ off / 128 := by omega
    have hshift : ∀ i, off + 2 * Nat.succ i = off + 2 + 2 * i := by intro i; omega
    have hcheck : ∀ h, s.qmapCheck h = s := fun h => by rw [State.qmapCheck, hqmap]; rfl
    simp only [State.readHalves, if_neg hlt, s.readCheck_sound hecc hmap, hcheck, ite_self, ih (off + 2) _ (by omega)]
    rw [List.range_succ_eq_map, List.map_cons, List.map_map]
    simp only [Function.comp_def, hshift, Nat.mul_zero, Nat.add_zero]

end

/-- Settles O6: where no error stands the checks change nothing, and each halfword read is its word of the records. -/
theorem windowReads : Obligations.WindowReads := by
  intro s t off n hup hnp hclk hen hn hoff hecc hmap hqmap
  have hclk' : (s.at_ t).clkOn pCTX = true := (s.atTime_clkOn t pCTX (by decide)).trans hclk
  have hen' : (s.at_ t).noteNp.bit pCTX HDR_PG_CTRL_EN = true := by
    rw [State.bit, State.noteNp_fld_ne _ (by decide)]; exact hen
  have hword : ∀ h w, (s.at_ t).noteNp.hostRecWord h w = s.hostRecWord h w :=
    State.hostRecWord_congr rfl rfl ((s.at_ t).noteNp_fld_ne (by decide))
  refine ⟨_, congrArg Host.Outcome.next (State.hostRead2_open (s.upsets []) t off.toNat _ hup hnp hclk'), ?_⟩
  have hread := State.readHalves_sound (s.at_ t).noteNp hecc hmap hqmap n off.toNat 0 hoff
  simp only [hword] at hread
  simp only [State.upsets, List.foldl_nil, if_neg (Nat.not_lt.mpr hn), hen', hread]
  exact ⟨rfl, ((Changes.refl _ _ _).raiseTo (by decide)).answer (by decide)⟩

end Sys2Proof.Machine

/-! # Pattern RAM (R80, R218, R219) -/

namespace Sys2Proof.Machine

/-! ## Host writes (R80, R218) -/

/-- The words of pattern RAM once the halfwords written from word `a` on have each changed theirs. -/
def patFilled (op : RamOp) : SMap Word → Nat → List Hw → SMap Word
  | m, _, [] => m
  | m, a, x :: xs =>
    patFilled op (SMap.put 0 m (a % 1048576) (ramApply op (SMap.get 0 m (a % 1048576)) (x.data.setWidth 10))) (a + 1) xs

/-- How far word `k` stands behind word `a`, with the wrap at the end of pattern RAM. -/
def patAhead (a k : Nat) : Nat := (k + 1048576 - a % 1048576) % 1048576

theorem patAhead_self {a k : Nat} (h : k = a % 1048576) : patAhead a k = 0 ∧ patAhead (a + 1) k = 1048575 := by
  unfold patAhead; omega

theorem patAhead_succ {a k : Nat} (hk : k < 1048576) (h : k ≠ a % 1048576) : patAhead a k = patAhead (a + 1) k + 1 := by
  unfold patAhead; omega

/-- R412: a word takes the halfword that stands as far into the write as the word does into pattern RAM. -/
theorem patFilled_get (op : RamOp) (m : SMap Word) (a : Nat) (data : List Hw) {k : Nat} (hk : k < 1048576)
    (hlen : data.length ≤ 1048576) : SMap.get 0 (patFilled op m a data) k =
      (data[patAhead a k]?).elim (SMap.get 0 m k) fun x => ramApply op (SMap.get 0 m k) (x.data.setWidth 10) := by
  induction data generalizing m a with
  | nil => rfl
  | cons x xs ih =>
    rw [List.length_cons] at hlen
    rw [patFilled, ih _ _ (by omega)]
    by_cases h : k = a % 1048576
    · obtain ⟨hhere, hnext⟩ := patAhead_self h
      rw [hhere, hnext, List.getElem?_eq_none (by omega), h, SMap.get_put_same]
      rfl
    · rw [patAhead_succ hk h, List.getElem?_cons_succ, SMap.get_put_ne _ _ _ _ _ _ h]

/-- R218: halfwords written whole, none of which loses to port A. -/
theorem State.patHalves_whole (s : State) (op : RamOp) (a i : Nat) (data : List Hw) (hbe : ∀ x ∈ data, x.be = 3) :
    State.patHalves op [] s a i data = s.updJer fun j => { j with pat := patFilled op j.pat a data } := by
  induction data generalizing s a i with
  | nil => rfl
  | cons x xs ih =>
    obtain ⟨hx, hxs⟩ := List.forall_mem_cons.mp hbe
    have hhalf : s.patHalf op (a % 1048576) x false = s.patWrite op (a % 1048576) (x.data.setWidth 10) := by
      simp only [State.patHalf, hx]
      rfl
    rw [State.patHalves, show ([] : List Nat).contains i = false from rfl, hhalf, ih _ _ _ hxs]
    rfl

section
variable {s : State} {t : Time} {c : Instr} (op : RamOp) (base : Nat) (off : BitVec 21)

/-- R80, R218: a host write of pattern RAM or of an alias, whole. -/
theorem pattern_written (f : Word → Word → Word) (hf : ∀ o v, ramApply op o v = f o v) (data : List Hw)
    (e : exec c s = .next (s.hostWrite2 t pCTX (base + off.toNat) true (patParcels (base + off.toNat) data)
      fun s => s.patHalves op [] (off.toNat / 2) 0 data))
    (hopen : (s.at_ t).writeOpen2 pCTX true = true) (hlen : data.length ≤ 1048576) (hbe : ∀ x ∈ data, x.be = 3) :
    Completes c s fun u => s.patterned u t (off.toNat / 2) data f := by
  refine Completes.write2 hopen e ?_
  rw [State.patHalves_whole _ _ _ _ _ hbe]
  refine ⟨?_, fun a ha => ?_, ?_, fun hrole => ?_⟩
  · rw [State.updJer_jer, s.arrive2_jer]
  · have hoff : off.toNat / 2 % 1048576 = off.toNat / 2 := Nat.mod_eq_of_lt (by have := off.isLt; omega)
    rw [State.updJer_jer, s.arrive2_jer, patFilled_get _ _ _ _ ha hlen, patAhead, hoff]
    cases data[(a + 1048576 - off.toNat / 2) % 1048576]? with
    | none => rfl
    | some x => exact hf _ _
  · exact ((s.arrive2_changes t true _).mono (by decide) fun _ hk => hk).updJer (by decide)
  · rw [State.updJer_twn, s.arrive2_local t true _ hrole, State.atTime_twn]

/-- R215, R218: a halfword that loses to port A. -/
theorem pattern_lost (x : Hw)
    (e : exec c s = .next (s.hostWrite2 t pCTX (base + off.toNat) true (patParcels (base + off.toNat) [x])
      fun s => s.patHalves op [0] (off.toNat / 2) 0 [x]))
    (hopen : (s.at_ t).writeOpen2 pCTX true = true) (hrole : s.role ≠ 1) (hbe : x.be = 3) : Completes c s fun u =>
      s.counts u pTUL TUL_PRCOLL_COUNT ∧ s.flags u pTUL TUL_E_PRCOLL ∧
      Changes (s.at_ t) u [.msi] (fields ((pTUL, TUL_PRCOLL_COUNT) :: errFields pTUL)) := by
  refine Completes.write2 hopen e ?_
  have hlost : State.patHalves op [0] (s.at_ t) (off.toNat / 2) 0 [x] =
      ((s.at_ t).addSat pTUL TUL_PRCOLL_COUNT 1).err pTUL TUL_E_PRCOLL := by
    simp only [State.patHalves, State.patHalf, hbe]
    rfl
  rw [s.arrive2_local t true _ hrole, hlost]
  refine ⟨?_, ?_, ((Changes.refl _ _ _).addSat (by decide)).err (by decide) (by decide) (by decide)⟩
  · rw [State.counts, State.fld_err_ne _ _ _ _ _ (by decide) (by decide), State.fld_addSat_same, State.atTime_fld]
  · rw [State.flags, State.fld_err_err, State.fld_addSat_ne _ _ _ _ _ _ (by decide), State.atTime_fld]

end

/-! ## The fabric port (R219) -/

section
variable (s : State) (x : PatReq)

theorem State.patAccess_off (op : RamOp) (h : s.patOn = false) : s.patAccess op x = s := by
  simp [State.patAccess, h]

theorem State.patAccess_writes (op : RamOp) (h : s.patOn = true) (hop : op ≠ .read) :
    s.patAccess op x = s.patWrite op x.addr.toNat x.data := by
  simp [State.patAccess, h, hop]

theorem State.patAccess_read (h : s.patOn = true) : s.patAccess .read x =
    (s.updFab fun f => { f with patQ := some (patAnswer x.tag (SMap.get 0 s.jer.pat x.addr.toNat)) }).sendFrom 0x222
      (s.time + 8) (patAnswer x.tag (SMap.get 0 s.jer.pat x.addr.toNat)) := by
  simp [State.patAccess, h]

/-- R219: the answer to a read holds the word read and the tag of the request. -/
theorem patAnswer_bits (tag : BitVec 8) (v : Word) :
    flitBits (patAnswer tag v) 0 10 = v.toNat ∧ flitBits (patAnswer tag v) 10 8 = tag.toNat := by
  have htag := tag.isLt
  have hv := v.isLt
  simp only [flitBits, patAnswer, bitsN, BitVec.toNat_ofNat]
  omega

/-- R227: what goes out on the streams that name a port adds to the flights and changes nothing else. -/
theorem State.sendFrom_eq (src t : Nat) (flit : Flit) : s.sendFrom src t flit = s.updFab fun f =>
    { f with
      flights := (s.fab.streams.filter fun z => z.src = src).foldl
        (fun fs z => launched z (nextPhase z.phases t) flit fs) f.flights } := by
  unfold State.sendFrom
  generalize (s.fab.streams.filter fun z => z.src = src) = zs
  induction zs generalizing s with
  | nil => rfl
  | cons z zs ih =>
    rw [List.foldl_cons, ih]
    rfl

theorem patWrite_completes {c : Instr} (op : RamOp) (hop : op ≠ .read) (e : exec c s = .next (s.patAccess op x))
    (h : s.patOn = true) : Completes c s fun u =>
      u.jer = { s.jer with
        pat := SMap.put 0 s.jer.pat x.addr.toNat (ramApply op (SMap.get 0 s.jer.pat x.addr.toNat) x.data) } ∧
      Changes s u [.jer] noField := by
  refine ⟨_, e, ?_⟩
  rw [s.patAccess_writes x op h hop]
  exact ⟨rfl, (Changes.refl _ _ _).updJer (by decide)⟩

theorem patRead_completes (h : s.patOn = true) : Completes (.patternFabricRead x) s fun u =>
    (∃ y : Flit, u.fab = { s.fab with patQ := some y, flights := u.fab.flights } ∧
      flitBits y 0 10 = (SMap.get 0 s.jer.pat x.addr.toNat).toNat ∧ flitBits y 10 8 = x.tag.toNat ∧
      ((s.fab.streams.filter fun z => z.src = 0x222) = [] → u.fab.flights = s.fab.flights) ∧
      (∀ z, (s.fab.streams.filter fun z => z.src = 0x222) = [z] →
        u.fab.flights = launched z (nextPhase z.phases (s.time + 8)) y s.fab.flights)) ∧
    Changes s u [.fab] noField := by
  refine ⟨_, congrArg Host.Outcome.next (s.patAccess_read x h), ?_⟩
  rw [State.sendFrom_eq]
  obtain ⟨hword, htag⟩ := patAnswer_bits x.tag (SMap.get 0 s.jer.pat x.addr.toNat)
  refine ⟨⟨_, rfl, hword, htag, fun hnone => ?_, fun z hz => ?_⟩,
    ((Changes.refl _ _ _).updFab (by decide)).updFab (by decide)⟩
  · simp only [State.updFab_fab, hnone, List.foldl_nil]
  · simp only [State.updFab_fab, hz, List.foldl_cons, List.foldl_nil]

end

/-- Settles O30: each halfword of a host write reaches its own word, and the fabric port makes one access. -/
theorem patternRam : Obligations.PatternRam := by
  refine fun s => ⟨fun t off data hopen hlen hbe => ⟨?_, ?_, ?_⟩, fun t off x hopen hrole hbe i hi => ?_,
    fun x hon => ⟨fun i new hi => ?_, patRead_completes s x hon⟩, fun x hoff i hi => ?_⟩
  · exact pattern_written .write 0x800000 off _ (fun _ _ => rfl) data rfl hopen hlen hbe
  · exact pattern_written .set 0x1800000 off _ (fun _ _ => rfl) data rfl hopen hlen hbe
  · exact pattern_written .clear 0x2800000 off _ (fun _ _ => rfl) data rfl hopen hlen hbe
  · obtain rfl | rfl | rfl := hi
    · exact pattern_lost .write 0x800000 off x rfl hopen hrole hbe
    · exact pattern_lost .set 0x1800000 off x rfl hopen hrole hbe
    · exact pattern_lost .clear 0x2800000 off x rfl hopen hrole hbe
  · obtain ⟨rfl, rfl⟩ | ⟨rfl, rfl⟩ | ⟨rfl, rfl⟩ := hi
    · exact patWrite_completes s x .write (by decide) rfl hon
    · exact patWrite_completes s x .set (by decide) rfl hon
    · exact patWrite_completes s x .clear (by decide) rfl hon
  · obtain rfl | rfl | rfl | rfl := hi
    · exact ⟨_, rfl, s.patAccess_off x .write hoff⟩
    · exact ⟨_, rfl, s.patAccess_off x .set hoff⟩
    · exact ⟨_, rfl, s.patAccess_off x .clear hoff⟩
    · exact ⟨_, rfl, s.patAccess_off x .read hoff⟩

end Sys2Proof.Machine

/-! # Errors in records and quarantine (R82 to R86) -/

namespace Sys2Proof.Machine

section
variable (s : State)

/-! ## Words that the device writes of itself (R85) -/

theorem State.devWord_ctx (p w : Nat) (v : Word) :
    (s.devWord p w v).ctx = { s.ctx with store := (s.devWord p w v).ctx.store } := by
  unfold State.devWord; split <;> rfl

theorem State.devWord_store (p w : Nat) (v : Word) : (s.devWord p w v).ctx.store =
    if s.eccAt p (w / 4) = 2 then s.ctx.store else SMap.put 0 s.ctx.store (p * 64 + w) v := by
  unfold State.devWord; split <;> rfl

@[simp] theorem State.devWord_fld (p w : Nat) (v : Word) (q : Nat) (f : Fld) : (s.devWord p w v).fld q f = s.fld q f := by
  unfold State.devWord; split <;> rfl

@[simp] theorem State.devWord_plc (p w : Nat) (v : Word) : (s.devWord p w v).plc = s.plc := by
  unfold State.devWord; split <;> rfl

@[simp] theorem State.devWord_jer (p w : Nat) (v : Word) : (s.devWord p w v).jer = s.jer := by
  unfold State.devWord; split <;> rfl

/-- It depends on the context store and the errors that stand in it, and on nothing else. -/
theorem State.devWord_store_congr {s u : State} (hstore : u.ctx.store = s.ctx.store) (hecc : u.ctx.ecc = s.ctx.ecc)
    (p w : Nat) (v : Word) : (u.devWord p w v).ctx.store = (s.devWord p w v).ctx.store := by
  rw [State.devWord_store, State.devWord_store, State.eccAt, State.eccAt, hstore, hecc]

/-! ## Correctable errors (R83) -/

/-- R83: a corrected group: the error and its count, with the word of the record that counts it. -/
theorem State.fixCe_spec (p g : Nat) :
    (s.fixCe p g).ctx.ecc = SMap.put 0 s.ctx.ecc (p * 16 + g) 0 ∧ (s.fixCe p g).ctx.quar = s.ctx.quar ∧
    (s.fixCe p g).plc = s.plc ∧
    (s.fixCe p g).fld pCTX CTX_ECCCNT_CE = Nat.min (s.fld pCTX CTX_ECCCNT_CE + 1) (2 ^ CTX_ECCCNT_CE.wid - 1) := by
  have hlog : ∀ (v : State) n, ((v.err pCTX CTX_E_CE).corrected.log pCTX 0x030 1 n).fld pCTX CTX_ECCCNT_CE =
      v.fld pCTX CTX_ECCCNT_CE := fun v n => by
    rw [State.fld_log_ne _ _ _ _ _ _ _ (by decide), State.corrected, State.fld_addSat_ne _ _ _ _ _ _ (by decide),
      State.fld_err_ne _ _ _ _ _ (by decide) (by decide)]
  have hcount : ((s.setEcc p g 0).addSat pCTX CTX_ECCCNT_CE 1).fld pCTX CTX_ECCCNT_CE =
      Nat.min (s.fld pCTX CTX_ECCCNT_CE + 1) (2 ^ CTX_ECCCNT_CE.wid - 1) := State.fld_addSat_same _ _ _ _
  unfold State.fixCe
  dsimp only
  split
  · simp only [hlog, hcount, State.log_ctx, State.log_plc, State.corrected_ctx, State.corrected_plc, State.err_ctx,
      State.err_plc, State.devWord_fld, State.devWord_plc]
    rw [State.devWord_ctx]
    exact ⟨rfl, rfl, rfl, trivial⟩
  · simp only [hlog, hcount, State.log_ctx, State.log_plc, State.corrected_ctx, State.corrected_plc, State.err_ctx,
      State.err_plc]
    exact ⟨rfl, rfl, rfl, trivial⟩

/-- A record without correctable errors needs no correction. -/
theorem State.fixAllCe_none (p : Nat) (h : ∀ g < 16, s.eccAt p g ≠ 1) : s.fixAllCe p = s := by
  suffices ∀ gs : List Nat, (∀ g ∈ gs, g < 16) → gs.foldl (fun s g => if s.eccAt p g = 1 then s.fixCe p g else s) s = s from
    this _ fun g hg => List.mem_range.mp hg
  intro gs hgs
  induction gs with
  | nil => rfl
  | cons g gs ih =>
    obtain ⟨hg, hrest⟩ := List.forall_mem_cons.mp hgs
    rw [List.foldl_cons, if_neg (h g hg), ih hrest]

/-! ## Quarantine (R85) -/

theorem State.isQuar_congr {s u : State} (h : u.ctx.quar = s.ctx.quar) (x : Nat) : u.isQuar x = s.isQuar x := by
  rw [State.isQuar, State.isQuar, h]

/-- What a quarantine puts into the record of a handle, on the context store. -/
def State.causeStore (s : State) (h cause : Nat) : SMap Word :=
  (s.devWord (s.phys h) 15 (setBits (s.slotWord (s.phys h) 15) 0 3 cause)).ctx.store

theorem State.causeStore_congr {s u : State} (hstore : u.ctx.store = s.ctx.store) (hecc : u.ctx.ecc = s.ctx.ecc)
    (hplc : u.plc = s.plc) (h cause : Nat) : u.causeStore h cause = s.causeStore h cause := by
  have hword : u.slotWord (s.phys h) 15 = s.slotWord (s.phys h) 15 := by rw [State.slotWord, State.slotWord, hstore]
  rw [State.causeStore, State.phys_congr hplc, hword]
  exact State.devWord_store_congr hstore hecc _ _ _

/-- A quarantine of a handle from frame `fn` on, on the map. -/
def State.quarListed (s : State) (h fn : Nat) : State := s.updCtx fun c =>
  { c with quar := SMap.put 0 c.quar h (fn + 1), once := SMap.put false c.once h false }

/-- R85: what a quarantine leaves of the contexts: the map with its entry, and the cause in the record. -/
theorem State.quarantine_ctx (h cause fn : Nat) : (s.quarantine h cause fn).ctx =
    { s.ctx with
      quar := SMap.put 0 s.ctx.quar h (fn + 1), once := SMap.put false s.ctx.once h false
      store := s.causeStore h cause } := by
  have hfirst : ∀ v : State, (if v.bit pCTX CTX_QFIRST_VALID then v
      else ((v.setFld pCTX CTX_QFIRST_VALID 1).setFld pCTX CTX_QFIRST_CAUSE cause).setFld pCTX
        CTX_QFIRST_HANDLE h).ctx = v.ctx := fun v => by split <;> rfl
  unfold State.quarantine
  simp only [State.log_ctx, State.err_ctx, State.addSat_ctx, State.updPlc_ctx, hfirst]
  have hstore : ((s.quarListed h fn).devWord (s.phys h) 15 (setBits (s.slotWord (s.phys h) 15) 0 3 cause)).ctx.store =
      s.causeStore h cause := State.devWord_store_congr (s := s) (u := s.quarListed h fn) rfl rfl _ _ _
  exact (State.devWord_ctx (s.quarListed h fn) _ _ _).trans
    (congrArg (fun m => { (s.quarListed h fn).ctx with store := m }) hstore)

@[simp] theorem State.quarantine_jer (h cause fn : Nat) : (s.quarantine h cause fn).jer = s.jer := by
  have hfirst : ∀ v : State, (if v.bit pCTX CTX_QFIRST_VALID then v
      else ((v.setFld pCTX CTX_QFIRST_VALID 1).setFld pCTX CTX_QFIRST_CAUSE cause).setFld pCTX
        CTX_QFIRST_HANDLE h).jer = v.jer := fun v => by split <;> rfl
  unfold State.quarantine
  simp only [State.log_jer, State.err_jer, State.addSat_jer, State.updPlc_jer, hfirst, State.devWord_jer, State.updCtx_jer]

/-- R449: a quarantine map without parity errors passes its check. -/
theorem State.qmapCheck_sound (h : Nat) (hq : s.ctx.qmapBad = []) : s.qmapCheck h = s := by rw [State.qmapCheck, hq]; rfl

/-! ## Uncorrectable errors (R84) -/

/-- R84: what is recorded of an uncorrectable error, before the quarantine. -/
def State.ueNoted (h g : Nat) : State :=
  let s := if s.bit pCTX CTX_UEADDR_VALID then s
    else (((s.setFld pCTX CTX_UEADDR_VALID 1).setFld pCTX CTX_UEADDR_SPARE 0).setFld pCTX CTX_UEADDR_GROUP g).setFld pCTX
      CTX_UEADDR_HANDLE h
  ((s.addSat pCTX CTX_ECCCNT_UE 1).err pCTX CTX_E_UE).contained

theorem State.ueNoted_changes (h g : Nat) : Changes s (s.ueNoted h g) [.msi] (pages [pCTX, pERR]) := by
  refine Changes.contained (by decide) (Changes.err (by decide) (by decide) (by decide) (Changes.addSat (by decide) ?_))
  exact Changes.ite (fun _ => Changes.refl _ _ _) fun _ => ((((Changes.refl _ _ _).setFld (by decide)).setFld
    (by decide)).setFld (by decide)).setFld (by decide)

@[simp] theorem State.ueNoted_ctx (h g : Nat) : (s.ueNoted h g).ctx = s.ctx :=
  show ((s.ueNoted h g).blank [.msi]).ctx = (s.blank [.msi]).ctx by rw [(s.ueNoted_changes h g).1]

@[simp] theorem State.ueNoted_plc (h g : Nat) : (s.ueNoted h g).plc = s.plc :=
  show ((s.ueNoted h g).blank [.msi]).plc = (s.blank [.msi]).plc by rw [(s.ueNoted_changes h g).1]

@[simp] theorem State.ueNoted_jer (h g : Nat) : (s.ueNoted h g).jer = s.jer :=
  show ((s.ueNoted h g).blank [.msi]).jer = (s.blank [.msi]).jer by rw [(s.ueNoted_changes h g).1]

variable (hq : s.ctx.qmapBad = [])
include hq

/-- R84: an uncorrectable error is recorded, and quarantines a context that is not yet in quarantine. -/
theorem State.ueFound_eq (h g cause fn : Nat) : s.ueFound h g cause fn =
    if s.isQuar h then s.ueNoted h g else (s.ueNoted h g).quarantine h cause fn := by
  have hcheck : (s.ueNoted h g).qmapCheck h = s.ueNoted h g :=
    State.qmapCheck_sound _ h (by rw [State.ueNoted_ctx, hq])
  have hquar : (s.ueNoted h g).isQuar h = s.isQuar h := State.isQuar_congr (by rw [State.ueNoted_ctx]) h
  rw [← hquar]
  show (if ((s.ueNoted h g).qmapCheck h).isQuar h then (s.ueNoted h g).qmapCheck h
    else ((s.ueNoted h g).qmapCheck h).quarantine h cause fn) = _
  rw [hcheck]

theorem State.ueFound_jer (h g cause fn : Nat) : (s.ueFound h g cause fn).jer = s.jer := by
  rw [s.ueFound_eq hq]; split <;> simp

/-- A context in quarantine stays as it is, -/
theorem State.ueFound_ctx_quar (h g cause fn : Nat) (hh : s.isQuar h = true) : (s.ueFound h g cause fn).ctx = s.ctx := by
  rw [s.ueFound_eq hq, if_pos hh, State.ueNoted_ctx]

/-- and another one enters it. -/
theorem State.ueFound_ctx_new (h g cause fn : Nat) (hh : s.isQuar h = false) :
    (s.ueFound h g cause fn).ctx = (s.quarantine h cause fn).ctx := by
  rw [s.ueFound_eq hq, hh, if_neg Bool.false_ne_true, State.quarantine_ctx, State.quarantine_ctx,
    State.causeStore_congr (by rw [s.ueNoted_ctx]) (by rw [s.ueNoted_ctx]) (s.ueNoted_plc h g), State.ueNoted_ctx]

theorem State.ueFound_new (h g cause fn : Nat) (hh : s.isQuar h = false) :
    (s.ueFound h g cause fn).ctx.quar = SMap.put 0 s.ctx.quar h (fn + 1) ∧
    (s.ueFound h g cause fn).ctx.store = s.causeStore h cause ∧ (s.ueFound h g cause fn).ctx.ecc = s.ctx.ecc := by
  rw [s.ueFound_ctx_new hq h g cause fn hh, State.quarantine_ctx]
  exact ⟨rfl, rfl, rfl⟩

end

end Sys2Proof.Machine

/-! # The safe table, scrub and the quarantine map (R66 to R68, R88, R449) -/

namespace Sys2Proof.Machine

/-! ## SAFEIDX and SAFEDATA (R67, R68) -/

/-- The fields of SAFEIDX. -/
def safeIdxFields : List (Nat × Fld) := [(pCTX, CTX_SAFEIDX_SLOT), (pCTX, CTX_SAFEIDX_LINK)]

theorem State.advanceSafe_changes (s : State) : Changes s s.advanceSafe [] (fields safeIdxFields) :=
  Changes.ite (fun _ => Changes.ite (fun _ => ((Changes.refl _ _ _).setFld (by decide)).setFld (by decide))
    fun _ => (Changes.refl _ _ _).setFld (by decide)) fun _ => Changes.refl _ _ _

/-- R68: SAFEIDX after an access, by the slots of a link and then to the next link. -/
theorem State.advanceSafe_advances (s : State) (h : s.fld pCTX CTX_SAFEIDX_SLOT ≤ 383) : s.indexAdvanced s.advanceSafe := by
  unfold State.indexAdvanced State.advanceSafe
  dsimp only
  split
  · split
    · rw [State.fld_setFld_ne _ _ _ _ _ _ (by decide), State.fld_setFld_same, State.fld_setFld_same]
      exact ⟨rfl, rfl⟩
    · have hfits : (s.fld pCTX CTX_SAFEIDX_SLOT + 1) % 2 ^ CTX_SAFEIDX_SLOT.wid = s.fld pCTX CTX_SAFEIDX_SLOT + 1 :=
        Nat.mod_eq_of_lt (Nat.lt_of_le_of_lt (Nat.succ_le_succ h) (by decide))
      rw [State.fld_setFld_same, State.fld_setFld_ne _ _ _ _ _ _ (by decide), hfits]
      exact ⟨rfl, rfl⟩
  · exact ⟨rfl, rfl⟩

/-- The fields that say how SAFEIDX advances. -/
def safeIncFields : List Fld := [CTX_SAFEIDX_SLOT, CTX_SAFEIDX_LINK, CTX_CTRL_SAFEINC]

theorem State.indexAdvanced_congr {s v u : State} (h : ∀ f ∈ safeIncFields, v.fld pCTX f = s.fld pCTX f)
    (hv : v.indexAdvanced u) : s.indexAdvanced u := by
  obtain ⟨hslot, hlink, hinc, -⟩ := by simpa only [safeIncFields, List.forall_mem_cons] using h
  have hbit : v.bit pCTX CTX_CTRL_SAFEINC = s.bit pCTX CTX_CTRL_SAFEINC := by rw [State.bit, State.bit, hinc]
  simpa only [State.indexAdvanced, hbit, hslot, hlink] using hv

theorem State.advanceSafe_ctx (s : State) : s.advanceSafe.ctx = s.ctx :=
  show (s.advanceSafe.blank []).ctx = (s.blank []).ctx by rw [s.advanceSafe_changes.1]

theorem State.safeIdx_congr {s u : State} (h : ∀ f ∈ safeIncFields, u.fld pCTX f = s.fld pCTX f) : u.safeIdx = s.safeIdx := by
  rw [State.safeIdx, State.safeIdx, h CTX_SAFEIDX_SLOT (by decide), h CTX_SAFEIDX_LINK (by decide)]

section
variable (s : State) (t : Time)

theorem safedataWrite_stores (v : Dword) (hopen : (s.at_ t).writeOpen 0x7070 = true)
    (h : s.fld pCTX CTX_SAFEIDX_SLOT ≤ 383) : Completes (.safedataWrite t v) s fun u =>
      u.ctx = { s.ctx with
        safeW := SMap.put ⟨0, 0⟩ s.ctx.safeW s.safeIdx
          ⟨BitVec.ofNat 10 (CTX_SAFEDATA_VALUE.of v.toNat), CTX_SAFEDATA_MODE.of v.toNat⟩
        safeDirty := SMap.put false s.ctx.safeDirty s.safeIdx true
        perr := SMap.put false s.ctx.perr s.safeIdx false } ∧ s.indexAdvanced u ∧
      Changes (s.arrive t 0x7070 v.toNat) u [.ctx] (fields safeIdxFields) := by
  refine Completes.write hopen rfl ?_
  have hslot : (s.arrive t 0x7070 v.toNat).fld pCTX CTX_SAFEIDX_SLOT ≤ 383 := by rwa [State.arrive_fld]
  have hidx : (s.arrive t 0x7070 v.toNat).safeIdx = s.safeIdx := State.safeIdx_congr fun f _ => s.arrive_fld t _ _ _ f
  rw [State.doSafedata, if_neg (Nat.not_lt.mpr hslot)]
  refine ⟨?_, ?_, ?_⟩
  · rw [State.advanceSafe_ctx, State.updCtx_ctx, hidx, State.arrive_ctx]
  · exact State.indexAdvanced_congr (v := (s.arrive t 0x7070 v.toNat).updCtx _) (fun f _ => s.arrive_fld t _ _ _ f)
      (State.advanceSafe_advances _ hslot)
  · exact ((Changes.refl _ _ _).updCtx (by decide)).trans ((State.advanceSafe_changes _).mono (by decide) fun _ hk => hk)

theorem safedataWrite_refused (v : Dword) (hopen : (s.at_ t).writeOpen 0x7070 = true)
    (h : 383 < s.fld pCTX CTX_SAFEIDX_SLOT) : Completes (.safedataWrite t v) s fun u =>
      RaisesOnly (s.arrive t 0x7070 v.toNat) u pCTX CTX_E_ADDR := by
  refine Completes.write hopen rfl ?_
  rw [State.doSafedata, if_pos (by rwa [State.arrive_fld])]
  exact State.err_raises _ _ _

/-- R313: an accepted read leaves the fields of the page as they are. -/
theorem State.noteNp_ctxFld {f : Fld} (hf : f.off * 32 + f.lo < 131072) : s.noteNp.fld pCTX f = s.fld pCTX f :=
  s.noteNp_fld_ne (fldKey_page_ne _ _ _ _ (by decide) hf (by decide))

theorem safedataRead_reads (hopen : (s.at_ t).readOpen 0x7070 = true) (h : s.fld pCTX CTX_SAFEIDX_SLOT ≤ 383) :
    Completes (.safedataRead t) s fun u =>
      u.hst.rdata = [(SMap.get false s.ctx.perr s.safeIdx).toNat * 2 ^ 31 +
        (SMap.get ⟨0, 0⟩ s.ctx.safeW s.safeIdx).mode * 1024 + (SMap.get ⟨0, 0⟩ s.ctx.safeW s.safeIdx).val.toNat] ∧
      s.indexAdvanced u ∧
      Changes (s.at_ t) u [.rdata] (fields ((pPCI, PCI_NPOUT_MAX) :: safeIdxFields)) := by
  have hflds : ∀ f ∈ safeIncFields, (s.at_ t).noteNp.fld pCTX f = s.fld pCTX f := fun f hf =>
    (s.at_ t).noteNp_ctxFld ((by decide : ∀ f ∈ safeIncFields, f.off * 32 + f.lo < 131072) f hf)
  have hslot : (s.at_ t).noteNp.fld pCTX CTX_SAFEIDX_SLOT ≤ 383 := (hflds CTX_SAFEIDX_SLOT (by decide)).symm ▸ h
  have hidx : (s.at_ t).noteNp.safeIdx = s.safeIdx := State.safeIdx_congr hflds
  refine ⟨_, congrArg Host.Outcome.next (State.hostRead_open s t _ hopen), ?_⟩
  rw [State.readSafedata, if_neg (Nat.not_lt.mpr hslot)]
  refine ⟨?_, ?_, ?_⟩
  · rw [← hidx]
    rfl
  · exact State.indexAdvanced_congr hflds (State.advanceSafe_advances _ hslot)
  · exact (((Changes.refl _ _ _).raiseTo (by decide)).trans ((State.advanceSafe_changes _).mono (by decide) fun k hk =>
      (Bool.or_eq_false_iff.mp hk).2)).answer (by decide)

theorem safedataRead_refused (hopen : (s.at_ t).readOpen 0x7070 = true) (h : 383 < s.fld pCTX CTX_SAFEIDX_SLOT) :
    Completes (.safedataRead t) s fun u =>
      u.hst.rdata = [0] ∧ s.flags u pCTX CTX_E_ADDR ∧
      Changes (s.at_ t) u [.rdata, .msi] (fields ((pPCI, PCI_NPOUT_MAX) :: errFields pCTX)) := by
  have hslot : 383 < (s.at_ t).noteNp.fld pCTX CTX_SAFEIDX_SLOT := by
    rw [(s.at_ t).noteNp_ctxFld (by decide)]; exact h
  refine ⟨_, congrArg Host.Outcome.next (State.hostRead_open s t _ hopen), ?_⟩
  rw [State.readSafedata, if_pos hslot]
  refine ⟨rfl, ?_, ?_⟩
  · rw [State.flags, State.answer_fld, State.fld_err_err, (s.at_ t).noteNp_ctxFld (by decide), State.atTime_fld]
  · exact (((Changes.refl _ _ _).raiseTo (by decide)).err (by decide) (by decide) (by decide)).answer (by decide)

end

/-! ## Scrub (R88) -/

/-- R88: the position of a bank's scrub once it has read group `k`, which is not its last. -/
def State.scrubNoted (s : State) (bank k : Nat) : State :=
  ((s.setFld pCTX CTX_SCRUBPOS_BANK bank).setFld pCTX CTX_SCRUBPOS_SLOT (k / 16)).updCtx fun c =>
    { c with scrub := SMap.put 0 c.scrub bank (k + 1) }

theorem State.scrubNoted_changes (s : State) (bank k : Nat) :
    Changes s (s.scrubNoted bank k) [.ctx] (fields [(pCTX, CTX_SCRUBPOS_BANK), (pCTX, CTX_SCRUBPOS_SLOT)]) :=
  (((Changes.refl _ _ _).setFld (by decide)).setFld (by decide)).updCtx (by decide)

theorem State.scrubNoted_ctx (s : State) (bank k : Nat) :
    (s.scrubNoted bank k).ctx = { s.ctx with scrub := SMap.put 0 s.ctx.scrub bank (k + 1) } := rfl

/-- R88: a batch of one group, before the end of its bank. -/
theorem State.scrubMany_one (s : State) (bank : Nat) (h : SMap.get 0 s.ctx.scrub bank < 25599) :
    State.scrubMany 1 bank s = (s.scrubGroup bank (SMap.get 0 s.ctx.scrub bank)).scrubNoted bank
      (SMap.get 0 s.ctx.scrub bank) := by
  have hnext : (SMap.get 0 s.ctx.scrub bank + 1) % 25600 = SMap.get 0 s.ctx.scrub bank + 1 :=
    Nat.mod_eq_of_lt (by omega)
  simp only [State.scrubMany, if_neg (Nat.ne_of_lt h), hnext]
  rfl

/-- The state in which a batch of bank `b` at `t` starts. -/
def State.scrubbed (s : State) (t : Time) (b : Engine) : State := (s.at_ t).updCtx fun c =>
  { c with scrubAt := SMap.put 0 c.scrubAt b.val (s.timeAt t + 1) }

section
variable (s : State) (t : Time) (b : Engine)

/-- The conditions under which scrub reads one group of a bank, which is not its last. -/
def State.scrubs : Prop :=
  s.pwr.up = true ∧ s.clkOn pCTX = true ∧ s.bit pCTX CTX_CTRL_SCRUBEN = true ∧ s.bit pCTX HDR_PG_CTRL_EN = true ∧
  s.excluded b.val = false ∧ (s.at_ t).scrubOpen b.val = true ∧ s.fld pCTX CTX_CTRL_SCRUBRATE = 1 ∧
  SMap.get 0 s.ctx.scrub b.val < 25599

theorem scrub_completes {P : State → Prop} (h : s.scrubs t b)
    (hp : P (((s.scrubbed t b).scrubGroup b.val (SMap.get 0 s.ctx.scrub b.val)).scrubNoted b.val
      (SMap.get 0 s.ctx.scrub b.val))) : Completes (.scrubRead t b []) s P := by
  obtain ⟨hup, hclk, hen, hpg, hexcl, hopen, hrate, hpos⟩ := h
  have hclk' : (s.at_ t).clkOn pCTX = true := (s.atTime_clkOn t pCTX (by decide)).trans hclk
  have hen' : (s.at_ t).bit pCTX CTX_CTRL_SCRUBEN = true := hen
  have hpg' : (s.at_ t).bit pCTX HDR_PG_CTRL_EN = true := hpg
  have hexcl' : (s.at_ t).excluded b.val = false := hexcl
  refine ⟨_, Eq.trans ?_ (congrArg Host.Outcome.next (State.scrubMany_one (s.scrubbed t b) b.val hpos)), hp⟩
  show execScrubRead t b [] s = _
  simp only [execScrubRead, State.upsets, List.foldl_nil, State.atTime_pwr, hup, hclk', hen', hpg', hopen, hexcl',
    State.atTime_fld, hrate]
  rfl

/-- R88: a group without an error. -/
theorem scrub_sound (h : s.scrubs t b) (hecc : s.eccAt (scrubSlot s b) (scrubGrp s b) = 0) :
    Completes (.scrubRead t b []) s fun u =>
      u.ctx = { s.ctx with
        scrub := SMap.put 0 s.ctx.scrub b.val (SMap.get 0 s.ctx.scrub b.val + 1)
        scrubAt := SMap.put 0 s.ctx.scrubAt b.val (s.timeAt t + 1) } ∧
      Changes (s.at_ t) u [.ctx] (fields [(pCTX, CTX_SCRUBPOS_BANK), (pCTX, CTX_SCRUBPOS_SLOT)]) := by
  have hecc' : (s.scrubbed t b).eccAt (scrubSlot s b) (scrubGrp s b) = 0 := hecc
  have hgroup : (s.scrubbed t b).scrubGroup b.val (SMap.get 0 s.ctx.scrub b.val) = s.scrubbed t b := by
    simp only [scrubSlot, scrubGrp] at hecc'
    simp only [State.scrubGroup, hecc']
  refine scrub_completes s t b h ?_
  rw [hgroup]
  exact ⟨rfl, ((Changes.refl _ _ _).updCtx (by decide)).trans (State.scrubNoted_changes _ _ _)⟩

/-- R83, R88: a group with a correctable error. -/
theorem scrub_corrects (h : s.scrubs t b) (hecc : s.eccAt (scrubSlot s b) (scrubGrp s b) = 1) :
    Completes (.scrubRead t b []) s fun u =>
      u.eccAt (scrubSlot s b) (scrubGrp s b) = 0 ∧
      u.fld pCTX CTX_ECCCNT_CE = Nat.min (s.fld pCTX CTX_ECCCNT_CE + 1) (2 ^ CTX_ECCCNT_CE.wid - 1) ∧
      u.ctx.quar = s.ctx.quar ∧ u.plc = s.plc := by
  have hecc' : (s.scrubbed t b).eccAt (scrubSlot s b) (scrubGrp s b) = 1 := hecc
  have hgroup : (s.scrubbed t b).scrubGroup b.val (SMap.get 0 s.ctx.scrub b.val) =
      (s.scrubbed t b).fixCe (scrubSlot s b) (scrubGrp s b) := by
    simp only [scrubSlot, scrubGrp] at hecc' ⊢
    simp only [State.scrubGroup, hecc']
  refine scrub_completes s t b h ?_
  rw [hgroup]
  obtain ⟨herr, hquar, hplc, hcount⟩ := (s.scrubbed t b).fixCe_spec (scrubSlot s b) (scrubGrp s b)
  refine ⟨?_, ?_, hquar, hplc⟩
  · show SMap.get 0 ((s.scrubbed t b).fixCe (scrubSlot s b) (scrubGrp s b)).ctx.ecc _ = 0
    rw [herr, SMap.get_put_same]
  · rw [(State.scrubNoted_changes _ _ _).fld_eq (by decide), hcount]
    rfl

/-- R84, R85, R88: a group with an uncorrectable error, in a record whose context is not in quarantine. -/
theorem scrub_quarantines (h : s.scrubs t b) (x : Nat) (hecc : s.eccAt (scrubSlot s b) (scrubGrp s b) = 2)
    (howner : s.owner (scrubSlot s b) = some x) (hfree : s.isQuar x = false) (hmap : s.ctx.qmapBad = []) :
    Completes (.scrubRead t b []) s fun u =>
      u.ctx.quar = SMap.put 0 s.ctx.quar x (s.fn + 2) ∧ u.ctx.store = s.causeStore x 3 ∧
      u.eccAt (scrubSlot s b) (scrubGrp s b) = 2 := by
  have hecc' : (s.scrubbed t b).eccAt (scrubSlot s b) (scrubGrp s b) = 2 := hecc
  have howner' : (s.scrubbed t b).owner (scrubSlot s b) = some x := howner
  have hgroup : (s.scrubbed t b).scrubGroup b.val (SMap.get 0 s.ctx.scrub b.val) =
      (s.scrubbed t b).ueFound x (scrubGrp s b) 3 (s.fn + 1) := by
    simp only [scrubSlot, scrubGrp] at hecc' howner' ⊢
    simp only [State.scrubGroup, hecc', howner']
    rfl
  obtain ⟨hquar, hstore, herr⟩ := (s.scrubbed t b).ueFound_new hmap x (scrubGrp s b) 3 (s.fn + 1) hfree
  refine scrub_completes s t b h ?_
  rw [hgroup, State.eccAt, State.scrubNoted_ctx]
  dsimp only
  rw [hquar, hstore, herr]
  exact ⟨rfl, State.causeStore_congr (s := s) (u := s.scrubbed t b) rfl rfl rfl x 3, hecc⟩

theorem scrub_closed (h : (s.at_ t).scrubOpen b.val = false) : Completes (.scrubRead t b []) s fun u => u = s.at_ t := by
  refine ⟨_, ?_, rfl⟩
  show execScrubRead t b [] s = _
  simp [execScrubRead, State.upsets, h]

/-- R88: outside RUN scrub may read a bank every 50 µs, -/
theorem State.scrubOpen_idle (hrun : s.frmState ≠ 1) (hdue : SMap.get 0 s.ctx.scrubAt b.val + 49999 ≤ s.timeAt t) :
    (s.at_ t).scrubOpen b.val = true := by
  have hrun' : ¬ (s.at_ t).frmState = 1 := hrun
  rw [State.scrubOpen, if_neg hrun']
  exact decide_eq_true (.inr hdue)

/-- and in RUN only while a frame runs and the bank's engine has done its visits. -/
theorem State.scrubOpen_busy (hrun : s.frmState = 1) (h : s.frm.inFrame = false ∨ (s.engine b.val).busy = true) :
    (s.at_ t).scrubOpen b.val = false := by
  have hrun' : (s.at_ t).frmState = 1 := hrun
  have hengine : (s.at_ t).engine b.val = s.engine b.val := rfl
  rw [State.scrubOpen, if_pos hrun', State.atTime_frm, hengine]
  obtain h | h := h
  · rw [h]; rfl
  · obtain hvisit | hdue := (Bool.or_eq_true _ _).mp h
    · simp [← Option.not_isSome, hvisit]
    · simp [(Bool.not_eq_true' _).mp hdue]

end

/-! ## The quarantine map (R449) -/

/-- R374: the record of the first device-fatal error. -/
def State.fstatNoted (s : State) (page cause : Nat) : State :=
  if s.bit pERR ERR_FSTAT_VALID then s
  else ((s.setFld pERR ERR_FSTAT_VALID 1).setFld pERR ERR_FSTAT_PAGE page).setFld pERR ERR_FSTAT_CAUSE cause

theorem State.fstatNoted_valid (s : State) (page cause : Nat) :
    (s.fstatNoted page cause).bit pERR ERR_FSTAT_VALID = true := by
  unfold State.fstatNoted
  split
  · assumption
  · rw [State.bit, State.fld_setFld_ne _ _ _ _ _ _ (by decide), State.fld_setFld_ne _ _ _ _ _ _ (by decide),
      State.fld_setFld_same]
    rfl

/-- R374: the first device-fatal error asserts FAULT_B and leaves a record. -/
theorem State.fatal_first (s : State) (page cause : Nat) (h : s.pwr.faultB = false) :
    (s.fatal page cause).pwr.faultB = true ∧ (s.fatal page cause).bit pERR ERR_FSTAT_VALID = true := by
  let v := ((((s.fstatNoted page cause).err pERR ERR_E_FATAL).log page 0x0E0 4 cause).setFld pLOG LOG_STAT_FROZEN 1).updPwr
    fun p => { p with faultB := true }
  have hfatal : s.fatal page cause = (v.mapLinks (cutRun v.time)).holdCauseArises (if cause = 7 then 4 else 3) := by
    rw [State.fatal, h, if_neg Bool.false_ne_true]
    rfl
  have hrest : Changes (s.fstatNoted page cause) (s.fatal page cause) [.msi, .ring, .pwr, .lnk]
      fun k => decide (k ≠ fldKey pERR ERR_FSTAT_VALID) := by
    rw [hfatal]
    exact Changes.holdCauseArises (by decide) (Changes.mapLinks (by decide) (Changes.updPwr (by decide) (Changes.setFld
      (by decide) (Changes.log (by decide) (by decide) (by decide) (Changes.err (by decide) (by decide) (by decide)
      (Changes.refl _ _ _))))))
  constructor
  · rw [hfatal, State.holdCauseArises_pwr, State.mapLinks_pwr, State.updPwr_pwr]
  · rw [State.bit, hrest.fld_eq (by decide)]
    exact s.fstatNoted_valid page cause

theorem qmapCheck_fatal (s : State) (t : Time) (hup : s.pwr.up = true) (hclk : s.clkOn pCTX = true)
    (hbad : s.ctx.qmapBad ≠ []) (hfault : s.pwr.faultB = false) : Completes (.qmapParityCheck t []) s fun u =>
      u.pwr.faultB = true ∧ u.bit pERR ERR_FSTAT_VALID = true ∧ u.ctx = s.ctx := by
  have hclk' : (s.at_ t).clkOn pCTX = true := (s.atTime_clkOn t pCTX (by decide)).trans hclk
  have hexec : exec (.qmapParityCheck t []) s = .next ((s.at_ t).fatal pCTX 3) := by
    show execQmapParityCheck t [] s = _
    simp [execQmapParityCheck, State.upsets, hup, hclk', hbad]
  obtain ⟨hfatal, hvalid⟩ := (s.at_ t).fatal_first pCTX 3 hfault
  exact ⟨_, hexec, hfatal, hvalid, State.fatal_ctx _ _ _⟩

theorem qmapCheck_idle (s : State) (t : Time) (hgood : s.ctx.qmapBad = []) :
    Completes (.qmapParityCheck t []) s fun u => u = s.at_ t := by
  refine ⟨_, ?_, rfl⟩
  show execQmapParityCheck t [] s = _
  simp [execQmapParityCheck, State.upsets, hgood]

/-- Settles O8: SAFEDATA reaches the entry that SAFEIDX names and moves SAFEIDX on; scrub reads the group at its position
when its bank is open to it, and a parity error of the quarantine map is fatal. -/
theorem safeTableAndScrub : Obligations.SafeTableAndScrub :=
  ⟨fun s t v => ⟨safedataWrite_stores s t v, safedataWrite_refused s t v, safedataRead_reads s t, safedataRead_refused s t⟩,
   fun s t b hup hclk =>
    ⟨fun hen hpg hexcl hopen hrate hpos =>
      have h : s.scrubs t b := ⟨hup, hclk, hen, hpg, hexcl, hopen, hrate, hpos⟩
      ⟨scrub_sound s t b h, scrub_corrects s t b h, scrub_quarantines s t b h⟩,
     scrub_closed s t b, ⟨State.scrubOpen_idle s t b, State.scrubOpen_busy s t b⟩, qmapCheck_fatal s t hup hclk,
     qmapCheck_idle s t⟩⟩

end Sys2Proof.Machine

/-! # Visits: their start on a due slot and their end with END (R84, R91, R92, R63, R94, R133, R134) -/

namespace Sys2Proof.Machine

/-! ## Engines -/

section
variable (s : State) (e : Nat)

theorem State.engine_updEng_same (g : Eng → Eng) : (s.updEng e g).engine e = g (s.engine e) :=
  SMap.get_put_same _ _ _ _

theorem State.engine_congr {s u : State} (h : u.jer = s.jer) (e : Nat) : u.engine e = s.engine e := by
  rw [State.engine, State.engine, h]

theorem State.engine_leaveVisit (n : Nat) (ended : Bool) : (s.leaveVisit e n ended).engine e =
    { s.engine e with
      visit := none
      cyc := (s.engine e).cyc + n
      lastEnd := if ended then (s.engine e).cyc + n else (s.engine e).lastEnd } := s.engine_updEng_same e _

theorem State.leaveVisit_ctx (n : Nat) (ended : Bool) : (s.leaveVisit e n ended).ctx = s.ctx := rfl

end

/-! ## The record of a slot -/

/-- The part of a table from `lo` up to `hi`, counted from `lo`. -/
theorem SMap.get_slice {α : Type} (d : α) (m : SMap α) {lo hi k : Nat} (h : lo + k < hi) :
    SMap.get d (SMap.slice m lo hi) k = SMap.get d m (lo + k) := by
  induction m with
  | nil => rfl
  | cons e t ih =>
    obtain ⟨i, v⟩ := e
    unfold SMap.slice at ih ⊢
    by_cases hin : lo ≤ i ∧ i < hi
    · rw [List.filter_cons_of_pos (by simpa using hin), List.map_cons, SMap.get, SMap.get, ih]
      have hkey : i - lo = k ↔ i = lo + k := by omega
      simp only [hkey]
    · have hne : i ≠ lo + k := by omega
      rw [List.filter_cons_of_neg (by simpa using hin), ih, SMap.get, if_neg hne]

theorem State.record_get (s : State) (p : Nat) {w : Nat} (hw : w < 64) : SMap.get 0 (s.record p) w = s.slotWord p w :=
  SMap.get_slice 0 s.ctx.store (by omega)

/-- R84: the first uncorrectable group of a slot, where it has one. -/
theorem State.firstUe_none (s : State) (p : Nat) (h : ∀ g < 16, s.eccAt p g = 0) : s.firstUe p = none :=
  List.find?_eq_none.mpr fun g hg => by simp [h g (List.mem_range.mp hg)]

theorem State.firstUe_some (s : State) (p : Nat) (h : ∃ g < 16, s.eccAt p g = 2) : ∃ g, s.firstUe p = some g :=
  Option.isSome_iff_exists.mp (List.find?_isSome.mpr (h.imp fun _ hg => ⟨List.mem_range.mpr hg.1, decide_eq_true hg.2⟩))

/-! ## Uncorrectable errors in a record (R84) -/

section
variable (h p cause fn : Nat)

/-- R84: the groups of a slot, as one access finds the uncorrectable ones. -/
def State.ueEach (s : State) (gs : List Nat) : State :=
  gs.foldl (fun s g => if s.eccAt p g = 2 then s.ueFound h g cause fn else s) s

/-- Once the context is in quarantine, the other groups change neither the contexts nor the engines. -/
theorem State.ueEach_quarantined (s : State) (gs : List Nat) (hq : s.ctx.qmapBad = []) (hh : s.isQuar h = true) :
    (State.ueEach h p cause fn s gs).ctx = s.ctx ∧ (State.ueEach h p cause fn s gs).jer = s.jer := by
  induction gs generalizing s with
  | nil => exact ⟨rfl, rfl⟩
  | cons g gs ih =>
    simp only [State.ueEach, List.foldl_cons] at ih ⊢
    split
    · have hctx := s.ueFound_ctx_quar hq h g cause fn hh
      obtain ⟨hc, hj⟩ := ih (s.ueFound h g cause fn) (by rw [hctx, hq])
        ((State.isQuar_congr (congrArg Ctx.quar hctx) h).trans hh)
      exact ⟨hc.trans hctx, hj.trans (s.ueFound_jer hq h g cause fn)⟩
    · exact ih s hq hh

/-- R84, R85: the first uncorrectable group puts the context into quarantine. -/
theorem State.ueEach_new (s : State) (gs : List Nat) (hq : s.ctx.qmapBad = []) (hh : s.isQuar h = false)
    (hue : ∃ g ∈ gs, s.eccAt p g = 2) :
    (State.ueEach h p cause fn s gs).ctx.quar = SMap.put 0 s.ctx.quar h (fn + 1) ∧
    (State.ueEach h p cause fn s gs).jer = s.jer := by
  induction gs with
  | nil => simp at hue
  | cons g gs ih =>
    by_cases hg : s.eccAt p g = 2
    · have hctx := (s.ueFound_ctx_new hq h g cause fn hh).trans (s.quarantine_ctx h cause fn)
      have hnew := (s.ueFound_new hq h g cause fn hh).1
      have hquar : (s.ueFound h g cause fn).isQuar h = true := by
        rw [State.isQuar, hnew, SMap.get_put_same]
        exact decide_eq_true (Nat.succ_ne_zero _)
      obtain ⟨hc, hj⟩ := State.ueEach_quarantined h p cause fn (s.ueFound h g cause fn) gs (by rw [hctx, hq]) hquar
      have hstep : State.ueEach h p cause fn s (g :: gs) = State.ueEach h p cause fn (s.ueFound h g cause fn) gs := by
        rw [State.ueEach, List.foldl_cons, if_pos hg]
        rfl
      rw [hstep, hc, hj]
      exact ⟨hnew, s.ueFound_jer hq h g cause fn⟩
    · have hstep : State.ueEach h p cause fn s (g :: gs) = State.ueEach h p cause fn s gs := by
        rw [State.ueEach, List.foldl_cons, if_neg hg]
        rfl
      rw [hstep]
      refine ih ?_
      obtain ⟨k, hk, hk2⟩ := hue
      obtain rfl | hk := List.mem_cons.mp hk
      · exact absurd hk2 hg
      · exact ⟨k, hk, hk2⟩

end

/-! ## VISIT (R84, R91, R92) -/

section
variable (s : State) (e : Engine) (p h : Nat) (due : List Nat)

/-- R92: an engine takes its next due slot. -/
def State.tookDue (s : State) (e p : Nat) (due : List Nat) : State :=
  (s.updEng e fun g => { g with due := due }).setFld (pJE e) JE_STAT_CURSLOT (p % 1600)

theorem State.tookDue_engine (e : Nat) : (s.tookDue e p due).engine e = { s.engine e with due := due } :=
  s.engine_updEng_same e fun g => { g with due := due }

theorem State.tookDue_changes (e : Nat) : Changes s (s.tookDue e p due) [.jer] (fields [(pJE e, JE_STAT_CURSLOT)]) :=
  ((Changes.refl _ _ _).updEng (by decide)).setFld (fields_mem (List.mem_singleton_self _))

theorem State.leaveVisit_changes (e n : Nat) (ended : Bool) (K : Nat → Bool) :
    Changes s (s.leaveVisit e n ended) [.jer] K := (Changes.refl _ _ _).updEng (by decide)

/-- R91, R92: VISIT of an engine that has no visit in progress and a due slot. -/
theorem exec_visit (hcomp : s.computing = true) (hidle : (s.engine e.val).visit = none)
    (hdue : (s.engine e.val).due = p :: due) (hin : s.cycleIn e.val 1 = true) :
    exec (.visit e []) s = .next (s.startVisit e.val p due) := by
  show execVisit e [] s = _
  simp only [execVisit, State.upsets, List.foldl_nil, hcomp, hidle, hdue, hin]
  rfl

/-- R92, R93: the record of a due slot without errors. -/
theorem State.startVisit_sound (e : Nat) (howner : s.owner p = some h) (hecc : ∀ g < 16, s.eccAt p g = 0) :
    s.startVisit e p due =
      if (SMap.get ClsEnt.none s.jer.inf (w0Class (s.slotWord p 0))).valid then (s.tookDue e p due).putVisit e
        ((s.tookDue e p due).newVisit h p (SMap.get ClsEnt.none s.jer.inf (w0Class (s.slotWord p 0))))
      else (s.tookDue e p due).leaveVisit e 4 false := by
  have howner' : (s.tookDue e p due).owner p = some h := howner
  have hfix : (s.tookDue e p due).fixAllCe p = s.tookDue e p due :=
    State.fixAllCe_none _ p fun g hg => by rw [show (s.tookDue e p due).eccAt p g = 0 from hecc g hg]; decide
  have hue : (s.tookDue e p due).firstUe p = none := State.firstUe_none _ p hecc
  unfold State.tookDue at howner' hfix hue
  simp only [State.startVisit, howner', hfix, hue]
  rfl

/-- R84: the record of a due slot with an uncorrectable error and no correctable one. -/
theorem State.startVisit_bad (e : Nat) (howner : s.owner p = some h) (hce : ∀ g < 16, s.eccAt p g ≠ 1)
    (hue : ∃ g < 16, s.eccAt p g = 2) : s.startVisit e p due =
      (State.ueEach h p 1 s.fn ((s.tookDue e p due).atCycle e 0) (List.range 16)).leaveVisit e 4 false := by
  have howner' : (s.tookDue e p due).owner p = some h := howner
  have hfix : (s.tookDue e p due).fixAllCe p = s.tookDue e p due := State.fixAllCe_none _ p hce
  obtain ⟨g, hfirst⟩ := State.firstUe_some (s.tookDue e p due) p hue
  have hfn : (s.tookDue e p due).fn = s.fn := by
    have hcur (f : Fld) (hf : f.off * 32 + f.lo < 131072) : (s.tookDue e p due).fld pFRM f = s.fld pFRM f :=
      State.fld_setFld_ne _ _ _ _ _ _ (fldKey_page_ne _ _ _ _ (by decide) hf (by unfold pFRM pJE; omega))
    rw [State.fn, State.fn, hcur _ (by decide), hcur _ (by decide)]
  rw [← hfn]
  unfold State.tookDue at howner' hfix hfirst ⊢
  simp only [State.startVisit, howner', hfix, hfirst]
  rfl

/-- R91, R92: the visit starts. -/
theorem visit_starts (hcomp : s.computing = true) (hidle : (s.engine e.val).visit = none)
    (hdue : (s.engine e.val).due = p :: due) (howner : s.owner p = some h) (hin : s.cycleIn e.val 1 = true)
    (hecc : ∀ g < 16, s.eccAt p g = 0) :
    let c := SMap.get ClsEnt.none s.jer.inf (w0Class (s.slotWord p 0))
    c.valid = true → Completes (.visit e []) s fun u => ∃ x, (u.engine e.val).visit = some x ∧
      (u.engine e.val).due = due ∧ x.handle = h ∧ x.phys = p ∧ x.plane = c.plane ∧ x.pc = c.entry ∧ x.w = c.w ∧
      x.cyc = 0 ∧ x.evs = [] ∧ x.held = false ∧ x.fl = ⟨false, false, false, false, false⟩ ∧ x.v = [] ∧ x.a = [] ∧
      (∀ w < 64, SMap.get 0 x.fetched w = s.slotWord p w) ∧
      Changes s u [.jer] (fields [(pJE e.val, JE_STAT_CURSLOT)]) := by
  intro c hvalid
  refine ⟨_, (exec_visit s e p due hcomp hidle hdue hin).trans (congrArg Host.Outcome.next
    ((s.startVisit_sound p h due e.val howner hecc).trans (if_pos hvalid))), (s.tookDue e.val p due).newVisit h p c, ?_⟩
  have hengine := (s.tookDue e.val p due).engine_updEng_same e.val
    fun g => { g with visit := some ((s.tookDue e.val p due).newVisit h p c) }
  rw [s.tookDue_engine p due e.val] at hengine
  exact ⟨congrArg Eng.visit hengine, congrArg Eng.due hengine, rfl, rfl, rfl, rfl, rfl, rfl, rfl, rfl, rfl, rfl, rfl,
    fun w hw => State.record_get (s.tookDue e.val p due) p hw,
    (s.tookDue_changes p due e.val).trans ((Changes.refl _ _ _).updEng (by decide))⟩

/-- R93: a class without an entry in force. -/
theorem visit_spent (hcomp : s.computing = true) (hidle : (s.engine e.val).visit = none)
    (hdue : (s.engine e.val).due = p :: due) (howner : s.owner p = some h) (hin : s.cycleIn e.val 1 = true)
    (hecc : ∀ g < 16, s.eccAt p g = 0)
    (hvalid : (SMap.get ClsEnt.none s.jer.inf (w0Class (s.slotWord p 0))).valid = false) :
    Completes (.visit e []) s fun u => (u.engine e.val).visit = none ∧
      (u.engine e.val).due = due ∧ (u.engine e.val).cyc = (s.engine e.val).cyc + 4 ∧
      Changes s u [.jer] (fields [(pJE e.val, JE_STAT_CURSLOT)]) := by
  refine ⟨_, (exec_visit s e p due hcomp hidle hdue hin).trans (congrArg Host.Outcome.next
    ((s.startVisit_sound p h due e.val howner hecc).trans (if_neg (by rw [hvalid]; decide)))), ?_⟩
  have hengine := (s.tookDue e.val p due).engine_leaveVisit e.val 4 false
  rw [s.tookDue_engine p due e.val] at hengine
  exact ⟨congrArg Eng.visit hengine, congrArg Eng.due hengine, congrArg Eng.cyc hengine,
    (s.tookDue_changes p due e.val).trans (State.leaveVisit_changes _ _ _ _ _)⟩

/-- R84: an uncorrectable error quarantines the context from this frame on, and there is no visit. -/
theorem visit_quarantined (hcomp : s.computing = true) (hidle : (s.engine e.val).visit = none)
    (hdue : (s.engine e.val).due = p :: due) (howner : s.owner p = some h) (hin : s.cycleIn e.val 1 = true)
    (hce : ∀ g < 16, s.eccAt p g ≠ 1) (hue : ∃ g < 16, s.eccAt p g = 2) (hfree : s.isQuar h = false)
    (hmap : s.ctx.qmapBad = []) : Completes (.visit e []) s fun u => (u.engine e.val).visit = none ∧
      (u.engine e.val).cyc = (s.engine e.val).cyc + 4 ∧ u.ctx.quar = SMap.put 0 s.ctx.quar h (s.fn + 1) := by
  refine ⟨_, (exec_visit s e p due hcomp hidle hdue hin).trans (congrArg Host.Outcome.next
    (s.startVisit_bad p h due e.val howner hce hue)), ?_⟩
  have hctx : ((s.tookDue e.val p due).atCycle e.val 0).ctx = s.ctx := rfl
  have hjer' : ((s.tookDue e.val p due).atCycle e.val 0).jer = (s.tookDue e.val p due).jer := rfl
  generalize (s.tookDue e.val p due).atCycle e.val 0 = v at hctx hjer' ⊢
  obtain ⟨hquar, hjer⟩ := State.ueEach_new h p 1 s.fn v (List.range 16) (by rw [hctx, hmap])
    ((State.isQuar_congr (congrArg Ctx.quar hctx) h).trans hfree)
    (hue.imp fun g hg => ⟨List.mem_range.mpr hg.1, by rw [State.eccAt, hctx]; exact hg.2⟩)
  have hengine := (State.ueEach h p 1 s.fn v (List.range 16)).engine_leaveVisit e.val 4 false
  rw [State.engine_congr (hjer.trans hjer') e.val, s.tookDue_engine p due e.val] at hengine
  rw [hctx] at hquar
  exact ⟨congrArg Eng.visit hengine, congrArg Eng.cyc hengine, (congrArg Ctx.quar (State.leaveVisit_ctx _ _ _ _)).trans hquar⟩

end

/-! ## What END writes back (R63, R94) -/

theorem mem_changedWords {a b : SMap Word} {x : Nat × Word} :
    x ∈ changedWords a b ↔ x.1 < 64 ∧ SMap.get 0 a x.1 ≠ SMap.get 0 b x.1 ∧ x.2 = SMap.get 0 b x.1 := by
  obtain ⟨n, v⟩ := x
  simp only [changedWords, List.mem_filterMap, List.mem_range, Option.ite_none_left_eq_some, Option.some.injEq,
    Prod.mk.injEq]
  constructor
  · rintro ⟨m, hm, hne, rfl, rfl⟩
    exact ⟨hm, hne, rfl⟩
  · rintro ⟨hn, hne, rfl⟩
    exact ⟨n, hn, hne, rfl, rfl⟩

/-- R94: a group with a changed word is a changed group. -/
theorem mem_changedGroups {a b : SMap Word} {w : Nat} (hw : w < 64) (h : SMap.get 0 a w ≠ SMap.get 0 b w) :
    ∃ x ∈ changedGroups a b, x.1 = w / 4 := by
  have hword : 4 * (w / 4) + w % 4 = w := Nat.div_add_mod w 4
  have hall : ¬ (List.range 4).all (fun i => SMap.get 0 a (4 * (w / 4) + i) = SMap.get 0 b (4 * (w / 4) + i)) = true := by
    intro hall
    have heq := List.all_eq_true.mp hall (w % 4) (List.mem_range.mpr (Nat.mod_lt _ (by decide)))
    rw [hword] at heq
    exact h (of_decide_eq_true heq)
  exact ⟨_, List.mem_filterMap.mpr ⟨w / 4, List.mem_range.mpr (by omega), if_neg hall⟩, rfl⟩

section
variable (p : Nat)

/-- Words written one after another into a slot, each with its value of one table. -/
theorem State.slotWord_setWords (s : State) (b : SMap Word) (ws : List (Nat × Word))
    (hws : ∀ x ∈ ws, x.1 < 64 ∧ x.2 = SMap.get 0 b x.1) (q w : Nat) (hw : w < 64) :
    (ws.foldl (fun s x => s.setSlotWord p x.1 x.2) s).slotWord q w =
      if q = p ∧ w ∈ ws.map Prod.fst then SMap.get 0 b w else s.slotWord q w := by
  induction ws generalizing s with
  | nil => simp
  | cons x ws ih =>
    obtain ⟨⟨hx, hval⟩, hrest⟩ := List.forall_mem_cons.mp hws
    rw [List.foldl_cons, ih _ hrest, List.map_cons]
    by_cases hlater : q = p ∧ w ∈ ws.map Prod.fst
    · rw [if_pos hlater, if_pos ⟨hlater.1, List.mem_cons_of_mem _ hlater.2⟩]
    · rw [if_neg hlater]
      by_cases hhere : q = p ∧ w = x.1
      · obtain ⟨rfl, rfl⟩ := hhere
        rw [if_pos ⟨rfl, List.mem_cons_self⟩, ← hval]
        exact SMap.get_put_same _ _ _ _
      · have hno : ¬ (q = p ∧ w ∈ x.1 :: ws.map Prod.fst) := fun ⟨hq, hmem⟩ =>
          (List.mem_cons.mp hmem).elim (fun h => hhere ⟨hq, h⟩) fun h => hlater ⟨hq, h⟩
        rw [if_neg hno]
        exact SMap.get_put_ne _ _ _ _ _ _ (by omega)

theorem State.eccAt_cleanGroup_same (s : State) (g : Nat) : (s.cleanGroup p g).eccAt p g = 0 :=
  SMap.get_put_same 0 s.ctx.ecc (p * 16 + g) 0

theorem State.eccAt_cleanGroup_ne (s : State) {g k : Nat} (h : g ≠ k) : (s.cleanGroup p k).eccAt p g = s.eccAt p g :=
  SMap.get_put_ne 0 0 s.ctx.ecc (p * 16 + k) (p * 16 + g) 0 (by omega)

/-- Groups that take good check bits, and keep them. -/
theorem State.eccAt_cleanGroups (s : State) (gs : List (Nat × BitVec 40)) (g : Nat)
    (h : s.eccAt p g = 0 ∨ ∃ x ∈ gs, x.1 = g) : (gs.foldl (fun s x => s.cleanGroup p x.1) s).eccAt p g = 0 := by
  induction gs generalizing s with
  | nil => simpa using h
  | cons x gs ih =>
    rw [List.foldl_cons]
    refine ih _ ?_
    by_cases hx : x.1 = g
    · rw [← hx]
      exact .inl (s.eccAt_cleanGroup_same p x.1)
    · have hkeep := s.eccAt_cleanGroup_ne p (Ne.symm hx)
      refine h.imp (fun h0 => hkeep.trans h0) fun ⟨y, hy, hyg⟩ => ?_
      obtain rfl | hy := List.mem_cons.mp hy
      · exact absurd hyg hx
      · exact ⟨y, hy, hyg⟩

theorem State.slotWord_cleanGroups (s : State) (gs : List (Nat × BitVec 40)) (q w : Nat) :
    (gs.foldl (fun s x => s.cleanGroup p x.1) s).slotWord q w = s.slotWord q w := by
  induction gs generalizing s with
  | nil => rfl
  | cons x gs ih => rw [List.foldl_cons, ih]; rfl

/-- R94: every word of slot `p` that differs between two tables is written back, and its group gets good check bits. -/
def State.wroteBack (s : State) (a b : SMap Word) : State :=
  (changedGroups a b).foldl (fun s g => s.cleanGroup p g.1)
    ((changedWords a b).foldl (fun s w => s.setSlotWord p w.1 w.2) s)

variable (s : State) (a b : SMap Word)

theorem State.wroteBack_changes : Changes s (s.wroteBack p a b) [.ctx] noField :=
  Changes.foldl (fun _ _ hv => (hv.updCtx (by decide)).updCtx (by decide))
    (Changes.foldl (fun _ _ hv => hv.setSlotWord (by decide)) (Changes.refl _ _ _))

theorem State.wroteBack_word (q w : Nat) (hw : w < 64) : (s.wroteBack p a b).slotWord q w =
    if q = p ∧ SMap.get 0 a w ≠ SMap.get 0 b w then SMap.get 0 b w else s.slotWord q w := by
  have hmem : w ∈ (changedWords a b).map Prod.fst ↔ SMap.get 0 a w ≠ SMap.get 0 b w := by
    rw [List.mem_map]
    constructor
    · rintro ⟨x, hx, rfl⟩
      exact (mem_changedWords.mp hx).2.1
    · exact fun hne => ⟨(w, SMap.get 0 b w), mem_changedWords.mpr ⟨hw, hne, rfl⟩, rfl⟩
  rw [State.wroteBack, State.slotWord_cleanGroups, State.slotWord_setWords p s b _ (fun x hx =>
    ⟨(mem_changedWords.mp hx).1, (mem_changedWords.mp hx).2.2⟩) q w hw]
  simp only [hmem]

/-- A slot that held what was fetched holds what is written back. -/
theorem State.wroteBack_slot (h : ∀ w < 64, s.slotWord p w = SMap.get 0 a w) (w : Nat) (hw : w < 64) :
    (s.wroteBack p a b).slotWord p w = SMap.get 0 b w := by
  rw [s.wroteBack_word p a b p w hw]
  by_cases hne : SMap.get 0 a w = SMap.get 0 b w
  · rw [if_neg (fun hc => hc.2 hne), h w hw, hne]
  · rw [if_pos ⟨rfl, hne⟩]

theorem State.wroteBack_sound (w : Nat) (hw : w < 64) (hne : SMap.get 0 a w ≠ SMap.get 0 b w) :
    (s.wroteBack p a b).eccAt p (w / 4) = 0 :=
  State.eccAt_cleanGroups p _ _ _ (.inr (mem_changedGroups hw hne))

end

/-! ## The record at END (R63, R133) -/

section
variable (x : Visit) (fn : Nat)

/-- R63: the history takes words 4 and 5 only. -/
theorem pushHist_get_ne (evs : List Ev) (r : SMap Word) {w : Nat} (h4 : w ≠ 4) (h5 : w ≠ 5) :
    SMap.get 0 (evs.foldl (fun r ev => pushHist r ev.val) r) w = SMap.get 0 r w := by
  induction evs generalizing r with
  | nil => rfl
  | cons ev evs ih =>
    rw [List.foldl_cons, ih, pushHist, SMap.get_put_ne _ _ _ _ _ _ h4, SMap.get_put_ne _ _ _ _ _ _ h5]

/-- R133: the events that the visit releases. -/
def Visit.released : List Ev := if x.held then [] else x.evs

/-- R63: the record of the visit with its history. -/
def Visit.history (fn : Nat) : SMap Word :=
  let r := x.released.foldl (fun r ev => pushHist r ev.val) (if x.held then x.dev else x.cur)
  if x.released.isEmpty then r else SMap.put 0 r 6 (BitVec.ofNat 10 fn)

/-- R63, R64: the record with the frame number of the visit. -/
def Visit.stamped (fn : Nat) : SMap Word :=
  SMap.put 0 (SMap.put 0 (x.history fn) 11 (BitVec.ofNat 10 fn)) 12 (BitVec.ofNat 10 (fn / 1024))

theorem Visit.finish_eq : x.finish fn =
    (SMap.put 0 (x.stamped fn) 10 (setBits (SMap.get 0 (x.stamped fn) 10) 0 2 0), x.released) := rfl

/-- What END writes back. -/
def Visit.final : SMap Word := (x.finish fn).1

theorem Visit.final_frame : SMap.get 0 (x.final fn) 11 = BitVec.ofNat 10 fn ∧
    SMap.get 0 (x.final fn) 12 = BitVec.ofNat 10 (fn / 1024) := by
  rw [Visit.final, Visit.finish_eq, Visit.stamped]
  constructor
  · rw [SMap.get_put_ne _ _ _ _ _ _ (by decide), SMap.get_put_ne _ _ _ _ _ _ (by decide), SMap.get_put_same]
  · rw [SMap.get_put_ne _ _ _ _ _ _ (by decide), SMap.get_put_same]

theorem Visit.final_history {w : Nat} (h : w < 10) : SMap.get 0 (x.final fn) w = SMap.get 0 (x.history fn) w := by
  rw [Visit.final, Visit.finish_eq, Visit.stamped, SMap.get_put_ne _ _ _ _ _ _ (by omega),
    SMap.get_put_ne _ _ _ _ _ _ (by omega), SMap.get_put_ne _ _ _ _ _ _ (by omega)]

/-- R94, R133: the words of the program, of a held visit as it found them. -/
theorem Visit.final_program {w : Nat} (h : 16 ≤ w) :
    SMap.get 0 (x.final fn) w = SMap.get 0 (if x.held then x.dev else x.cur) w := by
  have hhist : SMap.get 0 (x.history fn) w = SMap.get 0 (if x.held then x.dev else x.cur) w := by
    unfold Visit.history
    dsimp only
    split
    · exact pushHist_get_ne _ _ (by omega) (by omega)
    · rw [SMap.get_put_ne _ _ _ _ _ _ (by omega)]
      exact pushHist_get_ne _ _ (by omega) (by omega)
  rw [Visit.final, Visit.finish_eq, Visit.stamped, SMap.get_put_ne _ _ _ _ _ _ (by omega),
    SMap.get_put_ne _ _ _ _ _ _ (by omega), SMap.get_put_ne _ _ _ _ _ _ (by omega), hhist]

/-- R63: one released event in the history. -/
theorem Visit.final_event (ev : Ev) (hheld : x.held = false) (hev : x.evs = [ev]) :
    SMap.get 0 (x.final fn) 4 = ev.val ∧ SMap.get 0 (x.final fn) 5 = SMap.get 0 x.cur 4 ∧
    SMap.get 0 (x.final fn) 6 = BitVec.ofNat 10 fn := by
  have hhist : x.history fn = SMap.put 0 (pushHist x.cur ev.val) 6 (BitVec.ofNat 10 fn) := by
    rw [Visit.history, Visit.released, hheld, hev]
    rfl
  rw [x.final_history fn (by decide), x.final_history fn (by decide), x.final_history fn (by decide), hhist, pushHist]
  refine ⟨?_, ?_, SMap.get_put_same _ _ _ _⟩
  · rw [SMap.get_put_ne _ _ _ _ _ _ (by decide), SMap.get_put_same]
  · rw [SMap.get_put_ne _ _ _ _ _ _ (by decide), SMap.get_put_ne _ _ _ _ _ _ (by decide), SMap.get_put_same]

end

/-! ## END (R94, R133, R134) -/

section
variable (s : State) (e : Nat) (x : Visit)

/-- R133, R134: released events join the queue of their link. -/
def State.queueEvents (s : State) (l : Nat) (evs : List Ev) : State :=
  if evs.isEmpty then s else s.updLink l fun p => { p with queue := p.queue ++ evs }

theorem State.queueEvents_changes (l : Nat) (evs : List Ev) : Changes s (s.queueEvents l evs) [.lnk] noField :=
  Changes.ite (fun _ => Changes.refl _ _ _) fun _ => (Changes.refl _ _ _).updLink (by decide)

/-- R94, R133: END up to the account of the visit: the record, and the events. -/
def State.recordEnded (s : State) (x : Visit) : State :=
  (s.wroteBack x.phys x.fetched (x.final s.fn)).queueEvents (bitsN (SMap.get 0 x.fetched 1).toNat 0 7) x.released

/-- END after the record: the account of the visit, and the engine. -/
def State.visitClosed (s : State) (e : Nat) (x : Visit) (r : SMap Word) : State :=
  (((s.measure (w0Class (SMap.get 0 x.fetched 0)) (5 + x.cyc)).leaveVisit e (5 + x.cyc) true).updEng e
    fun g => { g with wbs := g.wbs ++ [⟨x.handle, changedGroups x.fetched r⟩] }).addWrap (pJE e) JE_VISITS_COUNT 1

theorem State.visitClosed_ctx (r : SMap Word) : (s.visitClosed e x r).ctx = s.ctx := rfl

theorem State.visitClosed_lnk (r : SMap Word) : (s.visitClosed e x r).lnk = s.lnk := rfl

theorem State.visitClosed_engine (r : SMap Word) : (s.visitClosed e x r).engine e =
    { s.engine e with
      visit := none
      cyc := (s.engine e).cyc + (5 + x.cyc)
      lastEnd := (s.engine e).cyc + (5 + x.cyc)
      wbs := (s.engine e).wbs ++ [⟨x.handle, changedGroups x.fetched r⟩] } := by
  have hleft := (s.measure (w0Class (SMap.get 0 x.fetched 0)) (5 + x.cyc)).engine_leaveVisit e (5 + x.cyc) true
  have hclosed := ((s.measure (w0Class (SMap.get 0 x.fetched 0)) (5 + x.cyc)).leaveVisit e (5 + x.cyc) true).engine_updEng_same
    e fun g => { g with wbs := g.wbs ++ [⟨x.handle, changedGroups x.fetched r⟩] }
  rw [hleft] at hclosed
  exact hclosed

theorem State.visitClosed_changes (r : SMap Word) :
    Changes s (s.visitClosed e x r) [.ctx, .jer, .plc, .lnk] (fields [(pJE e, JE_VISITS_COUNT)]) :=
  ((((Changes.refl _ _ _).updPlc (by decide)).updEng (by decide)).updEng (by decide)).addWrap
    (fields_mem (List.mem_singleton_self _))

theorem State.endVisit_eq : s.endVisit e x = (s.recordEnded x).visitClosed e x (x.final s.fn) := rfl

theorem State.queueEvents_ctx (l : Nat) (evs : List Ev) : (s.queueEvents l evs).ctx = s.ctx := by
  show ((s.queueEvents l evs).blank [.lnk]).ctx = (s.blank [.lnk]).ctx
  rw [(s.queueEvents_changes l evs).1]

theorem State.endVisit_ctx : (s.endVisit e x).ctx = (s.wroteBack x.phys x.fetched (x.final s.fn)).ctx := by
  rw [State.endVisit_eq, State.visitClosed_ctx, State.recordEnded, State.queueEvents_ctx]

theorem State.endVisit_word (q w : Nat) :
    (s.endVisit e x).slotWord q w = (s.wroteBack x.phys x.fetched (x.final s.fn)).slotWord q w := by
  rw [State.slotWord, State.slotWord, State.endVisit_ctx]

theorem State.recordEnded_jer : (s.recordEnded x).jer = s.jer := by
  have hwrote : (s.wroteBack x.phys x.fetched (x.final s.fn)).jer = s.jer := by
    show ((s.wroteBack x.phys x.fetched (x.final s.fn)).blank [.ctx]).jer = (s.blank [.ctx]).jer
    rw [(s.wroteBack_changes x.phys x.fetched (x.final s.fn)).1]
  rw [← hwrote]
  show (((s.wroteBack x.phys x.fetched (x.final s.fn)).queueEvents _ _).blank [.lnk]).jer = (State.blank _ [.lnk]).jer
  rw [(State.queueEvents_changes _ _ _).1]

theorem State.endVisit_engine : (s.endVisit e x).engine e =
    { s.engine e with
      visit := none
      cyc := (s.engine e).cyc + (5 + x.cyc)
      lastEnd := (s.engine e).cyc + (5 + x.cyc)
      wbs := (s.engine e).wbs ++ [⟨x.handle, changedGroups x.fetched (x.final s.fn)⟩] } := by
  rw [State.endVisit_eq, State.visitClosed_engine, State.engine_congr (s.recordEnded_jer x)]

theorem State.wroteBack_lnk (p : Nat) (a b : SMap Word) : (s.wroteBack p a b).lnk = s.lnk := by
  show ((s.wroteBack p a b).blank [.ctx]).lnk = (s.blank [.ctx]).lnk
  rw [(s.wroteBack_changes p a b).1]

/-- R133: a held visit releases no event. -/
theorem State.endVisit_lnk_held (hheld : x.held = true) : (s.endVisit e x).lnk = s.lnk := by
  have hreleased : x.released = [] := if_pos hheld
  rw [State.endVisit_eq, State.visitClosed_lnk, State.recordEnded, hreleased]
  exact s.wroteBack_lnk _ _ _

/-- R133: the events of a visit join the queue of its link, in their order. -/
theorem State.endVisit_queue (hheld : x.held = false) (hevs : x.evs ≠ []) :
    ((s.endVisit e x).link (bitsN (SMap.get 0 x.fetched 1).toNat 0 7)).queue =
      (s.link (bitsN (SMap.get 0 x.fetched 1).toNat 0 7)).queue ++ x.evs := by
  have hreleased : x.released = x.evs := if_neg (by rw [hheld]; decide)
  have hlink : (s.wroteBack x.phys x.fetched (x.final s.fn)).link = s.link := by
    funext l
    rw [State.link, State.link, s.wroteBack_lnk]
  rw [State.endVisit_eq, State.link, State.visitClosed_lnk, ← State.link, State.recordEnded, hreleased, State.queueEvents,
    if_neg (by simpa using hevs), State.link_updLink_same, hlink]

theorem State.endVisit_changes :
    Changes s (s.endVisit e x) [.ctx, .jer, .plc, .lnk] (fields [(pJE e, JE_VISITS_COUNT)]) := by
  have hwrote := (s.wroteBack_changes x.phys x.fetched (x.final s.fn)).mono (qs := [.ctx, .jer, .plc, .lnk])
    (L := fields [(pJE e, JE_VISITS_COUNT)]) (by decide) fun _ _ => rfl
  have hqueued := ((s.wroteBack x.phys x.fetched (x.final s.fn)).queueEvents_changes
    (bitsN (SMap.get 0 x.fetched 1).toNat 0 7) x.released).mono (qs := [.ctx, .jer, .plc, .lnk])
    (L := fields [(pJE e, JE_VISITS_COUNT)]) (by decide) fun _ _ => rfl
  exact (hwrote.trans hqueued).trans ((s.recordEnded x).visitClosed_changes e x (x.final s.fn))

end

/-- R63, R94, R133, R134: END of a visit whose record still stands in its slot as it was fetched. -/
theorem endv_ends (s : State) (e : Engine) (x : Visit) (hfetch : s.fetch e.val = some (x, .endv))
    (hslot : ∀ w < 64, s.slotWord x.phys w = SMap.get 0 x.fetched w) :
    Completes (.endv e) s fun u =>
      (u.engine e.val).visit = none ∧ (u.engine e.val).cyc = (s.engine e.val).cyc + 5 + x.cyc ∧
      (u.engine e.val).lastEnd = (u.engine e.val).cyc ∧ (u.engine e.val).due = (s.engine e.val).due ∧
      u.slotWord x.phys 11 = BitVec.ofNat 10 s.fn ∧ u.slotWord x.phys 12 = BitVec.ofNat 10 (s.fn / 1024) ∧
      (∀ w, 16 ≤ w → w < 64 → u.slotWord x.phys w = SMap.get 0 (if x.held then x.dev else x.cur) w) ∧
      (∀ ev, x.held = false → x.evs = [ev] → u.slotWord x.phys 4 = ev.val ∧
        u.slotWord x.phys 5 = SMap.get 0 x.cur 4 ∧ u.slotWord x.phys 6 = BitVec.ofNat 10 s.fn) ∧
      (x.held = true → u.lnk = s.lnk) ∧
      (x.held = false → x.evs ≠ [] → (u.link (bitsN (SMap.get 0 x.fetched 1).toNat 0 7)).queue =
        (s.link (bitsN (SMap.get 0 x.fetched 1).toNat 0 7)).queue ++ x.evs) ∧
      (∀ p w, p ≠ x.phys → w < 64 → u.slotWord p w = s.slotWord p w) ∧
      (∀ w < 64, u.slotWord x.phys w ≠ s.slotWord x.phys w → u.eccAt x.phys (w / 4) = 0) ∧
      Changes s u [.ctx, .jer, .plc, .lnk] (fields [(pJE e.val, JE_VISITS_COUNT)]) := by
  have hexec : exec (.endv e) s = .next (s.endVisit e.val x) := by
    show execEndv e s = _
    simp only [execEndv, hfetch]
  have hword (w : Nat) (hw : w < 64) : (s.endVisit e.val x).slotWord x.phys w = SMap.get 0 (x.final s.fn) w :=
    (s.endVisit_word e.val x x.phys w).trans (s.wroteBack_slot _ _ _ hslot w hw)
  have hengine := s.endVisit_engine e.val x
  obtain ⟨hlo, hhi⟩ := x.final_frame s.fn
  refine ⟨_, hexec, congrArg Eng.visit hengine, (congrArg Eng.cyc hengine).trans (Nat.add_assoc _ _ _).symm,
    (congrArg Eng.lastEnd hengine).trans (congrArg Eng.cyc hengine).symm, (congrArg Eng.due hengine :),
    (hword 11 (by decide)).trans hlo, (hword 12 (by decide)).trans hhi,
    fun w h16 hw => (hword w hw).trans (x.final_program s.fn h16), fun ev hheld hev => ?_,
    s.endVisit_lnk_held e.val x, s.endVisit_queue e.val x, fun q w hq hw => ?_, fun w hw hne => ?_,
    s.endVisit_changes e.val x⟩
  · rw [hword 4 (by decide), hword 5 (by decide), hword 6 (by decide)]
    exact x.final_event s.fn ev hheld hev
  · rw [State.endVisit_word, State.wroteBack_word _ _ _ _ _ _ hw, if_neg fun h => hq h.1]
  · rw [hword w hw, hslot w hw] at hne
    rw [State.eccAt, State.endVisit_ctx]
    exact s.wroteBack_sound _ _ _ w hw hne.symm

/-- Settles O15: `startVisit` by the record of the slot, and END by what it writes back and releases. -/
theorem visits : Obligations.Visits := by
  unfold Obligations.Visits
  refine ⟨fun s e p h due hcomp hidle hdue howner hin => ⟨fun hecc => ⟨?_, ?_⟩, ?_⟩, endv_ends⟩
  · exact visit_starts s e p h due hcomp hidle hdue howner hin hecc
  · exact visit_spent s e p h due hcomp hidle hdue howner hin hecc
  · exact visit_quarantined s e p h due hcomp hidle hdue howner hin

end Sys2Proof.Machine

/-! # The upstream frame (R65, R161 to R163, R174 to R176) -/

namespace Sys2Proof.Machine

/-! ## What a port hears (R161, R187) -/

section
variable (s : State) (l : Nat) (xs : List RxSym)

/-- The register fields of its own page that a port changes as it takes symbols. -/
def portFields : List Fld :=
  [UL_ERRCNT3_ALIGNERR, UL_STAT_RXALIGN, UL_STAT_STATE, UL_TRNCNT_DOWNCNT, HDR_PG_ERR_ERR, HDR_PG_IRQST_ST]

/-- The register fields of other pages that a loss of alignment changes. -/
def lossFields : List (Nat × Fld) :=
  [(pERR, ERR_CLASSCNT_CONTAINED), (pLOG, LOG_STAT_WRPTR), (pLOG, LOG_TOTAL_COUNT), (pLOG, LOG_DROPPED_COUNT),
    (pLOG, HDR_PG_ERR_ERR), (pLOG, HDR_PG_IRQST_ST)]

/-- The register fields that a port changes as it takes symbols. -/
def hearFields (l : Nat) : List (Nat × Fld) := portFields.map (fun f => (pUL l, f)) ++ lossFields

theorem portField_mem {f : Fld} (h : f ∈ portFields) : fields (hearFields l) (fldKey (pUL l) f) = true :=
  fields_mem (List.mem_append_left _ (List.mem_map_of_mem h))

theorem lossField_mem {p : Nat} {f : Fld} (h : (p, f) ∈ lossFields) : fields (hearFields l) (fldKey p f) = true :=
  fields_mem (List.mem_append_right _ h)

theorem hearFields_logOpen : logOpen (fields (hearFields l)) = true := by
  simp only [logOpen, Bool.and_eq_true]
  exact ⟨⟨⟨⟨lossField_mem l (by decide), lossField_mem l (by decide)⟩, lossField_mem l (by decide)⟩,
    lossField_mem l (by decide)⟩, lossField_mem l (by decide)⟩

/-- Another field of the port's page. -/
theorem hearFields_other {f : Fld} (hport : ∀ g ∈ portFields, f.off * 32 + f.lo ≠ g.off * 32 + g.lo)
    (hpage : f.off * 32 + f.lo < 131072) : fields (hearFields l) (fldKey (pUL l) f) = false := by
  have hloss : ∀ x ∈ lossFields, x.1 < 16 ∧ x.2.off * 32 + x.2.lo < 131072 := by decide
  refine List.any_eq_false.mpr fun x hx h => ?_
  have hkey := of_decide_eq_true h
  obtain hx | hx := List.mem_append.mp hx
  · obtain ⟨g, hg, rfl⟩ := List.mem_map.mp hx
    exact fldKey_field_ne _ _ _ (hport g hg) hkey.symm
  · obtain ⟨hlow, hplace⟩ := hloss x hx
    exact fldKey_page_ne _ _ _ _ hplace hpage (by unfold pUL; omega) hkey.symm

theorem State.portDown_changes {K : Nat → Bool} (hdown : K (fldKey (pUL l) UL_TRNCNT_DOWNCNT) = true)
    (hstate : K (fldKey (pUL l) UL_STAT_STATE) = true) (herr : K (fldKey (pUL l) HDR_PG_ERR_ERR) = true)
    (hirq : K (fldKey (pUL l) HDR_PG_IRQST_ST) = true) : Changes s (s.portDown l) [.lnk, .msi] K := by
  have hcount := (Changes.refl s [.lnk, .msi] K).addSat (v := 1) hdown
  refine Changes.ite (fun _ => Changes.refl _ _ _) fun _ => Changes.updLink (by decide) (Changes.setFld hstate ?_)
  exact Changes.ite (fun _ => hcount.err (by decide) herr hirq) fun _ => hcount

theorem State.linkLost_changes (align : Bool) :
    Changes s (s.linkLost l align) [.lnk, .msi, .ring] (fields (hearFields l)) := by
  have hdown := (s.portDown_changes l (portField_mem l (by decide)) (portField_mem l (by decide))
    (portField_mem l (by decide)) (portField_mem l (by decide))).mono (qs := [.lnk, .msi, .ring])
    (L := fields (hearFields l)) (by decide) fun _ hk => hk
  exact (hdown.contained (lossField_mem l (by decide))).log (by decide) (by decide) (hearFields_logOpen l)

/-- The symbols counted, and noted at the link. -/
def State.counted (s : State) (l : Nat) (xs : List RxSym) : State :=
  (s.addSat (pUL l) UL_ERRCNT3_ALIGNERR
    ((rxScan (s.link l).rxErrs xs).1.countP fun x => decide (symErr x ≠ 0))).updLink l fun p => p.hear s.time xs

theorem State.counted_changes : Changes s (s.counted l xs) [.lnk] (fields [(pUL l, UL_ERRCNT3_ALIGNERR)]) :=
  ((Changes.refl _ _ _).addSat (fields_mem (List.mem_singleton_self _))).updLink (by decide)

theorem State.hear_eq : s.hear l xs =
    if (rxScan (s.link l).rxErrs xs).2.2 then
      let v := ((s.counted l xs).setFld (pUL l) UL_STAT_RXALIGN 0).updLink l fun p => { p with rx := Rx.none }
      if 2 ≤ v.fld (pUL l) UL_STAT_STATE then v.linkLost l true else v
    else s.counted l xs := rfl

/-- R161: a port that keeps its alignment. -/
theorem State.hear_aligned (h : (rxScan (s.link l).rxErrs xs).2.2 = false) : s.hear l xs = s.counted l xs := by
  rw [State.hear_eq, h]
  rfl

theorem State.hear_changes : Changes s (s.hear l xs) [.lnk, .msi, .ring] (fields (hearFields l)) := by
  have hcounted := (s.counted_changes l xs).mono (qs := [.lnk, .msi, .ring]) (L := fields (hearFields l)) (by decide)
    fun k hk => List.any_eq_false.mpr fun x hx => List.any_eq_false.mp hk x (by
      rw [List.mem_singleton.mp hx]
      exact List.mem_append_left _ (List.mem_map_of_mem (by decide)))
  have hlost := (hcounted.setFld (v := 0) (portField_mem l (f := UL_STAT_RXALIGN) (by decide))).updLink (l := l)
    (g := fun p => { p with rx := Rx.none }) (by decide)
  rw [State.hear_eq]
  exact Changes.ite (fun _ => Changes.ite (fun _ => hlost.trans (State.linkLost_changes _ _ _)) fun _ => hlost)
    fun _ => hcounted

theorem State.hear_ctx : (s.hear l xs).ctx = s.ctx := by
  show ((s.hear l xs).blank [.lnk, .msi, .ring]).ctx = (s.blank [.lnk, .msi, .ring]).ctx
  rw [(s.hear_changes l xs).1]

/-- The port's other fields stand as they are. -/
theorem State.hear_fld {f : Fld} (hport : ∀ g ∈ portFields, f.off * 32 + f.lo ≠ g.off * 32 + g.lo)
    (hpage : f.off * 32 + f.lo < 131072) : (s.hear l xs).fld (pUL l) f = s.fld (pUL l) f :=
  (s.hear_changes l xs).fld_eq (hearFields_other l hport hpage)

end

/-! ## The modules of a port -/

section
variable (s : State) (l : Nat)

theorem State.link_of_blank {s u : State} {K : Nat → Bool} (h : Changes s u [.msi, .ring] K) : u.link = s.link := by
  have hlnk : u.lnk = s.lnk := show (u.blank [.msi, .ring]).lnk = (s.blank [.msi, .ring]).lnk by rw [h.1]
  funext l
  rw [State.link, State.link, hlnk]

/-- R185: a port that goes down keeps its modules. -/
theorem State.portDown_mods : ((s.portDown l).link l).mods = (s.link l).mods := by
  have hcount := (Changes.refl s [.msi, .ring] fun _ => true).addSat (p := pUL l) (f := UL_TRNCNT_DOWNCNT) (v := 1) rfl
  unfold State.portDown
  dsimp only
  split
  · rfl
  · rw [State.link_updLink_same]
    refine congrArg (fun k => (k l).mods) (State.link_of_blank (K := fun _ => true) (Changes.setFld rfl ?_))
    exact Changes.ite (fun _ => hcount.err (by decide) rfl rfl) fun _ => hcount

theorem State.linkLost_mods (align : Bool) : ((s.linkLost l align).link l).mods = (s.link l).mods := by
  rw [← s.portDown_mods l]
  exact congrArg (fun k => (k l).mods) (State.link_of_blank (K := fun _ => true)
    (((Changes.refl _ _ _).contained rfl).log (by decide) (by decide) rfl))

theorem State.hear_mods (xs : List RxSym) : ((s.hear l xs).link l).mods = (s.link l).mods := by
  have hcounted : ((s.counted l xs).link l).mods = (s.link l).mods := by
    rw [State.counted, State.link_updLink_same]
    rfl
  rw [State.hear_eq]
  split
  · have hlost : ((((s.counted l xs).setFld (pUL l) UL_STAT_RXALIGN 0).updLink l fun p => { p with rx := Rx.none }).link
        l).mods = (s.link l).mods := by
      rw [State.link_updLink_same]
      exact hcounted
    dsimp only
    split
    · rw [State.linkLost_mods, hlost]
    · exact hlost
  · exact hcounted

end

/-! ## The samples of a section (R65, R176) -/

/-- The filling half with the samples of a section, from slot key `k` on. -/
def filled (m : SMap (Option Word)) (k : Nat) : List (Option Word) → SMap (Option Word)
  | [] => m
  | x :: xs => filled (if x.isSome then SMap.put none m k x else m) (k + 1) xs

/-- A sample key outside the section. -/
theorem filled_outside (m : SMap (Option Word)) (k : Nat) (xs : List (Option Word)) {j : Nat}
    (h : j < k ∨ k + xs.length ≤ j) : SMap.get none (filled m k xs) j = SMap.get none m j := by
  induction xs generalizing m k with
  | nil => rfl
  | cons x xs ih =>
    rw [List.length_cons] at h
    rw [filled, ih _ _ (by omega)]
    split
    · exact SMap.get_put_ne _ _ _ _ _ _ (by omega)
    · rfl

/-- A sample of the section: the value, where there is one. -/
theorem filled_inside (m : SMap (Option Word)) (k : Nat) (xs : List (Option Word)) {i : Nat} {v : Option Word}
    (h : xs[i]? = some v) : SMap.get none (filled m k xs) (k + i) = if v.isSome then v else SMap.get none m (k + i) := by
  induction xs generalizing m k i with
  | nil => simp at h
  | cons x xs ih =>
    rw [filled]
    cases i with
    | zero =>
      obtain rfl : x = v := by simpa using h
      rw [filled_outside _ _ _ (by omega), Nat.add_zero]
      split
      · exact SMap.get_put_same _ _ _ _
      · rfl
    | succ i =>
      rw [List.getElem?_cons_succ] at h
      have hkey : k + (i + 1) = k + 1 + i := by omega
      rw [hkey, ih _ _ h]
      split
      · rfl
      · split
        · exact SMap.get_put_ne _ _ _ _ _ _ (by omega)
        · rfl

/-- R65: at a unit that is no standby the samples enter the filling half. -/
theorem State.putSamples_eq (s : State) (k : Nat) (xs : List (Option Word)) (hrole : s.role = 0) :
    s.putSamples k xs = s.updCtx fun c => { c with fill := filled c.fill k xs } := by
  induction xs generalizing s k with
  | nil => rfl
  | cons x xs ih =>
    cases x with
    | none => exact ih s (k + 1) hrole
    | some v =>
      have hput : s.putSample k v = s.updCtx fun c => { c with fill := SMap.put none c.fill k (some v) } :=
        if_neg (by rw [hrole]; decide)
      exact (congrArg (fun u => State.putSamples u (k + 1) xs) hput).trans (ih _ (k + 1) (by exact hrole))

/-! ## Sections and frames (R162, R163, R174 to R176) -/

section
variable (s : State) (l : Nat) (x : Section) (m : Module)

/-- R175: STAT0 without an error. -/
theorem State.takeStat0_clear (w : Word) (h : w &&& 0x1FF = 0) : s.takeStat0 l w = s := if_pos h

/-- R65, R176: a good section entered: STAT0 and STAT1 at the module, the samples in the filling half. -/
def State.sectionEntered (s : State) (l : Nat) (x : Section) (m : Module) : State :=
  (s.updLink l fun p => { p with mods := p.mods.set x.pos.val { m with stat0 := x.stat0, stat1 := x.stat1 } }).updCtx
    fun c => { c with fill := filled c.fill (l * 384 + m.first) x.samples }

theorem State.sectionEntered_link : (s.sectionEntered l x m).link l =
    { s.link l with mods := (s.link l).mods.set x.pos.val { m with stat0 := x.stat0, stat1 := x.stat1 } } :=
  State.link_updLink_same s l fun p =>
    { p with mods := p.mods.set x.pos.val { m with stat0 := x.stat0, stat1 := x.stat1 } }

/-- R176: a good section of a solo unit. -/
theorem State.takeSection_good (hrole : s.role = 0) (hm : (s.link l).mods[x.pos.val]? = some m) (hgood : x.good = true)
    (hlen : x.samples.length = m.count) (hstat : x.stat0 &&& 0x1FF = 0) :
    State.takeSection l true s x = s.sectionEntered l x m := by
  simp only [State.takeSection, hm, hgood, hlen, decide_true, Bool.and_self, if_true, State.takeStat0_clear _ _ _ hstat]
  rw [if_neg (by rw [show (State.updLink _ _ _).role = s.role from rfl, hrole]; decide)]
  exact State.putSamples_eq _ _ _ hrole

/-- R161: a port that keeps its alignment changes its count of symbols only. -/
theorem State.hear_entered (xs : List RxSym) (h : (rxScan (s.link l).rxErrs xs).2.2 = false) :
    Changes s ((s.sectionEntered l x m).hear l xs) [.ctx, .lnk] (fields [(pUL l, UL_ERRCNT3_ALIGNERR)]) := by
  have herrs : ((s.sectionEntered l x m).link l).rxErrs = (s.link l).rxErrs := by
    rw [State.sectionEntered_link]
  rw [State.hear_aligned _ _ _ (by rw [herrs, h])]
  exact (((Changes.refl _ _ _).updLink (by decide)).updCtx (by decide)).trans
    (((s.sectionEntered l x m).counted_changes l xs).mono (by decide) fun _ hk => hk)

/-- R176: a section that fails counts. -/
def State.sectionFailed (s : State) (l : Nat) : State :=
  ((s.addSat (pUL l) UL_ERRCNT2_USCRC 1).err (pUL l) UL_E_USCRC).contained

theorem State.takeSection_bad (valid : Bool) (hm : (s.link l).mods[x.pos.val]? = some m)
    (hbad : x.good = false ∨ x.samples.length ≠ m.count) : State.takeSection l valid s x = s.sectionFailed l := by
  have hcond : ¬ ((x.good && decide (x.samples.length = m.count)) = true) := by
    rw [Bool.and_eq_true, decide_eq_true_eq]
    rintro ⟨hgood, hlen⟩
    exact hbad.elim (fun h => Bool.noConfusion (h.symm.trans hgood)) fun h => h hlen
  simp only [State.takeSection, hm]
  exact if_neg hcond

/-- R176: a frame that fails counts. -/
def State.tagFailed (s : State) (l : Nat) : State :=
  ((s.addSat (pUL l) UL_ERRCNT3_TAGERR 1).err (pUL l) UL_E_TAGERR).contained

/-- A failure counted with an error of the port's page, before the port hears the end of the symbols. -/
theorem State.hear_countedErr (xs : List RxSym) {f : Fld} (b : Nat)
    (hport : ∀ g ∈ portFields, f.off * 32 + f.lo ≠ g.off * 32 + g.lo) (hpage : f.off * 32 + f.lo < 131072) :
    let u := (((s.addSat (pUL l) f 1).err (pUL l) b).contained).hear l xs
    u.ctx = s.ctx ∧ (u.link l).mods = (s.link l).mods ∧
      u.fld (pUL l) f = Nat.min (s.fld (pUL l) f + 1) (2 ^ f.wid - 1) := by
  have hchanges : Changes s (((s.addSat (pUL l) f 1).err (pUL l) b).contained) [.msi, .ring] fun _ => true :=
    (((Changes.refl _ _ _).addSat rfl).err (by decide) rfl rfl).contained rfl
  refine ⟨?_, ?_, ?_⟩
  · rw [State.hear_ctx]
    show ((((s.addSat (pUL l) f 1).err (pUL l) b).contained).blank [.msi, .ring]).ctx = (s.blank [.msi, .ring]).ctx
    rw [hchanges.1]
  · rw [State.hear_mods, State.link_of_blank hchanges]
  · rw [State.hear_fld _ _ _ hport hpage, State.contained, State.fld_addSat_ne _ _ _ _ _ _ (fldKey_page_ne _ _ _ _
      (by decide) hpage (by unfold pUL pERR; omega)), State.fld_err_ne _ _ _ _ _ (fldKey_field_ne _ _ _ (hport _ (by decide)))
      (fldKey_field_ne _ _ _ (hport _ (by decide))), State.fld_addSat_same]

/-- R176: the tag of a frame at a unit that is no standby. -/
theorem State.wantTag_solo (hrole : s.role = 0) : s.wantTag l = (s.link l).tag := if_neg (by rw [hrole]; decide)

/-- R176: a frame with one section and the tag that it must carry, in RUN. -/
theorem State.takeUpFrame_tagged {f : UpFrame} {g : Nat} (hrole : s.role = 0) (hsections : f.sections = [x])
    (hstate : s.fld (pUL l) UL_STAT_STATE = 3) (hhold : f.hold = false) (htag : (s.link l).tag = some g)
    (hutag : f.utag.map BitVec.toNat = some g) : State.takeUpFrame l s f = State.takeSection l true s x := by
  have hok : s.tagOk l f = true := by
    simp only [State.tagOk, s.wantTag_solo l hrole, htag]
    exact decide_eq_true hutag
  rw [State.takeUpFrame, if_pos hok, hsections, hstate, hhold]
  rfl

/-- R176: a RUN frame with a wrong tag, or where none was sent. -/
theorem State.takeUpFrame_wrong {f : UpFrame} (hrole : s.role = 0) (hhold : f.hold = false)
    (htag : ∀ g, (s.link l).tag = some g → f.utag.map BitVec.toNat ≠ some g) :
    State.takeUpFrame l s f = s.tagFailed l := by
  have hno : ¬ (s.tagOk l f = true) := by
    simp only [State.tagOk, s.wantTag_solo l hrole]
    cases hsent : (s.link l).tag with
    | none => simp [hhold]
    | some g => simpa using htag g hsent
  exact if_neg hno

end

section
variable (s : State) (t : Time) (l : Link) (xs : List RxSym) (f : UpFrame)

theorem State.atTime_receives : (s.at_ t).receives l.val = s.receives l.val := by
  have hclass : pgClass (pUL l.val) ≠ .pci := (by decide : ∀ n : Link, pgClass (pUL n.val) ≠ .pci) l
  rw [State.receives, State.receives, s.atTime_clkOn t _ hclass]
  rfl

theorem exec_upstreamFrame (hrec : s.receives l.val = true) (hframes : upFrames (s.heard l.val xs) = [f])
    (hstate : s.fld (pUL l.val) UL_STAT_STATE = 3) :
    exec (.upstreamFrame t l xs) s = .next ((State.takeUpFrame l.val (s.at_ t) f).hear l.val xs) := by
  show execUpstreamFrame t l xs s = _
  have hrec' : (s.at_ t).receives l.val = true := (s.atTime_receives t l).trans hrec
  have hframes' : upFrames ((s.at_ t).heard l.val xs) = [f] := hframes
  simp only [execUpstreamFrame, hrec', State.atTime_fld, hstate, hframes']
  rfl

end

/-- Settles O26: the frame is taken at the port's state, and its section by the tag and by its check. -/
theorem upstreamSamples : Obligations.UpstreamSamples := by
  unfold Obligations.UpstreamSamples
  intro s t l xs f x m hrole hrec hframes hsections hm hstate hhold
  have hexec := exec_upstreamFrame s t l xs f hrec hframes hstate
  refine ⟨fun g htag hutag => ?_, fun htag => ?_⟩
  · rw [(s.at_ t).takeUpFrame_tagged l.val x hrole hsections hstate hhold htag hutag] at hexec
    refine ⟨fun hgood hlen hstat => ?_, fun hbad => ?_⟩
    · rw [(s.at_ t).takeSection_good l.val x m hrole hm hgood hlen hstat] at hexec
      have hctx := State.hear_ctx ((s.at_ t).sectionEntered l.val x m) l.val xs
      have hinside {i : Nat} {v : Option Word} (h : x.samples[i]? = some v) :=
        filled_inside s.ctx.fill (l.val * 384 + m.first) x.samples h
      refine ⟨_, hexec, fun i v h => ?_, fun i h => ?_, fun k hk => ?_, ?_, ?_, fun haligned => ?_⟩
      · rw [hctx]
        exact hinside h
      · rw [hctx]
        exact hinside h
      · rw [hctx]
        exact filled_outside _ _ _ (by rwa [hlen])
      · rw [hctx]
        rfl
      · rw [State.hear_mods, State.sectionEntered_link]
        rfl
      · exact State.hear_entered _ _ _ _ _ haligned
    · rw [(s.at_ t).takeSection_bad l.val x m true hm hbad] at hexec
      exact ⟨_, hexec, (s.at_ t).hear_countedErr l.val xs UL_E_USCRC (by decide) (by decide)⟩
  · rw [(s.at_ t).takeUpFrame_wrong l.val hrole hhold htag] at hexec
    exact ⟨_, hexec, (s.at_ t).hear_countedErr l.val xs UL_E_TAGERR (by decide) (by decide)⟩

end Sys2Proof.Machine

/-! # Record-buffer access, LUT, ANG, NOP and branches (R94, R99, R119, R125 to R127, R129) -/

namespace Sys2Proof.Machine

/-! ## Execution of one instruction -/

section
variable {s : State} {e : Engine} {i : EInstr} {x : Visit}

/-- R117: an instruction that goes on to `z` before its cycles are counted, and whose cycles end before the W-th. -/
theorem State.run_go {f : Visit → Eff} {z : Visit} (h : s.atInstr e i x)
    (hf : f { x with pc := x.pc + 1, last := x.pc } = .go { z with cyc := x.cyc }) (hw : z.w = x.w)
    (hc : z.cyc = x.cyc + s.cost i) : s.run e.val i f = s.putVisit e.val z := by
  obtain ⟨hfetch, hlt⟩ := h
  have hpath : ¬ z.w ≤ x.cyc + s.cost i := by omega
  simp only [State.run, hfetch, if_true, hf, State.retire, if_neg hpath]
  rw [← hc]

end

/-! ## Operands -/

/-- R118: N of a word is its bit 9. -/
theorem flagsZN_eq (f : Flags) (r : Word) : flagsZN f r = ⟨decide (r = 0), r.getLsbD 9, f.c, f.v, f.sat⟩ := by
  rw [flagsZN, BitVec.msb_eq_getLsbD_last]

/-- R125: an address of the record buffer. -/
theorem Visit.addr_lt (x : Visit) (i : Idx) (base : Fin 64) : x.addr i base < 64 := by
  cases i with
  | v k => exact Nat.mod_lt _ (by decide)
  | zero => exact base.isLt

/-- R129: the time of the last division, scaled by a fraction of 1/1,024. -/
theorem scaledTime_le (hi lo f : Word) : (hi.toNat * 1024 + lo.toNat) * f.toNat / 1024 ≤ 1047551 := by
  have hhi := hi.isLt
  have hlo := lo.isLt
  have hf := f.isLt
  have hmul : (hi.toNat * 1024 + lo.toNat) * f.toNat ≤ 1048575 * 1023 := Nat.mul_le_mul (by omega) (by omega)
  omega

/-- R129: ANG, whose result never clamps. -/
theorem aluAng_eq {tpd : Nat} {fr : Word} {f : Flags} (h : tpd * fr.toNat / 1024 ≤ 1047551) :
    aluAng tpd fr f = (BitVec.ofNat 30 (tpd * fr.toNat / 1024),
      ⟨decide (tpd * fr.toNat / 1024 = 0), false, f.c, f.v, f.sat⟩) := by
  have hz : BitVec.ofNat 30 (tpd * fr.toNat / 1024) = 0 ↔ tpd * fr.toNat / 1024 = 0 := by
    rw [← BitVec.toNat_inj, BitVec.toNat_ofNat, Nat.mod_eq_of_lt (by omega)]
    rfl
  simp only [aluAng, hz]

/-! ## The instructions -/

section
variable {s : State} {e : Engine} {x : Visit}

theorem exec_nop (h : s.atInstr e .nop x) : exec (.nop e) s = .next (s.putVisit e.val (x.stepped 1)) :=
  congrArg Host.Outcome.next (State.run_go h rfl rfl rfl)

theorem exec_ldw {d : VReg} {i : Idx} {base : Fin 64} (h : s.atInstr e (.ldw d i base) x) :
    let r := SMap.get 0 x.cur (x.addr i base)
    exec (.ldw e d i base) s = .next (s.putVisit e.val { x.stepped 1 with
      v := SMap.put 0 x.v d.val r, fl := ⟨decide (r = 0), r.getLsbD 9, x.fl.c, x.fl.v, x.fl.sat⟩ }) := by
  refine congrArg Host.Outcome.next (State.run_go h ?_ rfl rfl)
  dsimp only
  rw [flagsZN_eq]
  rfl

theorem exec_stw {src : Src} {i : Idx} {base : Fin 64} (h : s.atInstr e (.stw src i base) x)
    (hn : x.addr i base = 3 ∨ 16 ≤ x.addr i base) :
    exec (.stw e src i base) s = .next (s.putVisit e.val { x.stepped 1 with
      cur := SMap.put 0 x.cur (x.addr i base) (x.src s.jer.snap src) }) := by
  have hlt := x.addr_lt i base
  have hstore : storable (x.addr i base) = true := by simp only [storable, decide_eq_true_eq]; omega
  exact congrArg Host.Outcome.next (State.run_go h (if_pos hstore) rfl rfl)

theorem exec_lut {o : Alu} (h : s.atInstr e (.lut o) x) :
    let r := SMap.get 0 s.jer.pat ((x.src s.jer.snap o.a).toNat * 1024 + (x.srcI s.jer.snap o.b).toNat)
    exec (.lut e o) s = .next (s.putVisit e.val { x.stepped 4 with
      v := SMap.put 0 x.v o.d.val r, fl := ⟨decide (r = 0), r.getLsbD 9, x.fl.c, x.fl.v, x.fl.sat⟩ }) := by
  refine congrArg Host.Outcome.next (State.run_go h ?_ rfl rfl)
  dsimp only
  rw [flagsZN_eq]
  rfl

theorem exec_ang {d : AReg} {unit : Unit8} {fr : SrcI} (h : s.atInstr e (.ang d unit fr) x) :
    let tpd := (SMap.get 0 s.jer.snap (unit.val * 8 + 4)).toNat * 1024 +
      (SMap.get 0 s.jer.snap (unit.val * 8 + 3)).toNat
    let r := tpd * (x.srcI s.jer.snap fr).toNat / 1024
    exec (.ang e d unit fr) s = .next (s.putVisit e.val { x.stepped 1 with
      a := SMap.put 0 x.a d.val (BitVec.ofNat 30 r), fl := ⟨decide (r = 0), false, x.fl.c, x.fl.v, x.fl.sat⟩ }) := by
  refine congrArg Host.Outcome.next (State.run_go h ?_ rfl rfl)
  dsimp only
  rw [aluAng_eq (scaledTime_le _ _ _)]
  rfl

end

/-! ## Branches (R119, R126) -/

section
variable {s : State} {e : Engine} {x : Visit}

theorem exec_br {c : Cond} {target : BitVec 12} (h : s.atInstr e (.br c target) x) :
    exec (.br e c target) s = .next (s.putVisit e.val { x.stepped 1 with
      pc := if condHolds c x.fl = true then target.toNat else x.pc + 1 }) := by
  refine congrArg Host.Outcome.next (State.run_go h ?_ rfl rfl)
  dsimp only
  split <;> rfl

theorem exec_skip {c : Cond} {count : Word} (h : s.atInstr e (.skip c count) x) :
    exec (.skip e c count) s = .next (s.putVisit e.val { x.stepped 1 with
      pc := if condHolds c x.fl = true then x.pc + 1 + count.toNat else x.pc + 1 }) := by
  refine congrArg Host.Outcome.next (State.run_go h ?_ rfl rfl)
  dsimp only
  split <;> rfl

end

/-- R119: each condition of the table, and its opposite. -/
theorem condHolds_table (f : Flags) :
    condHolds .al f = true ∧ condHolds .eq f = f.z ∧ condHolds .hs f = f.c ∧ condHolds .mi f = f.n ∧
    condHolds .vs f = f.v ∧ condHolds .hi f = (f.c && !f.z) ∧ condHolds .ge f = (f.n == f.v) ∧
    condHolds .gt f = (!f.z && f.n == f.v) ∧ condHolds .sat f = f.sat ∧
    (condHolds .ne f = !condHolds .eq f) ∧ (condHolds .lo f = !condHolds .hs f) ∧
    (condHolds .pl f = !condHolds .mi f) ∧ (condHolds .vc f = !condHolds .vs f) ∧
    (condHolds .ls f = !condHolds .hi f) ∧ (condHolds .lt f = !condHolds .ge f) ∧
    (condHolds .le f = !condHolds .gt f) := by
  refine ⟨rfl, rfl, rfl, rfl, rfl, rfl, rfl, rfl, rfl, rfl, rfl, rfl, rfl, ?_, rfl, ?_⟩
  · simp only [condHolds, Bool.not_and, Bool.not_not]
  · simp only [condHolds, Bool.not_and, Bool.not_not, bne]

/-- Settles O13: each instruction goes on with its result, and its cycles end before the W-th. -/
theorem loadsAndBranches : Obligations.LoadsAndBranches := by
  refine ⟨fun s e x => ⟨exec_nop, fun d i base h => ?_, fun src i base h => ?_, fun o h => exec_lut h,
    fun d unit fr h => ⟨scaledTime_le _ _ _, exec_ang h⟩⟩, fun s e x => ⟨fun c target h => exec_br h,
    fun c count h => exec_skip h, condHolds_table⟩⟩
  · cases i with
    | v k => exact exec_ldw h
    | zero => exact exec_ldw h
  · cases i with
    | v k => exact exec_stw h
    | zero => exact exec_stw h

end Sys2Proof.Machine

/-! # Microcode, the class table and the FCALL targets (R101 to R104, R332) -/

namespace Sys2Proof.Machine

/-! ## Tables rewritten entry by entry -/

section
variable {α : Type}

theorem SMap.get_absent (d : α) (m : SMap α) (k : Nat) (h : ∀ e ∈ m, e.1 ≠ k) : SMap.get d m k = d := by
  induction m with
  | nil => rfl
  | cons e t ih =>
    obtain ⟨he, ht⟩ := List.forall_mem_cons.mp h
    rw [SMap.get, if_neg he, ih ht]

theorem SMap.keys_nodup (m : SMap α) (h : SMap.risingFrom none m = true) : (m.map Prod.fst).Nodup := by
  induction m with
  | nil => exact List.nodup_nil
  | cons e t ih =>
    obtain ⟨hrest, habove⟩ := (SMap.rising_cons e.1 e.2 t).mp h
    refine List.nodup_cons.mpr ⟨fun hmem => ?_, ih hrest⟩
    obtain ⟨x, hx, hkey⟩ := List.mem_map.mp hmem
    exact absurd hkey (habove x hx).ne'

/-- A table filled from the entries of another, each value changed by `g`. -/
theorem SMap.get_fill_rising [DecidableEq α] (d : α) (g : α → α) (hd : g d = d) (m : SMap α)
    (h : SMap.risingFrom none m = true) (k : Nat) :
    SMap.get d (m.foldl (fun n e => SMap.put d n e.1 (g e.2)) []) k = g (SMap.get d m k) := by
  by_cases hk : ∃ e ∈ m, e.1 = k
  · obtain ⟨e, he, rfl⟩ := hk
    rw [SMap.get_fill_mem d Prod.fst (fun e => g e.2) m [] (SMap.keys_nodup m h) e he, SMap.get_of_mem d m e h he]
  · have habsent : ∀ e ∈ m, e.1 ≠ k := fun e he hek => hk ⟨e, he, hek⟩
    rw [SMap.get_fill_absent d Prod.fst (fun e => g e.2) m [] k habsent, SMap.get_absent d m k habsent, hd]
    rfl

end

/-- R104: every W of a table at 0. -/
theorem zeroW_get (t : SMap ClsEnt) (h : SMap.wf (fun _ => ClsEnt.none) t = true) (k : Nat) :
    SMap.get ClsEnt.none (zeroW t) k = { SMap.get ClsEnt.none t k with w := 0 } :=
  SMap.get_fill_rising ClsEnt.none (fun c => { c with w := 0 }) rfl t ((SMap.wf_iff _ _).mp h).1 k

/-! ## When a write of microcode is turned away (R103, R104, R332) -/

section
variable (s : State) (t : Time) (off v : Nat)

theorem State.arrive_mcForbidden : (s.arrive t off v).mcForbidden = s.mcForbidden := by
  rw [State.mcForbidden, State.arrive_pwr, State.mcForbidden]

theorem State.arrive_verifying : (s.arrive t off v).verifying = s.verifying := State.arrive_bit _ _ _ _ _ _

theorem State.arrive_mcWord (p a : Nat) : (s.arrive t off v).mcWord p a = s.mcWord p a := by
  rw [State.mcWord, State.arrive_jer, State.mcWord]

theorem State.arrive_planeLive (plane : Nat) : (s.arrive t off v).planeLive plane = s.planeLive plane := by
  rw [State.planeLive, State.arrive_jer, State.planeLive]

end

section
variable {s : State} (v : Nat)

theorem State.doMcdata0_holds (hf : s.mcForbidden = false) (hv : s.verifying = false) :
    s.doMcdata0 v = s.updJer fun j => { j with mcHold := v % 2 ^ 30 } := by
  rw [State.doMcdata0, if_neg (by rw [hf]; decide), if_neg (by rw [hv]; decide)]

theorem State.doMcdata1_forbidden (hf : s.mcForbidden = true) : s.doMcdata1 v = s.err pLCS LCS_E_LCSWR := if_pos hf

theorem State.doMcdata1_busy (hf : s.mcForbidden = false) (hv : s.verifying = true) :
    s.doMcdata1 v = s.err (pJE 0) JE_E_CTBUSY := by
  rw [State.doMcdata1, if_neg (by rw [hf]; decide), if_pos hv]

theorem State.doMcdata1_live (hf : s.mcForbidden = false) (hv : s.verifying = false)
    (hl : s.planeLive (s.fld (pJE 0) JE_MCADDR_PLANE) = true) : s.doMcdata1 v = s.err (pJE 0) JE_E_MCLIVE := by
  rw [State.doMcdata1, if_neg (by rw [hf]; decide), if_neg (by rw [hv]; decide)]
  exact if_pos hl

/-- R102: MCADDR once an instruction is stored. -/
def State.mcAdvance (s : State) : State :=
  if s.bit (pJE 0) JE_MCADDR_AUTOINC then s.setFld (pJE 0) JE_MCADDR_ADDR (s.fld (pJE 0) JE_MCADDR_ADDR + 1) else s

@[simp] theorem State.mcStore_fld (plane a : Nat) (c : Code) (p : Nat) (f : Fld) :
    (s.mcStore plane a c).fld p f = s.fld p f := rfl

@[simp] theorem State.mcStore_bit (plane a : Nat) (c : Code) (p : Nat) (f : Fld) :
    (s.mcStore plane a c).bit p f = s.bit p f := rfl

theorem State.doMcdata1_stores (hf : s.mcForbidden = false) (hv : s.verifying = false)
    (hl : s.planeLive (s.fld (pJE 0) JE_MCADDR_PLANE) = false) :
    s.doMcdata1 v = (s.mcStore (s.fld (pJE 0) JE_MCADDR_PLANE) (s.fld (pJE 0) JE_MCADDR_ADDR)
      (BitVec.ofNat 40 (s.jer.mcHold + v % 1024 * 2 ^ 30))).mcAdvance := by
  rw [State.doMcdata1, if_neg (by rw [hf]; decide), if_neg (by rw [hv]; decide)]
  dsimp only
  rw [if_neg (by rw [hl]; decide), State.mcAdvance, State.mcStore_fld]

end

/-! ## The instruction stored (R102) -/

section
variable (s : State)

theorem State.mcAdvance_jer : s.mcAdvance.jer = s.jer := by
  unfold State.mcAdvance
  split <;> rfl

theorem State.mcAdvance_word (p a : Nat) : s.mcAdvance.mcWord p a = s.mcWord p a := by
  rw [State.mcWord, State.mcAdvance_jer, State.mcWord]

theorem State.mcAdvance_badAt (g p a : Nat) : s.mcAdvance.mcBadAt g p a = s.mcBadAt g p a := by
  rw [State.mcBadAt, State.mcAdvance_jer, State.mcBadAt]

theorem State.mcAdvance_changes : Changes s s.mcAdvance [] (fields [(pJE 0, JE_MCADDR_ADDR)]) :=
  Changes.ite (fun _ => (Changes.refl s _ _).setFld (by decide)) fun _ => Changes.refl s _ _

/-- R102: AUTOINC moves the address on, within its 12 bits. -/
theorem State.mcAdvance_addr : s.mcAdvance.fld (pJE 0) JE_MCADDR_ADDR =
    if s.bit (pJE 0) JE_MCADDR_AUTOINC = true then (s.fld (pJE 0) JE_MCADDR_ADDR + 1) % 4096
    else s.fld (pJE 0) JE_MCADDR_ADDR := by
  unfold State.mcAdvance
  split
  · exact State.fld_setFld_same _ _ _ _
  · rfl

theorem State.mcStore_word (plane a : Nat) (c : Code) {p b : Nat} (ha : a < 4096) (hb : b < 4096) :
    (s.mcStore plane a c).mcWord p b = if p = plane ∧ b = a then c else s.mcWord p b := by
  show SMap.get 0 (SMap.put 0 s.jer.mc (plane * 4096 + a) c) (p * 4096 + b) = _
  split
  · next h =>
    obtain ⟨rfl, rfl⟩ := h
    exact SMap.get_put_same _ _ _ _
  · exact SMap.get_put_ne _ _ _ _ _ _ (by omega)

/-- R102: every copy has good parity at the instruction stored. -/
theorem State.mcStore_good (plane a : Nat) (c : Code) {g : Nat} (hg : g < 8) :
    (s.mcStore plane a c).mcBadAt g plane a = false := by
  have hmem : g ∈ List.range 8 := List.mem_range.mpr hg
  have hnodup : ((List.range 8).map fun g => g * 8192 + plane * 4096 + a).Nodup :=
    List.nodup_range.map fun _ _ h => by omega
  exact SMap.get_fill_mem false _ (fun _ => false) (List.range 8) s.jer.mcBad hnodup g hmem

end

section
variable {s : State} {t : Time} {v : Dword}

theorem mcdata0Write_holds (hopen : (s.at_ t).writeOpen 0x20084 = true) (hf : s.mcForbidden = false)
    (hv : s.verifying = false) : Completes (.mcdata0Write t v) s fun u =>
      u.jer = { s.jer with mcHold := v.toNat % 2 ^ 30 } ∧ Changes (s.arrive t 0x20084 v.toNat) u [.jer] noField := by
  refine Completes.write hopen rfl ?_
  rw [State.doMcdata0_holds _ (by rwa [State.arrive_mcForbidden]) (by rwa [State.arrive_verifying])]
  refine ⟨?_, (Changes.refl _ _ _).updJer (by decide)⟩
  rw [State.updJer_jer, State.arrive_jer]

theorem mcdata1Write_stores (hopen : (s.at_ t).writeOpen 0x20088 = true) (hf : s.mcForbidden = false)
    (hv : s.verifying = false) (hl : s.planeLive (s.fld (pJE 0) JE_MCADDR_PLANE) = false) :
    Completes (.mcdata1Write t v) s fun u =>
      (∀ p a, p < 2 → a < 4096 → s.fld (pJE 0) JE_MCADDR_PLANE < 2 → s.fld (pJE 0) JE_MCADDR_ADDR < 4096 →
        u.mcWord p a = if p = s.fld (pJE 0) JE_MCADDR_PLANE ∧ a = s.fld (pJE 0) JE_MCADDR_ADDR then
          BitVec.ofNat 40 (s.jer.mcHold + v.toNat % 1024 * 2 ^ 30) else s.mcWord p a) ∧
      (∀ g < 8, u.mcBadAt g (s.fld (pJE 0) JE_MCADDR_PLANE) (s.fld (pJE 0) JE_MCADDR_ADDR) = false) ∧
      u.fld (pJE 0) JE_MCADDR_ADDR = (if s.bit (pJE 0) JE_MCADDR_AUTOINC = true then
        (s.fld (pJE 0) JE_MCADDR_ADDR + 1) % 4096 else s.fld (pJE 0) JE_MCADDR_ADDR) ∧
      Changes (s.arrive t 0x20088 v.toNat) u [.jer] (fields [(pJE 0, JE_MCADDR_ADDR)]) := by
  refine Completes.write hopen rfl ?_
  rw [State.doMcdata1_stores _ (by rwa [State.arrive_mcForbidden]) (by rwa [State.arrive_verifying])
    (by rwa [State.arrive_planeLive, State.arrive_fld])]
  simp only [State.arrive_fld, State.arrive_jer]
  refine ⟨fun p a _ ha _ haddr => ?_, fun g hg => ?_, ?_, ?_⟩
  · rw [State.mcAdvance_word, State.mcStore_word _ _ _ _ haddr ha, State.arrive_mcWord]
  · rw [State.mcAdvance_badAt, State.mcStore_good _ _ _ _ hg]
  · rw [State.mcAdvance_addr, State.mcStore_bit, State.mcStore_fld, State.arrive_bit, State.arrive_fld]
  · exact ((Changes.refl _ _ _).updJer (by decide)).trans ((State.mcAdvance_changes _).mono (by decide) fun _ hk => hk)

theorem mcdata1Write_live (hopen : (s.at_ t).writeOpen 0x20088 = true) (hf : s.mcForbidden = false)
    (hv : s.verifying = false) (hl : s.planeLive (s.fld (pJE 0) JE_MCADDR_PLANE) = true) :
    Completes (.mcdata1Write t v) s fun u => RaisesOnly (s.arrive t 0x20088 v.toNat) u (pJE 0) JE_E_MCLIVE := by
  refine Completes.write hopen rfl ?_
  rw [State.doMcdata1_live _ (by rwa [State.arrive_mcForbidden]) (by rwa [State.arrive_verifying])
    (by rwa [State.arrive_planeLive, State.arrive_fld])]
  exact State.err_raises _ _ _

theorem mcdata1Write_forbidden (hopen : (s.at_ t).writeOpen 0x20088 = true) (hf : s.mcForbidden = true) :
    Completes (.mcdata1Write t v) s fun u => RaisesOnly (s.arrive t 0x20088 v.toNat) u pLCS LCS_E_LCSWR := by
  refine Completes.write hopen rfl ?_
  rw [State.doMcdata1_forbidden _ (by rwa [State.arrive_mcForbidden])]
  exact State.err_raises _ _ _

theorem mcdata1Write_busy (hopen : (s.at_ t).writeOpen 0x20088 = true) (hf : s.mcForbidden = false)
    (hv : s.verifying = true) :
    Completes (.mcdata1Write t v) s fun u => RaisesOnly (s.arrive t 0x20088 v.toNat) u (pJE 0) JE_E_CTBUSY := by
  refine Completes.write hopen rfl ?_
  rw [State.doMcdata1_busy _ (by rwa [State.arrive_mcForbidden]) (by rwa [State.arrive_verifying])]
  exact State.err_raises _ _ _

end

/-! ## The pending table (R101, R104) -/

section
variable (s : State)

theorem State.unverify_jer : s.unverify.jer = { s.jer with pend := zeroW s.jer.pend } := rfl

theorem State.unverify_verified : s.unverify.fld (pJE 0) JE_CTSTAT_VERIFIED = 0 :=
  (State.updJer_fld _ _ _ _).trans (State.fld_setFld_same _ _ _ _)

theorem State.unverify_fld_ne {f : Fld} (h : fldKey (pJE 0) f ≠ fldKey (pJE 0) JE_CTSTAT_VERIFIED) :
    s.unverify.fld (pJE 0) f = s.fld (pJE 0) f :=
  (State.updJer_fld _ _ _ _).trans (State.fld_setFld_ne _ _ _ _ _ _ h)

theorem Changes.unverify {s u : State} {ps : List Piece} {K : Nat → Bool} (ha : Piece.jer ∈ ps)
    (hk : K (fldKey (pJE 0) JE_CTSTAT_VERIFIED) = true) (h : Changes s u ps K) : Changes s u.unverify ps K :=
  (h.setFld hk).updJer ha

end

section
variable {s : State} {t : Time}

theorem State.wf_pend (h : s.wf = true) : SMap.wf (fun _ => ClsEnt.none) s.jer.pend = true := by
  simp only [State.wf, Bool.and_eq_true] at h
  tauto

/-- R101, R104: the class entry that a write of CTDATA names. -/
def ctEntry (v : Nat) : ClsEnt :=
  ⟨decide (JE_CTDATA_VALID.of v = 1), JE_CTDATA_PLANE.of v, JE_CTDATA_ENTRY.of v, 0⟩

theorem State.doCtdata_eq (hv : s.verifying = false) (v : Nat) : s.doCtdata v = (s.updJer fun j =>
    { j with pend := SMap.put ClsEnt.none j.pend (s.fld (pJE 0) JE_CTIDX_CLASS) (ctEntry v) }).unverify :=
  if_neg (by rw [hv]; decide)

theorem ctdataWrite_enters (hv : s.verifying = false) (hwf : s.wf = true) (v : Dword)
    (hopen : (s.at_ t).writeOpen 0x20094 = true) : Completes (.ctdataWrite t v) s fun u =>
      SMap.get ClsEnt.none u.jer.pend (s.fld (pJE 0) JE_CTIDX_CLASS) = ctEntry v.toNat ∧
      (∀ k, k ≠ s.fld (pJE 0) JE_CTIDX_CLASS → SMap.get ClsEnt.none u.jer.pend k =
        { SMap.get ClsEnt.none s.jer.pend k with w := 0 }) ∧
      u.fld (pJE 0) JE_CTSTAT_VERIFIED = 0 ∧ u.jer = { s.jer with pend := u.jer.pend } ∧
      Changes (s.arrive t 0x20094 v.toNat) u [.jer] (fields [(pJE 0, JE_CTSTAT_VERIFIED)]) := by
  refine Completes.write hopen rfl ?_
  rw [State.doCtdata_eq (by rwa [State.arrive_verifying]), State.unverify_jer, State.updJer_jer, State.arrive_jer,
    State.arrive_fld]
  have hput := SMap.wf_put (fun _ => ClsEnt.none) s.jer.pend (s.fld (pJE 0) JE_CTIDX_CLASS)
    (ctEntry v.toNat) (State.wf_pend hwf)
  refine ⟨?_, fun k hk => ?_, State.unverify_verified _, rfl, ?_⟩
  · dsimp only
    rw [zeroW_get _ hput, SMap.get_put_same]
    rfl
  · dsimp only
    rw [zeroW_get _ hput, SMap.get_put_ne _ _ _ _ _ _ hk]
  · exact ((Changes.refl _ _ _).updJer (by decide)).unverify (by decide) (by decide)

end

/-! ## The FCALL targets (R101, R104) -/

/-- The fields of a pending FCALL target. -/
def targetFields (n : Nat) : List (Nat × Fld) :=
  [(pJE 0, JE_FCTGT_EN n), (pJE 0, JE_FCTGT_LAT n), (pJE 0, JE_FCTGT_PORT n)]

/-- The field stands at bit `lo` of FCTGTn. -/
def Fld.inTarget (f : Fld) (n lo : Nat) : Prop := f.off = 0xc0 + 4 * n ∧ f.lo = lo ∧ lo < 32

/-- Fields of FCTGT registers of different targets, or at different bits, have different keys. -/
theorem fctgt_key_ne {f g : Fld} {n m a b : Nat} (hf : f.inTarget n a) (hg : g.inTarget m b) (h : n ≠ m ∨ a ≠ b) :
    fldKey (pJE 0) f ≠ fldKey (pJE 0) g := by
  obtain ⟨hfo, hfl, hfa⟩ := hf
  obtain ⟨hgo, hgl, hgb⟩ := hg
  exact fldKey_field_ne _ _ _ (by omega)

theorem inTarget_en (n : Nat) : (JE_FCTGT_EN n).inTarget n 31 := ⟨rfl, rfl, by decide⟩
theorem inTarget_enact (n : Nat) : (JE_FCTGT_ENACT n).inTarget n 30 := ⟨rfl, rfl, by decide⟩
theorem inTarget_latact (n : Nat) : (JE_FCTGT_LATACT n).inTarget n 21 := ⟨rfl, rfl, by decide⟩
theorem inTarget_lat (n : Nat) : (JE_FCTGT_LAT n).inTarget n 16 := ⟨rfl, rfl, by decide⟩
theorem inTarget_port (n : Nat) : (JE_FCTGT_PORT n).inTarget n 0 := ⟨rfl, rfl, by decide⟩

/-- No such field stands in CTSTAT. -/
theorem inTarget_ctstat {f g : Fld} {n lo : Nat} (h : f.inTarget n lo) (hg : g.off = 0xa0) (hgl : g.lo < 32) :
    fldKey (pJE 0) f ≠ fldKey (pJE 0) g := by
  obtain ⟨ho, hl, hlo⟩ := h
  exact fldKey_field_ne _ _ _ (by omega)

section
variable {s : State} {t : Time}

theorem State.doFctgt_eq (hv : s.verifying = false) (n v : Nat) : s.doFctgt n v =
    (((s.store (pJE 0) (JE_FCTGT_EN n) v).setFld (pJE 0) (JE_FCTGT_LAT n)
      (Nat.min 24 (Nat.max 4 ((JE_FCTGT_LAT n).of v)))).store (pJE 0) (JE_FCTGT_PORT n) v).unverify :=
  if_neg (by rw [hv]; decide)

/-- R101: a latency held to 4 to 24 fits LAT. -/
theorem latency_fits (x : Nat) : Nat.min 24 (Nat.max 4 x) % 2 ^ 5 = Nat.min 24 (Nat.max 4 x) :=
  Nat.mod_eq_of_lt (Nat.lt_of_le_of_lt (Nat.min_le_left _ _) (by decide))

theorem fctgtWrite_targets (hv : s.verifying = false) (n : Fin 16) (v : Dword)
    (hopen : (s.at_ t).writeOpen (0x200C0 + 4 * n.val) = true) : Completes (.fctgtWrite t n v) s fun u =>
      u.fld (pJE 0) (JE_FCTGT_EN n.val) = v.toNat / 2 ^ 31 % 2 ∧
      u.fld (pJE 0) (JE_FCTGT_LAT n.val) = Nat.min 24 (Nat.max 4 (v.toNat / 2 ^ 16 % 32)) ∧
      u.fld (pJE 0) (JE_FCTGT_PORT n.val) = v.toNat % 1024 ∧ u.fld (pJE 0) JE_CTSTAT_VERIFIED = 0 ∧
      u.jer = { s.jer with pend := u.jer.pend } ∧
      Changes (s.arrive t (0x200C0 + 4 * n.val) v.toNat) u [.jer] (fields [(pJE 0, JE_FCTGT_EN n.val),
        (pJE 0, JE_FCTGT_LAT n.val), (pJE 0, JE_FCTGT_PORT n.val), (pJE 0, JE_CTSTAT_VERIFIED)]) := by
  have hel := fctgt_key_ne (inTarget_en n) (inTarget_lat n) (.inr (by decide))
  have hep := fctgt_key_ne (inTarget_en n) (inTarget_port n) (.inr (by decide))
  have hlp := fctgt_key_ne (inTarget_lat n) (inTarget_port n) (.inr (by decide))
  refine Completes.write hopen rfl ?_
  rw [State.doFctgt_eq (by rwa [State.arrive_verifying])]
  refine ⟨?_, ?_, ?_, State.unverify_verified _, ?_, ?_⟩
  · rw [State.unverify_fld_ne _ (inTarget_ctstat (inTarget_en n) rfl (by decide)), State.fld_store_ne _ _ _ _ _ _ hep,
      State.fld_setFld_ne _ _ _ _ _ _ hel, State.fld_store_same]
    rfl
  · rw [State.unverify_fld_ne _ (inTarget_ctstat (inTarget_lat n) rfl (by decide)), State.fld_store_ne _ _ _ _ _ _ hlp,
      State.fld_setFld_same]
    exact latency_fits _
  · rw [State.unverify_fld_ne _ (inTarget_ctstat (inTarget_port n) rfl (by decide)), State.fld_store_same]
    exact congrArg (· % 1024) (Nat.div_one _)
  · rw [State.unverify_jer, State.store_jer, State.setFld_jer, State.store_jer, State.arrive_jer]
  · exact ((((Changes.refl _ _ _).store (fields_mem (by simp))).setFld (fields_mem (by simp))).store
      (fields_mem (by simp))).unverify (by decide) (fields_mem (by simp))

end

/-! ## VERIFY and REVERT (R104) -/

/-- R104: one in-force FCALL target is copied into the pending one. -/
def State.revertTarget (s : State) (n : Nat) : State :=
  ((s.setFld (pJE 0) (JE_FCTGT_EN n) (s.fld (pJE 0) (JE_FCTGT_ENACT n))).setFld (pJE 0)
    (JE_FCTGT_LAT n) (s.fld (pJE 0) (JE_FCTGT_LATACT n))).setFld (pJE 0) (JE_FCTGT_PORT n) (SMap.get 0 s.jer.portAct n)

theorem State.revertTargets_eq (s : State) : s.revertTargets = (List.range 16).foldl State.revertTarget s := rfl

/-- `u` has the pending FCALL target `n` as it is in force in `s`. -/
def State.hasTarget (s u : State) (n : Nat) : Prop :=
  u.fld (pJE 0) (JE_FCTGT_LAT n) = s.fld (pJE 0) (JE_FCTGT_LATACT n) % 32 ∧
  u.fld (pJE 0) (JE_FCTGT_EN n) = s.fld (pJE 0) (JE_FCTGT_ENACT n) % 2 ∧
  u.fld (pJE 0) (JE_FCTGT_PORT n) = SMap.get 0 s.jer.portAct n % 1024

section
variable (s : State)

theorem State.revertTarget_changes (n : Nat) : Changes s (s.revertTarget n) [] (fields (targetFields n)) :=
  (((Changes.refl _ _ _).setFld (fields_mem (by simp [targetFields]))).setFld
    (fields_mem (by simp [targetFields]))).setFld (fields_mem (by simp [targetFields]))

theorem State.revertTarget_hasTarget (n : Nat) : s.hasTarget (s.revertTarget n) n := by
  have hel := fctgt_key_ne (inTarget_en n) (inTarget_lat n) (.inr (by decide))
  have hep := fctgt_key_ne (inTarget_en n) (inTarget_port n) (.inr (by decide))
  have hlp := fctgt_key_ne (inTarget_lat n) (inTarget_port n) (.inr (by decide))
  refine ⟨?_, ?_, State.fld_setFld_same _ _ _ _⟩
  · exact (State.fld_setFld_ne _ _ _ _ _ _ hlp).trans (State.fld_setFld_same _ _ _ _)
  · exact (State.fld_setFld_ne _ _ _ _ _ _ hep).trans
      ((State.fld_setFld_ne _ _ _ _ _ _ hel).trans (State.fld_setFld_same _ _ _ _))

/-- A field of an FCTGT register that is none of target `n`'s pending ones. -/
theorem State.revertTarget_fld_ne {n m lo : Nat} {f : Fld} (hf : f.inTarget m lo)
    (h : n ≠ m ∨ 31 ≠ lo ∧ 16 ≠ lo ∧ 0 ≠ lo) : (s.revertTarget n).fld (pJE 0) f = s.fld (pJE 0) f := by
  refine (s.revertTarget_changes n).fld_eq ?_
  simp only [fields, targetFields, List.any_cons, List.any_nil, Bool.or_false, Bool.or_eq_false_iff,
    decide_eq_false_iff_not]
  exact ⟨fctgt_key_ne (inTarget_en n) hf (h.imp_right And.left),
    fctgt_key_ne (inTarget_lat n) hf (h.imp_right fun h => h.2.1),
    fctgt_key_ne (inTarget_port n) hf (h.imp_right fun h => h.2.2)⟩

/-- R104: what the first `k` copies leave: the targets in force, and the pending ones copied from them. -/
theorem State.revertFold (k : Nat) : let u := (List.range k).foldl State.revertTarget s
    u.jer = s.jer ∧ (∀ n, u.fld (pJE 0) (JE_FCTGT_LATACT n) = s.fld (pJE 0) (JE_FCTGT_LATACT n) ∧
      u.fld (pJE 0) (JE_FCTGT_ENACT n) = s.fld (pJE 0) (JE_FCTGT_ENACT n)) ∧ ∀ n < k, s.hasTarget u n := by
  induction k with
  | zero => exact ⟨rfl, fun _ => ⟨rfl, rfl⟩, fun _ h => absurd h (Nat.not_lt_zero _)⟩
  | succ k ih =>
    rw [List.range_succ, List.foldl_append, List.foldl_cons, List.foldl_nil]
    obtain ⟨hjer, hact, hdone⟩ := ih
    generalize (List.range k).foldl State.revertTarget s = u at hjer hact hdone
    refine ⟨hjer, fun n => ?_, fun n hn => ?_⟩
    · rw [u.revertTarget_fld_ne (inTarget_latact n) (.inr (by decide)),
        u.revertTarget_fld_ne (inTarget_enact n) (.inr (by decide))]
      exact hact n
    · by_cases hnk : n = k
      · subst hnk
        have htarget := u.revertTarget_hasTarget n
        rwa [State.hasTarget, (hact n).1, (hact n).2, hjer] at htarget
      · obtain ⟨hlat, hen, hport⟩ := hdone n (by omega)
        exact ⟨(u.revertTarget_fld_ne (inTarget_lat n) (.inl (Ne.symm hnk))).trans hlat,
          (u.revertTarget_fld_ne (inTarget_en n) (.inl (Ne.symm hnk))).trans hen,
          (u.revertTarget_fld_ne (inTarget_port n) (.inl (Ne.symm hnk))).trans hport⟩

end

section
variable {s : State} {t : Time}

theorem State.doCtcmd_verify (hv : s.verifying = false) : s.doCtcmd 1 = s.unverify.setFld (pJE 0) JE_CTSTAT_BUSY 1 :=
  if_neg (by rw [hv]; decide)

theorem State.doCtcmd_revert (hv : s.verifying = false) : s.doCtcmd 2 =
    (s.revertTargets.updJer fun j => { j with pend := j.inf }).setFld (pJE 0) JE_CTSTAT_VERIFIED 1 :=
  if_neg (by rw [hv]; decide)

theorem ctcmdVerify_starts (hv : s.verifying = false) (hopen : (s.at_ t).writeOpen 0x2009C = true) :
    Completes (.ctcmdVerify t) s fun u =>
      u.fld (pJE 0) JE_CTSTAT_BUSY = 1 ∧ u.fld (pJE 0) JE_CTSTAT_VERIFIED = 0 ∧ u.jer.inf = s.jer.inf ∧
      Changes (s.arrive t 0x2009C 1) u [.jer] (fields [(pJE 0, JE_CTSTAT_BUSY), (pJE 0, JE_CTSTAT_VERIFIED)]) := by
  refine Completes.write hopen rfl ?_
  rw [State.doCtcmd_verify (by rwa [State.arrive_verifying])]
  refine ⟨State.fld_setFld_same _ _ _ _, ?_, ?_, ?_⟩
  · rw [State.fld_setFld_ne _ _ _ _ _ _ (by decide), State.unverify_verified]
  · rw [State.setFld_jer, State.unverify_jer, State.arrive_jer]
  · exact ((Changes.refl _ _ _).unverify (by decide) (by decide)).setFld (by decide)

theorem ctcmdRevert_copies (hv : s.verifying = false) (hopen : (s.at_ t).writeOpen 0x2009C = true) :
    Completes (.ctcmdRevert t) s fun u =>
      u.jer = { s.jer with pend := s.jer.inf } ∧ u.fld (pJE 0) JE_CTSTAT_VERIFIED = 1 ∧ ∀ n < 16, s.hasTarget u n := by
  refine Completes.write hopen rfl ?_
  rw [State.doCtcmd_revert (by rwa [State.arrive_verifying]), State.revertTargets_eq]
  obtain ⟨hjer, -, hdone⟩ := (s.arrive t 0x2009C 2).revertFold 16
  generalize (List.range 16).foldl State.revertTarget (s.arrive t 0x2009C 2) = u at hjer hdone
  refine ⟨?_, State.fld_setFld_same _ _ _ _, fun n hn => ?_⟩
  · rw [State.setFld_jer, State.updJer_jer, hjer, State.arrive_jer]
  · have htarget := hdone n hn
    have hkept {f : Fld} {lo : Nat} (hf : f.inTarget n lo) :
        ((u.updJer fun j => { j with pend := j.inf }).setFld (pJE 0) JE_CTSTAT_VERIFIED 1).fld (pJE 0) f =
          u.fld (pJE 0) f :=
      State.fld_setFld_ne _ _ _ _ _ _ (inTarget_ctstat hf rfl (by decide))
    simp only [State.hasTarget, State.arrive_fld, State.arrive_jer] at htarget
    rwa [State.hasTarget, hkept (inTarget_lat n), hkept (inTarget_en n), hkept (inTarget_port n)]

end

/-- Settles O17: each write takes the branch of its register that its state selects; a table in canonical form keeps its
entries when their W are set to 0, and the copies of REVERT leave the targets in force. -/
theorem microcodeAndClasses : Obligations.MicrocodeAndClasses :=
  ⟨fun _ _ _ => ⟨mcdata0Write_holds,
    fun hopen hf hv => ⟨mcdata1Write_stores hopen hf hv, mcdata1Write_live hopen hf hv⟩,
    mcdata1Write_forbidden, mcdata1Write_busy⟩,
   fun _ _ hv hwf => ⟨ctdataWrite_enters hv hwf, fctgtWrite_targets hv,
    fun hopen => ⟨ctcmdVerify_starts hv hopen, ctcmdRevert_copies hv hopen⟩⟩⟩

end Sys2Proof.Machine

/-! # Verification of the pending table and the background parity check (R104, R107 to R110) -/

namespace Sys2Proof.Machine

/-! ## What a verification reads (R107, R108)

The microcode, its parity, and the pending FCALL targets. -/

section
variable {s u : State} (hjer : u.jer = s.jer)
  (htarget : ∀ n, u.fld (pJE 0) (JE_FCTGT_LAT n) = s.fld (pJE 0) (JE_FCTGT_LAT n) ∧
    u.fld (pJE 0) (JE_FCTGT_EN n) = s.fld (pJE 0) (JE_FCTGT_EN n))
include hjer

theorem State.mcWord_congr (plane a : Nat) : u.mcWord plane a = s.mcWord plane a := by
  rw [State.mcWord, hjer, State.mcWord]

theorem State.mcBadAt_congr (g plane a : Nat) : u.mcBadAt g plane a = s.mcBadAt g plane a := by
  rw [State.mcBadAt, hjer, State.mcBadAt]

include htarget

theorem State.walk_congr (plane n : Nat) (f : SMap (Nat × Nat)) : u.walk plane n f = s.walk plane n f := by
  have hcost : ∀ i, u.pathCost i = s.pathCost i := fun i => by
    unfold State.pathCost
    split
    · rfl
    · exact (htarget _).1
    · rfl
  induction n generalizing f with
  | zero => simp only [State.walk]
  | succ n ih =>
    cases f with
    | nil => simp only [State.walk]
    | cons x rest => simp only [State.walk, State.mcWord_congr hjer, hcost, ih]

theorem State.firstFail_congr (plane entry : Nat) (nodes : List Node) :
    u.firstFail plane entry nodes = s.firstFail plane entry nodes := by
  have hrule : u.ruleFails plane = s.ruleFails plane := by
    funext rule x
    simp only [State.ruleFails, State.mcBadAt_congr hjer, State.bit, (htarget _).2]
  rw [State.firstFail, State.firstFail, hrule]

theorem State.verify_congr (xs : List (Nat × ClsEnt)) (t : SMap ClsEnt) : u.verify xs t = s.verify xs t := by
  induction xs generalizing t with
  | nil => rfl
  | cons x xs ih =>
    simp only [State.verify, State.walk_congr hjer htarget, State.firstFail_congr hjer htarget, ih]

end

/-! ## The outcome of a verification (R104, R107) -/

section
variable (s : State)

/-- The fields of CTSTAT that record a failure. -/
def ctErrFields : List (Nat × Fld) :=
  [(pJE 0, JE_CTSTAT_ERRPLANE), (pJE 0, JE_CTSTAT_ERRCODE), (pJE 0, JE_CTSTAT_ERRCLASS), (pJE 0, JE_CTSTAT_ERRPC)]

theorem State.setCtErr_jer (k plane r a : Nat) : (s.setCtErr k plane r a).jer = s.jer := rfl

theorem State.setCtErr_changes (k plane r a : Nat) : Changes s (s.setCtErr k plane r a) [] (fields ctErrFields) :=
  ((((Changes.refl _ _ _).setFld (by decide)).setFld (by decide)).setFld (by decide)).setFld (by decide)

theorem State.setCtErr_records (k plane r a : Nat) :
    (s.setCtErr k plane r a).fld (pJE 0) JE_CTSTAT_ERRCODE = r % 16 ∧
    (s.setCtErr k plane r a).fld (pJE 0) JE_CTSTAT_ERRCLASS = k % 64 ∧
    (s.setCtErr k plane r a).fld (pJE 0) JE_CTSTAT_ERRPC = a % 4096 := by
  refine ⟨?_, ?_, State.fld_setFld_same _ _ _ _⟩
  · rw [State.setCtErr, State.fld_setFld_ne _ _ _ _ _ _ (by decide), State.fld_setFld_ne _ _ _ _ _ _ (by decide),
      State.fld_setFld_same]
    rfl
  · rw [State.setCtErr, State.fld_setFld_ne _ _ _ _ _ _ (by decide), State.fld_setFld_same]
    rfl

/-- R104: the pending table is verified, with its W values. -/
def State.passVerify (s : State) (tbl : SMap ClsEnt) : State :=
  ((s.updJer fun j => { j with pend := tbl }).setCtErr 0 0 0 0).setFld (pJE 0) JE_CTSTAT_VERIFIED 1

/-- R107: the first failure of a verification. -/
def State.failVerify (s : State) (k plane r a : Nat) : State := (s.setCtErr k plane r a).err (pJE 0) JE_E_VERR

/-- R104: the state whose pending table a verification checks: it is busy no longer. -/
def State.verifyEnds (s : State) (t : Time) : State := (s.at_ t).setFld (pJE 0) JE_CTSTAT_BUSY 0

theorem State.verifyEnds_fld_ne (t : Time) {f : Fld} (h : fldKey (pJE 0) f ≠ fldKey (pJE 0) JE_CTSTAT_BUSY) :
    (s.verifyEnds t).fld (pJE 0) f = s.fld (pJE 0) f := State.fld_setFld_ne _ _ _ _ _ _ h

theorem State.verifyEnds_verify (t : Time) (xs : List (Nat × ClsEnt)) (tbl : SMap ClsEnt) :
    (s.verifyEnds t).verify xs tbl = s.verify xs tbl := by
  have hjer : (s.verifyEnds t).jer = s.jer := rfl
  refine State.verify_congr hjer (fun n => ⟨?_, ?_⟩) xs tbl
  · exact s.verifyEnds_fld_ne t (inTarget_ctstat (inTarget_lat n) rfl (by decide))
  · exact s.verifyEnds_fld_ne t (inTarget_ctstat (inTarget_en n) rfl (by decide))

/-- R104, R107: what a verification leaves by its outcome. -/
def State.verified (s : State) : SMap ClsEnt ⊕ (Nat × Nat × Nat × Nat) → State
  | .inl tbl => s.passVerify tbl
  | .inr (k, plane, r, a) => s.failVerify k plane r a

end

section
variable {s : State} {t : Time}

theorem exec_verifyComplete (hv : s.verifying = true) : exec (.verifyComplete t) s =
    .next (((s.verifyEnds t).verified (s.verify s.jer.pend s.jer.pend)).irq (pJE 0) JE_E_VDONE) := by
  have hv' : ¬ (!(s.at_ t).verifying) = true := by rw [show (s.at_ t).verifying = s.verifying from rfl, hv]; decide
  rw [← s.verifyEnds_verify t]
  show execVerifyComplete t s = _
  rw [execVerifyComplete, if_neg hv']
  rfl

theorem verifyComplete_passes (hv : s.verifying = true) (tbl : SMap ClsEnt)
    (h : s.verify s.jer.pend s.jer.pend = .inl tbl) : Completes (.verifyComplete t) s fun u =>
      u.jer = { s.jer with pend := tbl } ∧ u.fld (pJE 0) JE_CTSTAT_BUSY = 0 ∧ u.fld (pJE 0) JE_CTSTAT_VERIFIED = 1 ∧
      u.fld (pJE 0) JE_CTSTAT_ERRCODE = 0 ∧
      u.fld (pJE 0) HDR_PG_IRQST_ST = (s.fld (pJE 0) HDR_PG_IRQST_ST ||| 2 ^ JE_E_VDONE) % 2 ^ 32 := by
  refine ⟨_, exec_verifyComplete hv, ?_⟩
  rw [h, State.verified]
  have hrest : Changes (s.verifyEnds t) ((s.verifyEnds t).passVerify tbl) [.jer]
      (fields ((pJE 0, JE_CTSTAT_VERIFIED) :: ctErrFields)) :=
    Changes.setFld (by decide) (((Changes.refl _ _ _).updJer (by decide)).trans ((State.setCtErr_changes _ _ _ _ _).mono
      (by decide) fun _ hk => (Bool.or_eq_false_iff.mp hk).2))
  refine ⟨State.irq_jer _ _ _, ?_, ?_, ?_, ?_⟩
  · rw [State.fld_irq_ne _ _ _ _ _ (by decide), hrest.fld_eq (by decide)]
    exact State.fld_setFld_same _ _ _ _
  · rw [State.fld_irq_ne _ _ _ _ _ (by decide)]
    exact State.fld_setFld_same _ _ _ _
  · rw [State.fld_irq_ne _ _ _ _ _ (by decide), State.passVerify, State.fld_setFld_ne _ _ _ _ _ _ (by decide),
      (State.setCtErr_records _ _ _ _ _).1]
  · rw [State.fld_irq_st, hrest.fld_eq (by decide), s.verifyEnds_fld_ne t (by decide)]

theorem verifyComplete_fails (hv : s.verifying = true) (k plane r a : Nat)
    (h : s.verify s.jer.pend s.jer.pend = .inr (k, plane, r, a)) : Completes (.verifyComplete t) s fun u =>
      u.jer = s.jer ∧ u.fld (pJE 0) JE_CTSTAT_BUSY = 0 ∧ u.fld (pJE 0) JE_CTSTAT_ERRCODE = r % 16 ∧
      u.fld (pJE 0) JE_CTSTAT_ERRCLASS = k % 64 ∧ u.fld (pJE 0) JE_CTSTAT_ERRPC = a % 4096 ∧
      u.fld (pJE 0) HDR_PG_ERR_ERR = (s.fld (pJE 0) HDR_PG_ERR_ERR ||| 2 ^ JE_E_VERR) % 2 ^ 32 := by
  refine ⟨_, exec_verifyComplete hv, ?_⟩
  rw [h, State.verified, State.failVerify]
  have hrest := State.setCtErr_changes (s.verifyEnds t) k plane r a
  obtain ⟨hcode, hclass, hpc⟩ := State.setCtErr_records (s.verifyEnds t) k plane r a
  have hraised {f : Fld} (h1 : fldKey (pJE 0) f ≠ fldKey (pJE 0) HDR_PG_IRQST_ST)
      (h2 : fldKey (pJE 0) f ≠ fldKey (pJE 0) HDR_PG_ERR_ERR) (v : State) :
      ((v.err (pJE 0) JE_E_VERR).irq (pJE 0) JE_E_VDONE).fld (pJE 0) f = v.fld (pJE 0) f := by
    rw [State.fld_irq_ne _ _ _ _ _ h1, State.fld_err_ne _ _ _ _ _ h2 h1]
  refine ⟨?_, ?_, ?_, ?_, ?_, ?_⟩
  · rw [State.irq_jer, State.err_jer]
    rfl
  · rw [hraised (by decide) (by decide), hrest.fld_eq (by decide)]
    exact State.fld_setFld_same _ _ _ _
  · rw [hraised (by decide) (by decide), hcode]
  · rw [hraised (by decide) (by decide), hclass]
  · rw [hraised (by decide) (by decide), hpc]
  · rw [State.fld_irq_ne _ _ _ _ _ (by decide), State.fld_err_err, hrest.fld_eq (by decide),
      s.verifyEnds_fld_ne t (by decide)]

/-- R108: an entry point at END: its path is END alone, in one cycle, and no rule fails there. -/
theorem State.verify_end {k plane entry : Nat} (hgood : ∀ g < 8, s.mcBadAt g plane entry = false)
    (hend : decodeE (s.mcWord plane entry) = some .endv) :
    s.verify [(k, ⟨true, plane, entry, 0⟩)] [] = .inl [(k, ⟨true, plane, entry, 1⟩)] := by
  have hwalk : s.walk plane 4096 [(entry, 0, 0)] = [⟨entry, some .endv, 0, 1⟩] := by
    simp only [State.walk, hend, successors, emitCount, State.pathCost, List.foldl_nil]
  have hpar : ((List.range 8).any fun g => s.mcBadAt g plane entry) = false :=
    List.any_eq_false.mpr fun g hg => by rw [hgood g (List.mem_range.mp hg)]; decide
  have hrules : ∀ r < 8, s.ruleFails plane (r + 1) ⟨entry, some .endv, 0, 1⟩ = false := by
    intro r hr
    interval_cases r
    · exact hpar
    all_goals simp [State.ruleFails, branchTarget]
  have hfirst : s.firstFail plane entry [⟨entry, some .endv, 0, 1⟩] = none :=
    List.findSome?_eq_none_iff.mpr fun r hr => by
      rw [List.find?_cons, hrules r (List.mem_range.mp hr)]
      rfl
  simp only [State.verify, if_true, hwalk, hfirst]
  rfl

end

/-! ## One instruction of one copy (R110) -/

section
variable (s : State)

/-- The key of an instruction of a copy, taken apart. -/
theorem State.mcBadAt_key (k : Nat) :
    s.mcBadAt (k / 8192) (k % 8192 / 4096) (k % 4096) = SMap.get false s.jer.mcBad k := by
  rw [State.mcBadAt, show k / 8192 * 8192 + k % 8192 / 4096 * 4096 + k % 4096 = k by omega]

/-- The copy of the instruction with key `k` that its repair reads. -/
def State.repairCopy (s : State) (k : Nat) : Option Nat := s.goodCopy (k / 8192) (k % 8192 / 4096) (k % 4096)

/-- R110: the repair of the instruction with key `k`, counted and logged. -/
def State.mcRepaired (s : State) (k : Nat) : State :=
  (((s.updJer fun j => { j with mcBad := SMap.put false j.mcBad k false }).addSat (pJE 0) JE_MCSTAT_REPAIRS
    1).corrected).log (pJE 0) 0x041 1 (k / 8192 * 2 ^ 13 + k % 8192 / 4096 * 2 ^ 12 + k % 4096)

variable {k : Nat}

theorem State.mcRewrite_good (h : SMap.get false s.jer.mcBad k = false) : s.mcRewrite k = s := by
  rw [← s.mcBadAt_key] at h
  exact if_pos (by rw [h]; decide)

theorem State.mcRewrite_repairs (h : SMap.get false s.jer.mcBad k = true) {c : Nat} (hc : s.repairCopy k = some c) :
    s.mcRewrite k = s.mcRepaired k := by
  rw [← s.mcBadAt_key] at h
  rw [State.repairCopy] at hc
  rw [State.mcRewrite, if_neg (by rw [h]; decide)]
  simp only [hc]
  rfl

theorem State.mcRewrite_unrec (h : SMap.get false s.jer.mcBad k = true) (hc : s.repairCopy k = none) :
    s.mcRewrite k = s.mcUnrec := by
  rw [← s.mcBadAt_key] at h
  rw [State.repairCopy] at hc
  rw [State.mcRewrite, if_neg (by rw [h]; decide)]
  simp only [hc]

theorem State.mcRepaired_jer : (s.mcRepaired k).jer = { s.jer with mcBad := SMap.put false s.jer.mcBad k false } :=
  State.log_jer _ _ _ _ _

theorem State.mcRepaired_pwr : (s.mcRepaired k).pwr = s.pwr := State.log_pwr _ _ _ _ _

theorem State.mcRepaired_repairs :
    (s.mcRepaired k).fld (pJE 0) JE_MCSTAT_REPAIRS = Nat.min (s.fld (pJE 0) JE_MCSTAT_REPAIRS + 1) 65535 := by
  rw [State.mcRepaired, State.fld_log_ne _ _ _ _ _ _ _ (by decide), State.corrected,
    State.fld_addSat_ne _ _ _ _ _ _ (by decide), State.fld_addSat_same, State.updJer_fld]
  rfl

theorem State.mcUnrec_jer : s.mcUnrec.jer = s.jer := by
  rw [State.mcUnrec, State.fatal_jer, State.err_jer]

/-- R110, R374: no good copy is device-fatal. -/
theorem State.mcUnrec_fatal : s.mcUnrec.pwr.faultB = true := by
  cases h : s.pwr.faultB with
  | false => exact ((s.err (pJE 0) JE_E_MCUNREC).fatal_first (pJE 0) 1 (by rw [State.err_pwr, h])).1
  | true =>
    have h' : (s.err (pJE 0) JE_E_MCUNREC).pwr.faultB = true := by rw [State.err_pwr, h]
    rw [State.mcUnrec, State.fatal, if_pos h', State.holdCauseArises_pwr, State.setFld_pwr, State.log_pwr,
      State.err_pwr, h']

theorem State.mcRewrite_faultB (k : Nat) (h : s.pwr.faultB = true) : (s.mcRewrite k).pwr.faultB = true := by
  cases hbad : SMap.get false s.jer.mcBad k with
  | false => rwa [s.mcRewrite_good hbad]
  | true =>
    cases hc : s.repairCopy k with
    | none => rw [s.mcRewrite_unrec hbad hc, State.mcUnrec_fatal]
    | some c => rwa [s.mcRewrite_repairs hbad hc, State.mcRepaired_pwr]

end

/-! ## The copies that stand good (R110) -/

section
variable {s : State}

/-- A single bad instruction: the next copy is good. -/
theorem State.repairCopy_single {k : Nat} (h : s.jer.mcBad = [(k, true)]) : ∃ c, s.repairCopy k = some c := by
  refine Option.isSome_iff_exists.mp (List.find?_isSome.mpr ⟨(k / 8192 + 1 + 0) % 8,
    List.mem_map_of_mem (by decide), ?_⟩)
  have hkey : k ≠ (k / 8192 + 1 + 0) % 8 * 8192 + k % 8192 / 4096 * 4096 + k % 4096 := by omega
  rw [State.mcBadAt, h, SMap.get, if_neg hkey]
  rfl

/-- Every copy has a parity error at the instruction at `o` of a copy. -/
def State.allBad (s : State) (o : Nat) : Prop := ∀ g < 8, SMap.get false s.jer.mcBad (g * 8192 + o) = true

variable {o : Nat} (ho : o < 8192)
include ho

theorem State.repairCopy_allBad (h : s.allBad o) (g : Nat) : s.repairCopy (g * 8192 + o) = none := by
  refine List.find?_eq_none.mpr fun c hc => ?_
  obtain ⟨i, -, rfl⟩ := List.mem_map.mp hc
  generalize hg : ((g * 8192 + o) / 8192 + 1 + i) % 8 = c
  have hbad := h c (by omega)
  have hkey : c * 8192 + (g * 8192 + o) % 8192 / 4096 * 4096 + (g * 8192 + o) % 4096 = c * 8192 + o := by omega
  rw [State.mcBadAt, hkey, hbad]
  decide

/-- Where no copy is good, no rewrite makes one good. -/
theorem State.mcRewrite_allBad (h : s.allBad o) (k : Nat) : (s.mcRewrite k).allBad o := by
  cases hbad : SMap.get false s.jer.mcBad k with
  | false => rwa [s.mcRewrite_good hbad]
  | true =>
    cases hc : s.repairCopy k with
    | none =>
      rw [s.mcRewrite_unrec hbad hc, State.allBad, State.mcUnrec_jer]
      exact h
    | some c =>
      rw [s.mcRewrite_repairs hbad hc, State.allBad, State.mcRepaired_jer]
      intro g hg
      have hkey : g * 8192 + o ≠ k := fun e => by
        rw [← e, State.repairCopy_allBad ho h g] at hc
        cases hc
      exact (SMap.get_put_ne false false _ k _ false hkey).trans (h g hg)

end

/-! ## The background check (R110) -/

/-- The instructions that a check reads, of every copy. -/
def parityKeys (pos : Nat) : List Nat :=
  (List.range 8).flatMap fun g => (List.range 16).map fun i => g * 8192 + pos + i

theorem mem_parityKeys (pos : Nat) (g : Fin 8) (i : Fin 16) : g.val * 8192 + pos + i.val ∈ parityKeys pos :=
  List.mem_flatMap.mpr ⟨g.val, List.mem_range.mpr g.isLt, List.mem_map.mpr ⟨i.val, List.mem_range.mpr i.isLt, rfl⟩⟩

/-- The state whose instructions a check reads: its position has moved on. -/
def State.checkMoves (s : State) (t : Time) : State :=
  (s.at_ t).updJer fun j => { j with mcPos := (s.jer.mcPos + 16) % 8192 }

section
variable (s : State)

theorem State.rewriteFold_good (ks : List Nat) (h : ∀ k ∈ ks, SMap.get false s.jer.mcBad k = false) :
    ks.foldl State.mcRewrite s = s := by
  induction ks with
  | nil => rfl
  | cons k ks ih =>
    obtain ⟨hk, hks⟩ := List.forall_mem_cons.mp h
    rw [List.foldl_cons, s.mcRewrite_good hk, ih hks]

/-- R110: a single bad instruction among those read is repaired, and nothing else is. -/
theorem State.rewriteFold_single (ks : List Nat) {k : Nat} (hk : k ∈ ks) (h : s.jer.mcBad = [(k, true)]) :
    ks.foldl State.mcRewrite s = s.mcRepaired k := by
  obtain ⟨pre, post, rfl, hpre⟩ := List.eq_append_cons_of_mem hk
  obtain ⟨c, hc⟩ := State.repairCopy_single h
  have hbad : SMap.get false s.jer.mcBad k = true := by rw [h, SMap.get, if_pos rfl]
  have hbefore : pre.foldl State.mcRewrite s = s := s.rewriteFold_good pre fun j hj => by
    rw [h, SMap.get, if_neg fun e : k = j => hpre (e ▸ hj)]
    rfl
  have hafter : post.foldl State.mcRewrite (s.mcRepaired k) = s.mcRepaired k := by
    refine State.rewriteFold_good _ post fun j _ => ?_
    rw [State.mcRepaired_jer, h]
    simp [SMap.put, SMap.erase, SMap.get]
  rw [List.foldl_append, List.foldl_cons, hbefore, s.mcRewrite_repairs hbad hc, hafter]

theorem State.rewriteFold_faultB (ks : List Nat) (h : s.pwr.faultB = true) :
    (ks.foldl State.mcRewrite s).pwr.faultB = true := by
  induction ks generalizing s with
  | nil => exact h
  | cons k ks ih => exact ih _ (s.mcRewrite_faultB k h)

/-- R110: an instruction read that is bad in every copy is device-fatal. -/
theorem State.rewriteFold_unrec (ks : List Nat) {g o : Nat} (ho : o < 8192) (hg : g < 8) (hk : g * 8192 + o ∈ ks)
    (h : s.allBad o) : (ks.foldl State.mcRewrite s).pwr.faultB = true := by
  induction ks generalizing s with
  | nil => cases hk
  | cons k ks ih =>
    rw [List.foldl_cons]
    obtain rfl | hmem := List.mem_cons.mp hk
    · refine State.rewriteFold_faultB _ ks ?_
      rw [s.mcRewrite_unrec (h g hg) (State.repairCopy_allBad ho h g), State.mcUnrec_fatal]
    · exact ih _ hmem (State.mcRewrite_allBad ho h k)

end

section
variable {s : State} {t : Time} (hup : s.pwr.up = true) (hclk : s.clkOn (pJE 0) = true) (hcomp : s.computing = false)
include hup hclk hcomp

theorem exec_mcParityCheck :
    exec (.mcParityCheck t []) s = .next ((parityKeys s.jer.mcPos).foldl State.mcRewrite (s.checkMoves t)) := by
  have hclk' : (s.at_ t).clkOn (pJE 0) = true := (s.atTime_clkOn t (pJE 0) (by decide)).trans hclk
  have hcomp' : (s.at_ t).computing = false := hcomp
  show execMcParityCheck t [] s = _
  simp only [execMcParityCheck, State.upsets, List.foldl_nil, State.atTime_pwr, hup, hclk', hcomp']
  rfl

theorem mcParityCheck_good (hgood : s.jer.mcBad = []) : Completes (.mcParityCheck t []) s fun u =>
    u.jer = { s.jer with mcPos := (s.jer.mcPos + 16) % 8192 } ∧ Changes (s.at_ t) u [.jer] noField := by
  refine ⟨_, exec_mcParityCheck hup hclk hcomp, ?_⟩
  have hread : ∀ k ∈ parityKeys s.jer.mcPos, SMap.get false (s.checkMoves t).jer.mcBad k = false := fun k _ => by
    rw [State.checkMoves, State.updJer_jer, State.atTime_jer, hgood]
    rfl
  rw [State.rewriteFold_good _ _ hread]
  exact ⟨rfl, (Changes.refl _ _ _).updJer (by decide)⟩

theorem mcParityCheck_repairs (g : Fin 8) (i : Fin 16)
    (hbad : s.jer.mcBad = [(g.val * 8192 + s.jer.mcPos + i.val, true)]) :
    Completes (.mcParityCheck t []) s fun u =>
      u.jer = { s.jer with mcPos := (s.jer.mcPos + 16) % 8192, mcBad := [] } ∧
      u.fld (pJE 0) JE_MCSTAT_REPAIRS = Nat.min (s.fld (pJE 0) JE_MCSTAT_REPAIRS + 1) 65535 := by
  refine ⟨_, exec_mcParityCheck hup hclk hcomp, ?_⟩
  rw [State.rewriteFold_single (s.checkMoves t) _ (mem_parityKeys s.jer.mcPos g i) hbad]
  refine ⟨?_, State.mcRepaired_repairs _⟩
  rw [State.mcRepaired_jer]
  simp [State.checkMoves, hbad, SMap.put, SMap.erase]

theorem mcParityCheck_fatal (hpos : s.jer.mcPos + 16 ≤ 8192) (i : Fin 16)
    (hbad : ∀ g < 8, SMap.get false s.jer.mcBad (g * 8192 + s.jer.mcPos + i.val) = true) :
    Completes (.mcParityCheck t []) s fun u => u.pwr.faultB = true := by
  refine ⟨_, exec_mcParityCheck hup hclk hcomp, ?_⟩
  have ho : s.jer.mcPos + i.val < 8192 := by omega
  have hread : 0 * 8192 + (s.jer.mcPos + i.val) ∈ parityKeys s.jer.mcPos := by
    rw [← Nat.add_assoc]
    exact mem_parityKeys s.jer.mcPos 0 i
  refine State.rewriteFold_unrec _ _ ho (by decide) hread fun g hg => ?_
  rw [← Nat.add_assoc]
  exact hbad g hg

end

/-- Settles O18: a verification ends by its outcome, which its being over does not change; the background check goes
through the instructions that it reads one by one, and no rewrite makes an instruction good that is bad in every
copy. -/
theorem verificationAndParity : Obligations.VerificationAndParity :=
  ⟨fun _ _ hv => ⟨verifyComplete_passes hv, verifyComplete_fails hv, fun _ _ _ _ => State.verify_end⟩,
    fun _ _ hup hclk hcomp hpos => ⟨mcParityCheck_good hup hclk hcomp, mcParityCheck_repairs hup hclk hcomp,
      fun i _ => mcParityCheck_fatal hup hclk hcomp hpos i⟩⟩

end Sys2Proof.Machine

/-! # PG_CTRL, PG_LOCK, PG_IRQST and MSI-X (R7, R112, R415 to R418, R420) -/

namespace Sys2Proof.Machine

/-! ## Writes that reach a page -/

section
variable {s : State} {t : Time} {off v : Nat}

/-- R311: no clock runs in a reserved page. -/
theorem State.writeOpen_class (h : s.writeOpen off = true) : pgClass (off / 4096) ≠ .reserved := fun hr => by
  simp [State.writeOpen, State.clkOn, hr] at h

theorem State.hostReg_open (h : (s.at_ t).writeOpen off = true) :
    s.hostReg t off v = (s.arrive t off v).regEffect false off v := by
  have hres : reservedAt off = false := decide_eq_false (State.writeOpen_class h)
  rw [State.hostReg, hres]
  exact s.arrive_open t off v _ h

variable {p o : Nat}

/-- A write of a register of a page's header. -/
theorem State.hostReg_header (ho : o < 0x40) (h : (s.at_ t).writeOpen (p * 4096 + o) = true) :
    s.hostReg t (p * 4096 + o) v = (s.arrive t (p * 4096 + o) v).doHdr p o v := by
  have hp : (p * 4096 + o) / 4096 = p := by omega
  have hreg : (p * 4096 + o) % 4096 = o := by omega
  rw [State.hostReg_open h, State.regEffect, hp, hreg]
  exact if_pos ho

theorem State.hostCtrl_open {eff : State → State} (h : (s.at_ t).writeOpen (p * 4096 + 8) = true) :
    s.hostCtrl t p v eff = eff (s.arrive t (p * 4096 + 8) v) := by
  have hres : reservedAt (p * 4096) = false := by
    refine decide_eq_false ?_
    have hclass := State.writeOpen_class h
    rwa [show (p * 4096 + 8) / 4096 = p by omega, ← show p * 4096 / 4096 = p by omega] at hclass
  rw [State.hostCtrl, hres]
  exact s.arrive_open t _ v eff h

end

/-! ## Where pages stand (R409) -/

/-- The pages of some classes. -/
theorem pgClass_places (p : Nat) : (pgClass p = .frm → p = pFRM) ∧ (pgClass p = .ctx → p = pCTX) ∧
    (pgClass p = .adc → p = pADC) ∧ (pgClass p = .ang → 24 ≤ p ∧ p < 32) ∧ (pgClass p = .rgn → 64 ≤ p ∧ p < 128) ∧
    (pgClass p = .ul → 128 ≤ p ∧ p < 256) := by
  unfold pgClass
  split
  case h_16 => split_ifs <;> simp <;> omega
  all_goals decide

theorem pgClass_eq_frm {p : Nat} (h : pgClass p = .frm) : p = pFRM := (pgClass_places p).1 h
theorem pgClass_eq_ctx {p : Nat} (h : pgClass p = .ctx) : p = pCTX := (pgClass_places p).2.1 h
theorem pgClass_eq_adc {p : Nat} (h : pgClass p = .adc) : p = pADC := (pgClass_places p).2.2.1 h

theorem pgClass_eq_ang {p : Nat} (h : pgClass p = .ang) : p = pANG (p - 24) := by
  obtain ⟨-, -, -, hang, -, -⟩ := pgClass_places p
  have hp := hang h
  unfold pANG
  omega

theorem pgClass_eq_ul {p : Nat} (h : pgClass p = .ul) : p = pUL (p - 128) := by
  obtain ⟨-, -, -, -, -, hul⟩ := pgClass_places p
  have hp := hul h
  unfold pUL
  omega

/-- R419: there are 32 vectors. -/
theorem vecOf_lt (p : Nat) : vecOf p < 32 := by
  obtain ⟨-, -, -, -, hrgn, hul⟩ := pgClass_places p
  unfold vecOf
  split
  case h_20 h => have hp := hrgn h; omega
  case h_21 h => have hp := hul h; omega
  all_goals decide

/-! ## Enables (R112, R417) -/

section
variable (s : State) {p : Nat} (x : Bool)

theorem State.arrive_mayDisable (t : Time) (off v : Nat) : (s.arrive t off v).mayDisable p = s.mayDisable p := by
  simp only [State.mayDisable, State.arrive_frmState, State.arrive_ctx, State.arrive_plc, State.arrive_fld,
    State.arrive_cfg]

theorem State.doEn_fixed (h : fixedEn p = true) : s.doEn p x = s := if_pos h

theorem State.doEn_refused (hf : fixedEn p = false) (hm : s.mayDisable p = false) :
    s.doEn p false = if pgClass p = .je then s.err p JE_E_ENBUSY else s := by
  rw [State.doEn, if_neg (by rw [hf]; decide), if_pos (by rw [hm]; rfl)]

/-- The classes of pages in which a write of EN that is accepted does nothing else. -/
def plainEn : List PgCls := [.frm, .ctx, .plc, .cfg, .je, .iob]

theorem fixedEn_open (h : pgClass p ∈ plainEn ++ [.ul, .ang, .adc]) : fixedEn p = false := by
  unfold fixedEn
  generalize pgClass p = c at h
  revert h
  cases c <;> decide

theorem State.doEn_plain (hc : pgClass p ∈ plainEn) (hm : x = true ∨ s.mayDisable p = true) :
    s.doEn p x = s.setBit p HDR_PG_CTRL_EN x := by
  have hfixed : fixedEn p = false := fixedEn_open (List.mem_append_left _ hc)
  have hmay : ¬ (!x && !s.mayDisable p) = true := by rcases hm with hm | hm <;> simp [hm]
  rw [State.doEn, if_neg (by rw [hfixed]; decide), if_neg hmay]
  split
  case h_4 => rfl
  all_goals exact absurd (‹pgClass p = _› ▸ hc) (by decide)

/-- Every field but EN of a page. -/
def notEn (p k : Nat) : Bool := decide (k ≠ fldKey p HDR_PG_CTRL_EN)

theorem notEn_field (p : Nat) {f : Fld} (h : f.off * 32 + f.lo ≠ HDR_PG_CTRL_EN.off * 32 + HDR_PG_CTRL_EN.lo) :
    notEn p (fldKey p f) = true := decide_eq_true (fldKey_field_ne p _ _ h)

/-- What follows a write of EN and leaves it alone. -/
theorem State.en_written {u : State} {ps : List Piece} (h : Changes (s.setBit p HDR_PG_CTRL_EN x) u ps (notEn p)) :
    u.fld p HDR_PG_CTRL_EN = x.toNat := by
  rw [h.fld_eq (by simp [notEn]), State.fld_setBit_same]
  exact Nat.mod_eq_of_lt (Bool.toNat_lt x)

theorem State.setUlEn_en (l : Nat) : (s.setUlEn l x).fld (pUL l) HDR_PG_CTRL_EN = x.toNat := by
  refine s.en_written x (ps := [.lnk, .msi]) ?_
  have hdown := (s.setBit (pUL l) HDR_PG_CTRL_EN x).portDown_changes l (K := notEn (pUL l)) (notEn_field _ (by decide))
    (notEn_field _ (by decide)) (notEn_field _ (by decide)) (notEn_field _ (by decide))
  exact Changes.ite (fun _ => (Changes.refl _ _ _).updLink (by decide)) fun _ =>
    Changes.ite (fun _ => hdown.updLink (by decide)) fun _ => Changes.refl _ _ _

theorem State.setAngState_changes (a st : Nat) : Changes s (s.setAngState a st) [.ang] (notEn (pANG a)) :=
  (((Changes.refl _ _ _).setFld (notEn_field _ (by decide))).setBit (notEn_field _ (by decide))).setFld
    (notEn_field _ (by decide))

theorem State.setAngEn_en (a : Nat) : (s.setAngEn a x).fld (pANG a) HDR_PG_CTRL_EN = x.toNat := by
  refine s.en_written x (ps := [.ang]) ?_
  have hstate := (s.setBit (pANG a) HDR_PG_CTRL_EN x).setAngState_changes a
  refine Changes.ite (fun _ => Changes.updAng (by decide) ?_) fun _ => Changes.ite (fun _ => hstate 0) fun _ =>
    Changes.refl _ _ _
  exact (((((hstate 1).setFld (notEn_field _ (by decide))).setFld (notEn_field _ (by decide))).setFld
    (notEn_field _ (by decide))).setFld (notEn_field _ (by decide))).setFld (notEn_field _ (by decide))

theorem State.doEn_writes (hc : pgClass p ∈ [PgCls.ul, .ang, .adc]) :
    (s.doEn p x).fld p HDR_PG_CTRL_EN = x.toNat := by
  have hfixed : fixedEn p = false := fixedEn_open (List.mem_append_right _ hc)
  have hmay : s.mayDisable p = true := by
    unfold State.mayDisable
    split
    case h_6 => rfl
    all_goals exact absurd (‹pgClass p = _› ▸ hc) (by decide)
  rw [State.doEn, if_neg (by rw [hfixed]; decide), if_neg (by rw [hmay]; cases x <;> decide)]
  split
  case h_1 hul =>
    have hen := s.setUlEn_en x (p - 128)
    rwa [← pgClass_eq_ul hul] at hen
  case h_2 hang =>
    have hen := s.setAngEn_en x (p - 24)
    rwa [← pgClass_eq_ang hang] at hen
  case h_3 =>
    have hset := Changes.refl (s.setBit p HDR_PG_CTRL_EN x) [.pwr] (notEn p)
    exact s.en_written x (Changes.ite (fun _ => hset) fun _ => hset.updPwr (by decide))
  case h_4 hul hang hadc =>
    obtain h | h | h : pgClass p = .ul ∨ pgClass p = .ang ∨ pgClass p = .adc := by simpa using hc
    · exact (hul h).elim
    · exact (hang h).elim
    · exact (hadc h).elim

end

/-! ## Fields written one after the other -/

section
variable {p q : Nat} {g : Fld} (val : Fld → Nat)

/-- Fields of a page, each set to its own value. -/
def State.setFlds (s : State) (p : Nat) (val : Fld → Nat) (fs : List Fld) : State :=
  fs.foldl (fun s f => s.setFld p f (val f)) s

theorem State.setFlds_fld_ne (fs : List Fld) (s : State) (h : ∀ f ∈ fs, fldKey q g ≠ fldKey p f) :
    (s.setFlds p val fs).fld q g = s.fld q g := by
  induction fs generalizing s with
  | nil => rfl
  | cons f fs ih =>
    obtain ⟨hf, hfs⟩ := List.forall_mem_cons.mp h
    exact (ih _ hfs).trans (State.fld_setFld_ne _ _ _ _ _ _ hf)

theorem State.setFlds_fld (fs : List Fld) (s : State) (hfs : fs.Pairwise fun f g => fldKey p f ≠ fldKey p g)
    (hg : g ∈ fs) : (s.setFlds p val fs).fld p g = val g % 2 ^ g.wid := by
  induction fs generalizing s with
  | nil => cases hg
  | cons f fs ih =>
    obtain ⟨hf, hrest⟩ := List.pairwise_cons.mp hfs
    obtain rfl | hmem := List.mem_cons.mp hg
    · exact (State.setFlds_fld_ne val fs _ hf).trans (State.fld_setFld_same _ _ _ _)
    · exact ih _ hrest hmem

theorem Changes.setFlds {s u : State} {ps : List Piece} {K : Nat → Bool} {fs : List Fld}
    (hk : ∀ f ∈ fs, K (fldKey p f) = true) (h : Changes s u ps K) : Changes s (u.setFlds p val fs) ps K := by
  induction fs generalizing u with
  | nil => exact h
  | cons f fs ih =>
    obtain ⟨hf, hfs⟩ := List.forall_mem_cons.mp hk
    exact ih hfs (h.setFld hf)

end

/-! ## Soft reset (R112, R416, R417) -/

section
variable (s : State) (p : Nat) (keep : Fld → Bool)

/-- The fields that a soft reset of a page's registers keeps. -/
def keptFields (p : Nat) (keep : Fld → Bool) : List Fld :=
  (fieldsOf p).filter fun f =>
    f.off = HDR_PG_CTRL_EN.off ∧ f.lo = HDR_PG_CTRL_EN.lo ∨ f.off = HDR_PG_LOCK_LOCKED.off ∨ keep f

theorem State.softRegs_eq : s.softRegs p keep =
    (((s.thawPage p).resetPage p).setFlds p (s.fld p) (keptFields p keep)).noteVec (vecOf p) := rfl

theorem State.fld_resetPage {f : Fld} (hf : f.off * 32 + f.lo < 131072) : (s.resetPage p).fld p f = resetVal p f := by
  have hin : p * 131072 ≤ fldKey p f ∧ fldKey p f < (p + 1) * 131072 := by
    unfold fldKey
    omega
  rw [State.fld, State.resetPage_flds, SMap.get_clearRange, if_pos hin]

/-- R416: a field that is not kept returns to its reset value. -/
theorem State.softRegs_fld {f : Fld} (hf : f.off * 32 + f.lo < 131072)
    (hkept : ∀ g ∈ keptFields p keep, fldKey p f ≠ fldKey p g) : (s.softRegs p keep).fld p f = resetVal p f := by
  rw [State.softRegs_eq, State.noteVec_fld, State.setFlds_fld_ne _ _ _ hkept, State.fld_resetPage _ _ hf]

/-- R416: the soft reset of a page's registers leaves what is beside the register fields and the host interface. -/
theorem State.softRegs_changes : Changes s (s.softRegs p keep) [.hst, .msi] fun _ => true := by
  have hthaw : Changes s (s.thawPage p) [.hst, .msi] fun _ => true :=
    ((Changes.refl _ _ _).updHst (by decide)).setFld rfl
  have hreset : Changes s ((s.thawPage p).resetPage p) [.hst, .msi] fun _ => true :=
    hthaw.trans ⟨rfl, fun _ _ hk => by cases hk⟩
  exact (hreset.setFlds _ fun _ _ => rfl).noteVec (by decide)

theorem State.softRegs_parts : (s.softRegs p keep).ctx = s.ctx ∧ (s.softRegs p keep).jer = s.jer ∧
    (s.softRegs p keep).plc = s.plc ∧ (s.softRegs p keep).pwr = s.pwr :=
  have hblank := (s.softRegs_changes p keep).1
  ⟨(congrArg State.ctx hblank :), (congrArg State.jer hblank :), (congrArg State.plc hblank :),
    (congrArg State.pwr hblank :)⟩

end

section
variable (s : State) {p : Nat}

/-- R417: in these pages SRST acts on an enabled page. -/
def liveSrst : List PgCls := [.je, .tul, .rgn, .clk, .twn]

/-- R417: an enabled page of another class. -/
theorem State.doSrst_enabled (hen : s.bit p HDR_PG_CTRL_EN = true) (hc : pgClass p ∉ liveSrst) : s.doSrst p = s := by
  unfold State.doSrst
  split
  case h_6 => exact if_pos hen
  all_goals exact absurd (‹pgClass p = _› ▸ by decide : pgClass p ∈ liveSrst) hc

theorem State.doSrst_ctx (hen : s.bit pCTX HDR_PG_CTRL_EN = false) : s.doSrst pCTX = s.softCtx :=
  if_neg (by rw [hen]; decide)

theorem State.doSrst_frm (hen : s.bit pFRM HDR_PG_CTRL_EN = false) : s.doSrst pFRM = s.softFrm :=
  if_neg (by rw [hen]; decide)

theorem State.doSrst_adc (hen : s.bit pADC HDR_PG_CTRL_EN = false) : s.doSrst pADC =
    (s.softRegs pADC fun _ => false).updPwr fun x => { x with adcMask := 0 } :=
  if_neg (by rw [hen]; decide)

theorem State.softCtx_parts : s.softCtx.ctx = Ctx.reset ∧ s.softCtx.jer = s.jer ∧ s.softCtx.plc = s.plc := by
  obtain ⟨-, hjer, hplc, -⟩ := s.softRegs_parts pCTX fun _ => false
  exact ⟨rfl, hjer, hplc⟩

theorem State.softFrm_stops : s.softFrm.frmState = 0 ∧ s.softFrm.frm.issued = [] ∧ s.softFrm.frm.inFrame = false ∧
    s.softFrm.ctx = s.ctx := by
  have hkept : ∀ g ∈ keptFields pFRM fun f => decide (0x5C ≤ f.off ∧ f.off ≤ 0x68),
      fldKey pFRM FRM_STAT_STATE ≠ fldKey pFRM g := by decide
  exact ⟨s.softRegs_fld pFRM _ (by decide) hkept, rfl, rfl, (s.softRegs_parts pFRM _).1⟩

theorem State.softAdc_clears :
    (s.softRegs pADC fun _ => false).fld pADC ADC_CTRL_CHEN = 0 ∧ (s.softRegs pADC fun _ => false).pwr = s.pwr := by
  have hkept : ∀ g ∈ keptFields pADC fun _ => false, fldKey pADC ADC_CTRL_CHEN ≠ fldKey pADC g := by decide
  exact ⟨s.softRegs_fld pADC _ (by decide) hkept, (s.softRegs_parts pADC _).2.2.2⟩

/-- R112: the records of an engine that its soft reset clears. -/
def softJeFields (p : Nat) : List Fld :=
  let fs := [JE_FLTCNT_COUNT, JE_FLTLAST_VALID, JE_FLTLAST_CAUSE, JE_FLTLAST_PLANE, JE_FLTLAST_ADDR,
    JE_FLTHDL_HANDLE, JE_VISITS_COUNT, JE_LOADMAX_CYCLES]
  if p = 32 then fs ++ [JE_MCSTAT_REPAIRS] else fs

theorem State.doSrst_je (hc : pgClass p = .je) : s.doSrst p = s.setFlds p (fun _ => 0) (softJeFields p) := by
  simp only [State.doSrst, hc]
  rfl

theorem softJeFields_records (p : Nat) :
    ∀ f ∈ [JE_FLTCNT_COUNT, JE_FLTLAST_VALID, JE_VISITS_COUNT, JE_LOADMAX_CYCLES], f ∈ softJeFields p := by
  unfold softJeFields
  dsimp only
  split <;> decide

/-- The fields stand within their page and at places of their own. -/
def wellPlaced (fs : List Fld) : Prop :=
  fs.Pairwise (fun f g => g.off * 32 + g.lo ≠ f.off * 32 + f.lo) ∧ ∀ f ∈ fs, f.off * 32 + f.lo < 131072

theorem wellPlaced_keys {fs : List Fld} (h : wellPlaced fs) (p : Nat) :
    fs.Pairwise fun f g => fldKey p f ≠ fldKey p g :=
  h.1.imp fun hne => (fldKey_field_ne p _ _ hne).symm

theorem softJeFields_placed (p : Nat) : wellPlaced (softJeFields p) := by
  unfold softJeFields wellPlaced
  dsimp only
  split <;> decide

theorem State.softJe_fld {f : Fld} (hf : f ∈ softJeFields p) :
    (s.setFlds p (fun _ => 0) (softJeFields p)).fld p f = 0 :=
  (State.setFlds_fld _ _ s (wellPlaced_keys (softJeFields_placed p) p) hf).trans (Nat.zero_mod _)

theorem State.softJe_changes : Changes s (s.setFlds p (fun _ => 0) (softJeFields p)) [] (pages [p]) :=
  (Changes.refl _ _ _).setFlds _ fun f hf => by
    rw [pages, fldKey_div p f ((softJeFields_placed p).2 f hf)]
    simp

end

/-! ## FREEZE (R416) -/

section
variable (s : State) {p : Nat}

theorem snapFields_placed (p : Nat) : wellPlaced ((fieldsOf p).filter Fld.snap) := by
  unfold fieldsOf wellPlaced
  cases pgClass p with
  | je => dsimp only; split <;> decide
  | clk => dsimp only; split <;> decide
  | _ => dsimp only; decide

theorem State.doFreeze_none (h : noFreeze p = true) (on : Bool) : s.doFreeze p on = s := if_pos h

theorem State.doFreeze_eq (h : noFreeze p = false) (on : Bool) :
    s.doFreeze p on = if on then s.freezePage p else s.thawPage p := if_neg (by rw [h]; decide)

/-- R416: each counter and record of the page is held as it stands. -/
theorem State.freezePage_holds {f : Fld} (hf : f ∈ fieldsOf p) (hsnap : f.snap = true) :
    SMap.get 0 (s.freezePage p).hst.frozen (fldKey p f) = (s.derived p f).getD (s.fld p f) % 2 ^ f.wid := by
  have hkeys : (((fieldsOf p).filter Fld.snap).map (fldKey p)).Nodup :=
    List.pairwise_map.mpr (wellPlaced_keys (snapFields_placed p) p)
  exact SMap.get_fill_mem 0 (fldKey p) (fun f => (s.derived p f).getD (s.fld p f) % 2 ^ f.wid) _ _ hkeys f
    (List.mem_filter.mpr ⟨hf, hsnap⟩)

theorem State.doFreeze_freezes (h : noFreeze p = false) (on : Bool) :
    (s.doFreeze p on).fld p HDR_PG_CTRL_FREEZE = on.toNat ∧
    (s.doFreeze p on).hst = { s.hst with frozen := (s.doFreeze p on).hst.frozen } ∧
    Changes s (s.doFreeze p on) [.hst] (fields [(p, HDR_PG_CTRL_FREEZE)]) := by
  rw [s.doFreeze_eq h]
  cases on
  · exact ⟨State.fld_setFld_same _ _ _ _, rfl,
      ((Changes.refl _ _ _).updHst (by decide)).setFld (fields_mem (by simp))⟩
  · exact ⟨State.fld_setFld_same _ _ _ _, rfl,
      ((Changes.refl _ _ _).updHst (by decide)).setFld (fields_mem (by simp))⟩

end

/-! ## PG_LOCK (R418) -/

section
variable (s : State) {p v : Nat}

theorem State.doLock_violates (h : HDR_PG_LOCK_KEY.of v ≠ 0xC10C) :
    s.doLock p v = s.setFld p HDR_PG_LOCK_VIOL 1 := if_pos h

/-- R418: what a write of PG_LOCK with its key leaves of VIOL. -/
def State.violCleared (s : State) (p v : Nat) : State :=
  if HDR_PG_LOCK_VIOL.of v = 1 then s.setFld p HDR_PG_LOCK_VIOL 0 else s

theorem State.doLock_keyed (h : HDR_PG_LOCK_KEY.of v = 0xC10C) :
    s.doLock p v = (s.violCleared p v).store p HDR_PG_LOCK_LOCKED v := if_neg (not_not.mpr h)

theorem State.violCleared_viol : (s.violCleared p v).fld p HDR_PG_LOCK_VIOL =
    if v / 2 % 2 = 1 then 0 else s.fld p HDR_PG_LOCK_VIOL := by
  have hof : HDR_PG_LOCK_VIOL.of v = v / 2 % 2 := rfl
  rw [State.violCleared, hof]
  split
  · exact State.fld_setFld_same _ _ _ _
  · rfl

theorem State.violCleared_changes :
    Changes s (s.violCleared p v) [] (fields [(p, HDR_PG_LOCK_LOCKED), (p, HDR_PG_LOCK_VIOL)]) :=
  Changes.ite (fun _ => (Changes.refl _ _ _).setFld (fields_mem (by simp))) fun _ => Changes.refl _ _ _

end

/-! ## The messages of a vector (R420) -/

section
variable (s : State) {k : Nat}

theorem State.sendOrPend_masked (h : s.vecMasked k = true) :
    (s.sendOrPend k).hst = { s.hst with pba := s.hst.pba ||| 2 ^ k } :=
  if_pos h

theorem State.sendOrPend_open (h : s.vecMasked k = false) :
    (s.sendOrPend k).hst = { s.hst with msgs := k :: s.hst.msgs } :=
  if_neg (by rw [h]; decide)

theorem State.vecMasked_congr {s u : State} (h : u.hst = s.hst) (k : Nat) : u.vecMasked k = s.vecMasked k := by
  rw [State.vecMasked, h, State.vecMasked]

/-- A vector is asserted by register fields alone. -/
theorem State.vecOn_congr {s u : State} (h : u.flds = s.flds) (k : Nat) : u.vecOn k = s.vecOn k := by
  have hreq : u.requests = s.requests := funext fun p => by simp only [State.requests, State.fld_of_flds h]
  rw [State.vecOn, hreq, State.vecOn]

theorem State.noteVec_vecMasked (v : Nat) : (s.noteVec v).vecMasked k = s.vecMasked k := by
  obtain ⟨a, b, c, e⟩ := s.noteVec_eq v
  rw [e]
  rfl

/-- The vector as `noteVec` notes it. -/
def State.noted (s : State) (k : Nat) : State :=
  s.updHst fun h =>
    { h with asserted := if s.vecOn k then h.asserted ||| 2 ^ k else h.asserted &&& (2 ^ 32 - 1 - 2 ^ k) }

theorem State.noteVec_sends (hon : s.vecOn k = true) (hwas : s.hst.asserted.testBit k = false) :
    s.noteVec k = (s.noted k).sendOrPend k := if_pos (by rw [hon, hwas]; rfl)

theorem State.noteVec_quiet (h : s.vecOn k = false ∨ s.hst.asserted.testBit k = true) : s.noteVec k = s.noted k := by
  refine if_neg ?_
  rcases h with h | h <;> simp [h]

/-- R420: a masked vector sends no message. -/
theorem State.noteVec_masked (h : s.vecMasked k = true) : (s.noteVec k).hst.msgs = s.hst.msgs := by
  by_cases hquiet : s.vecOn k = false ∨ s.hst.asserted.testBit k = true
  · rw [s.noteVec_quiet hquiet]
    rfl
  · obtain ⟨hon, hwas⟩ := not_or.mp hquiet
    have hnoted : (s.noted k).vecMasked k = true := h
    rw [s.noteVec_sends (by simpa using hon) (by simpa using hwas), State.sendOrPend_masked _ hnoted]
    rfl

theorem State.noted_off (hk : k < 32) (h : s.vecOn k = false) : (s.noted k).hst.asserted.testBit k = false := by
  have hlt : 2 ^ k < 2 ^ 32 := Nat.pow_lt_pow_right (by decide) hk
  have hmask : (2 ^ 32 - 1 - 2 ^ k).testBit k = false := by
    rw [show 2 ^ 32 - 1 - 2 ^ k = 2 ^ 32 - (2 ^ k + 1) by omega, Nat.testBit_two_pow_sub_succ hlt]
    simp
  have hasserted : (s.noted k).hst.asserted = s.hst.asserted &&& (2 ^ 32 - 1 - 2 ^ k) := if_neg (by rw [h]; decide)
  rw [hasserted, Nat.testBit_and, hmask, Bool.and_false]

end

theorem Changes.sendOrPend {s u : State} {ps : List Piece} {K : Nat → Bool} {k : Nat} (ha : Piece.msi ∈ ps)
    (h : Changes s u ps K) : Changes s (u.sendOrPend k) ps K := by
  obtain ⟨a, c, e⟩ := State.sendOrPend_eq u k
  rw [e]
  exact Changes.part (u := u) .msi ha rfl rfl h

/-! ## PG_IRQST (R415, R420) -/

section
variable (s : State) {p v : Nat}

/-- R415: a write of 1 to bits of PG_IRQST. -/
def State.irqstCleared (s : State) (p v : Nat) : State := s.w1c p HDR_PG_IRQST_ST v

/-- The vector of the page is noted, and its message goes again while it is asserted. -/
theorem State.doIrqst_on (h : (s.irqstCleared p v).vecOn (vecOf p) = true) :
    s.doIrqst p v = ((s.irqstCleared p v).noteVec (vecOf p)).sendOrPend (vecOf p) :=
  if_pos ((State.vecOn_congr (State.noteVec_flds _ _) _).trans h)

theorem State.doIrqst_off (h : (s.irqstCleared p v).vecOn (vecOf p) = false) :
    s.doIrqst p v = (s.irqstCleared p v).noted (vecOf p) := by
  have hoff : ((s.irqstCleared p v).noteVec (vecOf p)).vecOn (vecOf p) = false :=
    (State.vecOn_congr (State.noteVec_flds _ _) _).trans h
  rw [← State.noteVec_quiet _ (.inl h)]
  exact if_neg (Bool.eq_false_iff.mp hoff)

theorem State.doIrqst_flds : (s.doIrqst p v).flds = (s.irqstCleared p v).flds := by
  cases h : (s.irqstCleared p v).vecOn (vecOf p) with
  | true => rw [s.doIrqst_on h, State.sendOrPend_flds, State.noteVec_flds]
  | false => rw [s.doIrqst_off h]; rfl

theorem State.doIrqst_changes : Changes s (s.doIrqst p v) [.msi] (fields (irqField p)) := by
  have hnoted : Changes s ((s.irqstCleared p v).noteVec (vecOf p)) [.msi] (fields (irqField p)) :=
    ((Changes.refl _ _ _).setFld (fields_mem (by simp [irqField]))).noteVec (by decide)
  exact Changes.ite (fun _ => hnoted.sendOrPend (by decide)) fun _ => hnoted

theorem State.arrive_freshBits (t : Time) (off v : Nat) (f : Fld) :
    (s.arrive t off v).freshBits p f = (s.at_ t).freshBits p f := by
  unfold State.arrive
  split
  · unfold State.parcel
    split <;> rfl
  · rfl

/-- R7: an instant that has just begun has no events. -/
theorem State.freshBits_of_time_moves (t : Time) (h : s.time < s.timeAt t) (f : Fld) : (s.at_ t).freshBits p f = 0 := by
  have hset : (s.at_ t).inst.set = [] := congrArg Inst.set (if_pos h)
  rw [State.freshBits, hset]
  rfl

end

theorem exec_pgIrqstWrite {s : State} {t : Time} {page : Fin 512} {v : Dword}
    (hopen : (s.at_ t).writeOpen (page.val * 4096 + 0x18) = true) : exec (.pgIrqstWrite t page v) s =
      .next ((s.arrive t (page.val * 4096 + 0x18) v.toNat).doIrqst page.val v.toNat) :=
  congrArg Host.Outcome.next (State.hostReg_header (by decide) hopen)

/-- R415, R420: a write of PG_IRQST. -/
theorem pgIrqstWrite_clears (s : State) (t : Time) (page : Fin 512) (v : Dword)
    (hopen : (s.at_ t).writeOpen (page.val * 4096 + 0x18) = true) :
    let p := page.val
    let k := vecOf page.val
    Completes (.pgIrqstWrite t page v) s fun u =>
      u.fld p HDR_PG_IRQST_ST = (s.fld p HDR_PG_IRQST_ST &&&
        ((2 ^ 32 - 1 - v.toNat) ||| (s.at_ t).freshBits p HDR_PG_IRQST_ST)) % 2 ^ 32 ∧
      (s.time < s.timeAt t → (s.at_ t).freshBits p HDR_PG_IRQST_ST = 0) ∧
      (u.vecOn k = true → s.hst.asserted.testBit k = true → s.vecMasked k = false →
        u.hst.msgs = k :: s.hst.msgs ∧ u.hst.pba = s.hst.pba) ∧
      (u.vecOn k = true → s.vecMasked k = true → u.hst.msgs = s.hst.msgs ∧ u.hst.pba.testBit k = true) ∧
      (u.vecOn k = false → u.hst.msgs = s.hst.msgs ∧ u.hst.pba = s.hst.pba ∧ u.hst.asserted.testBit k = false) ∧
      Changes (s.arrive t (p * 4096 + 0x18) v.toNat) u [.msi] (fields (irqField p)) := by
  intro p k
  refine ⟨_, exec_pgIrqstWrite hopen, ?_⟩
  generalize ha : s.arrive t (p * 4096 + 0x18) v.toNat = a
  have hhst : (a.irqstCleared p v.toNat).hst = s.hst := by rw [← ha]; exact State.arrive_hst _ _ _ _
  have hmask : (a.irqstCleared p v.toNat).vecMasked k = s.vecMasked k := State.vecMasked_congr hhst k
  have hon : (a.doIrqst p v.toNat).vecOn k = (a.irqstCleared p v.toNat).vecOn k := State.vecOn_congr a.doIrqst_flds k
  refine ⟨?_, fun h => s.freshBits_of_time_moves t h _, fun h hwas hopenV => ?_, fun h hmasked => ?_, fun h => ?_,
    a.doIrqst_changes⟩
  · rw [State.fld_of_flds a.doIrqst_flds, State.irqstCleared, State.w1c, State.fld_setFld_same, ← ha, State.arrive_fld,
      State.arrive_freshBits, Nat.mod_eq_of_lt v.isLt]
    rfl
  · rw [hon] at h
    rw [a.doIrqst_on h, State.sendOrPend_open _ (by rw [State.noteVec_vecMasked, hmask, hopenV]),
      State.noteVec_quiet _ (.inr (by rw [hhst, hwas]))]
    exact ⟨(congrArg (fun h : Hst => k :: h.msgs) hhst :), (congrArg Hst.pba hhst :)⟩
  · rw [hon] at h
    have hmasked' : (a.irqstCleared p v.toNat).vecMasked k = true := hmask.trans hmasked
    rw [a.doIrqst_on h, State.sendOrPend_masked _ (by rw [State.noteVec_vecMasked, hmasked'])]
    refine ⟨?_, ?_⟩
    · exact (State.noteVec_masked _ hmasked').trans (congrArg Hst.msgs hhst)
    · simp [k, p]
  · rw [hon] at h
    rw [a.doIrqst_off h]
    exact ⟨(congrArg Hst.msgs hhst :), (congrArg Hst.pba hhst :), State.noted_off _ (vecOf_lt p) h⟩

/-! ## MSI-X (R420) -/

/-- Taking away a power of two that is set clears its bit, and no other. -/
theorem testBit_sub_two_pow {n v : Nat} (h : n.testBit v = true) (k : Nat) :
    (n - 2 ^ v).testBit k = (n.testBit k && decide (k ≠ v)) := by
  have hsum : 2 ^ v + (n - 2 ^ v) = n := Nat.add_sub_cancel' (Nat.ge_two_pow_of_testBit h)
  rcases lt_trichotomy k v with hk | rfl | hk
  · have hlow := Nat.testBit_two_pow_add_gt hk (n - 2 ^ v)
    rw [hsum] at hlow
    simp [hlow, hk.ne]
  · have hbit := Nat.testBit_two_pow_add_eq (n - 2 ^ k) k
    rw [hsum, h] at hbit
    simpa using hbit.symm
  · obtain ⟨j, rfl⟩ := Nat.exists_eq_add_of_lt hk
    have hodd : n / 2 ^ v % 2 = 1 := by simpa [Nat.testBit_eq_decide_div_mod_eq] using h
    have hquot : (n - 2 ^ v) / 2 ^ v = n / 2 ^ v - 1 := by simpa using Nat.sub_mul_div n (2 ^ v) 1
    have hhalf : ∀ q : Nat, q % 2 = 1 → (q - 1) / 2 = q / 2 := by omega
    have hne : j + 1 + v ≠ v := by omega
    rw [show v + j + 1 = j + 1 + v by omega, Nat.testBit_add _ (j + 1) v, Nat.testBit_add n (j + 1) v, hquot,
      Nat.testBit_add_one, Nat.testBit_add_one, hhalf _ hodd, decide_eq_true hne, Bool.and_true]

section
variable (s : State) (v : Nat)

/-- R420: the pending bit of a vector is taken. -/
def State.unpended (s : State) (v : Nat) : State := s.updHst fun h => { h with pba := h.pba - 2 ^ v }

theorem State.unmasked_idle (h : s.hst.pba.testBit v = false ∨ s.vecMasked v = true) : s.unmasked v = s := by
  refine if_neg ?_
  rcases h with h | h <;> simp [h]

/-- R420: the message of a pending bit goes if its vector is still asserted. -/
theorem State.unmasked_pending (hp : s.hst.pba.testBit v = true) (hm : s.vecMasked v = false) :
    (s.unmasked v).hst = { s.hst with
      pba := s.hst.pba - 2 ^ v, msgs := if s.vecOn v = true then v :: s.hst.msgs else s.hst.msgs } := by
  have hopen : (s.unpended v).vecMasked v = false := hm
  have hon : (s.unpended v).vecOn v = s.vecOn v := State.vecOn_congr rfl v
  have hmain : s.unmasked v = if (s.unpended v).vecOn v then (s.unpended v).sendOrPend v else s.unpended v :=
    if_pos (by rw [hp, hm]; rfl)
  rw [hmain, hon]
  split
  · rw [State.sendOrPend_open _ hopen]
    rfl
  · rfl

/-- R420: what an unmasked vector leaves of the table and of the vectors asserted. -/
theorem State.unmasked_table : (s.unmasked v).hst.msix = s.hst.msix ∧ (s.unmasked v).hst.msixEn = s.hst.msixEn ∧
    (s.unmasked v).hst.msixMask = s.hst.msixMask := by
  by_cases h : s.hst.pba.testBit v = false ∨ s.vecMasked v = true
  · rw [s.unmasked_idle v h]
    exact ⟨rfl, rfl, rfl⟩
  · obtain ⟨hp, hm⟩ := not_or.mp h
    rw [s.unmasked_pending v (by simpa using hp) (by simpa using hm)]
    exact ⟨rfl, rfl, rfl⟩

theorem State.unmasked_vecMasked (k : Nat) : (s.unmasked v).vecMasked k = s.vecMasked k := by
  obtain ⟨hmsix, hen, hmask⟩ := s.unmasked_table v
  rw [State.vecMasked, hmsix, hen, hmask, State.vecMasked]

theorem State.unmasked_flds : (s.unmasked v).flds = s.flds := by
  unfold State.unmasked
  split
  · dsimp only
    split <;> rfl
  · rfl

variable {k : Nat}

theorem State.unmasked_pba_ne (h : k ≠ v) : (s.unmasked v).hst.pba.testBit k = s.hst.pba.testBit k := by
  by_cases hi : s.hst.pba.testBit v = false ∨ s.vecMasked v = true
  · rw [s.unmasked_idle v hi]
  · obtain ⟨hp, hm⟩ := not_or.mp hi
    have hp' : s.hst.pba.testBit v = true := by simpa using hp
    rw [s.unmasked_pending v hp' (by simpa using hm)]
    simp [testBit_sub_two_pow hp', h]

/-- R420: the vector is not pending, and a message of it has gone if it was asserted. -/
def State.answered (s : State) (k : Nat) (on : Bool) : Prop :=
  s.hst.pba.testBit k = false ∧ (on = true → k ∈ s.hst.msgs)

theorem State.unmasked_answers (hp : s.hst.pba.testBit v = true) (hm : s.vecMasked v = false) :
    (s.unmasked v).answered v (s.vecOn v) := by
  rw [State.answered, s.unmasked_pending v hp hm]
  refine ⟨?_, fun hon => ?_⟩
  · simp [testBit_sub_two_pow hp]
  · simp [hon]

theorem State.unmasked_keeps_answered {on : Bool} (h : s.answered k on) : (s.unmasked v).answered k on := by
  by_cases hi : s.hst.pba.testBit v = false ∨ s.vecMasked v = true
  · rwa [s.unmasked_idle v hi]
  · obtain ⟨hp, hm⟩ := not_or.mp hi
    have hp' : s.hst.pba.testBit v = true := by simpa using hp
    obtain ⟨hbit, hmsg⟩ := h
    rw [State.answered, s.unmasked_pending v hp' (by simpa using hm)]
    refine ⟨?_, fun hon => ?_⟩
    · simp [testBit_sub_two_pow hp', hbit]
    · dsimp only
      split
      · exact List.mem_cons_of_mem _ (hmsg hon)
      · exact hmsg hon

theorem Changes.unmasked {s u : State} {ps : List Piece} {K : Nat → Bool} (ha : Piece.hst ∈ ps) (h : Changes s u ps K) :
    Changes s (u.unmasked v) ps K :=
  Changes.ite (fun _ => Changes.ite (fun _ => (h.updHst ha).updHst ha) fun _ => h.updHst ha) fun _ => h

end

theorem State.doBlock_pci (s : State) (o v : Nat) : s.doBlock false pPCI o v = s.doPci o v := rfl

theorem State.doPci_table (s : State) {o : Nat} (v : Nat) (hlo : 0x800 ≤ o) (hhi : o < 0xA00) :
    s.doPci o v = s.doMsix ((o - 0x800) / 4) v := if_pos ⟨hlo, hhi⟩

/-- R420: an entry of the MSI-X table with its mask bit at 0. -/
def State.entryOpened (s : State) (k : Nat) : State :=
  s.updHst fun h => { h with msix := SMap.put 1 h.msix (4 * k + 3) 0 }

section
variable {s : State} {t : Time} (k : Fin 32)

theorem exec_msixUnmask_entry (hopen : (s.at_ t).writeOpen (pPCI * 4096 + 0x80C + 16 * k.val) = true) :
    exec (.msixUnmask t (some k)) s = .next (((s.at_ t).entryOpened k.val).unmasked k.val) := by
  have hk := k.isLt
  have hpage : (pPCI * 4096 + 0x80C + 16 * k.val) / 4096 = pPCI := by simp only [pPCI]; omega
  have hoff : (pPCI * 4096 + 0x80C + 16 * k.val) % 4096 = 0x80C + 16 * k.val := by simp only [pPCI]; omega
  have hdword : (0x80C + 16 * k.val - 0x800) / 4 = 4 * k.val + 3 := by omega
  have hlocal : forwarded (pPCI * 4096 + 0x80C + 16 * k.val) = false := by
    rw [forwarded, hpage]
    rfl
  have hreset : msixReset (4 * k.val + 3) = 1 := if_pos (by omega)
  show Host.Outcome.next (s.hostReg t (pPCI * 4096 + 0x80C + 16 * k.val) 0) = _
  rw [State.hostReg_open hopen, State.arrive_local s t _ hlocal, State.regEffect, hpage, hoff]
  rw [if_neg (by omega), State.doBlock_pci, State.doPci_table _ _ (by omega) (by omega), hdword, State.doMsix, hreset,
    show (4 * k.val + 3) / 4 = k.val by omega]
  simp only [Nat.zero_mod, ite_self]
  rfl

theorem State.entryOpened_vecMasked (u : State) (k : Nat) :
    (u.entryOpened k).vecMasked k = (!u.hst.msixEn || u.hst.msixMask) := by
  have hreset : msixReset (4 * k + 3) = 1 := if_pos (by omega)
  simp [State.vecMasked, State.entryOpened, hreset]

theorem msixUnmask_entry (hopen : (s.at_ t).writeOpen (pPCI * 4096 + 0x80C + 16 * k.val) = true) :
    Completes (.msixUnmask t (some k)) s fun u =>
      SMap.get 1 u.hst.msix (4 * k.val + 3) = 0 ∧ Changes (s.at_ t) u [.hst] noField ∧
      (s.hst.pba.testBit k.val = false ∨ s.hst.msixEn = false ∨ s.hst.msixMask = true →
        u.hst = { s.hst with msix := u.hst.msix }) ∧
      (s.hst.pba.testBit k.val = true → s.hst.msixEn = true → s.hst.msixMask = false →
        u.hst = { s.hst with
          msix := u.hst.msix, pba := s.hst.pba - 2 ^ k.val
          msgs := if s.vecOn k.val = true then k.val :: s.hst.msgs else s.hst.msgs }) := by
  refine ⟨_, exec_msixUnmask_entry k hopen, ?_, ?_, fun h => ?_, fun hp hen hfn => ?_⟩
  · rw [(State.unmasked_table _ _).1]
    exact SMap.get_put_same 1 s.hst.msix (4 * k.val + 3) 0
  · exact ((Changes.refl _ _ _).updHst (by decide)).unmasked _ (by decide)
  · rw [State.unmasked_idle]
    · rfl
    · rw [State.entryOpened_vecMasked, State.atTime_hst]
      exact h.imp_right fun h => by rcases h with h | h <;> simp [h]
  · have hmask : ((s.at_ t).entryOpened k.val).vecMasked k.val = false := by
      rw [State.entryOpened_vecMasked, State.atTime_hst, hen, hfn]
      rfl
    rw [State.unmasked_pending ((s.at_ t).entryOpened k.val) _ hp hmask, State.vecOn_congr (s := s) rfl]
    rfl

end

/-! ## The function unmasked (R420) -/

section
variable (s : State)

theorem State.unmaskedFold_changes (ks : List Nat) : Changes s (ks.foldl State.unmasked s) [.hst] noField :=
  Changes.foldl (fun _ v h => h.unmasked v (by decide)) (Changes.refl _ _ _)

theorem State.unmaskedFold_function (ks : List Nat) :
    (ks.foldl State.unmasked s).hst.msixEn = s.hst.msixEn ∧
    (ks.foldl State.unmasked s).hst.msixMask = s.hst.msixMask := by
  induction ks generalizing s with
  | nil => exact ⟨rfl, rfl⟩
  | cons v vs ih =>
    obtain ⟨-, hen, hmask⟩ := s.unmasked_table v
    obtain ⟨hen', hmask'⟩ := ih (s.unmasked v)
    exact ⟨hen'.trans hen, hmask'.trans hmask⟩

theorem State.unmaskedFold_keeps_answered (ks : List Nat) {k : Nat} {on : Bool} (h : s.answered k on) :
    (ks.foldl State.unmasked s).answered k on := by
  induction ks generalizing s with
  | nil => exact h
  | cons v vs ih => exact ih _ (s.unmasked_keeps_answered v h)

/-- R420: each vector that is pending and not masked is answered. -/
theorem State.unmaskedFold_answers (ks : List Nat) {k : Nat} (hk : k ∈ ks) (hp : s.hst.pba.testBit k = true)
    (hm : s.vecMasked k = false) : (ks.foldl State.unmasked s).answered k (s.vecOn k) := by
  induction ks generalizing s with
  | nil => cases hk
  | cons v vs ih =>
    by_cases hkv : k = v
    · subst hkv
      exact State.unmaskedFold_keeps_answered _ vs (s.unmasked_answers k hp hm)
    · have hmem : k ∈ vs := (List.mem_cons.mp hk).resolve_left hkv
      rw [← State.vecOn_congr (s.unmasked_flds v)]
      exact ih _ hmem ((s.unmasked_pba_ne v hkv).trans hp) ((s.unmasked_vecMasked v k).trans hm)

end

/-- R420: MSI-X is enabled, and the function is not masked. -/
def State.functionOpened (s : State) : State := s.updHst fun h => { h with msixEn := true, msixMask := false }

section
variable {s : State} {t : Time}

theorem exec_msixUnmask_function (hup : s.pwr.up = true) (hperst : s.pwr.perst = false)
    (hl0 : s.bit pPCI PCI_LINK_L0 = true) : exec (.msixUnmask t none) s =
      .next ((List.range 32).foldl State.unmasked (s.at_ t).functionOpened) := by
  have hl0' : (s.at_ t).bit pPCI PCI_LINK_L0 = true := hl0
  show execMsixUnmask t none s = _
  simp only [execMsixUnmask, State.atTime_pwr, hup, hperst, hl0']
  rfl

theorem msixUnmask_function (hup : s.pwr.up = true) (hperst : s.pwr.perst = false)
    (hl0 : s.bit pPCI PCI_LINK_L0 = true) : Completes (.msixUnmask t none) s fun u =>
      u.hst.msixEn = true ∧ u.hst.msixMask = false ∧ Changes (s.at_ t) u [.hst] noField ∧
      (∀ k < 32, s.hst.pba.testBit k = true → SMap.get 1 s.hst.msix (4 * k + 3) % 2 = 0 →
        u.hst.pba.testBit k = false ∧ (s.vecOn k = true → k ∈ u.hst.msgs)) := by
  refine ⟨_, exec_msixUnmask_function hup hperst hl0, ?_⟩
  obtain ⟨hen, hmask⟩ := (s.at_ t).functionOpened.unmaskedFold_function (List.range 32)
  refine ⟨hen, hmask, ((Changes.refl _ _ _).updHst (by decide)).trans (State.unmaskedFold_changes _ _),
    fun k hk hp hbit => ?_⟩
  have hreset : msixReset (4 * k + 3) = 1 := if_pos (by omega)
  have hopen : (s.at_ t).functionOpened.vecMasked k = false := by
    simp [State.vecMasked, State.functionOpened, hreset, hbit]
  exact (s.at_ t).functionOpened.unmaskedFold_answers _ (List.mem_range.mpr hk) hp hopen

end

/-! ## The commands of PG_CTRL and PG_LOCK -/

section
variable {s : State} {t : Time} {page : Fin 512}

/-- What a write of PG_CTRL of the page acts on. -/
def State.ctrl (s : State) (t : Time) (p v : Nat) : State := s.arrive t (p * 4096 + 8) v

theorem Completes.ctrl {c : Instr} {P : State → Prop} {v : Nat} {eff : State → State}
    (hopen : (s.at_ t).writeOpen (page.val * 4096 + 8) = true) (he : exec c s = .next (s.hostCtrl t page.val v eff))
    (hp : P (eff (s.ctrl t page.val v))) : Completes c s P :=
  ⟨_, he, by rw [State.hostCtrl_open hopen]; exact hp⟩

variable (hopen : (s.at_ t).writeOpen (page.val * 4096 + 8) = true)
include hopen

theorem pgCtrlEn_writes (x : Bool) :
    let p := page.val
    let a := s.ctrl t p (x.toNat + 4 * s.fld p HDR_PG_CTRL_FREEZE)
    (fixedEn p = true → Completes (.pgCtrlEn t page x) s fun u => u = a) ∧
    (x = false → s.mayDisable p = false → fixedEn p = false →
      (pgClass p = .je → Completes (.pgCtrlEn t page x) s fun u => RaisesOnly a u p JE_E_ENBUSY) ∧
      (pgClass p ≠ .je → Completes (.pgCtrlEn t page x) s fun u => u = a)) ∧
    (x = true ∨ s.mayDisable p = true → pgClass p ∈ plainEn → Completes (.pgCtrlEn t page x) s fun u =>
      u.fld p HDR_PG_CTRL_EN = x.toNat ∧ Changes a u [] (fields [(p, HDR_PG_CTRL_EN)])) ∧
    (pgClass p ∈ [.ul, .ang, .adc] → Completes (.pgCtrlEn t page x) s fun u => u.fld p HDR_PG_CTRL_EN = x.toNat) := by
  intro p a
  have hmay : a.mayDisable p = s.mayDisable p := s.arrive_mayDisable t _ _
  have hrun {P : State → Prop} (hP : P (a.doEn p x)) : Completes (.pgCtrlEn t page x) s P := Completes.ctrl hopen rfl hP
  refine ⟨fun hf => hrun (a.doEn_fixed x hf), fun hx hm hf => ?_, fun hx hc => hrun ?_,
    fun hc => hrun (a.doEn_writes x hc)⟩
  · subst hx
    have hrefused := a.doEn_refused hf (hmay.trans hm)
    refine ⟨fun hje => hrun ?_, fun hje => hrun (hrefused.trans (if_neg hje))⟩
    rw [hrefused, if_pos hje]
    exact State.err_raises _ _ _
  · rw [a.doEn_plain x hc (by rwa [hmay]), State.fld_setBit_same]
    exact ⟨Nat.mod_eq_of_lt (Bool.toNat_lt x), (Changes.refl a _ _).setBit (fields_mem (by simp))⟩

theorem pgCtrlSrst_resets :
    let p := page.val
    let a := s.ctrl t p (2 + s.fld p HDR_PG_CTRL_EN + 4 * s.fld p HDR_PG_CTRL_FREEZE)
    (s.bit p HDR_PG_CTRL_EN = true → pgClass p ∉ liveSrst → Completes (.pgCtrlSrst t page) s fun u => u = a) ∧
    (s.bit p HDR_PG_CTRL_EN = false →
      (pgClass p = .ctx → Completes (.pgCtrlSrst t page) s fun u => u.ctx = Ctx.reset ∧ u.jer = s.jer ∧ u.plc = s.plc) ∧
      (pgClass p = .frm → Completes (.pgCtrlSrst t page) s fun u =>
        u.frmState = 0 ∧ u.frm.issued = [] ∧ u.frm.inFrame = false ∧ u.ctx = s.ctx) ∧
      (pgClass p = .adc → Completes (.pgCtrlSrst t page) s fun u =>
        u.fld p ADC_CTRL_CHEN = 0 ∧ u.pwr = { s.pwr with adcMask := 0 })) ∧
    (pgClass p = .je → Completes (.pgCtrlSrst t page) s fun u =>
      u.fld p JE_FLTCNT_COUNT = 0 ∧ u.bit p JE_FLTLAST_VALID = false ∧ u.fld p JE_VISITS_COUNT = 0 ∧
      u.fld p JE_LOADMAX_CYCLES = 0 ∧ Changes a u [] (pages [p])) := by
  intro p a
  have hbit : a.bit p HDR_PG_CTRL_EN = s.bit p HDR_PG_CTRL_EN := s.arrive_bit t _ _ _ _
  have hrun {P : State → Prop} (hP : P (a.doSrst p)) : Completes (.pgCtrlSrst t page) s P := Completes.ctrl hopen rfl hP
  have hctx : a.ctx = s.ctx := s.arrive_ctx t _ _
  have hjer : a.jer = s.jer := s.arrive_jer t _ _
  have hplc : a.plc = s.plc := s.arrive_plc t _ _
  have hpwr : a.pwr = s.pwr := s.arrive_pwr t _ _
  refine ⟨fun hen hc => hrun (a.doSrst_enabled (hbit.trans hen) hc),
    fun hen => ⟨fun hc => hrun ?_, fun hc => hrun ?_, fun hc => hrun ?_⟩, fun hc => hrun ?_⟩
  · have hp : p = pCTX := pgClass_eq_ctx hc
    rw [hp] at hbit hen ⊢
    obtain ⟨hreset, hj, hpl⟩ := a.softCtx_parts
    rw [a.doSrst_ctx (hbit.trans hen)]
    exact ⟨hreset, hj.trans hjer, hpl.trans hplc⟩
  · have hp : p = pFRM := pgClass_eq_frm hc
    rw [hp] at hbit hen ⊢
    obtain ⟨hstop, hissued, hin, hc⟩ := a.softFrm_stops
    rw [a.doSrst_frm (hbit.trans hen)]
    exact ⟨hstop, hissued, hin, hc.trans hctx⟩
  · have hp : p = pADC := pgClass_eq_adc hc
    rw [hp] at hbit hen ⊢
    obtain ⟨hchen, hpw⟩ := a.softAdc_clears
    rw [a.doSrst_adc (hbit.trans hen), State.updPwr_fld, State.updPwr_pwr, hpw, hpwr]
    exact ⟨hchen, rfl⟩
  · have hzero {f : Fld} (hf : f ∈ [JE_FLTCNT_COUNT, JE_FLTLAST_VALID, JE_VISITS_COUNT, JE_LOADMAX_CYCLES]) :=
      a.softJe_fld (softJeFields_records p f hf)
    rw [a.doSrst_je hc]
    refine ⟨hzero (by decide), ?_, hzero (by decide), hzero (by decide), a.softJe_changes⟩
    rw [State.bit, hzero (by decide)]
    rfl

theorem pgCtrlFreeze_freezes (on : Bool) :
    let p := page.val
    let a := s.ctrl t p (4 * on.toNat + s.fld p HDR_PG_CTRL_EN)
    (noFreeze p = true → Completes (.pgCtrlFreeze t page on) s fun u => u = a) ∧
    (noFreeze p = false → Completes (.pgCtrlFreeze t page on) s fun u =>
      u.fld p HDR_PG_CTRL_FREEZE = on.toNat ∧ u.hst = { s.hst with frozen := u.hst.frozen } ∧
      (on = true → ∀ f ∈ fieldsOf p, f.snap = true → SMap.get 0 u.hst.frozen (fldKey p f) =
        ((a.derived p f).getD (s.fld p f)) % 2 ^ f.wid) ∧
      Changes a u [.hst] (fields [(p, HDR_PG_CTRL_FREEZE)])) := by
  intro p a
  refine ⟨fun h => Completes.ctrl hopen rfl (a.doFreeze_none h on), fun h => Completes.ctrl hopen rfl ?_⟩
  obtain ⟨hbit, hhst, hchanges⟩ := a.doFreeze_freezes h on
  rw [show a.hst = s.hst from s.arrive_hst t _ _] at hhst
  refine ⟨hbit, hhst, fun hon f hf hsnap => ?_, hchanges⟩
  have hheld := a.freezePage_holds hf hsnap
  rw [show a.fld p f = s.fld p f from s.arrive_fld t _ _ _ _] at hheld
  rwa [← show a.doFreeze p on = a.freezePage p from (a.doFreeze_eq h on).trans (if_pos hon)] at hheld

end

theorem pgLockWrite_locks (s : State) (t : Time) (page : Fin 512) (v : Dword)
    (hopen : (s.at_ t).writeOpen (page.val * 4096 + 0x1C) = true) :
    let p := page.val
    let a := s.arrive t (p * 4096 + 0x1C) v.toNat
    (HDR_PG_LOCK_KEY.of v.toNat ≠ 0xC10C → Completes (.pgLockWrite t page v) s fun u =>
      u.fld p HDR_PG_LOCK_VIOL = 1 ∧ Changes a u [] (fields [(p, HDR_PG_LOCK_VIOL)])) ∧
    (HDR_PG_LOCK_KEY.of v.toNat = 0xC10C → Completes (.pgLockWrite t page v) s fun u =>
      u.fld p HDR_PG_LOCK_LOCKED = v.toNat % 2 ∧
      u.fld p HDR_PG_LOCK_VIOL = (if v.toNat / 2 % 2 = 1 then 0 else s.fld p HDR_PG_LOCK_VIOL) ∧
      Changes a u [] (fields [(p, HDR_PG_LOCK_LOCKED), (p, HDR_PG_LOCK_VIOL)])) := by
  intro p a
  have hexec : exec (.pgLockWrite t page v) s = .next (a.doLock p v.toNat) :=
    congrArg Host.Outcome.next (State.hostReg_header (by decide) hopen)
  have hkeys : fldKey p HDR_PG_LOCK_VIOL ≠ fldKey p HDR_PG_LOCK_LOCKED := fldKey_field_ne _ _ _ (by decide)
  refine ⟨fun h => ⟨_, hexec, ?_⟩, fun h => ⟨_, hexec, ?_⟩⟩
  · rw [a.doLock_violates h]
    exact ⟨State.fld_setFld_same _ _ _ _, (Changes.refl _ _ _).setFld (fields_mem (by simp))⟩
  · rw [a.doLock_keyed h]
    refine ⟨?_, ?_, (a.violCleared_changes).store (fields_mem (by simp))⟩
    · exact (State.fld_store_same _ _ _ _).trans (congrArg (· % 2) (Nat.div_one _))
    · rw [State.fld_store_ne _ _ _ _ _ _ hkeys, a.violCleared_viol,
        show a.fld p HDR_PG_LOCK_VIOL = s.fld p HDR_PG_LOCK_VIOL from s.arrive_fld t _ _ _ _]

/-- Settles O54: each write of a page's header takes the branch of its register that the page's class and state
select; a pending vector is answered when its last mask goes, and no other vector's unmasking undoes it. -/
theorem pagesAndInterrupts : Obligations.PagesAndInterrupts :=
  ⟨fun s t page =>
    ⟨fun hopen => ⟨pgCtrlEn_writes hopen, pgCtrlSrst_resets hopen, pgCtrlFreeze_freezes hopen⟩,
      pgLockWrite_locks s t page⟩,
   fun s t => ⟨pgIrqstWrite_clears s t, fun k => msixUnmask_entry k, msixUnmask_function⟩⟩

end Sys2Proof.Machine

/-! # Decoding and encoding of engine instructions (R113 to R120) -/

namespace Sys2Proof

/-! ## Words and their bit fields (R113) -/

theorem toNat_wd {n : Nat} (h : n < 1024) : (wd n).toNat = n :=
  (BitVec.toNat_ofNat n 10).trans (Nat.mod_eq_of_lt h)

theorem bitsOf_wd {n : Nat} (h : n < 1024) (lo k : Nat) : bitsOf (wd n) lo k = n / 2 ^ lo % 2 ^ k := by
  rw [bitsOf, toNat_wd h]

theorem wd_toNat (w : Word) : wd w.toNat = w := BitVec.eq_of_toNat_eq (toNat_wd w.isLt)

theorem eq_wd {w : Word} {n : Nat} (h : w.toNat = n) : w = wd n := by rw [← h, wd_toNat]

/-- An index that fills the low bits of a word. -/
theorem wd_fin_toNat {w : Word} {k : Nat} [NeZero k] (h : w.toNat < k) : wd (Fin.ofNat k w.toNat).val = w :=
  (eq_wd (Nat.mod_eq_of_lt h).symm).symm

/-! ## Syllables (R113) -/

section
variable (s0 s1 s2 s3 : Word)

theorem ofSyl_syl (c : Code) : ofSyl (syl c 0) (syl c 1) (syl c 2) (syl c 3) = c := by
  have h32 := BitVec.extractLsb'_append_extractLsb'_eq_extractLsb' (x := c) (start₁ := 20) (len₁ := 10) (len₂ := 10) rfl
  have h31 := BitVec.extractLsb'_append_extractLsb'_eq_extractLsb' (x := c) (start₁ := 10) (len₁ := 10) (len₂ := 20) rfl
  have h30 := BitVec.extractLsb'_append_extractLsb'_eq_extractLsb' (x := c) (start₁ := 0) (len₁ := 10) (len₂ := 30) rfl
  show c.extractLsb' 30 10 ++ c.extractLsb' 20 10 ++ c.extractLsb' 10 10 ++ c.extractLsb' 0 10 = c
  rw [h32, h31, h30, BitVec.extractLsb'_eq_self]

theorem syl_zero : syl (ofSyl s0 s1 s2 s3) 0 = s0 := by
  rw [syl, ofSyl, BitVec.extractLsb'_append_eq_of_add_le (by decide), BitVec.extractLsb'_eq_self]

theorem syl_one : syl (ofSyl s0 s1 s2 s3) 1 = s1 := by
  rw [syl, ofSyl, BitVec.extractLsb'_append_eq_of_le (by decide), BitVec.extractLsb'_append_eq_of_add_le (by decide),
    BitVec.extractLsb'_eq_self]

theorem syl_two : syl (ofSyl s0 s1 s2 s3) 2 = s2 := by
  rw [syl, ofSyl, BitVec.extractLsb'_append_eq_of_le (by decide), BitVec.extractLsb'_append_eq_of_le (by decide),
    BitVec.extractLsb'_append_eq_of_add_le (by decide), BitVec.extractLsb'_eq_self]

theorem syl_three : syl (ofSyl s0 s1 s2 s3) 3 = s3 := by
  rw [syl, ofSyl, BitVec.extractLsb'_append_eq_of_le (by decide), BitVec.extractLsb'_append_eq_of_le (by decide),
    BitVec.extractLsb'_append_eq_of_le (by decide), BitVec.extractLsb'_eq_self]

@[simp] theorem decodeE_ofSyl : decodeE (ofSyl s0 s1 s2 s3) = decSyl s0 s1 s2 s3 := by
  rw [decodeE, syl_zero, syl_one, syl_two, syl_three]

end

/-! ## S0 (R113, R120) -/

section
variable {op m : Nat} {i : Bool}

/-- R120: a modifier of one bit. -/
theorem modifier_eq {m : Nat} {u : Bool} : (m < 2 ∧ decide (m = 1) = u) ↔ m = u.toNat := by
  cases u <;> simp <;> omega

theorem encS0_lt (hop : op < 64) (hm : m < 8) : op * 16 + i.toNat * 8 + m < 1024 := by
  have := i.toNat_lt; omega

@[simp] theorem bitsOf_encS0_op (hop : op < 64) (hm : m < 8) : bitsOf (encS0 op i m) 4 6 = op := by
  have := i.toNat_lt
  rw [encS0, bitsOf_wd (encS0_lt hop hm)]; omega

@[simp] theorem bitsOf_encS0_i (hop : op < 64) (hm : m < 8) : decide (bitsOf (encS0 op i m) 3 1 = 1) = i := by
  rw [encS0, bitsOf_wd (encS0_lt hop hm)]
  cases i <;> simp only [Bool.toNat_false, Bool.toNat_true, decide_eq_true_eq, decide_eq_false_iff_not] <;> omega

@[simp] theorem bitsOf_encS0_m (hop : op < 64) (hm : m < 8) : bitsOf (encS0 op i m) 0 3 = m := by
  have := i.toNat_lt
  rw [encS0, bitsOf_wd (encS0_lt hop hm)]; omega

theorem bitsOf_lt (w : Word) (lo n : Nat) : bitsOf w lo n < 2 ^ n := Nat.mod_lt _ (Nat.two_pow_pos n)

theorem encS0_bitsOf (w : Word) : encS0 (bitsOf w 4 6) (decide (bitsOf w 3 1 = 1)) (bitsOf w 0 3) = w := by
  have hw := w.isLt
  refine (eq_wd ?_).symm
  rw [← modifier_eq.mp ⟨bitsOf_lt w 3 1, rfl⟩]
  simp only [bitsOf]
  omega

end

/-! ## Specifiers (R114, R115, R120) -/

/-- R114: the kind and the field of a specifier. -/
theorem kind_field {k f n : Nat} (hn : n = k * 64 + f) (hk : k < 16) (hf : f < 64) :
    bitsOf (wd n) 6 4 = k ∧ bitsOf (wd n) 0 6 = f := by
  have hlt : n < 1024 := by omega
  rw [bitsOf_wd hlt, bitsOf_wd hlt]
  omega

theorem wd_kind_field (w : Word) : w = wd (bitsOf w 6 4 * 64 + bitsOf w 0 6) := by
  have hw := w.isLt
  refine eq_wd ?_
  simp only [bitsOf]
  omega

/-- R114: every source is read back from its specifier. -/
@[simp] theorem decSrc_encSrc (s : Src) : decSrc (encSrc s) = some s := by
  cases s with
  | v n =>
    obtain ⟨hk, hf⟩ := kind_field (k := 0) (f := n.val) (n := n.val) (by omega) (by decide) (by omega)
    simp only [decSrc, encSrc, hk, hf, if_pos n.isLt, Fin.ofNat_val_eq_self]
  | w n =>
    obtain ⟨hk, hf⟩ := kind_field (k := 1) (n := 0x40 + n.val) rfl (by decide) n.isLt
    simp only [decSrc, encSrc, hk, hf, Fin.ofNat_val_eq_self]
  | a n l =>
    obtain ⟨hk, hf⟩ := kind_field (k := 2) (f := n.val * 4 + l.val) (n := 0x80 + n.val * 4 + l.val) (by omega)
      (by decide) (by omega)
    have hn : (n.val * 4 + l.val) / 4 = n.val := by omega
    have hl : (n.val * 4 + l.val) % 4 = l.val := by omega
    simp only [decSrc, encSrc, hk, hf, hn, hl, Fin.ofNat_val_eq_self]
    exact if_pos ⟨by omega, l.isLt⟩
  | smp => rfl
  | zero => rfl
  | angw u k =>
    obtain ⟨hk, hf⟩ := kind_field (k := 5) (f := u.val * 8 + k.val) (n := 0x140 + u.val * 8 + k.val) (by omega)
      (by decide) (by omega)
    have hu : (u.val * 8 + k.val) / 8 = u.val := by omega
    have hw : (u.val * 8 + k.val) % 8 = k.val := by omega
    simp only [decSrc, encSrc, hk, hf, hu, hw, Fin.ofNat_val_eq_self]

/-- R114: no other specifier is read as that source. -/
theorem encSrc_of_decSrc {w : Word} {s : Src} (h : decSrc w = some s) : w = encSrc s := by
  have hf := bitsOf_lt w 0 6
  rw [wd_kind_field w]
  unfold decSrc at h
  generalize bitsOf w 6 4 = k at h ⊢
  generalize bitsOf w 0 6 = f at h hf ⊢
  dsimp only at h
  split at h
  case h_1 =>
    obtain ⟨hv, hs⟩ := Option.ite_none_right_eq_some.mp h
    cases hs
    simp only [encSrc, Fin.val_ofNat, Nat.mod_eq_of_lt hv, Nat.zero_mul, Nat.zero_add]
  case h_2 =>
    cases h
    exact congrArg (fun k => wd (64 + k)) (Nat.mod_eq_of_lt hf).symm
  case h_3 =>
    obtain ⟨⟨hn, hl⟩, hs⟩ := Option.ite_none_right_eq_some.mp h
    cases hs
    refine congrArg wd ?_
    simp only [Fin.val_ofNat]
    omega
  case h_4 =>
    obtain ⟨rfl, hs⟩ := Option.ite_none_right_eq_some.mp h
    cases hs
    rfl
  case h_5 =>
    obtain ⟨rfl, hs⟩ := Option.ite_none_right_eq_some.mp h
    cases hs
    rfl
  case h_6 =>
    cases h
    refine congrArg wd ?_
    simp only [Fin.val_ofNat]
    omega
  case h_7 => cases h

theorem decSrc_eq_some {w : Word} {s : Src} : decSrc w = some s ↔ w = encSrc s :=
  ⟨encSrc_of_decSrc, fun h => h ▸ decSrc_encSrc s⟩

theorem decV_eq_some {w : Word} {n : VReg} : decV w = some n ↔ w = encV n := by
  constructor
  · intro h
    unfold decV at h
    split at h
    next hs => cases h; exact encSrc_of_decSrc hs
    next => cases h
  · rintro rfl
    rw [decV, show encV n = encSrc (.v n) from rfl, decSrc_encSrc]

@[simp] theorem decV_encV (n : VReg) : decV (encV n) = some n := decV_eq_some.mpr rfl

theorem decA_eq_some {w : Word} {n : AReg} : decA w = some n ↔ w = encA n := by
  constructor
  · intro h
    unfold decA at h
    split at h
    next hs =>
      obtain ⟨rfl, hn⟩ := Option.ite_none_right_eq_some.mp h
      cases hn
      exact encSrc_of_decSrc hs
    next => cases h
  · rintro rfl
    rw [decA, show encA n = encSrc (.a n 0) from rfl, decSrc_encSrc]
    rfl

@[simp] theorem decA_encA (n : AReg) : decA (encA n) = some n := decA_eq_some.mpr rfl

/-- R115: the I bit says whether S3 is an immediate. -/
theorem decSrcI_eq_some {i : Bool} {w : Word} {b : SrcI} :
    decSrcI i w = some b ↔ i = (encSrcI b).1 ∧ w = (encSrcI b).2 := by
  cases i <;> cases b <;> simp [decSrcI, encSrcI, decSrc_eq_some]

@[simp] theorem decSrcI_encSrcI (b : SrcI) : decSrcI (encSrcI b).1 (encSrcI b).2 = some b :=
  decSrcI_eq_some.mpr ⟨rfl, rfl⟩

theorem decIdx_eq_some {w : Word} {x : Idx} : decIdx w = some x ↔ w = encIdx x := by
  constructor
  · intro h
    unfold decIdx at h
    split at h
    case h_1 hs | h_2 hs => cases h; exact encSrc_of_decSrc hs
    case h_3 => cases h
  · rintro rfl
    cases x with
    | v n => rw [decIdx, show encIdx (.v n) = encSrc (.v n) from rfl, decSrc_encSrc]
    | zero => rw [decIdx, show encIdx .zero = encSrc .zero from rfl, decSrc_encSrc]

@[simp] theorem decIdx_encIdx (x : Idx) : decIdx (encIdx x) = some x := decIdx_eq_some.mpr rfl

theorem decBase_eq_some {w : Word} {b : Base} : decBase w = some b ↔ w = encBase b := by
  constructor
  · intro h
    unfold decBase at h
    split at h
    case h_1 hs | h_2 hs | h_4 hs | h_5 hs => cases h; exact encSrc_of_decSrc hs
    case h_3 hs =>
      obtain ⟨rfl, hn⟩ := Option.ite_none_right_eq_some.mp h
      cases hn
      exact encSrc_of_decSrc hs
    case h_6 => cases h
  · rintro rfl
    cases b with
    | v n => rw [decBase, show encBase (.v n) = encSrc (.v n) from rfl, decSrc_encSrc]
    | w n => rw [decBase, show encBase (.w n) = encSrc (.w n) from rfl, decSrc_encSrc]
    | a n => rw [decBase, show encBase (.a n) = encSrc (.a n 0) from rfl, decSrc_encSrc]; rfl
    | zero => rw [decBase, show encBase .zero = encSrc .zero from rfl, decSrc_encSrc]
    | angw u k => rw [decBase, show encBase (.angw u k) = encSrc (.angw u k) from rfl, decSrc_encSrc]

@[simp] theorem decBase_encBase (b : Base) : decBase (encBase b) = some b := decBase_eq_some.mpr rfl

theorem val_ofNat_bitsOf (w : Word) (lo : Nat) : (Fin.ofNat 16 (bitsOf w lo 4)).val = bitsOf w lo 4 :=
  Nat.mod_eq_of_lt (bitsOf_lt w lo 4)

/-- R120: a condition or a target above a working register. -/
theorem kind_dest {k n : Nat} (hk : k < 16) (hn : n < 16) :
    bitsOf (wd (k * 64 + n)) 6 4 = k ∧ bitsOf (wd (k * 64 + n)) 4 2 = 0 ∧ bitsOf (wd (k * 64 + n)) 0 4 = n := by
  have hlt : k * 64 + n < 1024 := by omega
  rw [bitsOf_wd hlt, bitsOf_wd hlt, bitsOf_wd hlt]
  omega

theorem wd_kind_dest {w : Word} (h : bitsOf w 4 2 = 0) : w = wd (bitsOf w 6 4 * 64 + bitsOf w 0 4) := by
  have hw := w.isLt
  refine eq_wd ?_
  simp only [bitsOf] at h ⊢
  omega

/-! ## Modifiers and conditions (R119, R120, R124) -/

@[simp] theorem condOf_condNum (c : Cond) : condOf (condNum c) = c := by cases c <;> rfl

theorem condNum_lt (c : Cond) : condNum c < 16 := by cases c <;> decide

theorem condNum_condOf {n : Nat} (h : n < 16) : condNum (condOf n) = n := by
  interval_cases n <;> rfl

/-- R119: S1 of BR and SKIP. -/
theorem wd_cond {w : Word} (h : bitsOf w 0 6 = 0) : wd (condNum (condOf (bitsOf w 6 4)) * 64) = w := by
  rw [condNum_condOf (bitsOf_lt w 6 4)]
  conv => rhs; rw [wd_kind_field w, h, Nat.add_zero]

/-- R119: S1 of SEL. -/
theorem wd_cond_dest {w : Word} (h : bitsOf w 4 2 = 0) :
    wd (condNum (condOf (bitsOf w 6 4)) * 64 + (Fin.ofNat 16 (bitsOf w 0 4)).val) = w := by
  rw [condNum_condOf (bitsOf_lt w 6 4), val_ofNat_bitsOf]
  exact (wd_kind_dest h).symm

/-- R126: the target of BR, in S2 and S3. -/
theorem toNat_target {hi lo : Word} (h : hi.toNat < 4) :
    (BitVec.ofNat 12 (hi.toNat * 1024 + lo.toNat)).toNat = hi.toNat * 1024 + lo.toNat := by
  have hlo := lo.isLt
  exact (BitVec.toNat_ofNat _ _).trans (Nat.mod_eq_of_lt (by omega))

theorem wd_target_hi {hi lo : Word} (h : hi.toNat < 4) :
    wd ((BitVec.ofNat 12 (hi.toNat * 1024 + lo.toNat)).toNat / 1024) = hi := by
  have hlo := lo.isLt
  rw [toNat_target h]
  exact (eq_wd (by omega)).symm

theorem wd_target_lo {hi lo : Word} (h : hi.toNat < 4) :
    wd (BitVec.ofNat 12 (hi.toNat * 1024 + lo.toNat)).toNat = lo := by
  have hlo := lo.isLt
  rw [toNat_target h]
  refine BitVec.eq_of_toNat_eq ((BitVec.toNat_ofNat _ _).trans ?_)
  omega

theorem mulModeOf_eq_some {m : Nat} {mode : MulMode} : mulModeOf m = some mode ↔ m = mulModeNum mode := by
  constructor
  · intro h
    unfold mulModeOf at h
    split at h <;> cases h <;> rfl
  · rintro rfl
    cases mode <;> rfl

/-! ## Operands of a three-operand operation (R120) -/

theorem decAlu_eq_some {i : Bool} {s1 s2 s3 : Word} {o : Alu} : decAlu i s1 s2 s3 = some o ↔
    s1 = encV o.d ∧ s2 = encSrc o.a ∧ i = (encSrcI o.b).1 ∧ s3 = (encSrcI o.b).2 := by
  constructor
  · intro h
    unfold decAlu at h
    split at h
    next hd ha hb =>
      cases h
      exact ⟨decV_eq_some.mp hd, decSrc_eq_some.mp ha, decSrcI_eq_some.mp hb⟩
    next => cases h
  · rintro ⟨hd, ha, hb⟩
    rw [decAlu, decV_eq_some.mpr hd, decSrc_eq_some.mpr ha, decSrcI_eq_some.mpr hb]

theorem decAluU_eq_some {i : Bool} {m : Nat} {s1 s2 s3 : Word} {o : AluU} : decAluU i m s1 s2 s3 = some o ↔
    m = o.u.toNat ∧ s1 = encV o.d ∧ s2 = encSrc o.a ∧ i = (encSrcI o.b).1 ∧ s3 = (encSrcI o.b).2 := by
  constructor
  · intro h
    obtain ⟨hm, h⟩ := Option.ite_none_right_eq_some.mp h
    obtain ⟨p, hp, rfl⟩ := Option.map_eq_some_iff.mp h
    exact ⟨modifier_eq.mp ⟨hm, rfl⟩, decAlu_eq_some.mp hp⟩
  · rintro ⟨hm, hab⟩
    obtain ⟨hlt, hu⟩ := modifier_eq.mpr hm
    rw [decAluU, if_pos hlt, (decAlu_eq_some (o := ⟨o.d, o.a, o.b⟩)).mpr hab, Option.map_some, hu]

theorem decMul_eq_some {i : Bool} {m : Nat} {s1 s2 s3 : Word} {o : MulOp} : decMul i m s1 s2 s3 = some o ↔
    m = mulModeNum o.mode ∧ s1 = encA o.d ∧ s2 = encSrc o.a ∧ i = (encSrcI o.b).1 ∧ s3 = (encSrcI o.b).2 := by
  constructor
  · intro h
    unfold decMul at h
    split at h
    next hm hd ha hb =>
      cases h
      exact ⟨mulModeOf_eq_some.mp hm, decA_eq_some.mp hd, decSrc_eq_some.mp ha, decSrcI_eq_some.mp hb⟩
    next => cases h
  · rintro ⟨hm, hd, ha, hb⟩
    rw [decMul, mulModeOf_eq_some.mpr hm, decA_eq_some.mpr hd, decSrc_eq_some.mpr ha, decSrcI_eq_some.mpr hb]

/-! ## The table of the operations (R116, R120) -/

/-- R116, R120: an admitted operation is read back from its encoding. -/
theorem decodeE_encodeE {x : EInstr} (h : x.wf = true) : decodeE (encodeE x) = some x := by
  cases x with
  | nop | endv | hold => rfl
  | add o | sub o | and o | or o | xor o | shl o | shr o | asr o | lut o =>
    have hb := (decAlu_eq_some (o := o)).mpr ⟨rfl, rfl, rfl, rfl⟩
    simp [encodeE, encAlu, decSyl, hb]
  | adds o | subs o | min o | max o =>
    have hb := (decAluU_eq_some (o := o)).mpr ⟨rfl, rfl, rfl, rfl, rfl⟩
    have hm : o.u.toNat < 8 := by have := o.u.toNat_lt; omega
    simp [encodeE, encAlu, decSyl, hb, hm]
  | mul o | mac o =>
    have hb := (decMul_eq_some (o := o)).mpr ⟨rfl, rfl, rfl, rfl, rfl⟩
    have hm : mulModeNum o.mode < 8 := by cases o.mode <;> decide
    simp [encodeE, decSyl, hb, hm]
  | ldw d i b | stw d i b =>
    have hb : (wd b.val).toNat = b.val := toNat_wd (by omega)
    simp [encodeE, decSyl, hb]
  | mov | cmp | aclr | emit | safe => simp [encodeE, decSyl]
  | ldi _ u | ashr _ u | ast _ u => cases u <;> simp [encodeE, decSyl]
  | br c t =>
    obtain ⟨hk, hf⟩ := kind_field (k := condNum c) (f := 0) rfl (condNum_lt c) (by decide)
    have ht := t.isLt
    have hhi : (wd (t.toNat / 1024)).toNat = t.toNat / 1024 := toNat_wd (by omega)
    have hlo : (wd t.toNat).toNat = t.toNat % 1024 := BitVec.toNat_ofNat _ _
    have hcut : t.toNat / 1024 < 4 := by omega
    have htarget : BitVec.ofNat 12 (t.toNat / 1024 * 1024 + t.toNat % 1024) = t := by
      rw [Nat.div_add_mod', BitVec.ofNat_toNat, BitVec.setWidth_eq]
    simp only [Nat.add_zero] at hk hf
    simp [encodeE, decSyl, hk, hf, hhi, hlo, hcut, htarget]
  | skip c k =>
    obtain ⟨hk, hf⟩ := kind_field (k := condNum c) (f := 0) rfl (condNum_lt c) (by decide)
    simp only [Nat.add_zero] at hk hf
    simp [encodeE, decSyl, hk, hf]
  | sel c o =>
    obtain ⟨hk, hz, hd⟩ := kind_dest (condNum_lt c) o.d.isLt
    simp [encodeE, decSyl, hk, hz, hd]
  | ang d u f =>
    have hu : (wd u.val).toNat = u.val := toNat_wd (by omega)
    simp [encodeE, decSyl, hu]
  | fcall f =>
    obtain ⟨hk, hz, hd⟩ := kind_dest f.target.isLt f.d.isLt
    obtain ⟨hfirst, hdest⟩ := (Bool.and_eq_true _ _).mp h
    have hm : f.r2.toNat * 4 + f.count.val < 8 := by have := f.r2.toNat_lt; omega
    have hs : (wd f.first.val).toNat = f.first.val := toNat_wd (by omega)
    have hcount : (f.r2.toNat * 4 + f.count.val) % 4 = f.count.val := by omega
    have hr2 : (f.r2.toNat * 4 + f.count.val) / 4 = f.r2.toNat := by omega
    simp [encodeE, decSyl, hk, hz, hd, hm, hs, hcount, hr2, of_decide_eq_true hfirst, of_decide_eq_true hdest]

section
variable {op m : Nat} {i : Bool} {s1 s2 s3 : Word} {x : EInstr}

/-- R116: a row that admits neither I nor M. -/
theorem plain_row {p : Prop} [Decidable p] {y : Option EInstr}
    (h : (if decide (i = false ∧ m = 0) = true ∧ p then y else none) = some x) :
    i = false ∧ m = 0 ∧ p ∧ y = some x := by
  obtain ⟨⟨hplain, hp⟩, hy⟩ := Option.ite_none_right_eq_some.mp h
  obtain ⟨hi, hm⟩ := of_decide_eq_true hplain
  exact ⟨hi, hm, hp, hy⟩

theorem spelled_alu {f : Alu → EInstr} (hf : ∀ o, (f o).wf = true ∧ encAlu op 0 o.d o.a o.b = encodeE (f o))
    (h : (if m = 0 then (decAlu i s1 s2 s3).map f else none) = some x) :
    x.wf = true ∧ ofSyl (encS0 op i m) s1 s2 s3 = encodeE x := by
  obtain ⟨rfl, h⟩ := Option.ite_none_right_eq_some.mp h
  obtain ⟨o, ho, rfl⟩ := Option.map_eq_some_iff.mp h
  obtain ⟨rfl, rfl, rfl, rfl⟩ := decAlu_eq_some.mp ho
  exact hf o

theorem spelled_aluU {f : AluU → EInstr}
    (hf : ∀ o, (f o).wf = true ∧ encAlu op o.u.toNat o.d o.a o.b = encodeE (f o))
    (h : (decAluU i m s1 s2 s3).map f = some x) : x.wf = true ∧ ofSyl (encS0 op i m) s1 s2 s3 = encodeE x := by
  obtain ⟨o, ho, rfl⟩ := Option.map_eq_some_iff.mp h
  obtain ⟨rfl, rfl, rfl, rfl, rfl⟩ := decAluU_eq_some.mp ho
  exact hf o

theorem spelled_mul {f : MulOp → EInstr} (hf : ∀ o, (f o).wf = true ∧
      ofSyl (encS0 op (encSrcI o.b).1 (mulModeNum o.mode)) (encA o.d) (encSrc o.a) (encSrcI o.b).2 = encodeE (f o))
    (h : (decMul i m s1 s2 s3).map f = some x) : x.wf = true ∧ ofSyl (encS0 op i m) s1 s2 s3 = encodeE x := by
  obtain ⟨o, ho, rfl⟩ := Option.map_eq_some_iff.mp h
  obtain ⟨rfl, rfl, rfl, rfl, rfl⟩ := decMul_eq_some.mp ho
  exact hf o

/-- NOP, END and HOLD. -/
theorem spelled_bare {y : EInstr} (hf : y.wf = true ∧ ofSyl (encS0 op false 0) 0 0 0 = encodeE y)
    (h : (if decide (i = false ∧ m = 0) = true ∧ s1 = 0 ∧ s2 = 0 ∧ s3 = 0 then some y else none) = some x) :
    x.wf = true ∧ ofSyl (encS0 op i m) s1 s2 s3 = encodeE x := by
  obtain ⟨rfl, rfl, ⟨rfl, rfl, rfl⟩, hy⟩ := plain_row h
  cases hy
  exact hf

/-- R130: an FCALL whose registers do not pass V15. -/
theorem spelled_fcall (hm : m < 8) (hz : bitsOf s1 4 2 = 0) (hfirst : s2.toNat < 16) (hreq : s2.toNat + m % 4 ≤ 16)
    (hdest : bitsOf s1 0 4 + m / 4 ≤ 15) :
    let y := EInstr.fcall ⟨Fin.ofNat 16 (bitsOf s1 6 4), Fin.ofNat 16 (bitsOf s1 0 4), Fin.ofNat 16 s2.toNat, s3,
      decide (m / 4 = 1), Fin.ofNat 4 (m % 4)⟩
    y.wf = true ∧ ofSyl (encS0 0x1F false m) s1 s2 s3 = encodeE y := by
  have hr2 : (decide (m / 4 = 1)).toNat = m / 4 := (modifier_eq.mp ⟨by omega, rfl⟩).symm
  have hcount : (Fin.ofNat 4 (m % 4)).val = m % 4 := Nat.mod_eq_of_lt (Nat.mod_lt _ (by decide))
  have hs : (Fin.ofNat 16 s2.toNat).val = s2.toNat := Nat.mod_eq_of_lt hfirst
  constructor
  · rw [EInstr.wf, FcallOp.wf, hr2, hcount, hs, val_ofNat_bitsOf, decide_eq_true hreq, decide_eq_true hdest]
    rfl
  · rw [encodeE, hr2, hcount, hs, wd_toNat, val_ofNat_bitsOf, val_ofNat_bitsOf, ← wd_kind_dest hz, Nat.div_add_mod']

/-- R116, R120: what a row of the table spells is admitted, and is encoded as that row has it. -/
theorem encodeE_of_decSyl (hop : op < 64) (hm : m < 8) (h : decSyl (encS0 op i m) s1 s2 s3 = some x) :
    x.wf = true ∧ ofSyl (encS0 op i m) s1 s2 s3 = encodeE x := by
  rw [decSyl, bitsOf_encS0_op hop hm, bitsOf_encS0_i hop hm, bitsOf_encS0_m hop hm] at h
  split at h
  case h_1 | h_2 | h_31 => exact spelled_bare ⟨rfl, rfl⟩ h
  case h_7 | h_8 | h_11 | h_12 | h_13 | h_14 | h_15 | h_16 | h_28 => exact spelled_alu (fun _ => ⟨rfl, rfl⟩) h
  case h_9 | h_10 | h_18 | h_19 => exact spelled_aluU (fun _ => ⟨rfl, rfl⟩) h
  case h_21 | h_22 => exact spelled_mul (fun _ => ⟨rfl, rfl⟩) h
  case h_3 => -- LDW
    obtain ⟨rfl, rfl, h3, hx⟩ := plain_row h
    split at hx
    next hd hi =>
      cases hx
      rw [decV_eq_some.mp hd, decIdx_eq_some.mp hi, encodeE, wd_fin_toNat h3]
      exact ⟨rfl, rfl⟩
    next => cases hx
  case h_4 => -- STW
    obtain ⟨rfl, rfl, h3, hx⟩ := plain_row h
    split at hx
    next hs hi =>
      cases hx
      rw [decSrc_eq_some.mp hs, decIdx_eq_some.mp hi, encodeE, wd_fin_toNat h3]
      exact ⟨rfl, rfl⟩
    next => cases hx
  case h_5 => -- LDI
    obtain ⟨⟨rfl, hm⟩, hx⟩ := Option.ite_none_right_eq_some.mp h
    obtain ⟨d, hd, rfl⟩ := Option.map_eq_some_iff.mp hx
    rw [decA_eq_some.mp hd, encodeE, ← modifier_eq.mp ⟨hm, rfl⟩]
    exact ⟨rfl, rfl⟩
  case h_6 => -- MOV
    obtain ⟨⟨rfl, rfl⟩, hx⟩ := Option.ite_none_right_eq_some.mp h
    split at hx
    next hd hb =>
      cases hx
      obtain ⟨rfl, rfl⟩ := decSrcI_eq_some.mp hb
      rw [decV_eq_some.mp hd]
      exact ⟨rfl, rfl⟩
    next => cases hx
  case h_17 => -- CMP
    obtain ⟨⟨rfl, rfl⟩, hx⟩ := Option.ite_none_right_eq_some.mp h
    split at hx
    next ha hb =>
      cases hx
      obtain ⟨rfl, rfl⟩ := decSrcI_eq_some.mp hb
      rw [decSrc_eq_some.mp ha]
      exact ⟨rfl, rfl⟩
    next => cases hx
  case h_20 => -- SEL
    obtain ⟨⟨rfl, hz⟩, hx⟩ := Option.ite_none_right_eq_some.mp h
    split at hx
    next ha hb =>
      cases hx
      obtain ⟨rfl, rfl⟩ := decSrcI_eq_some.mp hb
      rw [decSrc_eq_some.mp ha, encodeE, wd_cond_dest hz]
      exact ⟨rfl, rfl⟩
    next => cases hx
  case h_23 => -- ACLR
    obtain ⟨rfl, rfl, ⟨rfl, rfl⟩, hx⟩ := plain_row h
    obtain ⟨d, hd, rfl⟩ := Option.map_eq_some_iff.mp hx
    rw [decA_eq_some.mp hd]
    exact ⟨rfl, rfl⟩
  case h_24 => -- ASHR
    obtain ⟨⟨hm, rfl⟩, hx⟩ := Option.ite_none_right_eq_some.mp h
    split at hx
    next hd hb =>
      cases hx
      obtain ⟨rfl, rfl⟩ := decSrcI_eq_some.mp hb
      rw [decA_eq_some.mp hd, encodeE, ← modifier_eq.mp ⟨hm, rfl⟩]
      exact ⟨rfl, rfl⟩
    next => cases hx
  case h_25 => -- AST
    obtain ⟨⟨rfl, hm, rfl⟩, hx⟩ := Option.ite_none_right_eq_some.mp h
    split at hx
    next hd ha =>
      cases hx
      rw [decV_eq_some.mp hd, decA_eq_some.mp ha, encodeE, ← modifier_eq.mp ⟨hm, rfl⟩]
      exact ⟨rfl, rfl⟩
    next => cases hx
  case h_26 => -- BR
    obtain ⟨rfl, rfl, ⟨hz, hhi⟩, hx⟩ := plain_row h
    cases hx
    rw [encodeE, wd_cond hz, wd_target_hi hhi, wd_target_lo hhi]
    exact ⟨rfl, rfl⟩
  case h_27 => -- SKIP
    obtain ⟨rfl, rfl, ⟨hz, rfl⟩, hx⟩ := plain_row h
    cases hx
    rw [encodeE, wd_cond hz]
    exact ⟨rfl, rfl⟩
  case h_29 => -- ANG
    obtain ⟨⟨rfl, hu⟩, hx⟩ := Option.ite_none_right_eq_some.mp h
    split at hx
    next hd hb =>
      cases hx
      obtain ⟨rfl, rfl⟩ := decSrcI_eq_some.mp hb
      rw [decA_eq_some.mp hd, encodeE, wd_fin_toNat hu]
      exact ⟨rfl, rfl⟩
    next => cases hx
  case h_30 => -- EMIT
    obtain ⟨hplain, hx⟩ := Option.ite_none_right_eq_some.mp h
    obtain ⟨rfl, rfl⟩ := of_decide_eq_true hplain
    split at hx
    next hv hb =>
      cases hx
      rw [decSrc_eq_some.mp hv, decBase_eq_some.mp hb]
      exact ⟨rfl, rfl⟩
    next => cases hx
  case h_32 => -- FCALL
    obtain ⟨⟨rfl, hz, hfirst, hreq, hdest⟩, hx⟩ := Option.ite_none_right_eq_some.mp h
    cases hx
    exact spelled_fcall hm hz hfirst hreq hdest
  case h_33 => -- SAFE
    obtain ⟨rfl, rfl, rfl, hx⟩ := plain_row h
    obtain ⟨b, hb, rfl⟩ := Option.map_eq_some_iff.mp hx
    rw [decBase_eq_some.mp hb]
    exact ⟨rfl, rfl⟩
  case h_34 => cases h -- no operation

end

end Sys2Proof

namespace Sys2Proof.Machine

/-- Settles O60: what a decoded word spells is encoded as that word, and an admitted operation is read back. -/
theorem encodeDecode : Obligations.EncodeDecode := by
  refine fun c i => ⟨fun h => ?_, fun ⟨hwf, hc⟩ => hc ▸ decodeE_encodeE hwf⟩
  have hs := encodeE_of_decSyl (bitsOf_lt (syl c 0) 4 6) (bitsOf_lt (syl c 0) 0 3)
    ((congrArg (decSyl · (syl c 1) (syl c 2) (syl c 3)) (encS0_bitsOf (syl c 0))).trans h)
  rwa [encS0_bitsOf, ofSyl_syl] at hs

end Sys2Proof.Machine

/-! # Word arithmetic, shifts, comparison and accumulators (R118 to R124) -/

namespace Sys2Proof.Machine

/-! ## Instructions that write a register and the flags -/

section
variable {s : State} {e : Engine} {i : EInstr} {x : Visit} {fl : Flags}

/-- R117: an instruction of one cycle that writes Vd and the flags. -/
theorem State.run_putV {d : VReg} {f : Visit → Word × Flags} {r : Word} (h : s.atInstr e i x) (hc : s.cost i = 1)
    (hf : f { x with pc := x.pc + 1, last := x.pc } = (r, fl)) :
    s.run e.val i (fun y => .go (y.putV d (f y))) =
      s.putVisit e.val { x.stepped 1 with v := SMap.put 0 x.v d.val r, fl := fl } :=
  State.run_go h (congrArg (fun p => Eff.go (({ x with pc := x.pc + 1, last := x.pc } : Visit).putV d p)) hf) rfl
    (congrArg (x.cyc + ·) hc.symm)

/-- R117: an instruction of one cycle that writes Ad and the flags. -/
theorem State.run_putA {d : AReg} {f : Visit → BitVec 30 × Flags} {r : BitVec 30} (h : s.atInstr e i x)
    (hc : s.cost i = 1) (hf : f { x with pc := x.pc + 1, last := x.pc } = (r, fl)) :
    s.run e.val i (fun y => .go (y.putA d (f y))) =
      s.putVisit e.val { x.stepped 1 with a := SMap.put 0 x.a d.val r, fl := fl } :=
  State.run_go h (congrArg (fun p => Eff.go (({ x with pc := x.pc + 1, last := x.pc } : Visit).putA d p)) hf) rfl
    (congrArg (x.cyc + ·) hc.symm)

/-- R117: as `run_putV`, for an operation on two sources. -/
theorem State.runAlu_putVisit {d : VReg} {a : Src} {b : SrcI} {f : Word → Word → Flags → Word × Flags} {r : Word}
    (h : s.atInstr e i x) (hc : s.cost i = 1)
    (hf : f (x.src s.jer.snap a) (x.srcI s.jer.snap b) x.fl = (r, fl)) :
    s.runAlu e i d a b f = s.putVisit e.val { x.stepped 1 with v := SMap.put 0 x.v d.val r, fl := fl } :=
  State.run_putV h hc hf

end

/-! ## Flags (R118) -/

theorem flagsZNCV_eq (f : Flags) (r : Word) (c v : Bool) :
    flagsZNCV f r c v = ⟨decide (r = 0), r.getLsbD 9, c, v, f.sat⟩ := by
  rw [flagsZNCV, BitVec.msb_eq_getLsbD_last]

theorem flagsClamp_eq (f : Flags) (r : Word) (c v : Bool) :
    flagsClamp f r c v = ⟨decide (r = 0), r.getLsbD 9, c, v, f.sat || v⟩ := by
  rw [flagsClamp, BitVec.msb_eq_getLsbD_last]

/-! ## Addition and subtraction (R119, R121) -/

theorem satS10_eq (t : Int) : satS10 t = clamp (-512) 511 t := by
  unfold satS10 clamp; omega

theorem satU10_eq (t : Int) : satU10 t = clamp 0 1023 t := by
  unfold satU10 clamp; omega

theorem toW_add (a b : Word) : toW (uw a + uw b) = a + b := by
  rw [toW, BitVec.ofInt_add, uw, uw, BitVec.ofInt_natCast, BitVec.ofInt_natCast, BitVec.ofNat_toNat, BitVec.ofNat_toNat,
    BitVec.setWidth_eq, BitVec.setWidth_eq]

theorem toW_sub (a b : Word) : toW (uw a - uw b) = a - b := by
  rw [toW, Int.sub_eq_add_neg, BitVec.ofInt_add, BitVec.ofInt_neg, uw, uw, BitVec.ofInt_natCast, BitVec.ofInt_natCast,
    BitVec.ofNat_toNat, BitVec.ofNat_toNat, BitVec.setWidth_eq, BitVec.setWidth_eq, BitVec.sub_eq_add_neg]

/-- R121: V of an addition. -/
theorem addOverflow_eq (a b : Word) : (a.msb == b.msb && (toW (uw a + uw b)).msb != a.msb) =
    decide (a.toInt + b.toInt < -512 ∨ 511 < a.toInt + b.toInt) := by
  rw [toW_add, bne, ← BitVec.saddOverflow_eq, BitVec.saddOverflow, Bool.or_comm, ← Bool.decide_or]
  exact decide_eq_decide.mpr Iff.rfl

/-- R121: V of a subtraction. -/
theorem subOverflow_eq (a b : Word) : (a.msb != b.msb && (toW (uw a - uw b)).msb != a.msb) =
    decide (a.toInt - b.toInt < -512 ∨ 511 < a.toInt - b.toInt) := by
  have h : (a.msb != b.msb && (a - b).msb != a.msb) = a.ssubOverflow b := by
    rw [BitVec.ssubOverflow_eq]
    cases a.msb <;> cases b.msb <;> simp
  rw [toW_sub, h, BitVec.ssubOverflow, Bool.or_comm, ← Bool.decide_or]
  exact decide_eq_decide.mpr Iff.rfl

theorem aluAdd_eq (a b : Word) (f : Flags) : aluAdd a b f = let r := BitVec.ofNat 10 (a.toNat + b.toNat)
    (r, ⟨decide (r = 0), r.getLsbD 9, decide (1023 < a.toNat + b.toNat),
      decide (a.toInt + b.toInt < -512 ∨ 511 < a.toInt + b.toInt), f.sat⟩) := by
  have hr : toW (uw a + uw b) = BitVec.ofNat 10 (a.toNat + b.toNat) := BitVec.ofInt_natCast 10 _
  have hc : uw a + uw b > 1023 ↔ 1023 < a.toNat + b.toNat := by unfold uw; omega
  simp only [aluAdd, flagsZNCV_eq, addOverflow_eq, hc]
  simp only [hr]

theorem aluSub_eq (a b : Word) (f : Flags) : aluSub a b f = let r := BitVec.ofInt 10 (a.toNat - b.toNat)
    (r, ⟨decide (r = 0), r.getLsbD 9, decide (b.toNat ≤ a.toNat),
      decide (a.toInt - b.toInt < -512 ∨ 511 < a.toInt - b.toInt), f.sat⟩) := by
  have hc : uw a ≥ uw b ↔ b.toNat ≤ a.toNat := by unfold uw; omega
  simp only [aluSub, flagsZNCV_eq, subOverflow_eq, hc]
  rfl

theorem aluAdds_eq (u : Bool) (a b : Word) (f : Flags) : aluAdds u a b f =
    let t : Int := if u then a.toNat + b.toNat else a.toInt + b.toInt
    let c := if u then clamp 0 1023 t else clamp (-512) 511 t
    let r := BitVec.ofInt 10 c
    (r, ⟨decide (r = 0), r.getLsbD 9, false, decide (c ≠ t), f.sat || decide (c ≠ t)⟩) := by
  simp only [aluAdds, flagsClamp_eq, satU10_eq, satS10_eq]
  rfl

theorem aluSubs_eq (u : Bool) (a b : Word) (f : Flags) : aluSubs u a b f =
    let t : Int := if u then a.toNat - b.toNat else a.toInt - b.toInt
    let c := if u then clamp 0 1023 t else clamp (-512) 511 t
    let r := BitVec.ofInt 10 c
    (r, ⟨decide (r = 0), r.getLsbD 9, false, decide (c ≠ t), f.sat || decide (c ≠ t)⟩) := by
  simp only [aluSubs, flagsClamp_eq, satU10_eq, satS10_eq]
  rfl

theorem aluLogic_eq (r : Word) (f : Flags) :
    aluLogic r f = (r, ⟨decide (r = 0), r.getLsbD 9, false, false, f.sat⟩) := by
  rw [aluLogic, flagsZNCV_eq]

/-- Settles O9: each operation goes on with its result, whose flags are those of the exact sum or difference. -/
theorem wordArithmetic : Obligations.WordArithmetic := fun _ _ _ =>
  ⟨fun _ h => congrArg Host.Outcome.next (State.runAlu_putVisit h rfl (aluAdd_eq _ _ _)),
    fun _ h => congrArg Host.Outcome.next (State.runAlu_putVisit h rfl (aluSub_eq _ _ _)),
    fun _ h => congrArg Host.Outcome.next (State.runAlu_putVisit h rfl (aluAdds_eq _ _ _ _)),
    fun _ h => congrArg Host.Outcome.next (State.runAlu_putVisit h rfl (aluSubs_eq _ _ _ _)),
    fun _ h => congrArg Host.Outcome.next (State.runAlu_putVisit h rfl (aluLogic_eq _ _)),
    fun _ h => congrArg Host.Outcome.next (State.runAlu_putVisit h rfl (aluLogic_eq _ _)),
    fun _ h => congrArg Host.Outcome.next (State.runAlu_putVisit h rfl (aluLogic_eq _ _)),
    fun _ _ h => congrArg Host.Outcome.next (State.run_putV h rfl (congrArg (Prod.mk _) (flagsZN_eq _ _)))⟩

/-! ## Shifts (R122) -/

theorem aluShl_eq (a b : Word) (f : Flags) : aluShl a b f = let n := b.toNat
    let r := BitVec.ofNat 10 (if 10 ≤ n then 0 else a.toNat * 2 ^ n)
    (r, ⟨decide (r = 0), r.getLsbD 9, decide (1 ≤ n ∧ n ≤ 10) && a.getLsbD (10 - n), false, f.sat⟩) := by
  have hr : (if b.toNat ≥ 10 then 0 else a <<< b.toNat : Word) =
      BitVec.ofNat 10 (if 10 ≤ b.toNat then 0 else a.toNat * 2 ^ b.toNat) := by
    split
    · rfl
    · rw [← Nat.shiftLeft_eq]
      exact BitVec.eq_of_toNat_eq (BitVec.toNat_shiftLeft.trans (BitVec.toNat_ofNat _ _).symm)
  simp only [aluShl, flagsZNCV_eq, hr]

theorem aluShr_eq (a b : Word) (f : Flags) : aluShr a b f = let n := b.toNat
    let r := BitVec.ofNat 10 (a.toNat / 2 ^ n)
    (r, ⟨decide (r = 0), r.getLsbD 9, decide (1 ≤ n ∧ n ≤ 10) && a.getLsbD (n - 1), false, f.sat⟩) := by
  have hr : (if b.toNat ≥ 10 then 0 else a >>> b.toNat : Word) = BitVec.ofNat 10 (a.toNat / 2 ^ b.toNat) := by
    split
    next hn =>
      have hlt : a.toNat < 2 ^ b.toNat := a.isLt.trans_le (Nat.pow_le_pow_right (by decide) hn)
      rw [Nat.div_eq_of_lt hlt]
      rfl
    next => rw [← Nat.shiftRight_eq_div_pow, ← BitVec.toNat_ushiftRight, BitVec.ofNat_toNat, BitVec.setWidth_eq]
  simp only [aluShr, flagsZNCV_eq, hr]

theorem aluAsr_eq (a b : Word) (f : Flags) : aluAsr a b f = let n := b.toNat
    let r := BitVec.ofInt 10 (a.toInt / 2 ^ Nat.min n 9)
    (r, ⟨decide (r = 0), r.getLsbD 9, decide (n ≠ 0) && a.getLsbD (Nat.min n 10 - 1), false, f.sat⟩) := by
  have hr : a.sshiftRight (Nat.min b.toNat 9) = BitVec.ofInt 10 (a.toInt / 2 ^ Nat.min b.toNat 9) := by
    rw [BitVec.sshiftRight, Int.shiftRight_eq_div_pow]
    norm_cast
  simp only [aluAsr, flagsZNCV_eq, hr]

/-- Settles O10: each shift goes on with its result. -/
theorem shifts : Obligations.Shifts := fun _ _ _ _ =>
  ⟨fun h => congrArg Host.Outcome.next (State.runAlu_putVisit h rfl (aluShl_eq _ _ _)),
    fun h => congrArg Host.Outcome.next (State.runAlu_putVisit h rfl (aluShr_eq _ _ _)),
    fun h => congrArg Host.Outcome.next (State.runAlu_putVisit h rfl (aluAsr_eq _ _ _))⟩

/-! ## Comparison and selection (R123) -/

theorem aluMin_eq (u : Bool) (a b : Word) (f : Flags) : aluMin u a b f =
    let r := if u then BitVec.ofNat 10 (min a.toNat b.toNat) else BitVec.ofInt 10 (min a.toInt b.toInt)
    (r, ⟨decide (r = 0), r.getLsbD 9, false, false, f.sat⟩) := by
  have hr : (if (if u then decide (uw a ≤ uw b) else decide (sw a ≤ sw b)) then a else b) =
      if u then BitVec.ofNat 10 (min a.toNat b.toNat) else BitVec.ofInt 10 (min a.toInt b.toInt) := by
    cases u with
    | true => simp [uw, min_def, apply_ite (BitVec.ofNat 10)]
    | false =>
      have hmin : min a.toInt b.toInt = if sw a ≤ sw b then a.toInt else b.toInt := min_def _ _
      simp [hmin, apply_ite (BitVec.ofInt 10)]
  simp only [aluMin, flagsZNCV_eq, hr]

theorem aluMax_eq (u : Bool) (a b : Word) (f : Flags) : aluMax u a b f =
    let r := if u then BitVec.ofNat 10 (max a.toNat b.toNat) else BitVec.ofInt 10 (max a.toInt b.toInt)
    (r, ⟨decide (r = 0), r.getLsbD 9, false, false, f.sat⟩) := by
  have hr : (if (if u then decide (uw a ≥ uw b) else decide (sw a ≥ sw b)) then a else b) =
      if u then BitVec.ofNat 10 (max a.toNat b.toNat) else BitVec.ofInt 10 (max a.toInt b.toInt) := by
    rw [max_comm a.toNat, max_comm a.toInt]
    cases u with
    | true => simp [uw, max_def, apply_ite (BitVec.ofNat 10)]
    | false =>
      have hmax : max b.toInt a.toInt = if sw a ≥ sw b then a.toInt else b.toInt := max_def _ _
      simp [hmax, apply_ite (BitVec.ofInt 10)]
  simp only [aluMax, flagsZNCV_eq, hr]

/-- R123: CMP sets the flags of SUB. -/
theorem aluSub_flags (a b : Word) (f : Flags) : (aluSub a b f).2 =
    ⟨decide (a = b), (a - b).getLsbD 9, decide (b.toNat ≤ a.toNat),
      decide (a.toInt - b.toInt < -512 ∨ 511 < a.toInt - b.toInt), f.sat⟩ := by
  have hz : a - b = 0 ↔ a = b := sub_eq_zero
  simp only [aluSub_eq, ← hz]
  rw [← toW_sub]; rfl

/-- Settles O11: each operation goes on with its result, and CMP with its flags alone. -/
theorem compareAndSelect : Obligations.CompareAndSelect := fun s e x => by
  refine ⟨fun a b h => congrArg Host.Outcome.next (State.run_go h ?_ rfl rfl),
    fun _ h => congrArg Host.Outcome.next (State.runAlu_putVisit h rfl (aluMin_eq _ _ _ _)),
    fun _ h => congrArg Host.Outcome.next (State.runAlu_putVisit h rfl (aluMax_eq _ _ _ _)),
    fun _ _ h => congrArg Host.Outcome.next (State.runAlu_putVisit h rfl rfl)⟩
  dsimp only
  rw [aluSub_flags]
  rfl

/-! ## Accumulators (R118, R119, R124) -/

theorem satS30_eq (t : Int) : satS30 t = clamp (-2 ^ 29) (2 ^ 29 - 1) t := by
  unfold satS30 clamp; omega

theorem clamp_mem {lo hi : Int} (h : lo ≤ hi) (t : Int) : lo ≤ clamp lo hi t ∧ clamp lo hi t ≤ hi := by
  unfold clamp; omega

/-- R118: Z and N of an accumulator that holds an exact result. -/
theorem flagsZNA_toA {t : Int} (hlo : -2 ^ 29 ≤ t) (hhi : t < 2 ^ 29) (f : Flags) :
    flagsZNA f (toA t) = ⟨decide (t = 0), decide (t < 0), f.c, f.v, f.sat⟩ := by
  have ht : (toA t).toInt = t := BitVec.toInt_ofInt_eq_self (by decide) hlo hhi
  have hz : toA t = 0 ↔ t = 0 := by
    rw [← BitVec.toInt_inj, ht]
    rfl
  rw [flagsZNA, BitVec.msb_eq_toInt, ht]
  simp only [hz]

/-- R124: no product takes more than 20 bits. -/
theorem product_lt (m : MulMode) (a b : Word) : (product m a b).natAbs < 2 ^ 20 := by
  have ha := a.isLt
  have hb := b.isLt
  have hsa : a.toInt.natAbs ≤ 512 := by have := a.le_toInt; have := a.toInt_lt; omega
  have hsb : b.toInt.natAbs ≤ 512 := by have := b.le_toInt; have := b.toInt_lt; omega
  cases m with
  | ss => exact Int.natAbs_mul .. ▸ (Nat.mul_le_mul hsa hsb).trans_lt (by decide)
  | uu => exact Int.natAbs_mul .. ▸ (Nat.mul_le_mul (Nat.le_of_lt_succ ha) (Nat.le_of_lt_succ hb)).trans_lt (by decide)
  | su => exact Int.natAbs_mul .. ▸ (Nat.mul_le_mul hsa (Nat.le_of_lt_succ hb)).trans_lt (by decide)

theorem aluMul_eq (m : MulMode) (a b : Word) (f : Flags) : aluMul m a b f =
    (BitVec.ofInt 30 (product m a b),
      ⟨decide (product m a b = 0), decide (product m a b < 0), f.c, f.v, f.sat⟩) := by
  have h := product_lt m a b
  have hp : mulProd m a b = product m a b := rfl
  rw [aluMul, hp, flagsZNA_toA (by omega) (by omega)]
  rfl

theorem aluMac_eq (m : MulMode) (acc : BitVec 30) (a b : Word) (f : Flags) : aluMac m acc a b f =
    let t := acc.toInt + product m a b
    let c := clamp (-2 ^ 29) (2 ^ 29 - 1) t
    (BitVec.ofInt 30 c, ⟨decide (c = 0), decide (c < 0), f.c, decide (c ≠ t), f.sat || decide (c ≠ t)⟩) := by
  have hp : mulProd m a b = product m a b := rfl
  obtain ⟨hlo, hhi⟩ := clamp_mem (lo := -2 ^ 29) (hi := 2 ^ 29 - 1) (by decide) (acc.toInt + product m a b)
  simp only [aluMac, hp, satS30_eq, flagsZNA_toA hlo (Int.lt_of_le_sub_one hhi)]
  rfl

/-- R124: the result of ASHR fits in an accumulator. -/
theorem ashr_mem (acc : BitVec 30) (round : Bool) (k : Nat) {c : Int}
    (hc : c = (acc.toInt + (if round = true ∧ k ≠ 0 then 2 ^ (k - 1) else 0)) / 2 ^ k) :
    -2 ^ 29 ≤ c ∧ c < 2 ^ 29 := by
  have hlo : -2 ^ 29 ≤ acc.toInt := acc.le_toInt
  have hhi : acc.toInt < 2 ^ 29 := acc.toInt_lt
  subst hc
  cases k with
  | zero =>
    rw [if_neg (fun h => h.2 rfl), Int.add_zero, Int.pow_zero, Int.ediv_one]
    exact ⟨hlo, hhi⟩
  | succ j =>
    have hpow : (2 : Int) ^ (j + 1) = 2 * 2 ^ j := pow_succ' 2 j
    have hpos : (0 : Int) < 2 ^ j := Int.pow_pos (by decide)
    obtain ⟨half, hdef⟩ : ∃ half : Int, half = if round = true ∧ j + 1 ≠ 0 then 2 ^ (j + 1 - 1) else 0 := ⟨_, rfl⟩
    have hhalf : 0 ≤ half ∧ half ≤ 2 ^ j := by
      rw [hdef]
      split
      · exact ⟨hpos.le, le_refl _⟩
      · exact ⟨le_refl _, hpos.le⟩
    obtain ⟨hge, hle⟩ := hhalf
    rw [← hdef, hpow]
    exact ⟨Int.le_ediv_of_mul_le (by omega) (by omega), Int.ediv_lt_of_lt_mul (by omega) (by omega)⟩

theorem aluAshr_eq (round : Bool) (acc : BitVec 30) (n : Word) (f : Flags) : aluAshr round acc n f =
    let k := Nat.min n.toNat 29
    let c := (acc.toInt + (if round = true ∧ k ≠ 0 then 2 ^ (k - 1) else 0)) / 2 ^ k
    (BitVec.ofInt 30 c, ⟨decide (c = 0), decide (c < 0), f.c, f.v, f.sat⟩) := by
  obtain ⟨hlo, hhi⟩ := ashr_mem acc round (Nat.min n.toNat 29) rfl
  simp only [aluAshr, flagsZNA_toA hlo hhi]
  rfl

/-- R118: Z of a word that holds a clamped result. -/
theorem toW_eq_zero {t : Int} (hlo : -1024 < t) (hhi : t < 1024) : toW t = 0 ↔ t = 0 := by
  rw [← BitVec.toNat_inj, toW, BitVec.toNat_ofInt]
  show (t % 1024).toNat = 0 ↔ t = 0
  omega

theorem aluAst_eq (u : Bool) (acc : BitVec 30) (f : Flags) : aluAst u acc f =
    let t := acc.toInt
    let c := if u then clamp 0 1023 t else clamp (-512) 511 t
    (BitVec.ofInt 10 c,
      ⟨decide (c = 0), (BitVec.ofInt 10 c).getLsbD 9, f.c, decide (c ≠ t), f.sat || decide (c ≠ t)⟩) := by
  have hz : toW (if u = true then clamp 0 1023 acc.toInt else clamp (-512) 511 acc.toInt) = 0 ↔
      (if u = true then clamp 0 1023 acc.toInt else clamp (-512) 511 acc.toInt) = 0 := by
    cases u with
    | true => exact toW_eq_zero (by unfold clamp; omega) (by unfold clamp; omega)
    | false => exact toW_eq_zero (by unfold clamp; omega) (by unfold clamp; omega)
  simp only [aluAst, flagsZN_eq, satU10_eq, satS10_eq, hz]
  rfl

theorem aluLdi_eq (u : Bool) (hi lo : Word) : aluLdi u hi lo =
    let t : Int := hi.toNat * 1024 + lo.toNat
    BitVec.ofInt 30 (if u = false ∧ 2 ^ 19 ≤ t then t - 2 ^ 20 else t) := by
  have hhi := hi.isLt
  have hlo := lo.isLt
  have ht : (hi ++ lo).toNat = hi.toNat * 1024 + lo.toNat := by
    rw [BitVec.toNat_append, Nat.shiftLeft_eq, Nat.mul_comm, ← Nat.two_pow_add_eq_or_of_lt hlo]
  cases u with
  | true =>
    have h : hi.toNat * 1024 + lo.toNat = ((hi ++ lo).toNat : Int) := by omega
    simp only [aluLdi, if_true, Bool.true_eq_false, false_and, if_false, h, BitVec.ofInt_natCast, BitVec.ofNat_toNat]
  | false =>
    refine congrArg (BitVec.ofInt 30) ?_
    rw [BitVec.toInt_eq_toNat_cond, ht]
    simp only [true_and]
    split <;> split <;> omega

/-- Settles O12: each operation goes on with its exact result, clamped where it clamps. -/
theorem accumulators : Obligations.Accumulators := fun s e x => by
  refine ⟨fun _ h => ⟨product_lt _ _ _, congrArg Host.Outcome.next (State.run_putA h rfl (aluMul_eq _ _ _ _))⟩,
    fun _ h => congrArg Host.Outcome.next (State.run_putA h rfl (aluMac_eq _ _ _ _ _)),
    fun _ h => congrArg Host.Outcome.next (State.run_go h rfl rfl rfl),
    fun _ _ _ h => congrArg Host.Outcome.next (State.run_putA h rfl (aluAshr_eq _ _ _ _)),
    fun _ _ _ h => congrArg Host.Outcome.next (State.run_putV h rfl (aluAst_eq _ _ _)),
    fun _ _ _ _ h => congrArg Host.Outcome.next (State.run_go h ?_ rfl rfl)⟩
  dsimp only
  rw [aluLdi_eq]
  rfl

end Sys2Proof.Machine

/-! # EMIT, SAFE, HOLD and FCALL (R100, R130 to R133, R228, R230) -/

namespace Sys2Proof.Machine

/-! ## Events (R131, R132) -/

theorem satOff_eq (t : Int) : satOff t = clamp 0 (2 ^ 20 - 1) t := by
  unfold satOff clamp; omega

/-- R131: the event joins those of the visit, with its offset clamped. -/
theorem Visit.addEvent_eq (x : Visit) (snap : SMap Word) (o : Offs) (val : Word) (mute : Bool) :
    x.addEvent snap o val mute =
      let t := x.base snap o.base + o.add.toNat
      let c := clamp 0 (2 ^ 20 - 1) t
      { x with
        evs := x.evs ++ [⟨bitsN (SMap.get 0 x.fetched 2).toNat 0 9, x.handle, val, c.toNat, mute⟩]
        emits := x.emits + 1
        fl := ⟨x.fl.z, x.fl.n, x.fl.c, decide (c ≠ t), x.fl.sat || decide (c ≠ t)⟩ } := by
  simp only [Visit.addEvent, aluOffset, satOff_eq]
  rfl

section
variable {s : State} {e : Engine} {x : Visit}

theorem exec_emit {value : Src} {o : Offs} (h : s.atInstr e (.emit value o) x) (hroom : x.emits < 2) :
    let t := x.base s.jer.snap o.base + o.add.toNat
    let c := clamp 0 (2 ^ 20 - 1) t
    exec (.emit e value o) s = .next (s.putVisit e.val { x.stepped 1 with
      evs := x.evs ++ [⟨bitsN (SMap.get 0 x.fetched 2).toNat 0 9, x.handle, x.src s.jer.snap value, c.toNat, false⟩]
      emits := x.emits + 1
      fl := ⟨x.fl.z, x.fl.n, x.fl.c, decide (c ≠ t), x.fl.sat || decide (c ≠ t)⟩ }) :=
  congrArg Host.Outcome.next (State.run_go h ((if_neg (Nat.not_le.mpr hroom)).trans
    (congrArg Eff.go (Visit.addEvent_eq _ _ _ _ _))) rfl rfl)

theorem exec_hold (h : s.atInstr e .hold x) :
    exec (.hold e) s = .next (s.putVisit e.val { x.stepped 1 with held := true }) :=
  congrArg Host.Outcome.next (State.run_go h rfl rfl rfl)

/-- R132: the safe value of a visit's slot whose entry has good parity. -/
theorem State.safeValue_good {n : Nat} (h : SMap.get false s.ctx.safeBad (slotOf (SMap.get 0 x.fetched 1)
    (SMap.get 0 x.fetched 2)) = false) : s.safeValue n x =
      ((SMap.get ⟨0, 0⟩ s.ctx.safe (slotOf (SMap.get 0 x.fetched 1) (SMap.get 0 x.fetched 2))).val, false, s) := by
  simp only [State.safeValue, State.safeRead, h, Bool.false_eq_true, if_false]

theorem exec_safe {o : Offs} (h : s.atInstr e (.safe o) x) (hroom : x.emits < 2) :
    let k := slotOf (SMap.get 0 x.fetched 1) (SMap.get 0 x.fetched 2)
    let t := x.base s.jer.snap o.base + o.add.toNat
    let c := clamp 0 (2 ^ 20 - 1) t
    SMap.get false s.ctx.safeBad k = false →
    exec (.safe e o []) s = .next (s.putVisit e.val { x.stepped 1 with
      evs := x.evs ++ [⟨bitsN (SMap.get 0 x.fetched 2).toNat 0 9, x.handle, (SMap.get ⟨0, 0⟩ s.ctx.safe k).val,
        c.toNat, false⟩]
      emits := x.emits + 1
      fl := ⟨x.fl.z, x.fl.n, x.fl.c, decide (c ≠ t), x.fl.sat || decide (c ≠ t)⟩ }) := by
  intro k t c hgood
  show execSafe e o [] s = _
  simp only [execSafe, State.upsets, List.foldl_nil, h.1, if_true, if_neg (Nat.not_le.mpr hroom),
    State.safeValue_good hgood]
  exact congrArg Host.Outcome.next (State.run_go h (congrArg Eff.go (Visit.addEvent_eq _ _ _ _ _)) rfl rfl)

/-! ## FCALL (R100, R130, R228, R230) -/

theorem exec_fcall_first {f : FcallOp} (h : s.atInstr e (.fcall f) x) (hfc : x.fc = none) :
    exec (.fcall e f) s = .next (s.fcallIssue e.val x f) := by
  show execFcall e f s = _
  simp only [execFcall, h.1, hfc, if_true]

theorem exec_fcall_last {f : FcallOp} {w : Word × Word} (h : s.atInstr e (.fcall f) x) (hfc : x.fc = some (some w)) :
    exec (.fcall e f) s = .next (s.fcallFinish e.val x f w) := by
  show execFcall e f s = _
  simp only [execFcall, h.1, hfc, if_true]

/-- R130: the last cycle of an FCALL that ends before the W-th. -/
theorem State.fcallFinish_eq {f : FcallOp} (h : s.atInstr e (.fcall f) x) (w : Word × Word) :
    let v := SMap.put 0 x.v f.d.val w.1
    s.fcallFinish e.val x f w = s.putVisit e.val
      { x.stepped (s.fld (pJE 0) (JE_FCTGT_LATACT f.target.val)) with
        v := if f.r2 = true then SMap.put 0 v (f.d.val + 1) w.2 else v, fc := none } := by
  have hlt : ¬ x.w ≤ x.cyc + s.fld (pJE 0) (JE_FCTGT_LATACT f.target.val) := Nat.not_le.mpr h.2
  cases hr : f.r2 <;> simp [State.fcallFinish, State.retire, hr, hlt, Visit.stepped]

end

/-- R100, R130, R228, R230: the requests outstanding once engine `e` has issued FCALL `f` in visit `x`. -/
def State.requestsAfter (s : State) (e : Nat) (x : Visit) (f : FcallOp) : List FcReq :=
  let port := SMap.get 0 s.jer.portAct f.target.val
  (s.jer.fcOut.filter fun q => q.engine ≠ e) ++
    if s.bit (pJE 0) (JE_FCTGT_ENACT f.target.val) = true then
      [⟨e, x.handle, f.target.val, port, f.code, x.reqWords f,
        s.frm.start + 40 + 2 * ((s.engine e).cyc + 4 + x.cyc) + 2 * (1 + (laneHops port).getD 0), false⟩]
    else []

section
variable {s : State} {e : Engine} {x : Visit} {f : FcallOp}

/-- R130: the first cycle of an FCALL that ends before the W-th. -/
theorem State.fcallIssue_eq (h : s.atInstr e (.fcall f) x) : s.fcallIssue e.val x f =
    (s.updJer fun j => { j with fcOut := s.requestsAfter e.val x f }).putVisit e.val { x with fc := some none } :=
  have hlt : ¬ x.w < x.cyc + s.fld (pJE 0) (JE_FCTGT_LATACT f.target.val) := Nat.not_lt.mpr (Nat.le_of_lt h.2)
  if_neg hlt

theorem fcall_first_completes (h : s.atInstr e (.fcall f) x) (hfc : x.fc = none) :
    Completes (.fcall e f) s fun u => u.jer.fcOut = s.requestsAfter e.val x f ∧
      (u.engine e.val).visit = some { x with fc := some none } ∧ Changes s u [.jer] noField := by
  refine ⟨_, exec_fcall_first h hfc, ?_⟩
  rw [State.fcallIssue_eq h]
  exact ⟨rfl, by rw [State.putVisit, State.engine_updEng_same],
    ((Changes.refl s _ _).updJer List.mem_cons_self).updEng List.mem_cons_self⟩

end

/-- Settles O14: an event joins those of the visit; FCALL sends its request in its first cycle and writes the
response in its last. -/
theorem outputsAndFcall : Obligations.OutputsAndFcall := by
  refine ⟨fun s e x => ⟨fun _ _ h hroom => exec_emit h hroom, exec_hold, fun _ h hroom => exec_safe h hroom⟩,
    fun s e x f h => ⟨fcall_first_completes h, fun a b hfc hr => ?_, fun a b hfc hr => ?_⟩⟩
  · rw [exec_fcall_last h hfc, State.fcallFinish_eq h, hr]
    rfl
  · rw [exec_fcall_last h hfc, State.fcallFinish_eq h, hr]
    rfl

end Sys2Proof.Machine

/-! # Migrations, the handle table and planning in STOP (R137, R140 to R145) -/

namespace Sys2Proof.Machine

/-! ## Ranges pasted from one place to another -/

section
variable {α : Type}

theorem SMap.mem_slice {m : SMap α} {lo hi : Nat} {e : Nat × α} (h : e ∈ SMap.slice m lo hi) :
    (lo + e.1, e.2) ∈ m ∧ lo + e.1 < hi := by
  obtain ⟨x, hx, rfl⟩ := List.mem_map.mp h
  obtain ⟨hm, hin⟩ := List.mem_filter.mp hx
  obtain ⟨hlo, hhi⟩ : lo ≤ x.1 ∧ x.1 < hi := by simpa using hin
  have hkey : lo + (x.1 - lo) = x.1 := by omega
  exact ⟨hkey.symm ▸ hm, hkey.symm ▸ hhi⟩

theorem SMap.slice_keys_nodup {m : SMap α} (h : SMap.risingFrom none m = true) (lo hi : Nat) :
    ((SMap.slice m lo hi).map fun e => e.1).Nodup := by
  have hkeys : ((m.filter fun e => lo ≤ e.1 && e.1 < hi).map Prod.fst).Nodup :=
    SMap.keys_nodup _ (SMap.rising_filter _ _ h)
  have hmap : ((SMap.slice m lo hi).map fun e => e.1) =
      ((m.filter fun e => lo ≤ e.1 && e.1 < hi).map Prod.fst).map (· - lo) := by
    simp only [SMap.slice, List.map_map, Function.comp_def]
  rw [hmap]
  refine hkeys.map_on fun x hx y hy hxy => ?_
  obtain ⟨e, he, rfl⟩ := List.mem_map.mp hx
  obtain ⟨f, hf, rfl⟩ := List.mem_map.mp hy
  have hle : lo ≤ e.1 := by have := (List.mem_filter.mp he).2; simp at this; omega
  have hlf : lo ≤ f.1 := by have := (List.mem_filter.mp hf).2; simp at this; omega
  omega

variable [DecidableEq α] (d : α)

theorem SMap.paste_eq_fill (lo : Nat) (m src : SMap α) :
    SMap.paste d lo m src = src.foldl (fun m e => SMap.put d m (lo + e.1) e.2) m := by
  induction src generalizing m with
  | nil => rfl
  | cons e t ih => exact ih _

/-- A range pasted into a blank one reads as where it comes from. -/
theorem SMap.get_paste_slice {m n : SMap α} (hm : SMap.risingFrom none m = true) {dst lo hi k : Nat} (hk : lo + k < hi)
    (hblank : SMap.get d n (dst + k) = d) :
    SMap.get d (SMap.paste d dst n (SMap.slice m lo hi)) (dst + k) = SMap.get d m (lo + k) := by
  rw [SMap.paste_eq_fill]
  by_cases h : ∃ e ∈ SMap.slice m lo hi, e.1 = k
  · obtain ⟨e, he, rfl⟩ := h
    have hnodup : ((SMap.slice m lo hi).map fun e : Nat × α => dst + e.1).Nodup := by
      have := (SMap.slice_keys_nodup hm lo hi).map (f := (dst + ·)) fun _ _ => Nat.add_left_cancel
      rwa [List.map_map] at this
    rw [SMap.get_fill_mem d (fun e : Nat × α => dst + e.1) (fun e => e.2) _ n hnodup e he]
    exact (SMap.get_of_mem d m _ hm (SMap.mem_slice he).1).symm
  · have habsent : ∀ e ∈ SMap.slice m lo hi, e.1 ≠ k := fun e he hek => h ⟨e, he, hek⟩
    rw [SMap.get_fill_absent d (fun e : Nat × α => dst + e.1) (fun e => e.2) _ n _
      fun e he hek => habsent e he (Nat.add_left_cancel hek), hblank, ← SMap.get_slice d m hk,
      SMap.get_absent d _ k habsent]

/-- Nothing beyond the range that is pasted over changes. -/
theorem SMap.get_paste_slice_ne (m n : SMap α) {dst lo hi k : Nat} (hk : k < dst ∨ dst + hi ≤ lo + k) :
    SMap.get d (SMap.paste d dst n (SMap.slice m lo hi)) k = SMap.get d n k := by
  rw [SMap.paste_eq_fill]
  refine SMap.get_fill_absent d (fun e : Nat × α => dst + e.1) (fun e => e.2) _ n k fun e he => ?_
  have := (SMap.mem_slice he).2
  omega

end

/-! ## The move of a record (R143, R144) -/

section
variable {s : State}

theorem State.wf_store (h : s.wf = true) : SMap.risingFrom none s.ctx.store = true := by
  have hstore : SMap.wf (fun _ => 0) s.ctx.store = true := by
    simp only [State.wf, Bool.and_eq_true] at h
    tauto
  exact ((SMap.wf_iff _ _).mp hstore).1

theorem State.moveRecord_phys_same (x src dst : Nat) : (s.moveRecord x src dst).phys x = dst :=
  SMap.get_put_same _ _ _ _

theorem State.moveRecord_phys_ne (src dst : Nat) {x y : Nat} (h : y ≠ x) :
    (s.moveRecord x src dst).phys y = s.phys y :=
  SMap.get_put_ne _ _ _ _ _ _ h

theorem State.moveRecord_store (x src dst : Nat) : (s.moveRecord x src dst).ctx.store =
    SMap.paste 0 (dst * 64) (SMap.clearRange (SMap.clearRange s.ctx.store (src * 64) (src * 64 + 64)) (dst * 64)
      (dst * 64 + 64)) (SMap.slice s.ctx.store (src * 64) (src * 64 + 64)) := rfl

/-- R143: the record stands in its target slot word for word. -/
theorem State.moveRecord_target (h : SMap.risingFrom none s.ctx.store = true) (x src dst : Nat) {w : Nat} (hw : w < 64) :
    (s.moveRecord x src dst).slotWord dst w = s.slotWord src w := by
  rw [State.slotWord, State.moveRecord_store, SMap.get_paste_slice 0 h (by omega)]
  · rfl
  · rw [SMap.get_clearRange, if_pos ⟨by omega, by omega⟩]

theorem State.moveRecord_other (x : Nat) {src dst p w : Nat} (hdst : p ≠ dst) (hsrc : p ≠ src) (hw : w < 64) :
    (s.moveRecord x src dst).slotWord p w = s.slotWord p w := by
  rw [State.slotWord, State.moveRecord_store, SMap.get_paste_slice_ne 0 _ _ (by omega), SMap.get_clearRange,
    if_neg (by omega), SMap.get_clearRange, if_neg (by omega)]
  rfl

end

/-! ## The commit of a migration (R144) -/

/-- The fields that a commit reports in. -/
def commitFields : List (Nat × Fld) :=
  [(pPLC, PLC_MIGCNT_COUNT), (pPLC, PLC_MIGLAST_RESULT), (pPLC, PLC_MIGLAST_TARGET), (pPLC, PLC_MIGLAST_SOURCE),
    (pPLC, PLC_MIGLAST_HANDLE), (pPLC, PLC_STAT_EXCLSTATE)] ++ irqField pPLC

/-- What a change of the placement controller and its reports leaves. -/
theorem Changes.placement_keeps {s u : State} {K : Nat → Bool} (h : Changes s u [.plc, .msi] K) :
    u.ctx = s.ctx ∧ u.lnk = s.lnk ∧ u.jer = s.jer ∧ u.frm = s.frm ∧ u.time = s.time :=
  ⟨show (u.blank [.plc, .msi]).ctx = (s.blank [.plc, .msi]).ctx by rw [h.1],
    show (u.blank [.plc, .msi]).lnk = (s.blank [.plc, .msi]).lnk by rw [h.1],
    show (u.blank [.plc, .msi]).jer = (s.blank [.plc, .msi]).jer by rw [h.1],
    show (u.blank [.plc, .msi]).frm = (s.blank [.plc, .msi]).frm by rw [h.1],
    show (u.blank [.plc, .msi]).time = (s.blank [.plc, .msi]).time by rw [h.1]⟩

section
variable {s : State}

theorem State.evacDone_changes (s : State) :
    Changes s s.evacDone [.msi] (fields ((pPLC, PLC_STAT_EXCLSTATE) :: irqField pPLC)) :=
  Changes.ite (fun _ => ((Changes.refl _ _ _).setFld (by decide)).irq (by decide) (by decide)) fun _ => Changes.refl _ _ _

theorem State.evacDone_plc (s : State) : s.evacDone.plc = s.plc :=
  show (s.evacDone.blank [.msi]).plc = (s.blank [.msi]).plc by rw [s.evacDone_changes.1]

/-- R144: the record of a migration is in its target slot, and the migration has left the list. -/
def State.recordMoved (s : State) (m : Mig) : State :=
  (s.moveRecord m.handle (s.phys m.handle) m.target).updPlc fun p =>
    { p with
      migs := p.migs.filter (· ≠ m)
      moved := SMap.put 0 p.moved m.handle (s.fn + 1) }

/-- R144: MIGCNT and MIGLAST report a commit, from slot `src`. -/
def State.commitReported (s : State) (m : Mig) (src : Nat) : State :=
  (s.addWrap pPLC PLC_MIGCNT_COUNT 1).setMigLast 1 (bankOf m.target) (bankOf src) m.handle

theorem State.commitReported_changes (s : State) (m : Mig) (src : Nat) :
    Changes s (s.commitReported m src) [] (fields commitFields) :=
  ((((((Changes.refl _ _ _).addWrap (by decide)).setFld (by decide)).setFld (by decide)).setFld (by decide)).setFld
    (by decide))

theorem State.commitReported_fields (s : State) (m : Mig) (src : Nat) : let u := s.commitReported m src
    u.fld pPLC PLC_MIGCNT_COUNT = (s.fld pPLC PLC_MIGCNT_COUNT + 1) % 2 ^ 32 ∧ u.fld pPLC PLC_MIGLAST_RESULT = 1 ∧
    u.fld pPLC PLC_MIGLAST_HANDLE = m.handle % 65536 := by
  refine ⟨?_, ?_, State.fld_setFld_same _ _ _ _⟩
  · rw [State.commitReported, State.setMigLast, State.fld_setFld_ne _ _ _ _ _ _ (by decide),
      State.fld_setFld_ne _ _ _ _ _ _ (by decide), State.fld_setFld_ne _ _ _ _ _ _ (by decide),
      State.fld_setFld_ne _ _ _ _ _ _ (by decide), State.fld_addWrap_same]
    rfl
  · rw [State.commitReported, State.setMigLast, State.fld_setFld_ne _ _ _ _ _ _ (by decide),
      State.fld_setFld_ne _ _ _ _ _ _ (by decide), State.fld_setFld_ne _ _ _ _ _ _ (by decide), State.fld_setFld_same]
    rfl

/-- A commit moves the record, reports it, and may end an evacuation; it joins the list of a frame's commits. -/
theorem State.commitMig_sound (m : Mig) (hsound : s.plc.hmBad = []) : ∃ done : Plc → List MigDone, s.commitMig m =
    ((s.recordMoved m).commitReported m (s.phys m.handle)).evacDone.updPlc fun p => { p with done := done p } := by
  rw [State.commitMig, s.hmCheck_sound _ hsound]
  exact ⟨_, rfl⟩

theorem State.recordMoved_fld (m : Mig) (p : Nat) (f : Fld) : (s.recordMoved m).fld p f = s.fld p f := rfl

theorem State.commitReported_keeps (m : Mig) (src : Nat) : let u := s.commitReported m src
    u.ctx = s.ctx ∧ u.plc = s.plc ∧ u.lnk = s.lnk ∧ u.jer = s.jer ∧ u.frm = s.frm := ⟨rfl, rfl, rfl, rfl, rfl⟩

theorem State.commitMig_spec (m : Mig) (hsound : s.plc.hmBad = []) : let u := s.commitMig m
    u.ctx = (s.recordMoved m).ctx ∧ u.plc.home = (s.recordMoved m).plc.home ∧
    u.plc.migs = s.plc.migs.filter (· ≠ m) ∧
    u.fld pPLC PLC_MIGCNT_COUNT = (s.fld pPLC PLC_MIGCNT_COUNT + 1) % 2 ^ 32 ∧ u.fld pPLC PLC_MIGLAST_RESULT = 1 ∧
    u.fld pPLC PLC_MIGLAST_HANDLE = m.handle % 65536 ∧ u.lnk = s.lnk ∧ u.jer = s.jer ∧ u.frm = s.frm := by
  obtain ⟨done, hcommit⟩ := State.commitMig_sound m hsound
  obtain ⟨hcount, hresult, hhandle⟩ := (s.recordMoved m).commitReported_fields m (s.phys m.handle)
  obtain ⟨hctx, hplc, hlnk, hjer, hfrm⟩ := (s.recordMoved m).commitReported_keeps m (s.phys m.handle)
  rw [hcommit]
  generalize (s.recordMoved m).commitReported m (s.phys m.handle) = r at *
  have hdone : Changes r r.evacDone [.plc, .msi] (fields ((pPLC, PLC_STAT_EXCLSTATE) :: irqField pPLC)) :=
    r.evacDone_changes.mono (by decide) fun _ hk => hk
  obtain ⟨hctx', hlnk', hjer', hfrm', -⟩ := hdone.placement_keeps
  dsimp only [State.updPlc_ctx, State.updPlc_plc, State.updPlc_lnk, State.updPlc_jer, State.updPlc_frm, State.updPlc_fld]
  rw [hdone.fld_eq (by decide), hdone.fld_eq (by decide), hdone.fld_eq (by decide), hcount, State.recordMoved_fld,
    State.evacDone_plc, hplc]
  exact ⟨hctx'.trans hctx, rfl, rfl, rfl, hresult, hhandle, hlnk'.trans hlnk, hjer'.trans hjer, hfrm'.trans hfrm⟩

end

/-! ## The copy of a migration in STOP (R142, R143, R145) -/

/-- R143: the migration once its record has been copied. -/
def State.copied (s : State) (m : Mig) : Mig := { m with copied := true, sent := m.sent || s.mirrors }

/-- R142: a copy has been made and noted in the list. -/
def State.copyNoted (s : State) (m : Mig) : State :=
  (s.updPlc fun p => { p with made := p.made + 1 }).updPlc fun p =>
    { p with migs := p.migs.map fun y => if y = m then s.copied m else y }

section
variable {s : State} {m : Mig}

@[simp] theorem State.updPlc_mirrors (s : State) (g : Plc → Plc) : (s.updPlc g).mirrors = s.mirrors := rfl

@[simp] theorem State.updPlc_frmState (s : State) (g : Plc → Plc) : (s.updPlc g).frmState = s.frmState := rfl

/-- Where nothing of the record and its table entries is in error, the migration commits as soon as it is copied. -/
theorem State.copyMig_stop (hstop : s.frmState = 0) (hmirrors : s.mirrors = false) (hecc : s.ctx.ecc = [])
    (hsound : s.plc.hmBad = []) (hquar : s.ctx.qmapBad = []) : s.copyMig m = (s.copyNoted m).commitMig (s.copied m) := by
  have hgood (g : Nat) : (s.updPlc fun p => { p with made := p.made + 1 }).eccAt (s.phys m.handle) g = 0 := by
    rw [State.eccAt, State.updPlc_ctx, hecc]
    rfl
  simp only [State.copyMig, s.hmCheck_sound _ hsound, s.qmapCheck_sound _ hquar, State.fixAllCe_none _ _ fun g _ =>
    (hgood g).trans_ne Nat.zero_ne_one, State.firstUe_none _ _ fun g _ => hgood g, ite_self, State.copyNoted,
    State.copied, State.migUnacked, State.updPlc_mirrors, State.updPlc_frmState, hmirrors, hstop, Bool.false_and,
    Bool.false_eq_true, if_false, if_true]

/-- A copied migration that has been committed is not in the list that is left. -/
theorem mem_migs_of_commit {ms : List Mig} {m c x : Mig}
    (h : x ∈ (ms.map fun y => if y = m then c else y).filter (· ≠ c)) : x ∈ ms := by
  obtain ⟨hmap, hne⟩ := List.mem_filter.mp h
  obtain ⟨y, hy, rfl⟩ := List.mem_map.mp hmap
  by_cases he : y = m
  · simp [he] at hne
  · rwa [if_neg he]

theorem migrationCopy_commits (s : State) (m : Mig) : let a := s.settleStop
    a.wf = true → a.pwr.up = true → a.clkOn pPLC = true →
    a.bit pPLC HDR_PG_CTRL_EN = true → a.plc.made < a.fld pPLC PLC_CTRL_MIGMAX → a.frmState = 0 → a.role ≠ 2 →
    a.mirrors = false → a.nextCopy = some m → m.target ≠ a.phys m.handle → a.ctx.ecc = [] → a.plc.hmBad = [] →
    a.ctx.qmapBad = [] →
    Completes (.migrationCopy []) s fun u =>
      u.phys m.handle = m.target ∧ (∀ w < 64, u.recWord m.handle w = a.recWord m.handle w) ∧
      (∀ h, h ≠ m.handle → u.phys h = a.phys h) ∧
      (∀ p w, p ≠ m.target → p ≠ a.phys m.handle → w < 64 → u.slotWord p w = a.slotWord p w) ∧
      (∀ m' ∈ u.plc.migs, m'.handle = m.handle → m' ∈ a.plc.migs) ∧
      u.fld pPLC PLC_MIGCNT_COUNT = (a.fld pPLC PLC_MIGCNT_COUNT + 1) % 2 ^ 32 ∧
      u.fld pPLC PLC_MIGLAST_RESULT = 1 ∧ u.fld pPLC PLC_MIGLAST_HANDLE = m.handle % 65536 ∧
      u.lnk = a.lnk ∧ u.jer = a.jer ∧ u.frm = a.frm := by
  intro a hwf hup hclk hen hmade hstop hrole hmirrors hnext htarget hecc hsound hquar
  let b := a.copyNoted m
  let r := b.moveRecord m.handle (a.phys m.handle) m.target
  have hexec : exec (.migrationCopy []) s = .next (b.commitMig (a.copied m)) := by
    show Host.Outcome.next _ = Host.Outcome.next _
    have hmay : (a.pwr.up && a.clkOn pPLC && a.bit pPLC HDR_PG_CTRL_EN &&
        decide (a.role ≠ 2 ∧ a.plc.made < a.fld pPLC PLC_CTRL_MIGMAX) && (decide (a.frmState = 0) ||
        (decide (a.frmState = 1) && a.frm.inFrame && !a.frm.deadline))) = true := by
      simp [hup, hclk, hen, hrole, hmade, hstop]
    rw [← State.copyMig_stop hstop hmirrors hecc hsound hquar]
    refine congrArg _ ((if_pos hmay).trans ?_)
    show (match a.nextCopy with | some m => a.copyMig m | none => a) = _
    rw [hnext]
  obtain ⟨hctx, hhome, hmigs, hcount, hresult, hhandle, hlnk, hjer, hfrm⟩ := b.commitMig_spec (a.copied m) hsound
  have hphys (h : Nat) : (b.commitMig (a.copied m)).phys h = r.phys h := by
    rw [State.phys, hhome]
    rfl
  have hword (p w : Nat) : (b.commitMig (a.copied m)).slotWord p w = r.slotWord p w := by
    rw [State.slotWord, hctx]
    rfl
  refine ⟨_, hexec, ?_, fun w hw => ?_, fun h hh => ?_, fun p w hdst hsrc hw => ?_, fun m' hm' _ => ?_, hcount, hresult,
    hhandle, hlnk, hjer, hfrm⟩
  · rw [hphys]
    exact State.moveRecord_phys_same _ _ _
  · rw [State.recWord, hphys, hword, State.moveRecord_phys_same]
    exact State.moveRecord_target (s := b) (State.wf_store hwf) _ _ _ hw
  · rw [hphys]
    exact State.moveRecord_phys_ne _ _ hh
  · rw [hword]
    exact State.moveRecord_other _ hdst hsrc hw
  · rw [hmigs] at hm'
    exact mem_migs_of_commit hm'

end

/-! ## The background check of the handle table (R137) -/

section
variable {s : State} {t : Time}

/-- R374: a device-fatal error leaves FAULT_B asserted. -/
theorem State.fatal_faultB (s : State) (page cause : Nat) : (s.fatal page cause).pwr.faultB = true := by
  cases h : s.pwr.faultB
  · exact (s.fatal_first page cause h).1
  · rw [State.fatal, h, if_pos rfl, State.holdCauseArises_pwr, State.setFld_pwr, State.log_pwr, State.err_pwr, h]

theorem State.hmCheck_fatal (x : Nat) (h : SMap.get 0 s.plc.hmBad x = 3) :
    s.hmCheck x = (s.err pPLC PLC_E_HMFATAL).fatal pPLC 2 := by
  rw [State.hmCheck, h]
  rfl

/-- R137: the entry that is in error in one copy takes the value of the other. -/
theorem State.hmCheck_corrects (x : Nat) (h : SMap.get 0 s.plc.hmBad x = 1 ∨ SMap.get 0 s.plc.hmBad x = 2) :
    s.hmCheck x = (((s.updPlc fun p => { p with hmBad := SMap.put 0 p.hmBad x 0 }).err pPLC PLC_E_HMPAR).corrected).log
      pPLC 0x050 1 x := by
  obtain h | h := h
  all_goals
    rw [State.hmCheck, h]
    rfl

theorem exec_hmapParityCheck (hup : s.pwr.up = true) (hclk : s.clkOn pPLC = true) :
    exec (.hmapParityCheck t []) s = .next ((s.plc.hmBad.map Prod.fst).foldl State.hmCheck (s.at_ t)) := by
  have hrun : ((s.at_ t).pwr.up && (s.at_ t).clkOn pPLC) = true := by
    rw [s.atTime_clkOn t pPLC (by decide), hclk, State.atTime_pwr, hup]
    rfl
  exact congrArg Host.Outcome.next (if_pos hrun)

theorem hmapParityCheck_sound (hup : s.pwr.up = true) (hclk : s.clkOn pPLC = true) (hsound : s.plc.hmBad = []) :
    Completes (.hmapParityCheck t []) s fun u => u = s.at_ t := by
  refine ⟨_, exec_hmapParityCheck hup hclk, ?_⟩
  rw [hsound]
  rfl

theorem hmapParityCheck_corrects (hup : s.pwr.up = true) (hclk : s.clkOn pPLC = true) {h c : Nat}
    (hbad : s.plc.hmBad = [(h, c)]) (hc : c = 1 ∨ c = 2) : Completes (.hmapParityCheck t []) s fun u =>
      u.plc = { s.plc with hmBad := [] } ∧
      u.fld pPLC HDR_PG_ERR_ERR = (s.fld pPLC HDR_PG_ERR_ERR ||| 2 ^ PLC_E_HMPAR) % 2 ^ 32 ∧
      u.fld pERR ERR_CLASSCNT_CORRECTED =
        Nat.min (s.fld pERR ERR_CLASSCNT_CORRECTED + 1) (2 ^ ERR_CLASSCNT_CORRECTED.wid - 1) ∧ u.pwr = s.pwr := by
  have hentry : SMap.get 0 s.plc.hmBad h = c := by rw [hbad]; exact if_pos rfl
  have herased : SMap.put 0 s.plc.hmBad h 0 = [] := by
    rw [hbad]
    exact (if_pos rfl).trans (if_pos rfl)
  refine ⟨_, exec_hmapParityCheck hup hclk, ?_⟩
  rw [hbad]
  show _ ∧ _ ∧ _ ∧ _
  rw [List.map_singleton, List.foldl_cons, List.foldl_nil, State.hmCheck_corrects (s := s.at_ t) h (hentry.symm ▸ hc)]
  refine ⟨?_, ?_, ?_, ?_⟩
  · rw [State.log_plc, State.corrected_plc, State.err_plc, State.updPlc_plc, State.atTime_plc, herased]
  · rw [State.fld_log_ne _ _ _ _ _ _ _ (by decide), State.corrected, State.fld_addSat_ne _ _ _ _ _ _ (by decide),
      State.fld_err_err, State.updPlc_fld, State.atTime_fld]
  · rw [State.fld_log_ne _ _ _ _ _ _ _ (by decide), State.corrected, State.fld_addSat_same,
      State.fld_err_ne _ _ _ _ _ (by decide) (by decide), State.updPlc_fld, State.atTime_fld]
  · rw [State.log_pwr, State.corrected_pwr, State.err_pwr, State.updPlc_pwr, State.atTime_pwr]

theorem hmapParityCheck_fatal (hup : s.pwr.up = true) (hclk : s.clkOn pPLC = true) {h : Nat}
    (hbad : s.plc.hmBad = [(h, 3)]) : Completes (.hmapParityCheck t []) s fun u => u.pwr.faultB = true := by
  have hentry : SMap.get 0 (s.at_ t).plc.hmBad h = 3 := by
    rw [State.atTime_plc, hbad]
    exact if_pos rfl
  refine ⟨_, exec_hmapParityCheck hup hclk, ?_⟩
  rw [hbad, List.map_singleton, List.foldl_cons, List.foldl_nil, State.hmCheck_fatal h hentry]
  exact State.fatal_faultB _ _ _

end

/-! ## Migrations that are settled (R144) -/

section
variable {s : State}

/-- Where nothing waits to be cancelled or requested again there is nothing to settle. -/
theorem State.settleStop_settled (h : s.settled) : s.settleStop = s := by
  obtain ⟨hagain, hcancel⟩ := h
  have hnone : (s.plc.migs.filter fun m => m.cancel = 1 ∨ m.cancel = 2) = [] :=
    List.filter_eq_nil_iff.mpr fun m hm => by simp [hcancel m hm]
  have hmigs : (s.plc.migs.map fun m => if m.cancel = 3 then { m with cancel := 0 } else m) = s.plc.migs :=
    (List.map_congr_left fun m hm => if_neg (by simp [hcancel m hm])).trans (List.map_id _)
  have hrequest : s.requestAgain = s := by
    unfold State.requestAgain State.updPlc
    rw [hagain]
    dsimp only [List.foldl_nil]
    rw [hmigs, ← hagain]
  rw [State.settleStop, hnone, List.foldl_nil, hrequest]
  exact ite_self _

end

/-! ## Planning in STOP (R140, R145) -/

/-- From `s` to `u` moves have been planned: no handle has moved, no pin has changed, and no copy has been made. -/
def Plans (s u : State) : Prop :=
  Changes s u [.plc, .msi] (fields ((pPLC, PLC_STAT_BALANCED) :: irqField pPLC)) ∧ u.plc.made = s.plc.made ∧
    u.plc.home = s.plc.home ∧ u.plc.pins = s.plc.pins

section
variable {s u : State}

theorem Plans.refl (s : State) : Plans s s := ⟨Changes.refl _ _ _, rfl, rfl, rfl⟩

theorem Plans.addMig {m : Mig} (h : Plans s u) : Plans s (u.updPlc fun x => { x with migs := x.migs ++ [m] }) :=
  ⟨h.1.updPlc (by decide), h.2⟩

theorem State.setBalanced_plc (s : State) (b : Bool) : (s.setBalanced b).plc = s.plc := by
  unfold State.setBalanced
  dsimp only
  split
  · rw [State.irq_plc, State.setBit_plc]
  · rw [State.setBit_plc]

theorem Plans.setBalanced {b : Bool} (h : Plans s u) : Plans s (u.setBalanced b) := by
  obtain ⟨hchanges, hkept⟩ := h
  refine ⟨Changes.ite (fun _ => (hchanges.setBit (by decide)).irq (by decide) (by decide)) fun _ =>
    hchanges.setBit (by decide), ?_⟩
  rw [State.setBalanced_plc]
  exact hkept

/-- R140: a step that succeeds plans one move. -/
theorem State.planStep_some {ms ms' : List (Nat × Rat)} (h : s.planStep ms = some (u, ms')) :
    ∃ m, u = s.updPlc fun x => { x with migs := x.migs ++ [m] } := by
  unfold State.planStep at h
  split at h
  · split at h
    · dsimp only at h
      split at h
      · exact ⟨_, (congrArg Prod.fst (Option.some.inj h)).symm⟩
      · cases h
    · cases h
  · cases h

theorem Plans.planSteps {n : Nat} {ms : List (Nat × Rat)} (h : Plans s u) : Plans s (State.planSteps n u ms).1 := by
  induction n generalizing u ms with
  | zero => exact h
  | succ n ih =>
    rw [State.planSteps]
    split
    case h_1 u' ms' hstep =>
      obtain ⟨m, rfl⟩ := State.planStep_some hstep
      exact ih h.addMig
    case h_2 => exact h

theorem State.qmapCheckAll_sound (hs : List Nat) (h : s.ctx.qmapBad = []) : s.qmapCheckAll hs = s := by
  rw [State.qmapCheckAll, h]
  rfl

theorem State.planMoves_plans (hsound : s.plc.hmBad = []) (hquar : s.ctx.qmapBad = []) : Plans s s.planMoves := by
  unfold State.planMoves
  rw [s.hmCheckAll_sound _ hsound, State.qmapCheckAll_sound _ hquar]
  split
  · exact Plans.refl s
  · dsimp only
    split
    · exact (Plans.refl s).setBalanced
    · have hsteps : Plans s _ := ((Plans.refl s).setBalanced (b := false)).planSteps (n := s.fld pPLC PLC_CTRL_MIGMAX)
        (ms := s.activeBanks.map fun e => (e, s.engineLoad e))
      split
      · exact hsteps.setBalanced
      · exact hsteps

theorem stopBalanceTimer_plans (t : Time) (hup : s.pwr.up = true) (hclk : s.clkOn pPLC = true) (hstop : s.frmState = 0)
    (hsettled : s.settled) (hsound : s.plc.hmBad = []) (hquar : s.ctx.qmapBad = []) :
    Completes (.stopBalanceTimer t) s fun u =>
      u.time = s.timeAt t ∧ u.plc.made = 0 ∧ u.plc.home = s.plc.home ∧ u.plc.pins = s.plc.pins ∧ u.ctx = s.ctx ∧
      u.jer = s.jer ∧ u.lnk = s.lnk := by
  let a := (s.at_ t).updPlc fun p => { p with made := 0 }
  have hrun : ((s.at_ t).pwr.up && (s.at_ t).clkOn pPLC && decide ((s.at_ t).frmState = 0)) = true := by
    have hstop' : (s.at_ t).frmState = 0 := hstop
    rw [s.atTime_clkOn t pPLC (by decide), hclk, State.atTime_pwr, hup, hstop']
    rfl
  have hsettle : a.settleStop = a := State.settleStop_settled hsettled
  have hexec : exec (.stopBalanceTimer t) s = .next a.planMoves :=
    congrArg Host.Outcome.next ((if_pos hrun).trans (congrArg State.planMoves hsettle))
  obtain ⟨hchanges, hmade, hhome, hpins⟩ : Plans a a.planMoves := State.planMoves_plans hsound hquar
  obtain ⟨hctx, hlnk, hjer, -, htime⟩ := hchanges.placement_keeps
  exact ⟨_, hexec, htime, hmade, hhome, hpins, hctx, hjer, hlnk⟩

end

/-- Settles O20: the next copy commits in STOP and moves its record whole; the handle table is corrected from its good
copy; planning moves nothing. -/
theorem migrationAndPlanning : Obligations.MigrationAndPlanning :=
  ⟨migrationCopy_commits, fun _ h => State.settleStop_settled h, fun _ t hup hclk =>
    ⟨hmapParityCheck_sound hup hclk, fun _ _ hbad hc => hmapParityCheck_corrects hup hclk hbad hc,
      fun _ hbad => hmapParityCheck_fatal hup hclk hbad,
      fun hstop hsettled hsound hquar => stopBalanceTimer_plans t hup hclk hstop hsettled hsound hquar⟩⟩

end Sys2Proof.Machine

/-! # The self-test of an excluded bank and the allocation of regions (R150 to R155) -/

namespace Sys2Proof.Machine

/-- Interrupts and log entries leave the contexts, the placement controller, the engines and device time. -/
theorem Changes.reports_keep {s u : State} {K : Nat → Bool} (h : Changes s u [.msi, .ring] K) :
    u.ctx = s.ctx ∧ u.plc = s.plc ∧ u.jer = s.jer ∧ u.time = s.time :=
  ⟨show (u.blank [.msi, .ring]).ctx = (s.blank [.msi, .ring]).ctx by rw [h.1],
    show (u.blank [.msi, .ring]).plc = (s.blank [.msi, .ring]).plc by rw [h.1],
    show (u.blank [.msi, .ring]).jer = (s.blank [.msi, .ring]).jer by rw [h.1],
    show (u.blank [.msi, .ring]).time = (s.blank [.msi, .ring]).time by rw [h.1]⟩

/-! ## The start of a self-test (R150) -/

theorem State.doBtcmd_start (s : State) : s.doBtcmd 1 =
    if s.fld pPLC PLC_STAT_EXCLSTATE = 2 ∧ s.bit (pJE (s.fld pPLC PLC_STAT_EXCLBANK)) HDR_PG_CTRL_EN = false then
      ((s.setFld pPLC PLC_STAT_EXCLSTATE 3).setFld pPLC PLC_BTSTAT_BUSY 1).updPlc fun p => { p with btEnd := s.time + 153600 }
    else s.err pPLC PLC_E_EXCLREF := rfl

section
variable {s : State} {t : Time}

theorem btcmd_starts (hopen : (s.at_ t).writeOpen 0x5074 = true) (hst : s.fld pPLC PLC_STAT_EXCLSTATE = 2)
    (hoff : s.bit (pJE (s.fld pPLC PLC_STAT_EXCLBANK)) HDR_PG_CTRL_EN = false) : Completes (.btcmdStart t) s fun u =>
      u.fld pPLC PLC_STAT_EXCLSTATE = 3 ∧ u.fld pPLC PLC_BTSTAT_BUSY = 1 ∧
      u.plc = { s.plc with btEnd := s.timeAt t + 153600 } ∧
      Changes (s.arrive t 0x5074 1) u [.plc] (fields [(pPLC, PLC_STAT_EXCLSTATE), (pPLC, PLC_BTSTAT_BUSY)]) := by
  refine Completes.write hopen rfl ?_
  rw [State.doBtcmd_start, State.arrive_fld, State.arrive_fld, State.arrive_bit, if_pos ⟨hst, hoff⟩]
  refine ⟨?_, ?_, ?_, (((Changes.refl _ _ _).setFld (by decide)).setFld (by decide)).updPlc (by decide)⟩
  · rw [State.updPlc_fld, State.fld_setFld_ne _ _ _ _ _ _ (by decide), State.fld_setFld_same]
    rfl
  · rw [State.updPlc_fld, State.fld_setFld_same]
    rfl
  · rw [State.updPlc_plc, State.setFld_plc, State.setFld_plc, State.arrive_plc, State.arrive_time]

theorem btcmd_refused (hopen : (s.at_ t).writeOpen 0x5074 = true) (hst : s.fld pPLC PLC_STAT_EXCLSTATE ≠ 2) :
    Completes (.btcmdStart t) s fun u => RaisesOnly (s.arrive t 0x5074 1) u pPLC PLC_E_EXCLREF := by
  refine Completes.write hopen rfl ?_
  rw [State.doBtcmd_start, State.arrive_fld, if_neg fun h => hst h.1]
  exact State.err_raises _ _ _

end

/-! ## The end of a self-test (R150) -/

/-- R150: every word of a bank reads 0, with good check bits. -/
def State.bankCleared (s : State) (b : Nat) : State :=
  s.updCtx fun c =>
    { c with
      store := SMap.clearRange c.store (b * 102400) (b * 102400 + 102400)
      flip := SMap.clearRange c.flip (b * 102400) (b * 102400 + 102400)
      ecc := SMap.clearRange c.ecc (b * 25600) (b * 25600 + 25600) }

/-- R150: BTSTAT says that the self-test of a bank has ended. -/
def State.testEnded (s : State) (b : Nat) : State :=
  ((s.setFld pPLC PLC_STAT_EXCLSTATE 2).setFld pPLC PLC_BTSTAT_BUSY 0).setFld pPLC PLC_BTSTAT_BANK b

/-- R150: the result of the self-test of a bank and its first failure, which is reported. -/
def State.testResult (s : State) (b : Nat) : Option (Fin 6400 × Fin 188) → State
  | none => ((s.setFld pPLC PLC_BTSTAT_RESULT 1).setFld pPLC PLC_BTSTAT_BIT 0).setFld pPLC PLC_BTSTAT_ADDR 0
  | some (a, k) =>
    let u := ((s.setFld pPLC PLC_BTSTAT_RESULT 2).setFld pPLC PLC_BTSTAT_BIT k.val).setFld pPLC PLC_BTSTAT_ADDR a.val
    ((u.err pPLC PLC_E_BTFAIL).contained).log pPLC 0x051 3 (b * 2 ^ 24 + k.val * 2 ^ 16 + a.val)

/-- The fields of a self-test's result and of its report. -/
def testFields : List (Nat × Fld) :=
  [(pPLC, PLC_BTSTAT_RESULT), (pPLC, PLC_BTSTAT_BIT), (pPLC, PLC_BTSTAT_ADDR), (pERR, ERR_CLASSCNT_CONTAINED)] ++
    errFields pPLC

section
variable {s : State}

theorem exec_selftestEnd (fail : Option (Fin 6400 × Fin 188)) (h : s.fld pPLC PLC_STAT_EXCLSTATE = 3) :
    exec (.selftestEnd fail) s = .next ((((((s.at_ s.plc.btEnd).bankCleared (s.fld pPLC PLC_STAT_EXCLBANK)).testEnded
      (s.fld pPLC PLC_STAT_EXCLBANK)).testResult (s.fld pPLC PLC_STAT_EXCLBANK) fail)).irq pPLC PLC_E_BTDONE) := by
  show Host.Outcome.next _ = Host.Outcome.next _
  rw [if_neg (not_not.mpr h)]
  cases fail <;> rfl

theorem State.bankCleared_slotWord (s : State) (b p : Nat) {w : Nat} (hw : w < 64) :
    (s.bankCleared b).slotWord p w = if bankOf p = b then 0 else s.slotWord p w := by
  have hin : (b * 102400 ≤ p * 64 + w ∧ p * 64 + w < b * 102400 + 102400) ↔ bankOf p = b := by
    unfold bankOf; omega
  rw [State.slotWord, State.bankCleared, State.updCtx_ctx, SMap.get_clearRange]
  simp only [hin]
  rfl

theorem State.testResult_changes (s : State) (b : Nat) (fail : Option (Fin 6400 × Fin 188)) :
    Changes s (s.testResult b fail) [.msi, .ring] (andLog testFields) := by
  cases fail with
  | none => exact (((Changes.refl _ _ _).setFld (by decide)).setFld (by decide)).setFld (by decide)
  | some x => exact (((((((Changes.refl _ _ _).setFld (by decide)).setFld (by decide)).setFld (by decide)).err (by decide)
      (by decide) (by decide)).contained (by decide)).log (by decide) (by decide) (by decide))

theorem State.testResult_none (s : State) (b : Nat) : (s.testResult b none).fld pPLC PLC_BTSTAT_RESULT = 1 := by
  rw [State.testResult, State.fld_setFld_ne _ _ _ _ _ _ (by decide), State.fld_setFld_ne _ _ _ _ _ _ (by decide),
    State.fld_setFld_same]
  rfl

theorem State.testResult_some (s : State) (b : Nat) (a : Fin 6400) (k : Fin 188) :
    let u := s.testResult b (some (a, k))
    u.fld pPLC PLC_BTSTAT_RESULT = 2 ∧ u.fld pPLC PLC_BTSTAT_ADDR = a.val ∧ u.fld pPLC PLC_BTSTAT_BIT = k.val := by
  intro u
  let v := ((s.setFld pPLC PLC_BTSTAT_RESULT 2).setFld pPLC PLC_BTSTAT_BIT k.val).setFld pPLC PLC_BTSTAT_ADDR a.val
  have hreport : Changes v u [.msi, .ring] (andLog ((pERR, ERR_CLASSCNT_CONTAINED) :: errFields pPLC)) :=
    (((Changes.refl _ _ _).err (by decide) (by decide) (by decide)).contained (by decide)).log (by decide) (by decide)
      (by decide)
  rw [hreport.fld_eq (by decide), hreport.fld_eq (by decide), hreport.fld_eq (by decide)]
  refine ⟨?_, ?_, ?_⟩
  · rw [State.fld_setFld_ne _ _ _ _ _ _ (by decide), State.fld_setFld_ne _ _ _ _ _ _ (by decide),
      State.fld_setFld_same]
    rfl
  · rw [State.fld_setFld_same]
    exact Nat.mod_eq_of_lt (Nat.lt_trans a.isLt (by decide))
  · rw [State.fld_setFld_ne _ _ _ _ _ _ (by decide), State.fld_setFld_same]
    exact Nat.mod_eq_of_lt (Nat.lt_trans k.isLt (by decide))

theorem selftest_ends (fail : Option (Fin 6400 × Fin 188)) (hst : s.fld pPLC PLC_STAT_EXCLSTATE = 3) :
    Completes (.selftestEnd fail) s fun u =>
      (∀ p w, w < 64 → u.slotWord p w = if bankOf p = s.fld pPLC PLC_STAT_EXCLBANK then 0 else s.slotWord p w) ∧
      u.time = s.timeAt s.plc.btEnd ∧ u.fld pPLC PLC_STAT_EXCLSTATE = 2 ∧ u.fld pPLC PLC_BTSTAT_BUSY = 0 ∧
      (fail = none → u.fld pPLC PLC_BTSTAT_RESULT = 1) ∧
      (∀ a k, fail = some (a, k) → u.fld pPLC PLC_BTSTAT_RESULT = 2 ∧ u.fld pPLC PLC_BTSTAT_ADDR = a.val ∧
        u.fld pPLC PLC_BTSTAT_BIT = k.val) ∧ u.plc = s.plc ∧ u.jer = s.jer := by
  refine ⟨_, exec_selftestEnd fail hst, ?_⟩
  generalize s.fld pPLC PLC_STAT_EXCLBANK = b
  let c := (s.at_ s.plc.btEnd).bankCleared b
  let r := (c.testEnded b).testResult b fail
  have hresult : Changes (c.testEnded b) r [.msi, .ring] (andLog testFields) := State.testResult_changes _ _ _
  have hirq : Changes r (r.irq pPLC PLC_E_BTDONE) [.msi, .ring] (fields (irqField pPLC)) :=
    (Changes.refl _ _ _).irq (by decide) (by decide)
  obtain ⟨hctx, hplc, hjer, htime⟩ := hresult.reports_keep
  obtain ⟨hctx', hplc', hjer', htime'⟩ := hirq.reports_keep
  refine ⟨fun p w hw => ?_, htime'.trans htime, ?_, ?_, ?_, ?_, hplc'.trans hplc, hjer'.trans hjer⟩
  · rw [State.slotWord, hctx', hctx]
    exact State.bankCleared_slotWord _ b p hw
  · rw [hirq.fld_eq (by decide), hresult.fld_eq (by decide), State.testEnded,
      State.fld_setFld_ne _ _ _ _ _ _ (by decide), State.fld_setFld_ne _ _ _ _ _ _ (by decide), State.fld_setFld_same]
    rfl
  · rw [hirq.fld_eq (by decide), hresult.fld_eq (by decide), State.testEnded,
      State.fld_setFld_ne _ _ _ _ _ _ (by decide), State.fld_setFld_same]
    rfl
  · rintro rfl
    rw [hirq.fld_eq (by decide)]
    exact State.testResult_none _ _
  · rintro a k rfl
    rw [hirq.fld_eq (by decide), hirq.fld_eq (by decide), hirq.fld_eq (by decide)]
    exact State.testResult_some _ _ a k

end

/-! ## The allocation states of regions (R152, R154) -/

section
variable {s u : State}

theorem State.region_congr (h : u.plc = s.plc) : u.region = s.region := by
  funext n
  rw [State.region, State.region, h]

theorem State.runFree_congr (h : u.plc = s.plc) (k b : Nat) : u.runFree k b = s.runFree k b := by
  rw [State.runFree, State.runFree, State.region_congr h]

theorem State.regionsOf_congr (h : u.plc = s.plc) (id : Nat) : u.regionsOf id = s.regionsOf id := by
  rw [State.regionsOf, State.regionsOf, State.region_congr h]

theorem State.freeAllocId_congr (h : u.plc = s.plc) (n id : Nat) : u.freeAllocId n id = s.freeAllocId n id := by
  induction n generalizing id with
  | zero => rfl
  | succ n ih => rw [State.freeAllocId, State.freeAllocId, h, ih]

theorem State.region_setRegion (s : State) (k : Nat) (r : RgnAlloc) (n : Nat) :
    (s.setRegion k r).region n = if n = k then r else s.region n := by
  by_cases h : n = k
  · rw [if_pos h, h]
    exact SMap.get_put_same _ _ _ _
  · rw [if_neg h]
    exact SMap.get_put_ne _ _ _ _ _ _ h

/-- Regions set one after the other to the same allocation state. -/
theorem State.region_setRegions (s : State) (key : Nat → Nat) (r : RgnAlloc) (is : List Nat) (n : Nat) :
    (is.foldl (fun v i => v.setRegion (key i) r) s).region n = if ∃ i ∈ is, key i = n then r else s.region n := by
  induction is generalizing s with
  | nil => simp
  | cons i is ih =>
    rw [List.foldl_cons, ih, State.region_setRegion]
    by_cases hrest : ∃ j ∈ is, key j = n
    · simp [hrest]
    · by_cases hi : n = key i
      · simp [hi]
      · simp [hrest, hi, Ne.symm hi]

theorem Changes.setRegions {ps : List Piece} {K : Nat → Bool} (hp : Piece.plc ∈ ps) (key : Nat → Nat) (r : RgnAlloc)
    (is : List Nat) (h : Changes s u ps K) : Changes s (is.foldl (fun v i => v.setRegion (key i) r) u) ps K :=
  Changes.foldl (fun _ _ hv => hv.updPlc hp) h

end

/-! ## A request for regions (R152, R153) -/

/-- The fields of RRES. -/
def rresFields : List (Nat × Fld) :=
  [(pPLC, PLC_RRES_STATUS), (pPLC, PLC_RRES_ALLOCID), (pPLC, PLC_RRES_K), (pPLC, PLC_RRES_BASE)]

section
variable {s : State}

theorem State.setRres_changes (s : State) (st id k b : Nat) : Changes s (s.setRres st id k b) [] (fields rresFields) :=
  ((((Changes.refl _ _ _).setFld (by decide)).setFld (by decide)).setFld (by decide)).setFld (by decide)

theorem State.setRres_fields (s : State) (st id k b : Nat) : let u := s.setRres st id k b
    u.fld pPLC PLC_RRES_STATUS = st % 2 ^ 8 ∧ u.fld pPLC PLC_RRES_K = k % 2 ^ 7 ∧ u.fld pPLC PLC_RRES_BASE = b % 2 ^ 6 := by
  refine ⟨?_, ?_, State.fld_setFld_same _ _ _ _⟩
  · rw [State.setRres, State.fld_setFld_ne _ _ _ _ _ _ (by decide), State.fld_setFld_ne _ _ _ _ _ _ (by decide),
      State.fld_setFld_ne _ _ _ _ _ _ (by decide), State.fld_setFld_same]
    rfl
  · rw [State.setRres, State.fld_setFld_ne _ _ _ _ _ _ (by decide), State.fld_setFld_same]
    rfl

/-- R153: a request that fails leaves its status and RAREF, and no allocation. -/
theorem State.rreqFails_spec (s : State) (st : Nat) : (s.rreqFails st).fld pPLC PLC_RRES_STATUS = st % 2 ^ 8 ∧
    (s.rreqFails st).plc = s.plc ∧
    (s.rreqFails st).fld pPLC HDR_PG_ERR_ERR = (s.fld pPLC HDR_PG_ERR_ERR ||| 2 ^ PLC_E_RAREF) % 2 ^ 32 := by
  refine ⟨?_, State.err_plc _ _ _, ?_⟩
  · rw [State.rreqFails, State.fld_err_ne _ _ _ _ _ (by decide) (by decide)]
    exact (s.setRres_fields st 0 0 0).1
  · rw [State.rreqFails, State.fld_err_err, (s.setRres_changes st 0 0 0).fld_eq (by decide)]

/-- R152: the lowest legal run of FREE regions. -/
def State.lowestRun (s : State) (k : Nat) : Option Nat :=
  (List.range 64).find? fun b => legalBase k b && s.runFree k b

theorem State.lowestRun_some (k : Nat) {b : Nat} (hb : b < 64) (hlegal : legalBase k b = true) (hfree : s.runFree k b = true)
    (hlow : ∀ c < b, legalBase k c = true → s.runFree k c = false) : s.lowestRun k = some b := by
  rw [State.lowestRun, List.find?_range_eq_some]
  refine ⟨by simp [hlegal, hfree], List.mem_range.mpr hb, fun c hc => ?_⟩
  cases hl : legalBase k c
  · rfl
  · simp [hlow c hc hl]

theorem State.lowestRun_none (k : Nat) (h : ∀ c < 64, legalBase k c = true → s.runFree k c = false) :
    s.lowestRun k = none := by
  rw [State.lowestRun, List.find?_range_eq_none]
  intro c hc
  cases hl : legalBase k c
  · rfl
  · simp [h c hc hl]

theorem State.lowestRun_congr {u : State} (h : u.plc = s.plc) (k : Nat) : u.lowestRun k = s.lowestRun k := by
  simp only [State.lowestRun, State.runFree_congr h]

/-- R153: `k` regions from `b` on are PENDING under allocation `id`. -/
def State.allocated (s : State) (id b k : Nat) : State :=
  (((List.range k).foldl (fun s i => s.setRegion (b + i) ⟨1, id⟩) s).updPlc fun p =>
    { p with allocs := p.allocs ++ [⟨id, b, k⟩], nextAlloc := nextAllocId id }).setRres stOK id k b

theorem State.region_allocated (s : State) (id b k n : Nat) :
    (s.allocated id b k).region n = if b ≤ n ∧ n < b + k then ⟨1, id⟩ else s.region n := by
  have hrun : (∃ i ∈ List.range k, b + i = n) ↔ b ≤ n ∧ n < b + k :=
    ⟨fun ⟨i, hi, he⟩ => by have := List.mem_range.mp hi; omega,
      fun h => ⟨n - b, List.mem_range.mpr (by omega), by omega⟩⟩
  exact (State.region_setRegions s (b + ·) ⟨1, id⟩ (List.range k) n).trans (if_congr hrun rfl rfl)

theorem State.allocated_changes (s : State) (id b k : Nat) :
    Changes s (s.allocated id b k) [.plc] (fields rresFields) :=
  (((Changes.refl _ _ _).setRegions (by decide) _ _ _).updPlc (by decide)).trans
    ((State.setRres_changes _ _ _ _ _).mono (by simp) fun _ hk => hk)

theorem State.allocated_fields (s : State) (id b k : Nat) : let u := s.allocated id b k
    u.fld pPLC PLC_RRES_STATUS = stOK % 2 ^ 8 ∧ u.fld pPLC PLC_RRES_K = k % 2 ^ 7 ∧ u.fld pPLC PLC_RRES_BASE = b % 2 ^ 6 :=
  State.setRres_fields _ _ _ _ _

theorem State.doRreq_illegal (v : Nat) (hen : s.bit pPLC HDR_PG_CTRL_EN = true) (hk : legalK (PLC_RREQ_K.of v) = false) :
    s.doRreq v = s.rreqFails stBADARG := by
  rw [State.doRreq, hen, hk]
  rfl

/-- R153: a legal request that names no base takes the lowest run, where there is one. -/
theorem State.doRreq_legal (v : Nat) (hen : s.bit pPLC HDR_PG_CTRL_EN = true) (hk : legalK (PLC_RREQ_K.of v) = true)
    (hnamed : PLC_RREQ_NAMED.of v = 0) : s.doRreq v = match s.lowestRun (PLC_RREQ_K.of v) with
      | none => s.rreqFails stBUSY
      | some b => s.allocated (s.freeAllocId 254 s.plc.nextAlloc) b (PLC_RREQ_K.of v) := by
  rw [State.doRreq, hen, hk, hnamed]
  rfl

end

section
variable {s : State} {t : Time} {v : Dword}

theorem rreq_completes {P : State → Prop} (hmirrors : s.mirrors = false) (hopen : (s.at_ t).writeOpen 0x507C = true)
    (h : P ((s.arrive t 0x507C v.toNat).doRreq v.toNat)) : Completes (.rreq t v) s P :=
  plcWrite_acts_completes (o := 0x7C) hmirrors hopen rfl h

theorem rreq_allocates (hmirrors : s.mirrors = false) {b : Nat} (hopen : (s.at_ t).writeOpen 0x507C = true)
    (hen : s.bit pPLC HDR_PG_CTRL_EN = true) (hk : legalK (PLC_RREQ_K.of v.toNat) = true)
    (hnamed : PLC_RREQ_NAMED.of v.toNat = 0) (hb : b < 64) (hlow : s.lowestRun (PLC_RREQ_K.of v.toNat) = some b) :
    Completes (.rreq t v) s fun u =>
      u.fld pPLC PLC_RRES_STATUS = 0 ∧ u.fld pPLC PLC_RRES_BASE = b ∧ u.fld pPLC PLC_RRES_K = PLC_RREQ_K.of v.toNat ∧
      (∀ n, u.region n = if b ≤ n ∧ n < b + PLC_RREQ_K.of v.toNat then
        ⟨1, s.freeAllocId 254 s.plc.nextAlloc⟩ else s.region n) ∧
      Changes (s.arrive t 0x507C v.toNat) u [.plc] (fields rresFields) := by
  have hplc : (s.arrive t 0x507C v.toNat).plc = s.plc := State.arrive_plc _ _ _ _
  refine rreq_completes hmirrors hopen ?_
  rw [State.doRreq_legal _ ((State.arrive_bit _ _ _ _ _ _).trans hen) hk hnamed, State.lowestRun_congr hplc, hlow,
    State.freeAllocId_congr hplc, hplc]
  obtain ⟨hstatus, hcount, hbase⟩ := (s.arrive t 0x507C v.toNat).allocated_fields (s.freeAllocId 254 s.plc.nextAlloc) b
    (PLC_RREQ_K.of v.toNat)
  refine ⟨hstatus, hbase.trans (Nat.mod_eq_of_lt hb), hcount.trans (Fld.of_mod PLC_RREQ_K _), fun n => ?_,
    State.allocated_changes _ _ _ _⟩
  rw [State.region_allocated, State.region_congr hplc]

theorem rreq_illegal (hmirrors : s.mirrors = false) (hopen : (s.at_ t).writeOpen 0x507C = true)
    (hen : s.bit pPLC HDR_PG_CTRL_EN = true) (hk : legalK (PLC_RREQ_K.of v.toNat) = false) :
    Completes (.rreq t v) s fun u => u.fld pPLC PLC_RRES_STATUS = stBADARG ∧ u.plc = s.plc ∧
      u.fld pPLC HDR_PG_ERR_ERR = (s.fld pPLC HDR_PG_ERR_ERR ||| 2 ^ PLC_E_RAREF) % 2 ^ 32 := by
  refine rreq_completes hmirrors hopen ?_
  rw [State.doRreq_illegal _ ((State.arrive_bit _ _ _ _ _ _).trans hen) hk]
  obtain ⟨hstatus, hplc, herr⟩ := (s.arrive t 0x507C v.toNat).rreqFails_spec stBADARG
  exact ⟨hstatus, hplc.trans (State.arrive_plc _ _ _ _), herr.trans (by rw [State.arrive_fld])⟩

theorem rreq_busy (hmirrors : s.mirrors = false) (hopen : (s.at_ t).writeOpen 0x507C = true)
    (hen : s.bit pPLC HDR_PG_CTRL_EN = true) (hk : legalK (PLC_RREQ_K.of v.toNat) = true)
    (hnamed : PLC_RREQ_NAMED.of v.toNat = 0) (hnone : s.lowestRun (PLC_RREQ_K.of v.toNat) = none) :
    Completes (.rreq t v) s fun u => u.fld pPLC PLC_RRES_STATUS = stBUSY ∧ u.plc = s.plc := by
  have hplc : (s.arrive t 0x507C v.toNat).plc = s.plc := State.arrive_plc _ _ _ _
  refine rreq_completes hmirrors hopen ?_
  rw [State.doRreq_legal _ ((State.arrive_bit _ _ _ _ _ _).trans hen) hk hnamed, State.lowestRun_congr hplc, hnone]
  obtain ⟨hstatus, hfails, -⟩ := (s.arrive t 0x507C v.toNat).rreqFails_spec stBUSY
  exact ⟨hstatus, hfails.trans hplc⟩

end

/-! ## The release of regions (R154, R155) -/

section
variable {s : State}

/-- R155: these regions are FREE again. -/
def State.released (s : State) (rs : List Nat) : State :=
  (rs.foldl (fun s n => s.setRegion n RgnAlloc.free) s).dropEmptyAllocs

theorem State.region_released (s : State) (rs : List Nat) (n : Nat) :
    (s.released rs).region n = if n ∈ rs then RgnAlloc.free else s.region n := by
  have hmem : (∃ i ∈ rs, i = n) ↔ n ∈ rs := exists_eq_right
  exact (State.region_setRegions s (fun n => n) RgnAlloc.free rs n).trans (if_congr hmem rfl rfl)

theorem State.released_changes (s : State) (rs : List Nat) : Changes s (s.released rs) [.plc] noField :=
  Changes.updPlc (by decide) ((Changes.refl _ _ _).setRegions (by decide) _ _ _)

theorem State.doRfree_pending (v : Nat) (hid : PLC_RFREE_ALLOCID.of v ≠ 0) (hsome : s.regionsOf (PLC_RFREE_ALLOCID.of v) ≠ [])
    (hpending : ∀ n ∈ s.regionsOf (PLC_RFREE_ALLOCID.of v), (s.region n).state = 1) :
    s.doRfree v = s.released (s.regionsOf (PLC_RFREE_ALLOCID.of v)) := by
  have hall : (s.regionsOf (PLC_RFREE_ALLOCID.of v)).filter (fun n => decide ((s.region n).state = 1)) =
      s.regionsOf (PLC_RFREE_ALLOCID.of v) := List.filter_eq_self.mpr fun n hn => decide_eq_true (hpending n hn)
  rw [State.doRfree, hall]
  exact if_neg (by simp [hid, hsome])

theorem State.doRfree_unused (v : Nat) (hnone : s.regionsOf (PLC_RFREE_ALLOCID.of v) = []) :
    s.doRfree v = s.err pPLC PLC_E_RAREF := by
  rw [State.doRfree, hnone]
  exact if_pos (.inr (.inl rfl))

end

section
variable {s : State} {t : Time} {v : Dword}

theorem rfree_releases (hmirrors : s.mirrors = false) (hopen : (s.at_ t).writeOpen 0x5084 = true)
    (hid : PLC_RFREE_ALLOCID.of v.toNat ≠ 0) (hsome : s.regionsOf (PLC_RFREE_ALLOCID.of v.toNat) ≠ [])
    (hpending : ∀ n ∈ s.regionsOf (PLC_RFREE_ALLOCID.of v.toNat), (s.region n).state = 1) :
    Completes (.rfree t v) s fun u =>
      (∀ n, u.region n = if n ∈ s.regionsOf (PLC_RFREE_ALLOCID.of v.toNat) then RgnAlloc.free else s.region n) ∧
      Changes (s.arrive t 0x5084 v.toNat) u [.plc] noField := by
  have hplc : (s.arrive t 0x5084 v.toNat).plc = s.plc := State.arrive_plc _ _ _ _
  have hof := State.regionsOf_congr hplc (PLC_RFREE_ALLOCID.of v.toNat)
  have hregion := State.region_congr hplc
  refine plcWrite_acts_completes (o := 0x84) hmirrors hopen rfl ?_
  rw [State.doRfree_pending _ hid (hof.symm ▸ hsome) (by rwa [hof, hregion]), hof, ← hregion]
  exact ⟨State.region_released _ _, State.released_changes _ _⟩

theorem rfree_refused (hmirrors : s.mirrors = false) (hopen : (s.at_ t).writeOpen 0x5084 = true)
    (hnone : s.regionsOf (PLC_RFREE_ALLOCID.of v.toNat) = []) :
    Completes (.rfree t v) s fun u => RaisesOnly (s.arrive t 0x5084 v.toNat) u pPLC PLC_E_RAREF := by
  refine plcWrite_acts_completes (o := 0x84) hmirrors hopen rfl ?_
  rw [State.doRfree_unused _ ((State.regionsOf_congr (State.arrive_plc _ _ _ _) _).trans hnone)]
  exact State.err_raises _ _ _

end

/-- Settles O21: a self-test clears its bank and no other word; a request takes the lowest run, and RFREE gives back the
regions of its allocation. -/
theorem selfTestAndRegions : Obligations.SelfTestAndRegions :=
  ⟨fun _ => ⟨fun _ hopen hst hoff => btcmd_starts hopen hst hoff, fun _ hopen hst => btcmd_refused hopen hst,
      fun fail hst _ => selftest_ends fail hst⟩,
    fun _ _ _ hmirrors =>
      ⟨fun _ hopen hen hk hnamed hb hlegal hfree hlow =>
        rreq_allocates hmirrors hopen hen hk hnamed hb (State.lowestRun_some _ hb hlegal hfree hlow),
        rreq_illegal hmirrors,
        fun hopen hen hk hnamed hnone => rreq_busy hmirrors hopen hen hk hnamed (State.lowestRun_none _ hnone),
        rfree_releases hmirrors, rfree_refused hmirrors⟩⟩

end Sys2Proof.Machine

/-! # The training of a link (R160, R161, R185, R186) -/

namespace Sys2Proof.Machine

/-! ## Fields of a port's page, and the ports -/

/-- Where a field stands in its page, in bits. -/
abbrev Fld.place (f : Fld) : Nat := f.off * 32 + f.lo

section
variable (s : State) (p l : Nat) {f g : Fld}

theorem State.fld_setFld_place (v : Nat) (h : f.place ≠ g.place) : (s.setFld p g v).fld p f = s.fld p f :=
  s.fld_setFld_ne _ _ _ _ _ (fldKey_field_ne _ _ _ h)

theorem State.fld_addSat_place (n : Nat) (h : f.place ≠ g.place) : (s.addSat p g n).fld p f = s.fld p f :=
  s.fld_addSat_ne _ _ _ _ _ (fldKey_field_ne _ _ _ h)

theorem State.fld_irq_place (b : Nat) (h : f.place ≠ HDR_PG_IRQST_ST.place) : (s.irq p b).fld p f = s.fld p f :=
  s.fld_irq_ne _ _ _ _ (fldKey_field_ne _ _ _ h)

theorem State.fld_err_place (b : Nat) (h : f.place ≠ HDR_PG_ERR_ERR.place) (h' : f.place ≠ HDR_PG_IRQST_ST.place) :
    (s.err p b).fld p f = s.fld p f :=
  s.fld_err_ne _ _ _ _ (fldKey_field_ne _ _ _ h) (fldKey_field_ne _ _ _ h')

theorem fldKey_port_page {q : Nat} (hq : q < 128) (hf : f.place < 131072) (hg : g.place < 131072) :
    fldKey (pUL l) f ≠ fldKey q g :=
  fldKey_page_ne _ _ _ _ hg hf (by unfold pUL; omega)

theorem State.contained_portFld (hf : f.place < 131072) : s.contained.fld (pUL l) f = s.fld (pUL l) f :=
  s.fld_addSat_ne _ _ _ _ _ (fldKey_port_page l (by decide) hf (by decide))

theorem State.corrected_portFld (hf : f.place < 131072) : s.corrected.fld (pUL l) f = s.fld (pUL l) f :=
  s.fld_addSat_ne _ _ _ _ _ (fldKey_port_page l (by decide) hf (by decide))

theorem State.log_portFld (q c v a : Nat) (hf : f.place < 131072) : (s.log q c v a).fld (pUL l) f = s.fld (pUL l) f :=
  s.fld_log_ne _ _ _ _ _ _ (by rw [fldKey_div _ _ hf]; unfold pUL pLOG; omega)

/-- The ports stand with the part of the state that holds them. -/
theorem State.link_congr {s u : State} (h : u.lnk = s.lnk) : u.link = s.link := by
  funext k
  rw [State.link, State.link, h]

@[simp] theorem State.setFld_link (f : Fld) (v : Nat) : (s.setFld p f v).link = s.link := rfl
@[simp] theorem State.addSat_link (f : Fld) (n : Nat) : (s.addSat p f n).link = s.link := rfl
@[simp] theorem State.irq_link (b : Nat) : (s.irq p b).link = s.link := State.link_congr (s.irq_lnk p b)
@[simp] theorem State.err_link (b : Nat) : (s.err p b).link = s.link := State.link_congr (s.err_lnk p b)
@[simp] theorem State.log_link (c v a : Nat) : (s.log p c v a).link = s.link := State.link_congr (s.log_lnk p c v a)
@[simp] theorem State.contained_link : s.contained.link = s.link := rfl
@[simp] theorem State.corrected_link : s.corrected.link = s.link := rfl
@[simp] theorem State.parcel_link (x : Fwd) : (s.parcel x).link = s.link := State.link_congr (s.parcel_lnk x)
@[simp] theorem State.atTime_link (t : Time) : (s.at_ t).link = s.link := rfl

/-- Some fields of the port's page. -/
def portKeys (l : Nat) (fs : List Fld) : List (Nat × Fld) := fs.map fun f => (pUL l, f)

theorem portKeys_mem {fs : List Fld} (h : f ∈ fs) : fields (portKeys l fs) (fldKey (pUL l) f) = true :=
  fields_mem (List.mem_map_of_mem h)

/-- A field of the page that is none of these. -/
theorem portKeys_other {fs : List Fld} (h : ∀ g ∈ fs, f.place ≠ g.place) :
    fields (portKeys l fs) (fldKey (pUL l) f) = false := by
  refine List.any_eq_false.mpr fun x hx he => ?_
  obtain ⟨g, hg, rfl⟩ := List.mem_map.mp hx
  exact fldKey_field_ne _ _ _ (h g hg) (of_decide_eq_true he).symm

/-- A field of the pages before the ports'. -/
theorem portKeys_low {fs : List Fld} (hfs : ∀ g ∈ fs, g.place < 131072) {q : Nat} (hq : q < 128)
    (hf : f.place < 131072) : fields (portKeys l fs) (fldKey q f) = false := by
  refine List.any_eq_false.mpr fun x hx he => ?_
  obtain ⟨g, hg, rfl⟩ := List.mem_map.mp hx
  exact fldKey_port_page l hq (hfs g hg) hf (of_decide_eq_true he)

end

/-! ## A port goes down (R185, R187) -/

/-- R185: a port as it enters DOWN at `t`. -/
def Lnk.gone (t : Time) (p : Lnk) : Lnk :=
  { p with
    step := 0, autoAt := some (t + 10000000), txOn := false, tx := [], parts := [], segs := [], resent := []
    emitAt := none, tag := none }

section
variable (s : State) (l : Nat)

/-- R187: a port's entry to DOWN counted, with an error where it was trained. -/
def State.downCounted (s : State) (l : Nat) : State :=
  let v := s.addSat (pUL l) UL_TRNCNT_DOWNCNT 1
  if 2 ≤ s.fld (pUL l) UL_STAT_STATE then v.err (pUL l) UL_E_DOWN else v

theorem State.downCounted_training (h : s.fld (pUL l) UL_STAT_STATE < 2) :
    s.downCounted l = s.addSat (pUL l) UL_TRNCNT_DOWNCNT 1 := if_neg (Nat.not_le.mpr h)

theorem State.downCounted_trained (h : 2 ≤ s.fld (pUL l) UL_STAT_STATE) :
    s.downCounted l = (s.addSat (pUL l) UL_TRNCNT_DOWNCNT 1).err (pUL l) UL_E_DOWN := if_pos h

theorem State.downCounted_time : (s.downCounted l).time = s.time := by
  unfold State.downCounted
  split <;> simp

theorem State.downCounted_link : (s.downCounted l).link = s.link := by
  unfold State.downCounted
  split <;> simp

theorem State.downCounted_count : (s.downCounted l).fld (pUL l) UL_TRNCNT_DOWNCNT =
    Nat.min (s.fld (pUL l) UL_TRNCNT_DOWNCNT + 1) (2 ^ UL_TRNCNT_DOWNCNT.wid - 1) := by
  unfold State.downCounted
  split <;> simp (disch := decide) [State.fld_err_place]

theorem State.portDown_down (h : s.fld (pUL l) UL_STAT_STATE = 0) : s.portDown l = s := if_pos h

theorem State.portDown_eq (h : s.fld (pUL l) UL_STAT_STATE ≠ 0) :
    s.portDown l = ((s.downCounted l).setFld (pUL l) UL_STAT_STATE 0).updLink l (Lnk.gone s.time) := by
  rw [← s.downCounted_time l]
  exact if_neg h

theorem State.portDown_time : (s.portDown l).time = s.time := by
  by_cases h : s.fld (pUL l) UL_STAT_STATE = 0
  · rw [s.portDown_down l h]
  · rw [s.portDown_eq l h]
    exact s.downCounted_time l

theorem State.portDown_link (h : s.fld (pUL l) UL_STAT_STATE ≠ 0) :
    (s.portDown l).link l = (s.link l).gone s.time ∧ ∀ k, k ≠ l → (s.portDown l).link k = s.link k := by
  rw [s.portDown_eq l h, ← s.downCounted_link l]
  exact ⟨State.link_updLink_same _ _ _, fun k hk => State.link_updLink_ne _ _ hk⟩

theorem State.portDown_state (h : s.fld (pUL l) UL_STAT_STATE ≠ 0) : (s.portDown l).fld (pUL l) UL_STAT_STATE = 0 := by
  rw [s.portDown_eq l h, State.updLink_fld, State.fld_setFld_same, Nat.zero_mod]

/-- R187: the error of a port that was trained. -/
theorem State.portDown_error (h : 2 ≤ s.fld (pUL l) UL_STAT_STATE) : (s.portDown l).fld (pUL l) HDR_PG_ERR_ERR =
    (s.fld (pUL l) HDR_PG_ERR_ERR ||| 2 ^ UL_E_DOWN) % 2 ^ 32 := by
  rw [s.portDown_eq l (by omega), s.downCounted_trained l h]
  simp (disch := decide) [State.fld_setFld_place, State.fld_err_err, State.fld_addSat_place]

/-- The fields of a port that goes down. -/
def downFields : List Fld := [UL_STAT_STATE, UL_TRNCNT_DOWNCNT, HDR_PG_ERR_ERR, HDR_PG_IRQST_ST]

theorem State.portDown_downFields : Changes s (s.portDown l) [.lnk, .msi] (fields (portKeys l downFields)) :=
  s.portDown_changes l (portKeys_mem l (by decide)) (portKeys_mem l (by decide)) (portKeys_mem l (by decide))
    (portKeys_mem l (by decide))

theorem State.portDown_portFld {f : Fld} (h : ∀ g ∈ downFields, f.place ≠ g.place) :
    (s.portDown l).fld (pUL l) f = s.fld (pUL l) f :=
  (s.portDown_downFields l).fld_eq (portKeys_other l h)

/-- R186: a port in training goes down without an error of its own. -/
theorem State.portDown_training_changes (h : s.fld (pUL l) UL_STAT_STATE = 1) :
    Changes s (s.portDown l) [.lnk] (fields (portKeys l [UL_STAT_STATE, UL_TRNCNT_DOWNCNT])) := by
  rw [s.portDown_eq l (by omega), s.downCounted_training l (by omega)]
  exact (((Changes.refl _ _ _).addSat (portKeys_mem l (by decide))).setFld (portKeys_mem l (by decide))).updLink (by decide)

theorem State.portDown_goesDown (l : Link) (h : s.fld (pUL l.val) UL_STAT_STATE ≠ 0) :
    s.goesDown (s.portDown l.val) l := by
  obtain ⟨hlink, hothers⟩ := s.portDown_link l.val h
  refine ⟨s.portDown_state l.val h, ?_, hlink, hothers, s.portDown_error l.val, s.portDown_downFields l.val⟩
  rw [s.portDown_eq l.val h, State.updLink_fld, State.fld_setFld_place _ _ _ (by decide), State.downCounted_count]

end

/-! ## The start of training and its failure (R160, R185, R186) -/

section
variable (s : State) (l : Link)

/-- R160: the scrambler starts in a state that is never 0. -/
theorem seed_adjusted_ne_zero (x : BitVec 15) : (if x = 0 then 1 else x) ≠ 0 := by
  split
  · decide
  · assumption

theorem State.startTraining_trains : s.trains (s.startTraining l.val) l := by
  unfold State.startTraining
  refine ⟨?_, ?_, ?_, ?_, ?_, ?_, fun k hk => State.link_updLink_ne _ _ hk, ?_⟩
  · simp (disch := decide) [State.fld_setFld_place, State.fld_addSat_place, UL_STAT_STATE]
  · simp (disch := decide) [State.fld_setFld_place]
  · simp
  · simp (disch := decide) [State.fld_setFld_place]
  · simp [State.link_updLink_same]
  · simpa only [State.link_updLink_same] using seed_adjusted_ne_zero _
  · exact (((((Changes.refl s _ _).setFld (fields_mem (by simp))).addSat (fields_mem (by simp))).setFld
      (fields_mem (by simp))).setFld (fields_mem (by simp))).updLink (by decide)

/-- R185: TRAIN starts a port that is in DOWN and enabled. -/
theorem State.doUlCmd_train (hst : s.fld (pUL l.val) UL_STAT_STATE = 0) (hen : s.bit (pUL l.val) HDR_PG_CTRL_EN = true) :
    s.doUlCmd l.val 2 = s.startTraining l.val := if_pos ⟨hst, hen⟩

theorem State.doUlCmd_train_ignored (hst : s.fld (pUL l.val) UL_STAT_STATE ≠ 0) : s.doUlCmd l.val 2 = s :=
  if_neg fun h => hst h.1

/-- R186: a step of training that fails. -/
theorem State.trainingFails_failed {err : Nat} (hst : s.fld (pUL l.val) UL_STAT_STATE = 1)
    (herr : err < 2 ^ UL_STAT_TRNERR.wid) : s.trainingFailed (s.trainingFails l.val err) l err := by
  set v := s.setFld (pUL l.val) UL_STAT_TRNERR err with hv
  have hvst : v.fld (pUL l.val) UL_STAT_STATE = 1 := (s.fld_setFld_place _ _ (by decide)).trans hst
  obtain ⟨hlink, hothers⟩ := v.portDown_link l.val (by omega)
  have hdown := v.portDown_training_changes l.val hvst
  have hfails : s.trainingFails l.val err = ((v.portDown l.val).err (pUL l.val) UL_E_TRNFAIL).contained := rfl
  rw [hfails]
  refine ⟨?_, ?_, ?_, ?_, ?_, fun k hk => ?_, ?_⟩
  · rw [State.contained_portFld _ _ (by decide), State.fld_err_place _ _ _ (by decide) (by decide),
      v.portDown_state l.val (by omega)]
  · rw [State.contained_portFld _ _ (by decide), State.fld_err_place _ _ _ (by decide) (by decide),
      v.portDown_portFld l.val (by decide), hv, State.fld_setFld_same, Nat.mod_eq_of_lt herr]
  · rw [State.contained_link, State.err_link, hlink]
    rfl
  · rw [State.contained_link, State.err_link, hlink]
    rfl
  · rw [State.contained_portFld _ _ (by decide), State.fld_err_err, hdown.fld_eq (portKeys_other l.val (by decide)), hv,
      State.fld_setFld_place _ _ _ (by decide)]
  · rw [State.contained_link, State.err_link, hothers k hk, hv, State.setFld_link]
  · refine Changes.contained (fields_mem (by simp)) (Changes.err (by decide) (fields_mem (by simp [errFields]))
      (fields_mem (by simp [errFields])) ?_)
    refine ((Changes.refl s _ _).setFld (fields_mem (by simp))).trans (v.portDown_changes l.val ?_ ?_ ?_ ?_)
    all_goals exact fields_mem (by simp [errFields])

end

/-! ## TRAIN, DOWN and the automatic start (R185) -/

theorem pgClass_pUL (l : Link) : pgClass (pUL l.val) ≠ .pci := (by decide : ∀ n : Link, pgClass (pUL n.val) ≠ .pci) l

section
variable (s : State) (t : Time) (l : Link)

theorem ulCmdTrain_starts (hopen : (s.at_ t).writeOpen (pUL l.val * 4096 + 0x44) = true)
    (hst : s.fld (pUL l.val) UL_STAT_STATE = 0) (hen : s.bit (pUL l.val) HDR_PG_CTRL_EN = true) :
    Completes (.ulCmdTrain t l) s fun u => (s.arrive t (pUL l.val * 4096 + 0x44) 2).trains u l := by
  refine Completes.write hopen rfl ?_
  rw [State.doUlCmd_train _ _ (by rwa [State.arrive_fld]) (by rwa [State.arrive_bit])]
  exact State.startTraining_trains _ _

theorem ulCmdTrain_ignored (hopen : (s.at_ t).writeOpen (pUL l.val * 4096 + 0x44) = true)
    (hst : s.fld (pUL l.val) UL_STAT_STATE ≠ 0) :
    Completes (.ulCmdTrain t l) s fun u => u = s.arrive t (pUL l.val * 4096 + 0x44) 2 :=
  Completes.write hopen rfl (State.doUlCmd_train_ignored _ _ (by rwa [State.arrive_fld]))

theorem ulCmdDown_goesDown (hopen : (s.at_ t).writeOpen (pUL l.val * 4096 + 0x44) = true)
    (hst : s.fld (pUL l.val) UL_STAT_STATE ≠ 0) :
    Completes (.ulCmdDown t l) s fun u => (s.arrive t (pUL l.val * 4096 + 0x44) 1).goesDown u l :=
  Completes.write hopen rfl (State.portDown_goesDown _ _ (by rwa [State.arrive_fld]))

theorem ulCmdDown_ignored (hopen : (s.at_ t).writeOpen (pUL l.val * 4096 + 0x44) = true)
    (hst : s.fld (pUL l.val) UL_STAT_STATE = 0) :
    Completes (.ulCmdDown t l) s fun u => u = s.arrive t (pUL l.val * 4096 + 0x44) 1 :=
  Completes.write hopen rfl (State.portDown_down _ _ (by rwa [State.arrive_fld]))

section
variable {a : Time} (hat : (s.link l.val).autoAt = some a) (hup : s.pwr.up = true) (hclk : s.clkOn (pUL l.val) = true)
  (hen : s.bit (pUL l.val) HDR_PG_CTRL_EN = true) (hst : s.fld (pUL l.val) UL_STAT_STATE = 0) (hrole : s.role ≠ 2)
include hat hup hclk hen hst hrole

theorem exec_autotrainTimer : exec (.autotrainTimer l) s =
    .next (if s.bit (pUL l.val) UL_CTRL_AUTOTRAIN then (s.at_ a).startTraining l.val else s.at_ a) := by
  have hclk' : (s.at_ a).clkOn (pUL l.val) = true := (s.atTime_clkOn a _ (pgClass_pUL l)).trans hclk
  have hen' : (s.at_ a).bit (pUL l.val) HDR_PG_CTRL_EN = true := hen
  have hrole' : (s.at_ a).role ≠ 2 := hrole
  have hauto : (s.at_ a).bit (pUL l.val) UL_CTRL_AUTOTRAIN = s.bit (pUL l.val) UL_CTRL_AUTOTRAIN := rfl
  show execAutotrainTimer l s = _
  simp [execAutotrainTimer, hat, hup, hclk', hen', hst, hrole', hauto]

theorem autotrainTimer_starts (hauto : s.bit (pUL l.val) UL_CTRL_AUTOTRAIN = true) :
    Completes (.autotrainTimer l) s fun u => (s.at_ a).trains u l := by
  refine ⟨_, exec_autotrainTimer s l hat hup hclk hen hst hrole, ?_⟩
  rw [hauto]
  exact (s.at_ a).startTraining_trains l

theorem autotrainTimer_off (hauto : s.bit (pUL l.val) UL_CTRL_AUTOTRAIN = false) :
    Completes (.autotrainTimer l) s fun u => u = s.at_ a :=
  ⟨_, exec_autotrainTimer s l hat hup hclk hen hst hrole, if_neg (by rw [hauto]; decide)⟩

end

end

/-! ## Alignment (R161, R186) -/

section
variable (s : State) (l : Nat) (train : Bool) (xs : List (BitVec 14))

/-- What the receiver of a port has found of its line after these line bits. -/
def State.rxAfter (s : State) (l : Nat) (train : Bool) (xs : List (BitVec 14)) : Rx :=
  xs.foldl (Rx.take train) (s.link l).rx

theorem State.rxLine_eq : s.rxLine l train xs =
    let v := s.updLink l fun p => { p with rx := s.rxAfter l train xs }
    if (s.rxAfter l train xs).lock then v.setFld (pUL l) UL_STAT_RXALIGN 1 else v := rfl

theorem State.rxLine_link : (s.rxLine l train xs).link l = { s.link l with rx := s.rxAfter l train xs } := by
  rw [State.rxLine_eq]
  dsimp only
  split
  · rw [State.setFld_link, State.link_updLink_same]
  · rw [State.link_updLink_same]

theorem State.rxLine_aligned (h : (s.rxAfter l train xs).lock = true) :
    (s.rxLine l train xs).fld (pUL l) UL_STAT_RXALIGN = 1 := by
  rw [State.rxLine_eq, h]
  exact State.fld_setFld_same _ _ _ _

theorem State.rxLine_changes : Changes s (s.rxLine l train xs) [.lnk]
    (fun k => (s.rxAfter l train xs).lock && fields [(pUL l, UL_STAT_RXALIGN)] k) := by
  rw [State.rxLine_eq]
  refine Changes.ite (fun h => Changes.setFld ?_ ?_) fun _ => ?_
  · rw [h, Bool.true_and]
    exact fields_mem (List.mem_singleton_self _)
  all_goals exact (Changes.refl _ _ _).updLink (by decide)

theorem State.rxLine_time : (s.rxLine l train xs).time = s.time := by
  rw [State.rxLine_eq]
  dsimp only
  split <;> rfl

end

section
variable (s : State) (t : Time) (l : Link) (xs : List (BitVec 14))

/-- R186: a port in step 1 of training. -/
theorem exec_trainingAligned (hclk : s.clkOn (pUL l.val) = true) (hstep : s.inStep l.val 1 = true) :
    exec (.trainingAligned t ⟨l, xs⟩) s =
      .next (let v := (s.at_ t).rxLine l.val true xs
        if (s.rxAfter l.val true xs).lock && decide (128 ≤ (s.rxAfter l.val true xs).good) then
          v.updLink l.val fun p => { p with step := 2, stepAt := v.time, recs := 0, rx := Rx.none, rxErrs := [] }
        else v) := by
  have hclk' : (s.at_ t).clkOn (pUL l.val) = true := (s.atTime_clkOn t _ (pgClass_pUL l)).trans hclk
  have hstep' : (s.at_ t).inStep l.val 1 = true := hstep
  have hrx : (((s.at_ t).rxLine l.val true xs).link l.val).rx = s.rxAfter l.val true xs := by
    rw [State.rxLine_link]
    rfl
  show execTrainingAligned t ⟨l, xs⟩ s = _
  simp only [execTrainingAligned, hclk', hstep', hrx, Bool.and_self, if_true]

theorem trainingAligned_ends (hclk : s.clkOn (pUL l.val) = true) (hstep : s.inStep l.val 1 = true)
    (hlock : (s.rxAfter l.val true xs).lock = true) (hgood : 128 ≤ (s.rxAfter l.val true xs).good) :
    Completes (.trainingAligned t ⟨l, xs⟩) s fun u =>
      u.fld (pUL l.val) UL_STAT_RXALIGN = 1 ∧
      u.link l.val = { s.link l.val with step := 2, stepAt := s.timeAt t, recs := 0, rx := Rx.none, rxErrs := [] } ∧
      Changes (s.at_ t) u [.lnk] (fields [(pUL l.val, UL_STAT_RXALIGN)]) := by
  refine ⟨_, exec_trainingAligned s t l xs hclk hstep, ?_⟩
  rw [if_pos (by simp [hlock, hgood])]
  refine ⟨(s.at_ t).rxLine_aligned _ _ _ hlock, ?_, Changes.updLink (by decide) ?_⟩
  · rw [State.link_updLink_same, State.rxLine_link, State.rxLine_time]
    rfl
  · exact ((s.at_ t).rxLine_changes _ _ _).mono (fun _ h => h) fun k hk => by rw [hk, Bool.and_false]

/-- What a port whose receiver takes line bits, and no more, is then. -/
theorem rxLine_only (train : Bool) : let u := (s.at_ t).rxLine l.val train xs
    let g := s.rxAfter l.val train xs
    (g.lock = true → u.fld (pUL l.val) UL_STAT_RXALIGN = 1) ∧ u.link l.val = { s.link l.val with rx := g } ∧
    Changes (s.at_ t) u [.lnk] (fun k => g.lock && fields [(pUL l.val, UL_STAT_RXALIGN)] k) :=
  ⟨(s.at_ t).rxLine_aligned _ _ _, (s.at_ t).rxLine_link _ _ _, (s.at_ t).rxLine_changes _ _ _⟩

theorem trainingAligned_waits (hclk : s.clkOn (pUL l.val) = true) (hstep : s.inStep l.val 1 = true)
    (h : (s.rxAfter l.val true xs).lock = false ∨ (s.rxAfter l.val true xs).good < 128) :
    exec (.trainingAligned t ⟨l, xs⟩) s = .next ((s.at_ t).rxLine l.val true xs) := by
  rw [exec_trainingAligned s t l xs hclk hstep]
  have hno : ¬ ((s.rxAfter l.val true xs).lock && decide (128 ≤ (s.rxAfter l.val true xs).good)) = true := by
    rw [Bool.and_eq_true, decide_eq_true_eq]
    rintro ⟨hlock, hgood⟩
    exact h.elim (fun h => Bool.noConfusion (h.symm.trans hlock)) (Nat.not_lt.mpr hgood)
  exact congrArg _ (if_neg hno)

/-- R161: a port outside training. -/
theorem exec_receiverAligned (hclk : s.clkOn (pUL l.val) = true) (hup : s.pwr.up = true)
    (hst : s.fld (pUL l.val) UL_STAT_STATE ≠ 1) :
    exec (.receiverAligned t ⟨l, xs⟩) s = .next ((s.at_ t).rxLine l.val false xs) := by
  have hclk' : (s.at_ t).clkOn (pUL l.val) = true := (s.atTime_clkOn t _ (pgClass_pUL l)).trans hclk
  show execReceiverAligned t ⟨l, xs⟩ s = _
  simp [execReceiverAligned, hclk', hup, hst]

end

/-! ## The records of training (R186) -/

section
variable (s : State) (l : Link)

theorem discRepeat_sends (hstep : s.inStep l.val 2 = true) :
    let f := (s.link l.val).stepAt + (s.link l.val).recs * 1000
    Completes (.discRepeat l) s fun u =>
      u.link l.val = { s.link l.val with
        recs := (s.link l.val).recs + 1, txAt := (s.link l.val).boundary f, tx := [symCtl 0x90] } ∧
      u.time = s.timeAt f ∧ Changes s u [.time, .lnk] noField :=
  ⟨_, congrArg Host.Outcome.next (if_pos hstep), State.link_updLink_same _ _ _, rfl,
    ((Changes.refl _ _ _).atTime (by decide)).updLink (by decide)⟩

theorem cfgRepeat_sends (hstep : s.inStep l.val 3 = true) :
    let f := (s.link l.val).stepAt + (s.link l.val).recs * 2000
    Completes (.cfgRepeat l) s fun u =>
      u.time = s.timeAt f ∧ (u.link l.val).txAt = (s.link l.val).boundary f ∧
      (u.link l.val).recs = (s.link l.val).recs + 1 ∧ (u.link l.val).mods = (s.link l.val).mods ∧
      (∀ m, (s.link l.val).mods = [m] → m.acked = false →
        (u.link l.val).tx = cfgSyms 0 m (s.link l.val).trncfg) ∧
      Changes s u [.time, .lnk] noField := by
  refine ⟨_, congrArg Host.Outcome.next (if_pos hstep), ?_⟩
  dsimp only
  rw [State.link_updLink_same]
  refine ⟨rfl, rfl, rfl, rfl, fun m hm hack => ?_, ((Changes.refl _ _ _).atTime (by decide)).updLink (by decide)⟩
  simp [hm, hack]

/-- R186: the limit of the step in force has passed. -/
theorem trainingTimeout_fails {k limit err : Nat} (hstep : s.inStep l.val k = true)
    (hk : (k, limit, err) ∈ [(1, 500000, 1), (2, 1000000, 2), (3, 1000000, 5)]) :
    Completes (.trainingTimeout l) s fun u => (s.at_ ((s.link l.val).stepAt + limit)).trainingFailed u l err := by
  have hin := hstep
  simp only [State.inStep, Bool.and_eq_true, decide_eq_true_eq] at hin
  obtain ⟨hst, hat⟩ := hin
  have herr : err < 2 ^ UL_STAT_TRNERR.wid :=
    (by decide : ∀ x ∈ [(1, 500000, 1), (2, 1000000, 2), (3, 1000000, 5)], x.2.2 < 2 ^ UL_STAT_TRNERR.wid) _ hk
  refine ⟨_, ?_, (s.at_ ((s.link l.val).stepAt + limit)).trainingFails_failed l hst herr⟩
  show execTrainingTimeout l s = _
  simp only [List.mem_cons, List.not_mem_nil, or_false, Prod.mk.injEq] at hk
  rcases hk with ⟨rfl, rfl, rfl⟩ | ⟨rfl, rfl, rfl⟩ | ⟨rfl, rfl, rfl⟩ <;> simp [execTrainingTimeout, hst, hat]

end

/-! ## What a port hears in training and as it is lost (R161, R187) -/

section
variable (s : State) (l : Nat) (xs : List RxSym)

theorem State.hear_time : (s.hear l xs).time = s.time :=
  show ((s.hear l xs).blank [.lnk, .msi, .ring]).time = (s.blank [.lnk, .msi, .ring]).time by
    rw [(s.hear_changes l xs).1]

/-- A field of the pages before the ports', but for those that a loss changes. -/
theorem State.hear_fld_low {p : Nat} {f : Fld} (hp : p < 128) (hf : f.place < 131072)
    (h : ∀ x ∈ lossFields, fldKey p f ≠ fldKey x.1 x.2) : (s.hear l xs).fld p f = s.fld p f := by
  have hport : fields (portKeys l portFields) (fldKey p f) = false := portKeys_low l (by decide) hp hf
  have hloss : fields lossFields (fldKey p f) = false :=
    List.any_eq_false.mpr fun x hx he => h x hx (of_decide_eq_true he).symm
  refine (s.hear_changes l xs).fld_eq (List.any_append.trans ?_)
  exact Bool.or_eq_false_iff.mpr ⟨hport, hloss⟩

theorem State.hear_role : (s.hear l xs).role = s.role := s.hear_fld_low l xs (by decide) (by decide) (by decide)

/-- R161: the port without its alignment, its symbols counted. -/
def State.unaligned (s : State) (l : Nat) (xs : List RxSym) : State :=
  ((s.counted l xs).setFld (pUL l) UL_STAT_RXALIGN 0).updLink l fun p => { p with rx := Rx.none }

theorem State.counted_portFld {f : Fld} (h : f.place ≠ UL_ERRCNT3_ALIGNERR.place) :
    (s.counted l xs).fld (pUL l) f = s.fld (pUL l) f := s.fld_addSat_place _ _ h

theorem State.counted_count : (s.counted l xs).fld (pUL l) UL_ERRCNT3_ALIGNERR =
    Nat.min (s.fld (pUL l) UL_ERRCNT3_ALIGNERR + (rxScan (s.link l).rxErrs xs).1.countP fun x => decide (symErr x ≠ 0))
      (2 ^ UL_ERRCNT3_ALIGNERR.wid - 1) := s.fld_addSat_same _ _ _

theorem State.counted_link : (s.counted l xs).link l = (s.link l).hear s.time xs := State.link_updLink_same _ _ _

theorem State.unaligned_portFld {f : Fld} (h : f.place ≠ UL_ERRCNT3_ALIGNERR.place)
    (h' : f.place ≠ UL_STAT_RXALIGN.place) : (s.unaligned l xs).fld (pUL l) f = s.fld (pUL l) f :=
  (State.fld_setFld_place _ _ _ h').trans (s.counted_portFld l xs h)

theorem State.unaligned_state : (s.unaligned l xs).fld (pUL l) UL_STAT_STATE = s.fld (pUL l) UL_STAT_STATE :=
  s.unaligned_portFld l xs (by decide) (by decide)

theorem State.unaligned_align : (s.unaligned l xs).fld (pUL l) UL_STAT_RXALIGN = 0 := State.fld_setFld_same _ _ _ _

theorem State.unaligned_count : (s.unaligned l xs).fld (pUL l) UL_ERRCNT3_ALIGNERR =
    Nat.min (s.fld (pUL l) UL_ERRCNT3_ALIGNERR + (rxScan (s.link l).rxErrs xs).1.countP fun x => decide (symErr x ≠ 0))
      (2 ^ UL_ERRCNT3_ALIGNERR.wid - 1) :=
  (State.fld_setFld_place _ _ _ (by decide)).trans (s.counted_count l xs)

theorem State.counted_changes_more :
    Changes s (s.counted l xs) [.lnk] (fields [(pUL l, UL_ERRCNT3_ALIGNERR), (pUL l, UL_STAT_RXALIGN)]) :=
  (s.counted_changes l xs).mono (fun _ h => h) fun _ hk =>
    (fields_append_false (xs := [(pUL l, UL_ERRCNT3_ALIGNERR)]) (ys := [(pUL l, UL_STAT_RXALIGN)]) hk).1

theorem State.unaligned_changes :
    Changes s (s.unaligned l xs) [.lnk] (fields [(pUL l, UL_ERRCNT3_ALIGNERR), (pUL l, UL_STAT_RXALIGN)]) :=
  ((s.counted_changes_more l xs).setFld (fields_mem (by simp))).updLink (by decide)

theorem State.hear_lost_trained (h : (rxScan (s.link l).rxErrs xs).2.2 = true) (hst : 2 ≤ s.fld (pUL l) UL_STAT_STATE) :
    s.hear l xs = (s.unaligned l xs).linkLost l true := by
  rw [State.hear_eq, h]
  exact if_pos ((s.unaligned_state l xs).symm ▸ hst)

theorem State.hear_lost_untrained (h : (rxScan (s.link l).rxErrs xs).2.2 = true)
    (hst : s.fld (pUL l) UL_STAT_STATE < 2) : s.hear l xs = s.unaligned l xs := by
  rw [State.hear_eq, h]
  exact if_neg (Nat.not_le.mpr ((s.unaligned_state l xs).symm ▸ hst))

/-- R161: a port that is not trained stays in its state, whatever it hears. -/
theorem State.hear_training_changes (hst : s.fld (pUL l) UL_STAT_STATE < 2) :
    Changes s (s.hear l xs) [.lnk] (fields (portKeys l [UL_ERRCNT3_ALIGNERR, UL_STAT_RXALIGN])) := by
  cases h : (rxScan (s.link l).rxErrs xs).2.2 with
  | true =>
    rw [s.hear_lost_untrained l xs h hst]
    exact s.unaligned_changes l xs
  | false =>
    rw [s.hear_aligned l xs h]
    exact s.counted_changes_more l xs

theorem State.hear_training_fld (hst : s.fld (pUL l) UL_STAT_STATE < 2) {f : Fld}
    (h : ∀ g ∈ [UL_ERRCNT3_ALIGNERR, UL_STAT_RXALIGN], f.place ≠ g.place) :
    (s.hear l xs).fld (pUL l) f = s.fld (pUL l) f :=
  (s.hear_training_changes l xs hst).fld_eq (portKeys_other l h)

theorem State.hear_training_twn (hst : s.fld (pUL l) UL_STAT_STATE < 2) : (s.hear l xs).twn = s.twn :=
  show ((s.hear l xs).blank [.lnk]).twn = (s.blank [.lnk]).twn by rw [(s.hear_training_changes l xs hst).1]

end

/-! ## ID records (R186) -/

/-- R186: the module that a record reports, behind those reported before. -/
def moduleOf (r : IdRec) (ms : List Module) : Module := ⟨r.count.toNat, r.typ, r.rev, slotSum ms, 0, 0, false⟩

section
variable (s : State) (l : Link) (r : IdRec)

/-- R186: the record's module joins the others of the port. -/
def State.reported (s : State) (l : Nat) (r : IdRec) : State :=
  s.updLink l fun p => { p with mods := (s.link l).mods ++ [moduleOf r (s.link l).mods] }

theorem slotSum_append (ms : List Module) (m : Module) : slotSum (ms ++ [m]) = slotSum ms + m.count := by
  simp [slotSum]

theorem State.takeId_failed (h : r.good = false ∨ r.pos.val ≠ (s.link l.val).mods.length) :
    s.takeId l.val r = s.trainingFails l.val 3 :=
  if_pos (by rcases h with h | h <;> simp [h])

theorem State.takeId_good (hgood : r.good = true) (hpos : r.pos.val = (s.link l.val).mods.length) : s.takeId l.val r =
    if !r.last then s.reported l.val r
    else if 384 < slotSum ((s.link l.val).mods ++ [moduleOf r (s.link l.val).mods]) then
      (s.reported l.val r).trainingFails l.val 4
    else (s.reported l.val r).updLink l.val fun p =>
      { p with
        step := 3, stepAt := s.time, recs := 0
        trncfg := [s.fld (pUL l.val) UL_TRNCFG_MWDT, s.fld (pUL l.val) UL_TRNCFG_FWDT,
          s.fld (pUL l.val) UL_TRNCFG_LOSSMODE] } :=
  if_neg (by simp [hgood, hpos])

theorem State.reported_link : (s.reported l.val r).link l.val =
    { s.link l.val with mods := (s.link l.val).mods ++ [moduleOf r (s.link l.val).mods] } := State.link_updLink_same _ _ _

theorem State.reported_changes : Changes s (s.reported l.val r) [.lnk] noField :=
  (Changes.refl _ _ _).updLink (by decide)

/-- A failure after the module has joined is a failure of the state before it did. -/
theorem State.trainingFailed_of_reported {u : State} {err : Nat} (h : (s.reported l.val r).trainingFailed u l err) :
    s.trainingFailed u l err := by
  obtain ⟨hst, herr, hstep, hauto, hflag, hothers, hchanges⟩ := h
  exact ⟨hst, herr, hstep, hauto, hflag, fun k hk => (hothers k hk).trans (State.link_updLink_ne _ _ hk),
    ((s.reported_changes l r).mono (by simp) fun _ _ => rfl).trans hchanges⟩

end

section
variable (s : State) (t : Time) (l : Link) (xs : List RxSym)

theorem exec_idRecord (hrec : s.receives l.val = true) : exec (.idRecord t l xs) s =
    .next (match if s.inStep l.val 2 then idRecOf (s.heard l.val xs) else none with
      | some r => ((s.at_ t).hear l.val xs).takeId l.val r
      | none => (s.at_ t).hear l.val xs) :=
  congrArg Host.Outcome.next (if_neg (by rw [s.atTime_receives t l, hrec]; decide))

theorem idRecord_completes {P : State → Prop} {r : IdRec} (hrec : s.receives l.val = true) (hstep : s.inStep l.val 2 = true)
    (hr : idRecOf (s.heard l.val xs) = some r) (h : P (((s.at_ t).hear l.val xs).takeId l.val r)) :
    Completes (.idRecord t l xs) s P := by
  refine ⟨_, exec_idRecord s t l xs hrec, ?_⟩
  rw [hstep, if_pos rfl, hr]
  exact h

theorem idRecord_heard (hrec : s.receives l.val = true)
    (h : s.inStep l.val 2 = false ∨ idRecOf (s.heard l.val xs) = none) :
    Completes (.idRecord t l xs) s fun u => u = (s.at_ t).hear l.val xs := by
  refine ⟨_, exec_idRecord s t l xs hrec, ?_⟩
  rcases h with h | h <;> simp [h]

end

section
variable (s : State) (t : Time) (l : Link) (xs : List RxSym)

/-- A port in a step of training is in TRAIN. -/
theorem State.inStep_state {k : Nat} (h : s.inStep l.val k = true) : s.fld (pUL l.val) UL_STAT_STATE = 1 := by
  simp only [State.inStep, Bool.and_eq_true, decide_eq_true_eq] at h
  exact h.1

/-- It is still, once it has heard symbols. -/
theorem State.heard_state {k : Nat} (h : s.inStep l.val k = true) :
    ((s.at_ t).hear l.val xs).fld (pUL l.val) UL_STAT_STATE = 1 := by
  have hst : (s.at_ t).fld (pUL l.val) UL_STAT_STATE = 1 := s.inStep_state l h
  rw [State.hear_training_fld _ _ _ (by omega) (by decide), hst]

theorem State.heard_mods : (((s.at_ t).hear l.val xs).link l.val).mods = (s.link l.val).mods := State.hear_mods _ _ _

variable {r : IdRec} (hrec : s.receives l.val = true) (hstep : s.inStep l.val 2 = true)
  (hr : idRecOf (s.heard l.val xs) = some r)
include hrec hstep hr

theorem idRecord_joins (hgood : r.good = true) (hpos : r.pos.val = (s.link l.val).mods.length) (hlast : r.last = false) :
    let a := (s.at_ t).hear l.val xs
    Completes (.idRecord t l xs) s fun u =>
      u.link l.val = { a.link l.val with mods := (s.link l.val).mods ++
        [⟨r.count.toNat, r.typ, r.rev, slotSum (s.link l.val).mods, 0, 0, false⟩] } ∧ Changes a u [.lnk] noField := by
  refine idRecord_completes s t l xs hrec hstep hr ?_
  have hmods := s.heard_mods t l xs
  rw [State.takeId_good _ _ _ hgood (by rw [hmods, hpos]), hlast, Bool.not_false, if_pos rfl]
  refine ⟨?_, State.reported_changes _ _ _⟩
  rw [State.reported_link, hmods]
  rfl

theorem idRecord_ends (hgood : r.good = true) (hpos : r.pos.val = (s.link l.val).mods.length) (hlast : r.last = true)
    (hfits : slotSum (s.link l.val).mods + r.count.toNat ≤ 384) :
    Completes (.idRecord t l xs) s fun u =>
      (u.link l.val).step = 3 ∧ (u.link l.val).stepAt = s.timeAt t ∧ (u.link l.val).recs = 0 ∧
      (u.link l.val).mods.length = (s.link l.val).mods.length + 1 ∧
      Changes ((s.at_ t).hear l.val xs) u [.lnk] noField := by
  refine idRecord_completes s t l xs hrec hstep hr ?_
  have hmods := s.heard_mods t l xs
  rw [State.takeId_good _ _ _ hgood (by rw [hmods, hpos]), hlast, Bool.not_true, if_neg (by decide),
    if_neg (by rw [hmods, slotSum_append]; exact Nat.not_lt.mpr hfits), State.link_updLink_same, State.reported_link, hmods]
  exact ⟨rfl, State.hear_time _ _ _, rfl, List.length_append, (State.reported_changes _ _ _).updLink (by decide)⟩

theorem idRecord_full (hgood : r.good = true) (hpos : r.pos.val = (s.link l.val).mods.length) (hlast : r.last = true)
    (hfull : 384 < slotSum (s.link l.val).mods + r.count.toNat) :
    Completes (.idRecord t l xs) s fun u => ((s.at_ t).hear l.val xs).trainingFailed u l 4 := by
  refine idRecord_completes s t l xs hrec hstep hr ?_
  have hmods := s.heard_mods t l xs
  rw [State.takeId_good _ _ _ hgood (by rw [hmods, hpos]), hlast, Bool.not_true, if_neg (by decide),
    if_pos (by rw [hmods, slotSum_append]; exact hfull)]
  exact State.trainingFailed_of_reported _ l r (State.trainingFails_failed _ l (s.heard_state t l xs hstep) (by decide))

theorem idRecord_fails (h : r.good = false ∨ r.pos.val ≠ (s.link l.val).mods.length) :
    Completes (.idRecord t l xs) s fun u => ((s.at_ t).hear l.val xs).trainingFailed u l 3 := by
  refine idRecord_completes s t l xs hrec hstep hr ?_
  rw [State.takeId_failed _ _ _ (by rwa [s.heard_mods t l xs])]
  exact State.trainingFails_failed _ l (s.heard_state t l xs hstep) (by decide)

end

/-! ## Acknowledgements and the end of training (R185, R186) -/

/-- R186: the modules once position `k` has acknowledged its record. -/
def ackedAt (k : Nat) (ms : List Module) : List Module :=
  ms.zipIdx.map fun x => if x.2 = k then { x.1 with acked := true } else x.1

theorem ackedAt_length (k : Nat) (ms : List Module) : (ackedAt k ms).length = ms.length := by
  simp [ackedAt]

theorem ackedAt_all (k : Nat) (ms : List Module) :
    (ackedAt k ms).all (·.acked) = ms.zipIdx.all fun x => x.1.acked || x.2 == k := by
  rw [ackedAt, List.all_map]
  congr 1
  funext x
  by_cases h : x.2 = k <;> simp [h]

/-- An acknowledgement changes no count. -/
theorem slotSum_ackedAt (k : Nat) (ms : List Module) : slotSum (ackedAt k ms) = slotSum ms := by
  have hcount : (Module.count ∘ fun x : Module × Nat => if x.2 = k then { x.1 with acked := true } else x.1) =
      Module.count ∘ Prod.fst := by
    funext x
    by_cases h : x.2 = k <;> simp [h]
  rw [slotSum, slotSum, ackedAt, List.map_map, hcount, ← List.map_map, List.zipIdx_map_fst]

section
variable (s : State) (l : Link)

/-- R186: the port with the acknowledgement of position `k`. -/
def State.ackNoted (s : State) (l k : Nat) : State := s.updLink l fun q => { q with mods := ackedAt k q.mods }

theorem State.ackNoted_link (k : Nat) : (s.ackNoted l.val k).link l.val =
    { s.link l.val with mods := ackedAt k (s.link l.val).mods } := State.link_updLink_same _ _ _

theorem State.takeAck_eq (k : Nat) : s.takeAck l.val k =
    if (s.link l.val).mods.zipIdx.all fun x => x.1.acked || x.2 == k then (s.ackNoted l.val k).trained l.val
    else s.ackNoted l.val k := by
  rw [← ackedAt_all, ← show ((s.ackNoted l.val k).link l.val).mods = ackedAt k (s.link l.val).mods by
    rw [State.ackNoted_link]]
  rfl

/-- The fields that the end of training sets. -/
def trainedFields : List Fld := [UL_STAT_STATE, UL_STAT_MODCNT, UL_STAT_SLOTS]

/-- R185: the port in HOLD, before its standby and the host are told. -/
def State.holds (s : State) (l : Nat) : State :=
  (((s.setFld (pUL l) UL_STAT_STATE 2).setFld (pUL l) UL_STAT_MODCNT (s.link l).mods.length).setFld (pUL l)
    UL_STAT_SLOTS (slotSum (s.link l).mods)).updLink l fun p =>
      { p with step := 0, rxAt := s.time, holdAt := s.time, tag := none, tx := [], txOn := false, emitAt := none }

/-- R352: a primary tells its standby. -/
def State.tellsTrained (s : State) (l : Nat) : State :=
  if (s.holds l).role = 1 then (s.holds l).parcel (.training l (s.link l).mods) else s.holds l

theorem State.trained_eq : s.trained l.val = (s.tellsTrained l.val).irq (pUL l.val) UL_E_TRNDONE := rfl

theorem State.holds_changes : Changes s (s.holds l.val) [.lnk] (fields (portKeys l.val trainedFields)) :=
  ((((Changes.refl _ _ _).setFld (portKeys_mem _ (by decide))).setFld (portKeys_mem _ (by decide))).setFld
    (portKeys_mem _ (by decide))).updLink (by decide)

theorem State.holds_role : (s.holds l.val).role = s.role :=
  (s.holds_changes l).fld_eq (portKeys_low _ (by decide) (by decide) (by decide))

theorem State.holds_fields : let u := s.holds l.val
    u.fld (pUL l.val) UL_STAT_STATE = 2 ∧ u.fld (pUL l.val) UL_STAT_MODCNT = (s.link l.val).mods.length % 16 ∧
    u.fld (pUL l.val) UL_STAT_SLOTS = slotSum (s.link l.val).mods % 512 := by
  refine ⟨?_, ?_, ?_⟩ <;> simp (disch := decide) [State.holds, State.fld_setFld_place, UL_STAT_STATE,
    UL_STAT_MODCNT, UL_STAT_SLOTS]

theorem State.tellsTrained_fld (q : Nat) (f : Fld) : (s.tellsTrained l.val).fld q f = (s.holds l.val).fld q f := by
  unfold State.tellsTrained
  split <;> simp

theorem State.tellsTrained_link : (s.tellsTrained l.val).link = (s.holds l.val).link := by
  unfold State.tellsTrained
  split <;> simp

/-- R352: only a primary has a standby to tell. -/
theorem State.tellsTrained_twn (h : s.role ≠ 1) : (s.tellsTrained l.val).twn = s.twn := by
  rw [State.tellsTrained, if_neg (by rwa [State.holds_role])]
  rfl

theorem State.tellsTrained_changes : Changes (s.holds l.val) (s.tellsTrained l.val) [.twn] noField :=
  Changes.ite (fun _ => (Changes.refl _ _ _).parcel (by decide)) fun _ => Changes.refl _ _ _

/-- R185, R186: the end of training. -/
theorem State.trained_spec : let u := s.trained l.val
    u.fld (pUL l.val) UL_STAT_STATE = 2 ∧ u.fld (pUL l.val) UL_STAT_MODCNT = (s.link l.val).mods.length % 16 ∧
    u.fld (pUL l.val) UL_STAT_SLOTS = slotSum (s.link l.val).mods % 512 ∧ (u.link l.val).step = 0 ∧
    (u.link l.val).holdAt = s.time ∧
    u.fld (pUL l.val) HDR_PG_IRQST_ST = (s.fld (pUL l.val) HDR_PG_IRQST_ST ||| 2 ^ UL_E_TRNDONE) % 2 ^ 32 ∧
    (s.role ≠ 1 → u.twn = s.twn) ∧
    Changes s u [.lnk, .msi, .twn] (fields (portKeys l.val trainedFields ++ irqField (pUL l.val))) := by
  obtain ⟨hst, hmods, hslots⟩ := s.holds_fields l
  have hlink : (s.holds l.val).link l.val = _ := State.link_updLink_same _ _ _
  rw [State.trained_eq]
  dsimp only
  rw [State.irq_link, State.tellsTrained_link, hlink, State.irq_twn, State.fld_irq_st,
    State.fld_irq_place _ _ _ (by decide), State.fld_irq_place _ _ _ (by decide), State.fld_irq_place _ _ _ (by decide)]
  rw [State.tellsTrained_fld, State.tellsTrained_fld, State.tellsTrained_fld, State.tellsTrained_fld]
  refine ⟨hst, hmods, hslots, rfl, rfl, ?_, s.tellsTrained_twn l, ?_⟩
  · rw [(s.holds_changes l).fld_eq (portKeys_other _ (by decide))]
  · refine Changes.irq (by decide) (fields_mem (List.mem_append_right _ (List.mem_singleton_self _))) ?_
    exact ((s.holds_changes l).mono (by simp) fun k hk => (fields_append_false hk).1).trans
      ((s.tellsTrained_changes l).mono (by simp) fun _ _ => rfl)

end

section
variable (s : State) (t : Time) (l : Link) (x : RxSym)

theorem ack_completes {P : State → Prop} {k : Nat} (hrec : s.receives l.val = true) (hstep : s.inStep l.val 3 = true)
    (hk : symAck x = some k) (h : P (((s.at_ t).hear l.val [x]).takeAck l.val k)) : Completes (.ack t l x) s P := by
  refine ⟨_, congrArg Host.Outcome.next (if_neg (by rw [s.atTime_receives t l, hrec]; decide)), ?_⟩
  have hstep' : (s.at_ t).inStep l.val 3 = true := hstep
  rw [hstep', if_pos rfl, hk]
  exact h

theorem ack_ends {k : Nat} (hrec : s.receives l.val = true) (hstep : s.inStep l.val 3 = true) (hk : symAck x = some k)
    (hall : ((s.link l.val).mods.zipIdx.all fun x => x.1.acked || x.2 == k) = true) :
    Completes (.ack t l x) s fun u =>
      u.fld (pUL l.val) UL_STAT_STATE = 2 ∧ u.fld (pUL l.val) UL_STAT_MODCNT = (s.link l.val).mods.length % 16 ∧
      u.fld (pUL l.val) UL_STAT_SLOTS = slotSum (s.link l.val).mods % 512 ∧ (u.link l.val).step = 0 ∧
      (u.link l.val).holdAt = s.timeAt t ∧
      u.fld (pUL l.val) HDR_PG_IRQST_ST = (s.fld (pUL l.val) HDR_PG_IRQST_ST ||| 2 ^ UL_E_TRNDONE) % 2 ^ 32 ∧
      (s.role ≠ 1 → u.twn = s.twn) ∧
      Changes ((s.at_ t).hear l.val [x]) u [.lnk, .msi, .twn] (fields ([(pUL l.val, UL_STAT_STATE),
        (pUL l.val, UL_STAT_MODCNT), (pUL l.val, UL_STAT_SLOTS)] ++ irqField (pUL l.val))) := by
  refine ack_completes s t l x hrec hstep hk ?_
  set a := (s.at_ t).hear l.val [x] with ha
  have hst : (s.at_ t).fld (pUL l.val) UL_STAT_STATE < 2 := (s.inStep_state l hstep).trans_lt (by decide)
  have hmods : (a.link l.val).mods = (s.link l.val).mods := s.heard_mods t l [x]
  have hirq : a.fld (pUL l.val) HDR_PG_IRQST_ST = s.fld (pUL l.val) HDR_PG_IRQST_ST :=
    State.hear_training_fld _ _ _ hst (by decide)
  obtain ⟨u1, u2, u3, u4, u5, u6, u7, u8⟩ := (a.ackNoted l.val k).trained_spec l
  rw [State.takeAck_eq, hmods, hall, if_pos rfl]
  rw [State.ackNoted_link, ackedAt_length, hmods] at u2
  rw [State.ackNoted_link, slotSum_ackedAt, hmods] at u3
  refine ⟨u1, u2, u3, u4, u5.trans (State.hear_time _ _ _), u6.trans (by rw [← hirq]; rfl), fun hrole => ?_, ?_⟩
  · have hrole' : (a.ackNoted l.val k).role ≠ 1 := by
      show a.role ≠ 1
      rw [ha, State.hear_role]
      exact hrole
    exact (u7 hrole').trans (State.hear_training_twn _ _ _ hst)
  · exact ((Changes.refl a _ _).updLink (by decide)).trans u8

theorem ack_waits {k : Nat} (hrec : s.receives l.val = true) (hstep : s.inStep l.val 3 = true) (hk : symAck x = some k)
    (hall : ((s.link l.val).mods.zipIdx.all fun x => x.1.acked || x.2 == k) = false) :
    Completes (.ack t l x) s fun u =>
      u.fld (pUL l.val) UL_STAT_STATE = 1 ∧ Changes ((s.at_ t).hear l.val [x]) u [.lnk] noField := by
  refine ack_completes s t l x hrec hstep hk ?_
  rw [State.takeAck_eq, s.heard_mods t l [x], hall, if_neg (by decide)]
  exact ⟨s.heard_state t l [x] hstep, (Changes.refl _ _ _).updLink (by decide)⟩

end

/-- Settles O23: each command of training by the branch of its step that the port's state selects. -/
theorem linkTraining : Obligations.LinkTraining :=
  ⟨fun s t l => ⟨fun hopen => ⟨ulCmdTrain_starts s t l hopen, ulCmdTrain_ignored s t l hopen,
      ulCmdDown_goesDown s t l hopen, ulCmdDown_ignored s t l hopen⟩, fun _ hat hup hclk hen hst hrole =>
      ⟨autotrainTimer_starts s l hat hup hclk hen hst hrole, autotrainTimer_off s l hat hup hclk hen hst hrole⟩⟩,
    fun s t l xs hclk => ⟨fun hstep => ⟨trainingAligned_ends s t l xs hclk hstep, fun h =>
      ⟨_, trainingAligned_waits s t l xs hclk hstep h, rxLine_only s t l xs true⟩⟩, fun hup hst =>
      ⟨_, exec_receiverAligned s t l xs hclk hup hst, rxLine_only s t l xs false⟩⟩,
    fun s l => ⟨discRepeat_sends s l, cfgRepeat_sends s l⟩,
    fun s t l xs hrec => ⟨fun _ hstep hr => ⟨fun hgood hpos => ⟨idRecord_joins s t l xs hrec hstep hr hgood hpos,
      idRecord_ends s t l xs hrec hstep hr hgood hpos, idRecord_full s t l xs hrec hstep hr hgood hpos⟩,
      idRecord_fails s t l xs hrec hstep hr⟩, idRecord_heard s t l xs hrec⟩,
    fun s t l => ⟨fun x _ hrec hstep hk => ⟨ack_ends s t l x hrec hstep hk, ack_waits s t l x hrec hstep hk⟩,
      fun hstep => trainingTimeout_fails s l hstep (by decide), fun hstep => trainingTimeout_fails s l hstep (by decide),
      fun hstep => trainingTimeout_fails s l hstep (by decide)⟩⟩

end Sys2Proof.Machine

/-! # NAKs and the loss of a link (R161, R178, R184, R187) -/

namespace Sys2Proof.Machine

/-! ## Symbols up to a loss of alignment (R161) -/

theorem loses_take (w : List Nat) (n : Nat) (h : loses w = false) : loses (w.take n) = false := by
  have hone := (List.take_sublist n w).count_le 1
  have htwo := (List.take_sublist n w).count_le 2
  simp only [loses, Bool.or_eq_false_iff, decide_eq_false_iff_not] at h ⊢
  omega

/-- Symbols without an error are all taken. -/
theorem rxScan_good (w : List Nat) (xs : List RxSym) (hxs : ∀ x ∈ xs, symErr x = 0) (hw : loses w = false) :
    (rxScan w xs).1 = xs ∧ (rxScan w xs).2.2 = false := by
  induction xs generalizing w with
  | nil => exact ⟨rfl, rfl⟩
  | cons x xs ih =>
    obtain ⟨hx, hrest⟩ := List.forall_mem_cons.mp hxs
    have hzero : loses (0 :: w) = false := by simpa [loses] using hw
    have hkeeps := loses_take _ 64 hzero
    obtain ⟨htaken, haligned⟩ := ih _ hrest hkeeps
    rw [rxScan, hx, hkeeps]
    exact ⟨congrArg (x :: ·) htaken, haligned⟩

/-- Fewer than four symbols in all lose nothing. -/
theorem rxScan_few (w : List Nat) (xs : List RxSym) (h : w.length + xs.length < 4) : (rxScan w xs).2.2 = false := by
  induction xs generalizing w with
  | nil => rfl
  | cons x xs ih =>
    rw [List.length_cons] at h
    have hlen : ((symErr x :: w).take 64).length ≤ w.length + 1 := List.length_take_le' _ _
    have hone := List.count_le_length (a := 1) (l := (symErr x :: w).take 64)
    have htwo := List.count_le_length (a := 2) (l := (symErr x :: w).take 64)
    have hkeeps : loses ((symErr x :: w).take 64) = false := by
      simp only [loses, Bool.or_eq_false_iff, decide_eq_false_iff_not]
      omega
    rw [rxScan, hkeeps]
    exact ih _ (by omega)

/-- As many symbols with one error as lose alignment, one after another. -/
theorem rxScan_run (e m : Nat) (xs : List RxSym) (hxs : ∀ x ∈ xs, symErr x = e) (hne : xs ≠ [])
    (hm : m + xs.length ≤ 64) (hloses : loses (List.replicate (m + xs.length) e) = true) :
    (rxScan (List.replicate m e) xs).2.2 = true := by
  induction xs generalizing m with
  | nil => exact absurd rfl hne
  | cons x xs ih =>
    obtain ⟨hx, hrest⟩ := List.forall_mem_cons.mp hxs
    rw [List.length_cons] at hm hloses
    have hwindow : (symErr x :: List.replicate m e).take 64 = List.replicate (m + 1) e := by
      rw [hx, ← List.replicate_succ, List.take_of_length_le (by rw [List.length_replicate]; omega)]
    rw [rxScan, hwindow]
    cases hlost : loses (List.replicate (m + 1) e) with
    | true => rfl
    | false =>
      have hmore : m + (xs.length + 1) = m + 1 + xs.length := by omega
      have hnext : xs ≠ [] := by
        rintro rfl
        exact Bool.noConfusion (hlost.symm.trans hloses)
      exact ih (m + 1) hrest hnext (by omega) (hmore ▸ hloses)

theorem symErr_unframed {x : RxSym} (h : x.framed = false) : symErr x = 1 := by
  rw [symErr, h]
  rfl

theorem rxScan_losses (xs : List RxSym) :
    (xs.length = 4 → (∀ x ∈ xs, x.framed = false) → (rxScan [] xs).2.2 = true) ∧
    (xs.length = 8 → (∀ x ∈ xs, symErr x = 2) → (rxScan [] xs).2.2 = true) := by
  refine ⟨fun hlen hxs => ?_, fun hlen hxs => ?_⟩
  · exact rxScan_run 1 0 xs (fun x hx => symErr_unframed (hxs x hx)) (List.ne_nil_of_length_pos (by omega)) (by omega)
      (by rw [hlen]; decide)
  · exact rxScan_run 2 0 xs hxs (List.ne_nil_of_length_pos (by omega)) (by omega) (by rw [hlen]; decide)

/-! ## A trained port is lost (R187) -/

theorem andLog_mem {xs : List (Nat × Fld)} {p : Nat} {f : Fld} (h : (p, f) ∈ xs) : andLog xs (fldKey p f) = true :=
  fields_mem (List.mem_append_left _ h)

theorem andLog_logOpen (xs : List (Nat × Fld)) : logOpen (andLog xs) = true := by
  simp only [logOpen, Bool.and_eq_true]
  exact ⟨⟨⟨⟨fields_mem (by simp), fields_mem (by simp)⟩, fields_mem (by simp)⟩, fields_mem (by simp)⟩,
    fields_mem (by simp)⟩

section
variable (s : State) (l : Nat) (align : Bool)

theorem State.linkLost_link : (s.linkLost l align).link = (s.portDown l).link := by
  rw [State.linkLost, State.log_link, State.contained_link]

theorem State.linkLost_time : (s.linkLost l align).time = s.time := by
  rw [State.linkLost, State.log_time, State.contained_time, State.portDown_time]

theorem State.linkLost_portFld {f : Fld} (h : f.place < 131072) :
    (s.linkLost l align).fld (pUL l) f = (s.portDown l).fld (pUL l) f := by
  rw [State.linkLost, State.log_portFld _ _ _ _ _ _ h, State.contained_portFld _ _ h]

/-- R371: a loss is a contained error. -/
theorem State.linkLost_counts : s.counts (s.linkLost l align) pERR ERR_CLASSCNT_CONTAINED := by
  have hdown : (s.portDown l).fld pERR ERR_CLASSCNT_CONTAINED = s.fld pERR ERR_CLASSCNT_CONTAINED :=
    (s.portDown_downFields l).fld_eq (portKeys_low l (by decide) (by decide) (by decide))
  rw [State.counts, ← hdown, State.linkLost, State.fld_log_ne _ _ _ _ _ _ _ (by decide)]
  exact State.fld_addSat_same _ _ _ _

/-- What a loss of the link changes. -/
theorem State.linkLost_only : Changes s (s.linkLost l align) [.lnk, .msi, .ring] (andLog ([(pUL l, UL_STAT_STATE),
    (pUL l, UL_TRNCNT_DOWNCNT), (pERR, ERR_CLASSCNT_CONTAINED)] ++ errFields (pUL l))) := by
  refine Changes.log (by decide) (by decide) (andLog_logOpen _) (Changes.contained (andLog_mem (by simp)) ?_)
  refine (s.portDown_changes l ?_ ?_ ?_ ?_).mono (by decide) fun _ hk => hk
  all_goals exact andLog_mem (by simp [errFields])

end

theorem upstreamWatchdog_loses (s : State) (l : Link) (hup : s.pwr.up = true) (hclk : s.clkOn (pUL l.val) = true)
    (hst : 2 ≤ s.fld (pUL l.val) UL_STAT_STATE) :
    Completes (.upstreamWatchdog l) s fun u =>
      u.fld (pUL l.val) UL_STAT_STATE = 0 ∧
      u.time = s.timeAt ((s.link l.val).rxAt + s.fld (pUL l.val) UL_CTRL_WDT * 1000) ∧
      u.fld (pUL l.val) HDR_PG_ERR_ERR = (s.fld (pUL l.val) HDR_PG_ERR_ERR ||| 2 ^ UL_E_DOWN) % 2 ^ 32 ∧
      (u.link l.val).txOn = false ∧ (∀ k, k ≠ l.val → u.link k = s.link k) ∧
      Changes s u [.time, .lnk, .msi, .ring] (andLog ([(pUL l.val, UL_STAT_STATE), (pUL l.val, UL_TRNCNT_DOWNCNT),
        (pERR, ERR_CLASSCNT_CONTAINED)] ++ errFields (pUL l.val))) := by
  refine ⟨_, congrArg Host.Outcome.next (if_pos (by simp [hup, hclk, hst])), ?_⟩
  set v := s.at_ ((s.link l.val).rxAt + s.fld (pUL l.val) UL_CTRL_WDT * 1000)
  have hvst : 2 ≤ v.fld (pUL l.val) UL_STAT_STATE := hst
  have hdown : v.fld (pUL l.val) UL_STAT_STATE ≠ 0 := by omega
  obtain ⟨hlink, hothers⟩ := v.portDown_link l.val hdown
  dsimp only
  rw [v.linkLost_portFld _ _ (by decide), v.linkLost_portFld _ _ (by decide), v.linkLost_link, hlink]
  exact ⟨v.portDown_state l.val hdown, v.linkLost_time _ _, v.portDown_error l.val hvst, rfl, hothers,
    ((Changes.refl s _ _).atTime (by decide)).trans ((v.linkLost_only _ _).mono (by decide) fun _ hk => hk)⟩

/-! ## Symbols that lose alignment (R161, R187) -/

section
variable (s : State) (t : Time) (l : Link) (xs : List RxSym) (hrec : s.receives l.val = true)
include hrec

theorem exec_alignmentLoss : exec (.alignmentLoss t l xs) s = .next ((s.at_ t).hear l.val xs) :=
  congrArg Host.Outcome.next (if_pos (by rw [s.atTime_receives t l, hrec]))

theorem alignmentLoss_keeps (haligned : (rxScan (s.link l.val).rxErrs xs).2.2 = false) :
    let g := rxScan (s.link l.val).rxErrs xs
    Completes (.alignmentLoss t l xs) s fun u =>
      u.fld (pUL l.val) UL_ERRCNT3_ALIGNERR = Nat.min (s.fld (pUL l.val) UL_ERRCNT3_ALIGNERR +
        g.1.countP fun x => decide (symErr x ≠ 0)) (2 ^ UL_ERRCNT3_ALIGNERR.wid - 1) ∧
      u.link l.val = { s.link l.val with
        rxErrs := g.2.1, rxAt := if g.1.any RxSym.framed then s.timeAt t else (s.link l.val).rxAt } ∧
      Changes (s.at_ t) u [.lnk] (fields [(pUL l.val, UL_ERRCNT3_ALIGNERR)]) := by
  refine ⟨_, exec_alignmentLoss s t l xs hrec, ?_⟩
  dsimp only
  rw [(s.at_ t).hear_aligned l.val xs haligned, State.counted_link]
  exact ⟨(s.at_ t).counted_count l.val xs, rfl, State.counted_changes _ _ _⟩

theorem alignmentLoss_loses (hlost : (rxScan (s.link l.val).rxErrs xs).2.2 = true)
    (hst : 2 ≤ s.fld (pUL l.val) UL_STAT_STATE) :
    Completes (.alignmentLoss t l xs) s fun u =>
      u.fld (pUL l.val) UL_STAT_STATE = 0 ∧ u.fld (pUL l.val) UL_STAT_RXALIGN = 0 ∧
      u.fld (pUL l.val) UL_ERRCNT3_ALIGNERR = Nat.min (s.fld (pUL l.val) UL_ERRCNT3_ALIGNERR +
        (rxScan (s.link l.val).rxErrs xs).1.countP fun x => decide (symErr x ≠ 0)) (2 ^ UL_ERRCNT3_ALIGNERR.wid - 1) ∧
      u.fld (pUL l.val) HDR_PG_ERR_ERR = (s.fld (pUL l.val) HDR_PG_ERR_ERR ||| 2 ^ UL_E_DOWN) % 2 ^ 32 ∧
      s.counts u pERR ERR_CLASSCNT_CONTAINED ∧
      (u.link l.val).autoAt = some (s.timeAt t + 10000000) ∧ (u.link l.val).emitAt = none := by
  refine ⟨_, exec_alignmentLoss s t l xs hrec, ?_⟩
  rw [(s.at_ t).hear_lost_trained l.val xs hlost hst]
  set v := (s.at_ t).unaligned l.val xs with hv
  have hvst : 2 ≤ v.fld (pUL l.val) UL_STAT_STATE := by
    rw [hv, State.unaligned_state]
    exact hst
  have hdown : v.fld (pUL l.val) UL_STAT_STATE ≠ 0 := by omega
  have hcount : v.fld pERR ERR_CLASSCNT_CONTAINED = s.fld pERR ERR_CLASSCNT_CONTAINED :=
    ((s.at_ t).unaligned_changes l.val xs).fld_eq
      (portKeys_low l.val (fs := [UL_ERRCNT3_ALIGNERR, UL_STAT_RXALIGN]) (by decide) (by decide) (by decide))
  obtain ⟨hlink, -⟩ := v.portDown_link l.val hdown
  rw [v.linkLost_portFld _ _ (by decide), v.linkLost_portFld _ _ (by decide), v.linkLost_portFld _ _ (by decide),
    v.linkLost_portFld _ _ (by decide), v.linkLost_link, hlink, v.portDown_portFld l.val (f := UL_STAT_RXALIGN) (by decide),
    v.portDown_portFld l.val (f := UL_ERRCNT3_ALIGNERR) (by decide)]
  refine ⟨v.portDown_state l.val hdown, State.unaligned_align _ _ _, State.unaligned_count _ _ _, ?_, ?_, rfl, rfl⟩
  · rw [v.portDown_error l.val hvst, hv, State.unaligned_portFld _ _ _ (by decide) (by decide)]
    rfl
  · have hcounts := v.linkLost_counts l.val true
    rwa [State.counts, hcount] at hcounts

theorem alignmentLoss_realigns (hlost : (rxScan (s.link l.val).rxErrs xs).2.2 = true)
    (hst : s.fld (pUL l.val) UL_STAT_STATE < 2) :
    Completes (.alignmentLoss t l xs) s fun u =>
      u.fld (pUL l.val) UL_STAT_RXALIGN = 0 ∧ (u.link l.val).rx = Rx.none ∧
      Changes (s.at_ t) u [.lnk] (fields [(pUL l.val, UL_ERRCNT3_ALIGNERR), (pUL l.val, UL_STAT_RXALIGN)]) := by
  refine ⟨_, exec_alignmentLoss s t l xs hrec, ?_⟩
  rw [(s.at_ t).hear_lost_untrained l.val xs hlost hst]
  refine ⟨State.unaligned_align _ _ _, ?_, State.unaligned_changes _ _ _⟩
  rw [State.unaligned, State.link_updLink_same]

end

/-! ## NAKs and resends (R178, R184) -/

/-- R184: a resend is served while fewer than three copies of the segment have been asked for. -/
theorem Lnk.resend_fewer {p : Lnk} {pos k cap : Nat} {parts : List Part} (h : p.resend pos k cap = some parts) :
    SMap.get 0 p.resent k < 3 := by
  unfold Lnk.resend at h
  split at h
  · cases h
  · dsimp only at h
    split at h
    · next hserved => exact hserved.1
    · cases h

section
variable (s : State) (l k : Nat)

/-- R184: a NAK counted. -/
def State.nakCounted (s : State) (l : Nat) : State := (s.addSat (pUL l) UL_NAKCNT_NAKRX 1).err (pUL l) UL_E_NAK

/-- R184: the frame with a resend of segment `k` among its parts. -/
def Lnk.served (k : Nat) (parts : List Part) (p : Lnk) : Lnk :=
  { p with
    parts := parts, tx := p.tx.take 5 ++ (parts.map (partSyms p.segs)).flatten
    resent := SMap.put 0 p.resent k (SMap.get 0 p.resent k + 1) }

/-- R184: the copies of the segment are one more. -/
theorem Lnk.served_same (p : Lnk) (parts : List Part) :
    SMap.get 0 (p.served k parts).resent k = SMap.get 0 p.resent k + 1 :=
  SMap.get_put_same 0 p.resent k (SMap.get 0 p.resent k + 1)

theorem Lnk.served_ne (p : Lnk) (parts : List Part) {j : Nat} (h : j ≠ k) :
    SMap.get 0 (p.served k parts).resent j = SMap.get 0 p.resent j :=
  SMap.get_put_ne 0 0 p.resent k j (SMap.get 0 p.resent k + 1) h

/-- R184: a resend served. -/
def State.resends (s : State) (l k : Nat) (parts : List Part) : State :=
  let v := (s.nakCounted l).updLink l (Lnk.served k parts)
  ((v.addSat (pUL l) UL_NAKCNT_RESENT 1).corrected).setFld (pUL l) UL_DSLAST_LEN (v.link l).tx.length

/-- R184: a resend that would come too late, or has no room. -/
def State.nakUnserved (s : State) (l : Nat) : State :=
  (((s.nakCounted l).addSat (pUL l) UL_ERRCNT1_NORSND 1).err (pUL l) UL_E_NORSND).contained

theorem State.takeNak_ignored (h : s.fld (pUL l) UL_STAT_STATE < 2 ∨ s.role = 2) : s.takeNak l k = s := if_pos h

theorem State.nakCounted_link : (s.nakCounted l).link = s.link := by
  rw [State.nakCounted, State.err_link, State.addSat_link]

theorem State.nakCounted_time : (s.nakCounted l).time = s.time := by
  rw [State.nakCounted, State.err_time, State.addSat_time]

/-- The fields that a NAK counts in, with those of its error. -/
def nakFields : List Fld := [UL_NAKCNT_NAKRX, HDR_PG_ERR_ERR, HDR_PG_IRQST_ST]

theorem State.nakCounted_portFld {f : Fld} (h : ∀ g ∈ nakFields, f.place ≠ g.place) :
    (s.nakCounted l).fld (pUL l) f = s.fld (pUL l) f := by
  simp only [nakFields, List.forall_mem_cons] at h
  obtain ⟨hnak, herr, hirq, -⟩ := h
  rw [State.nakCounted, State.fld_err_place _ _ _ herr hirq, State.fld_addSat_place _ _ _ hnak]

theorem State.nakCounted_count : (s.nakCounted l).fld (pUL l) UL_NAKCNT_NAKRX =
    Nat.min (s.fld (pUL l) UL_NAKCNT_NAKRX + 1) (2 ^ UL_NAKCNT_NAKRX.wid - 1) := by
  rw [State.nakCounted, State.fld_err_place _ _ _ (by decide) (by decide), State.fld_addSat_same]

theorem State.nakCounted_changes :
    Changes s (s.nakCounted l) [.msi] (fields ((pUL l, UL_NAKCNT_NAKRX) :: errFields (pUL l))) :=
  ((Changes.refl _ _ _).addSat (fields_mem (by simp))).err (by decide) (fields_mem (by simp [errFields]))
    (fields_mem (by simp [errFields]))

/-- R184: the resend of segment `k` that a NAK asks for now, as the new parts, if it is served. -/
def State.resendOf (s : State) (l k : Nat) : Option (List Part) :=
  (s.link l).resend ((s.time - (s.link l).txAt) / 35) k (capOf (s.fld pFRM FRM_MINPER_ACT_VALUE))

/-- R184: what a NAK does at a trained port of a unit that is no standby. -/
theorem State.takeNak_eq (hst : 2 ≤ s.fld (pUL l) UL_STAT_STATE) (hrole : s.role ≠ 2) : s.takeNak l k =
    if !(s.link l).txOn || (s.link l).txHold || ((s.link l).segs.getD k []).isEmpty then s.nakCounted l
    else match s.resendOf l k with
      | some parts => s.resends l k parts
      | none => s.nakUnserved l := by
  have hcap : (s.nakCounted l).fld pFRM FRM_MINPER_ACT_VALUE = s.fld pFRM FRM_MINPER_ACT_VALUE :=
    (s.nakCounted_changes l).fld_eq (portKeys_low l (fs := nakFields) (by decide) (by decide) (by decide))
  rw [State.resendOf, ← s.nakCounted_link l, ← s.nakCounted_time l, ← hcap]
  exact if_neg (not_or.mpr ⟨Nat.not_lt.mpr hst, hrole⟩)

theorem State.takeNak_idle (hst : 2 ≤ s.fld (pUL l) UL_STAT_STATE) (hrole : s.role ≠ 2)
    (h : (s.link l).txOn = false ∨ (s.link l).txHold = true ∨ (s.link l).segs.getD k [] = []) :
    s.takeNak l k = s.nakCounted l := by
  rw [State.takeNak_eq _ _ _ hst hrole]
  exact if_pos (by rcases h with h | h | h <;> simp [-List.getD_eq_getElem?_getD, h])

theorem State.takeNak_asks (hst : 2 ≤ s.fld (pUL l) UL_STAT_STATE) (hrole : s.role ≠ 2) (hon : (s.link l).txOn = true)
    (hrun : (s.link l).txHold = false) (hseg : (s.link l).segs.getD k [] ≠ []) : s.takeNak l k =
      match s.resendOf l k with
      | some parts => s.resends l k parts
      | none => s.nakUnserved l := by
  rw [State.takeNak_eq _ _ _ hst hrole]
  exact if_neg (by simpa [hon, hrun] using hseg)

theorem State.resends_link (parts : List Part) : (s.resends l k parts).link l = (s.link l).served k parts := by
  rw [State.resends, State.setFld_link, State.corrected_link, State.addSat_link, State.link_updLink_same,
    State.nakCounted_link]

theorem State.resends_count (parts : List Part) : (s.resends l k parts).fld (pUL l) UL_NAKCNT_RESENT =
    Nat.min (s.fld (pUL l) UL_NAKCNT_RESENT + 1) (2 ^ UL_NAKCNT_RESENT.wid - 1) := by
  rw [State.resends, State.fld_setFld_place _ _ _ (by decide), State.corrected_portFld _ _ (by decide),
    State.fld_addSat_same, State.updLink_fld, State.nakCounted_portFld _ _ (by decide)]

theorem State.nakUnserved_link : (s.nakUnserved l).link = s.link := by
  rw [State.nakUnserved, State.contained_link, State.err_link, State.addSat_link, State.nakCounted_link]

theorem State.nakUnserved_count : (s.nakUnserved l).fld (pUL l) UL_ERRCNT1_NORSND =
    Nat.min (s.fld (pUL l) UL_ERRCNT1_NORSND + 1) (2 ^ UL_ERRCNT1_NORSND.wid - 1) := by
  rw [State.nakUnserved, State.contained_portFld _ _ (by decide), State.fld_err_place _ _ _ (by decide) (by decide),
    State.fld_addSat_same, State.nakCounted_portFld _ _ (by decide)]

end

section
variable (s : State) (t : Time) (l : Link) (x : RxSym) (hrec : s.receives l.val = true)
include hrec

theorem exec_nak : exec (.nak t l x) s = .next (match symNak x with
    | some k => ((s.at_ t).hear l.val [x]).takeNak l.val k
    | none => (s.at_ t).hear l.val [x]) :=
  congrArg Host.Outcome.next (if_neg (by rw [s.atTime_receives t l, hrec]; decide))

theorem nak_heard (hk : symNak x = none) : Completes (.nak t l x) s fun u => u = (s.at_ t).hear l.val [x] :=
  ⟨_, exec_nak s t l x hrec, by rw [hk]⟩

variable {k : Nat} (hk : symNak x = some k)
include hk

theorem nak_completes {P : State → Prop} (h : P (((s.at_ t).hear l.val [x]).takeNak l.val k)) :
    Completes (.nak t l x) s P := by
  refine ⟨_, exec_nak s t l x hrec, ?_⟩
  rw [hk]
  exact h

/-- R356: a port in training, or of a standby, ignores it. -/
theorem nak_ignored (h : ((s.at_ t).hear l.val [x]).fld (pUL l.val) UL_STAT_STATE < 2 ∨ s.role = 2) :
    Completes (.nak t l x) s fun u => u = (s.at_ t).hear l.val [x] := by
  have hrole : ((s.at_ t).hear l.val [x]).role = s.role := State.hear_role _ _ _
  exact nak_completes s t l x hrec hk (State.takeNak_ignored _ _ _ (by rwa [hrole]))

variable (hst : 2 ≤ ((s.at_ t).hear l.val [x]).fld (pUL l.val) UL_STAT_STATE) (hrole : s.role ≠ 2)
include hst hrole

theorem nak_unanswered (h : (((s.at_ t).hear l.val [x]).link l.val).txOn = false ∨
      (((s.at_ t).hear l.val [x]).link l.val).txHold = true ∨
      (((s.at_ t).hear l.val [x]).link l.val).segs.getD k [] = []) : Completes (.nak t l x) s fun u =>
      u.fld (pUL l.val) UL_NAKCNT_NAKRX =
        Nat.min (s.fld (pUL l.val) UL_NAKCNT_NAKRX + 1) (2 ^ UL_NAKCNT_NAKRX.wid - 1) ∧
      Changes ((s.at_ t).hear l.val [x]) u [.msi] (fields ((pUL l.val, UL_NAKCNT_NAKRX) :: errFields (pUL l.val))) := by
  refine nak_completes s t l x hrec hk ?_
  rw [State.takeNak_idle _ _ _ hst (by rwa [State.hear_role]) h, State.nakCounted_count,
    State.hear_fld _ _ _ (by decide) (by decide)]
  exact ⟨rfl, State.nakCounted_changes _ _⟩

variable (hon : (((s.at_ t).hear l.val [x]).link l.val).txOn = true)
  (hrun : (((s.at_ t).hear l.val [x]).link l.val).txHold = false)
  (hseg : (((s.at_ t).hear l.val [x]).link l.val).segs.getD k [] ≠ [])
include hon hrun hseg

theorem nak_served {parts : List Part} (hserved : ((s.at_ t).hear l.val [x]).resendOf l.val k = some parts) :
    let p := ((s.at_ t).hear l.val [x]).link l.val
    Completes (.nak t l x) s fun u =>
      u.link l.val = { p with
        parts := parts, tx := p.tx.take 5 ++ (parts.map (partSyms p.segs)).flatten, resent := (u.link l.val).resent } ∧
      SMap.get 0 (u.link l.val).resent k = SMap.get 0 p.resent k + 1 ∧
      SMap.get 0 (u.link l.val).resent k ≤ 3 ∧
      (∀ j, j ≠ k → SMap.get 0 (u.link l.val).resent j = SMap.get 0 p.resent j) ∧
      u.fld (pUL l.val) UL_NAKCNT_RESENT =
        Nat.min (s.fld (pUL l.val) UL_NAKCNT_RESENT + 1) (2 ^ UL_NAKCNT_RESENT.wid - 1) := by
  intro p
  refine nak_completes s t l x hrec hk ?_
  rw [State.takeNak_asks _ _ _ hst (by rwa [State.hear_role]) hon hrun hseg, hserved]
  dsimp only
  rw [State.resends_link, State.resends_count, Lnk.served_same, State.hear_fld _ _ _ (by decide) (by decide)]
  exact ⟨rfl, rfl, Lnk.resend_fewer hserved, fun j hj => Lnk.served_ne k p parts hj, rfl⟩

theorem nak_late (hlate : ((s.at_ t).hear l.val [x]).resendOf l.val k = none) :
    Completes (.nak t l x) s fun u => u.link l.val = ((s.at_ t).hear l.val [x]).link l.val ∧
      u.fld (pUL l.val) UL_ERRCNT1_NORSND =
        Nat.min (s.fld (pUL l.val) UL_ERRCNT1_NORSND + 1) (2 ^ UL_ERRCNT1_NORSND.wid - 1) := by
  refine nak_completes s t l x hrec hk ?_
  rw [State.takeNak_asks _ _ _ hst (by rwa [State.hear_role]) hon hrun hseg, hlate]
  dsimp only
  rw [State.nakUnserved_link, State.nakUnserved_count, State.hear_fld _ _ _ (by decide) (by decide)]
  exact ⟨rfl, rfl⟩

end

/-- R184: the resend that is asked for of a port that has heard the NAK. -/
theorem State.resendOf_heard (s : State) (t : Time) (l : Nat) (xs : List RxSym) (k : Nat) :
    let p := ((s.at_ t).hear l xs).link l
    ((s.at_ t).hear l xs).resendOf l k =
      p.resend ((s.timeAt t - p.txAt) / 35) k (capOf (s.fld pFRM FRM_MINPER_ACT_VALUE)) := by
  have hcap : ((s.at_ t).hear l xs).fld pFRM FRM_MINPER_ACT_VALUE = s.fld pFRM FRM_MINPER_ACT_VALUE :=
    State.hear_fld_low _ _ _ (by decide) (by decide) (by decide)
  rw [State.resendOf, State.hear_time, hcap]
  rfl

/-- Settles O25: a NAK by what the port has on the line; a loss by the state of the port. -/
theorem resendsAndLoss : Obligations.ResendsAndLoss := by
  refine ⟨fun s t l x hrec => ⟨nak_heard s t l x hrec, fun k hk => ⟨nak_ignored s t l x hrec hk, fun hst hrole =>
      ⟨nak_unanswered s t l x hrec hk hst hrole, fun hon hrun hseg =>
        ⟨fun parts h => nak_served s t l x hrec hk hst hrole hon hrun hseg ((s.resendOf_heard t l.val [x] k).trans h),
          fun h => nak_late s t l x hrec hk hst hrole hon hrun hseg ((s.resendOf_heard t l.val [x] k).trans h)⟩⟩⟩⟩,
    fun s l => ⟨fun t xs hrec => ⟨alignmentLoss_keeps s t l xs hrec, alignmentLoss_loses s t l xs hrec,
      alignmentLoss_realigns s t l xs hrec⟩, upstreamWatchdog_loses s l⟩,
    fun w xs => ⟨rxScan_good w xs, (rxScan_losses xs).1, (rxScan_losses xs).2,
      fun h => rxScan_few [] xs (by simpa using h)⟩⟩

end Sys2Proof.Machine

/-! # Emission (R67, R164 to R166, R173, R185) -/

namespace Sys2Proof.Machine

/-! ## Symbol boundaries and frames (R164 to R166) -/

theorem multiple_below (o f : Nat) (h : o ≤ f) :
    o + (f - o) / 35 * 35 ≤ f ∧ f < o + (f - o) / 35 * 35 + 35 ∧ (o + (f - o) / 35 * 35 - o) % 35 = 0 := by
  omega

/-- R166: a boundary is no later than the time, and less than a symbol before it. -/
theorem Lnk.boundary_spec (p : Lnk) {f : Time} (h : p.origin ≤ f) :
    p.boundary f ≤ f ∧ f < p.boundary f + 35 ∧ (p.boundary f - p.origin) % 35 = 0 :=
  multiple_below p.origin f h

theorem headSyms_length (tag ph : Nat) : (headSyms tag ph).length = 5 := rfl

/-- R164: a RUN frame starts with its header and ends with ENDSEG. -/
theorem sendRun_tx (f : Time) (cmds : List Cmd) (p : Lnk) :
    (sendRun f cmds p).tx.take 5 = headSyms (p.emitFn % 1024) (phaseOf f (p.boundary f)) ∧
    (sendRun f cmds p).tx.getLast? = some (symCtl 0x40) := by
  unfold sendRun
  dsimp only
  refine ⟨?_, List.getLast?_concat⟩
  rw [List.append_assoc]
  exact List.take_left' (headSyms_length _ _)

section
variable (s : State) (t : Time)

theorem State.atTime_sendsFrames : (s.at_ t).sendsFrames = s.sendsFrames := by
  rw [State.sendsFrames, State.sendsFrames, s.atTime_clkOn t (pUL 0) (pgClass_pUL 0)]
  rfl

end

/-! ## The safe-table entries of a frame (R67) -/

/-- R67: the entry of slot key `k` has bad parity. -/
def State.safeUnsound (s : State) (k : Nat) : Bool := SMap.get false s.ctx.safeBad k

section
variable (s : State) (k : Nat)

/-- R67: the parity error of an entry reported. -/
def State.safeReported (s : State) (k : Nat) : State :=
  (((s.updCtx fun c => { c with perr := SMap.put false c.perr k true }).err pCTX CTX_E_SAFEPAR).contained).log pCTX 0x032 3
    (k / 384 * 512 + k % 384)

theorem State.safeRead_unsound (h : s.safeUnsound k = true) : s.safeRead k = (none, s.safeReported k) := if_pos h

theorem State.safeRead_sound (h : s.safeUnsound k = false) :
    s.safeRead k = (some (SMap.get ⟨0, 0⟩ s.ctx.safe k), s) := if_neg (by rw [← State.safeUnsound, h]; decide)

theorem State.safeReported_ctx :
    (s.safeReported k).ctx = { s.ctx with perr := SMap.put false s.ctx.perr k true } := by
  simp [State.safeReported]

theorem State.safeReported_marked : SMap.get false (s.safeReported k).ctx.perr k = true := by
  rw [State.safeReported_ctx]
  exact SMap.get_put_same false s.ctx.perr k true

theorem State.safeReported_marked_keeps {j : Nat} (h : SMap.get false s.ctx.perr j = true) :
    SMap.get false (s.safeReported k).ctx.perr j = true := by
  by_cases hjk : j = k
  · rw [hjk]
    exact s.safeReported_marked k
  · rw [State.safeReported_ctx]
    exact (SMap.get_put_ne false false s.ctx.perr k j true hjk).trans h

theorem State.safeReported_link : (s.safeReported k).link = s.link := by
  rw [State.safeReported, State.log_link, State.contained_link, State.err_link]
  rfl

theorem State.safeReported_flags : s.flags (s.safeReported k) pCTX CTX_E_SAFEPAR := by
  rw [State.flags, State.safeReported, State.fld_log_ne _ _ _ _ _ _ _ (by decide), State.contained,
    State.fld_addSat_ne _ _ _ _ _ _ (by decide), State.fld_err_err, State.updCtx_fld]

/-- An error that is reported again stands as it is. -/
theorem State.flags_trans {s u w : State} {p b : Nat} (h : s.flags u p b) (h' : u.flags w p b) : s.flags w p b := by
  rw [State.flags] at h h' ⊢
  rw [h', h]
  apply Nat.eq_of_testBit_eq
  intro i
  simp only [Nat.testBit_mod_two_pow, Nat.testBit_or]
  cases decide (i < 32) <;> simp

end

section
variable (s : State) (l : Nat) (ks : List Nat)

theorem State.safeReads_cons_unsound {k : Nat} (h : s.safeUnsound (l * 384 + k) = true) :
    s.safeReads l (k :: ks) =
      (((s.safeReported (l * 384 + k)).safeReads l ks).1, k :: ((s.safeReported (l * 384 + k)).safeReads l ks).2) := by
  rw [State.safeReads, s.safeRead_unsound _ h]
  rfl

theorem State.safeReads_cons_sound {k : Nat} (h : s.safeUnsound (l * 384 + k) = false) :
    s.safeReads l (k :: ks) = s.safeReads l ks := by
  rw [State.safeReads, s.safeRead_sound _ h]
  rfl

/-- What every report of an entry keeps, the reads of several keep. -/
theorem State.safeReads_keeps {P : State → Prop} (hP : ∀ u k, P u → P (u.safeReported k)) (h : P s) :
    P (s.safeReads l ks).1 := by
  induction ks generalizing s with
  | nil => exact h
  | cons k ks ih =>
    cases hk : s.safeUnsound (l * 384 + k) with
    | true =>
      rw [s.safeReads_cons_unsound l ks hk]
      exact ih _ (hP s _ h)
    | false =>
      rw [s.safeReads_cons_sound l ks hk]
      exact ih s h

theorem State.safeReported_unsound (j k : Nat) : (s.safeReported j).safeUnsound k = s.safeUnsound k := by
  rw [State.safeUnsound, State.safeReported_ctx]
  rfl

/-- R67: the slots that are found with bad parity. -/
theorem State.safeReads_found : (s.safeReads l ks).2 = ks.filter fun k => s.safeUnsound (l * 384 + k) := by
  induction ks generalizing s with
  | nil => rfl
  | cons k ks ih =>
    cases hk : s.safeUnsound (l * 384 + k) with
    | true =>
      rw [s.safeReads_cons_unsound l ks hk, List.filter_cons, if_pos hk, ih]
      simp only [State.safeReported_unsound]
    | false => rw [s.safeReads_cons_sound l ks hk, List.filter_cons, if_neg (by rw [hk]; decide), ih]

theorem State.safeReads_link : (s.safeReads l ks).1.link = s.link :=
  s.safeReads_keeps l ks (P := fun u => u.link = s.link) (fun u k h => (u.safeReported_link k).trans h) rfl

/-- R67: entries that are sound are read without a trace. -/
theorem State.safeReads_sound (h : ∀ k ∈ ks, s.safeUnsound (l * 384 + k) = false) : (s.safeReads l ks).1 = s := by
  induction ks with
  | nil => rfl
  | cons k ks ih =>
    obtain ⟨hk, hrest⟩ := List.forall_mem_cons.mp h
    rw [s.safeReads_cons_sound l ks hk, ih hrest]

/-- R67: an entry with bad parity is marked, and the error reported. -/
theorem State.safeReads_reports {k : Nat} (hk : k ∈ ks) (h : s.safeUnsound (l * 384 + k) = true) :
    SMap.get false (s.safeReads l ks).1.ctx.perr (l * 384 + k) = true ∧
    s.flags (s.safeReads l ks).1 pCTX CTX_E_SAFEPAR := by
  induction ks generalizing s with
  | nil => cases hk
  | cons j ks ih =>
    cases hj : s.safeUnsound (l * 384 + j) with
    | false =>
      rw [s.safeReads_cons_sound l ks hj]
      obtain rfl | hrest := List.mem_cons.mp hk
      · exact Bool.noConfusion (hj.symm.trans h)
      · exact ih s hrest h
    | true =>
      rw [s.safeReads_cons_unsound l ks hj]
      have hflags := State.safeReads_keeps (s.safeReported (l * 384 + j)) l ks
        (P := fun u => s.flags u pCTX CTX_E_SAFEPAR) (fun u i hu => State.flags_trans hu (u.safeReported_flags i))
        (s.safeReported_flags _)
      refine ⟨?_, hflags⟩
      obtain rfl | hrest := List.mem_cons.mp hk
      · refine State.safeReads_keeps (s.safeReported (l * 384 + k)) l ks
          (P := fun u => SMap.get false u.ctx.perr (l * 384 + k) = true) (fun u i hu => ?_) ?_
        · exact u.safeReported_marked_keeps i hu
        · exact s.safeReported_marked _
      · exact (ih _ hrest ((s.safeReported_unsound _ _).trans h)).1

end

/-! ## The frames that a port sends (R164 to R166, R173) -/

section
variable (s : State) (l : Link) (f : Time)

/-- R67: a slot of the frame whose safe-table entry has bad parity. -/
def State.unsoundSlot (s : State) (l k : Nat) : Bool := (s.link l).safeOf.contains k && s.safeUnsound (l * 384 + k)

/-- R67, R164: the commands of the frame that go out. -/
def State.soundCmds (s : State) (l : Nat) : List Cmd :=
  (s.link l).built.filter fun c => !(c.safe && s.unsoundSlot l c.slot)

/-- R166: an emission with nominal start F has come. -/
def State.emitting (s : State) (l : Nat) (f : Time) : State :=
  (s.at_ ((s.link l).boundary f)).updLink l fun p => { p with emitAt := none }

theorem State.emitting_link : (s.emitting l.val f).link l.val = { s.link l.val with emitAt := none } :=
  State.link_updLink_same _ _ _

theorem State.emitting_link_ne {k : Nat} (h : k ≠ l.val) : (s.emitting l.val f).link k = s.link k :=
  State.link_updLink_ne _ _ h

theorem State.emitting_changes : Changes s (s.emitting l.val f) [.time, .lnk] noField :=
  ((Changes.refl _ _ _).atTime (by decide)).updLink (by decide)

/-- R67: the safe-table entries of the frame read. -/
def State.entriesRead (s : State) (l : Nat) (f : Time) : State :=
  ((s.emitting l f).safeReads l (s.link l).safeOf).1

/-- R164, R165: the RUN frame sent. -/
def State.runSent (s : State) (l : Nat) (f : Time) : State :=
  let v := (s.entriesRead l f).updLink l (sendRun f (s.soundCmds l))
  v.setFld (pUL l) UL_DSLAST_LEN (v.link l).tx.length

theorem State.entriesFound_contains (k : Nat) :
    ((s.emitting l.val f).safeReads l.val (s.link l.val).safeOf).2.contains k = s.unsoundSlot l.val k := by
  rw [State.safeReads_found, Bool.eq_iff_iff]
  simp [State.unsoundSlot, State.safeUnsound, State.emitting]

/-- R164, R166, R173: what an emission does. -/
theorem exec_emissionStart (hsends : s.sendsFrames = true) (hat : (s.link l.val).emitAt = some f) :
    exec (.emissionStart l []) s = .next (
      if s.fld (pUL l.val) UL_STAT_STATE ≠ 3 then s.emitting l.val f
      else if (s.link l.val).emitRun && !s.pwr.faultB then s.runSent l.val f
      else (s.emitting l.val f).updLink l.val (sendHold f)) := by
  have hsends' : (s.emitting l.val f).sendsFrames = true := (s.atTime_sendsFrames _).trans hsends
  have hst : (s.emitting l.val f).fld (pUL l.val) UL_STAT_STATE = s.fld (pUL l.val) UL_STAT_STATE := rfl
  have hfault : (s.emitting l.val f).pwr = s.pwr := rfl
  show execEmissionStart l [] s = _
  rw [execEmissionStart, State.upsets, List.foldl_nil]
  dsimp only
  rw [hat]
  dsimp only
  rw [← State.emitting]
  simp only [hsends', hst, hfault, State.emitting_link, State.entriesFound_contains, Bool.not_true, Bool.false_or,
    decide_eq_true_eq]
  rfl

theorem State.entriesRead_link : (s.entriesRead l.val f).link = (s.emitting l.val f).link := State.safeReads_link _ _ _

/-- R164: the port that has sent a RUN frame. -/
theorem State.runSent_link : (s.runSent l.val f).link l.val =
    sendRun f (s.soundCmds l.val) { s.link l.val with emitAt := none } := by
  rw [State.runSent, State.setFld_link, State.link_updLink_same, State.entriesRead_link, State.emitting_link]

theorem State.runSent_link_ne {k : Nat} (h : k ≠ l.val) : (s.runSent l.val f).link k = s.link k := by
  rw [State.runSent, State.setFld_link, State.link_updLink_ne _ _ h, State.entriesRead_link, s.emitting_link_ne l f h]

theorem State.runSent_length : (s.runSent l.val f).fld (pUL l.val) UL_DSLAST_LEN =
    ((s.runSent l.val f).link l.val).tx.length % 2 ^ UL_DSLAST_LEN.wid := State.fld_setFld_same _ _ _ _

/-- R67: a bad entry of a slot in the frame is marked, and the error reported. -/
theorem State.runSent_reports {k : Nat} (h : s.unsoundSlot l.val k = true) :
    SMap.get false (s.runSent l.val f).ctx.perr (l.val * 384 + k) = true ∧
    s.flags (s.runSent l.val f) pCTX CTX_E_SAFEPAR := by
  obtain ⟨hmem, hbad⟩ := Bool.and_eq_true_iff.mp h
  obtain ⟨hperr, hflags⟩ := State.safeReads_reports (s.emitting l.val f) l.val (s.link l.val).safeOf
    (List.contains_iff_mem.mp hmem) hbad
  refine ⟨hperr, ?_⟩
  rw [State.flags, State.runSent, State.fld_setFld_ne _ _ _ _ _ _ (fldKey_port_page l.val (by decide) (by decide)
    (by decide)).symm]
  exact hflags

/-- R67: a frame of sound entries goes out as built. -/
theorem State.soundCmds_all (h : ∀ k, s.unsoundSlot l.val k = false) : s.soundCmds l.val = (s.link l.val).built :=
  List.filter_eq_self.mpr fun c _ => by rw [h, Bool.and_false, Bool.not_false]

theorem State.runSent_sound_changes (h : ∀ k, s.unsoundSlot l.val k = false) :
    Changes s (s.runSent l.val f) [.time, .lnk] (fields [(pUL l.val, UL_DSLAST_LEN)]) := by
  have hread : s.entriesRead l.val f = s.emitting l.val f := State.safeReads_sound _ _ _ fun k hk => by
    have hk' := h k
    rwa [State.unsoundSlot, List.contains_iff_mem.mpr hk, Bool.true_and] at hk'
  rw [State.runSent, hread]
  exact Changes.setFld (fields_mem (by simp)) (Changes.updLink (by decide)
    ((s.emitting_changes l f).mono (fun _ h => h) fun _ _ => rfl))

variable (hsends : s.sendsFrames = true)
include hsends

section
variable (hat : (s.link l.val).emitAt = some f)
include hat

section
variable (hst : s.fld (pUL l.val) UL_STAT_STATE = 3) (hfault : s.pwr.faultB = false)
  (hrun : (s.link l.val).emitRun = true)
include hst hfault hrun

theorem emissionStart_runs : exec (.emissionStart l []) s = .next (s.runSent l.val f) := by
  rw [exec_emissionStart s l f hsends hat, if_neg (not_not.mpr hst), hfault, hrun]
  rfl

theorem emissionStart_sends : Completes (.emissionStart l []) s fun u =>
    (u.link l.val).txAt = (s.link l.val).boundary f ∧ (u.link l.val).txHold = false ∧ (u.link l.val).txOn = true ∧
    (u.link l.val).tag = some ((s.link l.val).emitFn % 1024) ∧ (u.link l.val).prev = s.soundCmds l.val ∧
    (u.link l.val).segs = segments (s.soundCmds l.val) ∧ (u.link l.val).emitAt = none ∧
    (u.link l.val).tx.take 5 = headSyms ((s.link l.val).emitFn % 1024) (phaseOf f ((s.link l.val).boundary f)) ∧
    (u.link l.val).tx.getLast? = some (symCtl 0x40) ∧
    u.fld (pUL l.val) UL_DSLAST_LEN = (u.link l.val).tx.length % 2 ^ UL_DSLAST_LEN.wid ∧
    (∀ k, k ≠ l.val → u.link k = s.link k) ∧
    (∀ k, s.unsoundSlot l.val k = true →
      SMap.get false u.ctx.perr (l.val * 384 + k) = true ∧ s.flags u pCTX CTX_E_SAFEPAR) := by
  refine ⟨_, emissionStart_runs s l f hsends hat hst hfault hrun, ?_⟩
  obtain ⟨hhead, hlast⟩ := sendRun_tx f (s.soundCmds l.val) { s.link l.val with emitAt := none }
  rw [State.runSent_length, State.runSent_link]
  exact ⟨rfl, rfl, rfl, rfl, rfl, rfl, rfl, hhead, hlast, rfl, fun k hk => s.runSent_link_ne l f hk,
    fun k hk => s.runSent_reports l f hk⟩

theorem emissionStart_sends_sound (h : ∀ k, s.unsoundSlot l.val k = false) : Completes (.emissionStart l []) s fun u =>
    (u.link l.val).prev = (s.link l.val).built ∧ Changes s u [.time, .lnk] (fields [(pUL l.val, UL_DSLAST_LEN)]) := by
  refine ⟨_, emissionStart_runs s l f hsends hat hst hfault hrun, ?_, s.runSent_sound_changes l f h⟩
  rw [State.runSent_link, s.soundCmds_all l h]
  rfl

end

theorem emissionStart_sendsHold (hst : s.fld (pUL l.val) UL_STAT_STATE = 3)
    (h : s.pwr.faultB = true ∨ (s.link l.val).emitRun = false) : Completes (.emissionStart l []) s fun u =>
      (u.link l.val).txHold = true ∧ (u.link l.val).emitAt = none ∧ (u.link l.val).txAt = (s.link l.val).boundary f ∧
      (u.link l.val).tx = holdSyms (phaseOf f ((s.link l.val).boundary f)) ∧
      (u.link l.val).holdAt = f + 50000 ∧ Changes s u [.time, .lnk] noField := by
  have hno : ¬ ((s.link l.val).emitRun && !s.pwr.faultB) = true := by rcases h with h | h <;> simp [h]
  refine ⟨_, exec_emissionStart s l f hsends hat, ?_⟩
  rw [if_neg (not_not.mpr hst), if_neg hno]
  dsimp only
  rw [State.link_updLink_same, State.emitting_link]
  exact ⟨rfl, rfl, rfl, rfl, rfl, (s.emitting_changes l f).updLink (by decide)⟩

theorem emissionStart_untrained (hst : s.fld (pUL l.val) UL_STAT_STATE ≠ 3) : Completes (.emissionStart l []) s fun u =>
    u.link l.val = { s.link l.val with emitAt := none } ∧
    Changes (s.at_ ((s.link l.val).boundary f)) u [.lnk] noField := by
  refine ⟨_, exec_emissionStart s l f hsends hat, ?_⟩
  rw [if_pos hst]
  exact ⟨s.emitting_link l f, (Changes.refl _ _ _).updLink (by decide)⟩

end

/-- R173, R185: the HOLD frame that is due. -/
theorem holdFrame_sends (hst : s.fld (pUL l.val) UL_STAT_STATE = 2 ∨
      (s.fld (pUL l.val) UL_STAT_STATE = 3 ∧ s.pwr.faultB = true)) :
    let p := s.link l.val
    let g := if p.txOn && !p.txHold then Nat.max p.holdAt p.txEnd else p.holdAt
    Completes (.holdFrame l) s fun u =>
      (u.link l.val).txHold = true ∧ (u.link l.val).txAt = p.boundary g ∧ (u.link l.val).holdAt = g + 50000 ∧
      (u.link l.val).tx = holdSyms (phaseOf g (p.boundary g)) ∧
      u.time = s.timeAt g ∧ Changes s u [.time, .lnk] noField := by
  intro p g
  have hdue : (s.sendsFrames && (decide (s.fld (pUL l.val) UL_STAT_STATE = 2) ||
      (decide (s.fld (pUL l.val) UL_STAT_STATE = 3) && s.pwr.faultB))) = true := by simpa [hsends] using hst
  refine ⟨(s.at_ g).updLink l.val (sendHold g), congrArg Host.Outcome.next (if_pos hdue), ?_⟩
  dsimp only
  rw [State.link_updLink_same]
  exact ⟨rfl, rfl, rfl, rfl, rfl, ((Changes.refl _ _ _).atTime (by decide)).updLink (by decide)⟩

end

/-- Settles O24: an emission by the state of the port and what is built; a HOLD frame from the port's own timer. -/
theorem emission : Obligations.Emission := fun s l f hsends =>
  ⟨fun hat => ⟨fun hst => ⟨fun hfault hrun => ⟨emissionStart_sends s l f hsends hat hst hfault hrun,
      emissionStart_sends_sound s l f hsends hat hst hfault hrun⟩, emissionStart_sendsHold s l f hsends hat hst⟩,
    emissionStart_untrained s l f hsends hat⟩, holdFrame_sends s l hsends, fun p => p.boundary_spec⟩

end Sys2Proof.Machine

/-! # Encoder edges, positions, ticks and the states of an angle unit (R14, R189 to R198, R205) -/

namespace Sys2Proof.Machine

/-! ## Fields of a page, and the units -/

section
variable (s : State) (p n : Nat) {f : Fld}

theorem State.fld_setBit_place {g : Fld} (b : Bool) (h : f.place ≠ g.place) : (s.setBit p g b).fld p f = s.fld p f :=
  s.fld_setFld_place p b.toNat h

theorem State.fld_addWrap_place {g : Fld} (k : Nat) (h : f.place ≠ g.place) : (s.addWrap p g k).fld p f = s.fld p f :=
  s.fld_setFld_place p (s.fld p g + k) h

/-- Some fields of one page. -/
def pageKeys (fs : List Fld) : List (Nat × Fld) := fs.map fun f => (p, f)

theorem pageKeys_mem {fs : List Fld} (h : f ∈ fs) : fields (pageKeys p fs) (fldKey p f) = true :=
  fields_mem (List.mem_map_of_mem h)

/-- A field that is none of these, of the page or of another. -/
theorem pageKeys_false {fs : List Fld} {q : Nat} (h : ∀ g ∈ fs, fldKey q f ≠ fldKey p g) :
    fields (pageKeys p fs) (fldKey q f) = false := by
  refine List.any_eq_false.mpr fun x hx he => ?_
  obtain ⟨g, hg, rfl⟩ := List.mem_map.mp hx
  exact h g hg (of_decide_eq_true he).symm

theorem pageKeys_other {fs : List Fld} (h : ∀ g ∈ fs, f.place ≠ g.place) : fields (pageKeys p fs) (fldKey p f) = false :=
  pageKeys_false p fun g hg => fldKey_field_ne _ _ _ (h g hg)

theorem pageKeys_mono {fs gs : List Fld} (h : ∀ f ∈ fs, f ∈ gs) (k : Nat) (hk : fields (pageKeys p gs) k = false) :
    fields (pageKeys p fs) k = false := by
  refine List.any_eq_false.mpr fun x hx he => ?_
  obtain ⟨g, hg, rfl⟩ := List.mem_map.mp hx
  rw [← of_decide_eq_true he, pageKeys_mem p (h g hg)] at hk
  cases hk

/-- A field of the frame controller is none of a unit's. -/
theorem pageKeys_frm {fs : List Fld} (hfs : ∀ g ∈ fs, g.place < 131072) (hf : f.place < 131072) :
    fields (pageKeys (pANG n) fs) (fldKey pFRM f) = false :=
  pageKeys_false _ fun g hg => fldKey_page_ne _ _ _ _ (hfs g hg) hf (by unfold pANG pFRM; omega)

theorem State.contained_unitFld (hf : f.place < 131072) : s.contained.fld (pANG n) f = s.fld (pANG n) f :=
  s.fld_addSat_ne _ _ _ _ _ (fldKey_page_ne _ _ _ _ (by decide) hf (by unfold pANG pERR; omega))

theorem State.log_unitFld (q c v a : Nat) (hf : f.place < 131072) : (s.log q c v a).fld (pANG n) f = s.fld (pANG n) f :=
  s.fld_log_ne _ _ _ _ _ _ (by rw [fldKey_div _ _ hf]; unfold pANG pLOG; omega)

theorem State.bit_congr {s u : State} {q : Nat} (h : u.fld q f = s.fld q f) : u.bit q f = s.bit q f := by
  rw [State.bit, h, State.bit]

@[simp] theorem State.updAng_bit (q : Nat) (h : Ang → Ang) : (s.updAng n h).bit q f = s.bit q f := rfl

/-- The units stand with the part of the state that holds them. -/
theorem State.angu_congr {s u : State} (h : u.ang = s.ang) : u.angu = s.angu := by
  funext k
  rw [State.angu, State.angu, h]

@[simp] theorem State.angu_updAng_same (h : Ang → Ang) : (s.updAng n h).angu n = h (s.angu n) := SMap.get_put_same ..

theorem State.angu_updAng_ne {m : Nat} (h : Ang → Ang) (hm : m ≠ n) : (s.updAng n h).angu m = s.angu m :=
  SMap.get_put_ne _ _ _ _ _ _ hm

@[simp] theorem State.setFld_angu (v : Nat) : (s.setFld p f v).angu = s.angu := rfl
@[simp] theorem State.irq_angu (b : Nat) : (s.irq p b).angu = s.angu := State.angu_congr (s.irq_ang p b)
@[simp] theorem State.err_angu (b : Nat) : (s.err p b).angu = s.angu := State.angu_congr (s.err_ang p b)

/-- What units record and report leaves the frame controller, -/
theorem Changes.unit_frm {s u : State} {K : Nat → Bool} (h : Changes s u [.ang, .msi, .free] K) : u.frm = s.frm :=
  show (u.blank [.ang, .msi, .free]).frm = (s.blank [.ang, .msi, .free]).frm by rw [h.1]

/-- and a tick leaves the units. -/
theorem Changes.tick_angu {s u : State} {K : Nat → Bool} (h : Changes s u [.frm, .free] K) : u.angu = s.angu :=
  State.angu_congr (show (u.blank [.frm, .free]).ang = (s.blank [.frm, .free]).ang by rw [h.1])

theorem State.divOf_congr {s u : State} (hcpr : u.fld (pANG n) ANG_CPR_VALUE = s.fld (pANG n) ANG_CPR_VALUE)
    (hdpr : u.fld (pANG n) ANG_DPR_VALUE = s.fld (pANG n) ANG_DPR_VALUE) : u.divOf n = s.divOf n := by
  funext pos
  simp only [State.divOf, State.dpr, State.cpr, hcpr, hdpr]

end

/-! ## The count of an edge (R191, R192, R197) -/

/-- R191: a unit with the time of a counted edge. -/
def Ang.stamped (t : Time) (g : Ang) : Ang := { g with prevAt := g.lastAt, lastAt := some t }

/-- R197: an edge enters the run of qualifying edges and nothing else. -/
theorem qualify_eq (limit t : Nat) (rev : Bool) (g : Ang) : qualify limit t rev g =
    { g with four := (qualify limit t rev g).four, fourRev := (qualify limit t rev g).fourRev } := by
  unfold qualify
  split
  · split <;> rfl
  · rfl

/-- R197: the fourth edge in one direction, in time. -/
theorem qualify_fourth {limit t t1 t2 t3 : Nat} {rev : Bool} {g : Ang} (hfour : g.four = [t3, t2, t1])
    (hrev : g.fourRev = rev) (ht : t ≤ t3 + limit) :
    (qualify limit t rev g).four = [t, t3, t2, t1] ∧ (qualify limit t rev g).fourRev = rev := by
  simp [qualify, hfour, hrev, ht]

section
variable (s : State) (n t : Nat) (rev : Bool)

/-- R191: the fields of a counted edge's time. -/
def stampFields : List Fld :=
  [ANG_FASTCNT_FAST, HDR_PG_ERR_ERR, HDR_PG_IRQST_ST, ANG_TSLAST_LO_TS, ANG_TSLAST_HI_TS, ANG_STAT_COAST]

theorem State.stampEdge_changes :
    Changes s (s.stampEdge n t) [.ang, .msi] (fields (pageKeys (pANG n) stampFields)) := by
  have hmem {f : Fld} (h : f ∈ stampFields) := pageKeys_mem (pANG n) h
  refine Changes.updAng (by decide) (((Changes.setFld (hmem (by decide)) ?_).setFld (hmem (by decide))).setFld
    (hmem (by decide)))
  exact Changes.ite (fun _ => ((Changes.refl _ _ _).addSat (hmem (by decide))).err (by decide) (hmem (by decide))
    (hmem (by decide))) fun _ => Changes.refl _ _ _

theorem State.stampEdge_angu : (s.stampEdge n t).angu n = (s.angu n).stamped t ∧
    ∀ m, m ≠ n → (s.stampEdge n t).angu m = s.angu m := by
  have hfast (c : Bool) : (if c = true then (s.addSat (pANG n) ANG_FASTCNT_FAST 1).err (pANG n) ANG_E_FAST else s).angu =
      s.angu := by
    split
    · exact State.err_angu _ _ _
    · rfl
  unfold State.stampEdge
  refine ⟨?_, fun m hm => ?_⟩
  · rw [State.angu_updAng_same, State.setFld_angu, State.setFld_angu, State.setFld_angu, hfast]
    rfl
  · rw [State.angu_updAng_ne _ _ _ hm, State.setFld_angu, State.setFld_angu, State.setFld_angu, hfast]

theorem State.stampEdge_tslast : (s.stampEdge n t).fld (pANG n) ANG_TSLAST_LO_TS = t % 2 ^ 32 ∧
    (s.stampEdge n t).fld (pANG n) ANG_TSLAST_HI_TS = t / 2 ^ 32 % 2 ^ 32 := by
  simp (disch := decide) [State.stampEdge, State.fld_setFld_place, ANG_TSLAST_LO_TS, ANG_TSLAST_HI_TS]

/-- R192, R193: the fields of a count. -/
def countFields : List Fld := [ANG_POS_POS, ANG_DIV_DIV, ANG_REV_REV]

theorem State.countPos_changes : Changes s (s.countPos n rev) [] (fields (pageKeys (pANG n) countFields)) := by
  have hmem {f : Fld} (h : f ∈ countFields) := pageKeys_mem (pANG n) h
  have hpos (pos : Nat) : Changes s (s.setPos n pos) [] (fields (pageKeys (pANG n) countFields)) :=
    ((Changes.refl _ _ _).setFld (hmem (by decide))).setFld (hmem (by decide))
  exact Changes.ite
    (fun _ => Changes.ite (fun _ => (hpos _).addWrap (hmem (by decide))) fun _ => hpos _)
    fun _ => Changes.ite (fun _ => (hpos _).addWrap (hmem (by decide))) fun _ => hpos _

theorem State.countPos_angu : (s.countPos n rev).angu = s.angu :=
  ((s.countPos_changes n rev).mono (qs := [.frm, .free]) (by decide) fun _ h => h).tick_angu

theorem State.setPos_pos {pos : Nat} (h : pos < 2 ^ 20) : (s.setPos n pos).fld (pANG n) ANG_POS_POS = pos := by
  rw [State.setPos, State.fld_setFld_place _ _ _ (by decide), State.fld_setFld_same]
  exact Nat.mod_eq_of_lt h

theorem State.setPos_rev (pos : Nat) : (s.setPos n pos).fld (pANG n) ANG_REV_REV = s.fld (pANG n) ANG_REV_REV := by
  simp (disch := decide) [State.setPos, State.fld_setFld_place]

/-- R192: `u` is `s` with POS of unit `n` one count on, or back, modulo CPR, and REV moved where it wraps. -/
def State.movedOne (s u : State) (n : Nat) (rev : Bool) : Prop :=
  let pos := s.fld (pANG n) ANG_POS_POS
  let turns := s.fld (pANG n) ANG_REV_REV
  u.fld (pANG n) ANG_POS_POS = (if rev then (if pos = 0 then s.cpr n - 1 else pos - 1)
    else if pos + 1 = s.cpr n then 0 else pos + 1) ∧
  u.fld (pANG n) ANG_REV_REV = (if rev = true ∧ pos = 0 then (turns + 65535) % 65536
    else if rev = false ∧ pos + 1 = s.cpr n then (turns + 1) % 65536 else turns)

/-- R192: POS moves by one count, modulo CPR, and REV where it wraps. -/
theorem State.countPos_moves (hcpr : s.fld (pANG n) ANG_CPR_VALUE < 2 ^ 20)
    (hpos : s.fld (pANG n) ANG_POS_POS < s.cpr n) :
    s.movedOne (s.countPos n rev) n rev := by
  have hmax : s.cpr n ≤ 2 ^ 20 := hcpr
  unfold State.movedOne State.countPos
  intro pos turns
  dsimp only
  cases rev with
  | true =>
    rw [if_pos rfl, if_pos rfl]
    by_cases hzero : pos = 0
    · rw [if_pos hzero, if_pos hzero, if_pos ⟨rfl, hzero⟩, State.fld_addWrap_place _ _ _ (by decide),
        s.setPos_pos n (by omega), State.fld_addWrap_same, State.setPos_rev]
      exact ⟨rfl, rfl⟩
    · rw [if_neg hzero, if_neg hzero, if_neg fun h => hzero h.2, if_neg fun h => Bool.noConfusion h.1,
        s.setPos_pos n (by omega), State.setPos_rev]
      exact ⟨rfl, rfl⟩
  | false =>
    rw [if_neg Bool.false_ne_true, if_neg Bool.false_ne_true, if_neg fun h : false = true ∧ _ => Bool.noConfusion h.1]
    by_cases hwrap : pos + 1 = s.cpr n
    · rw [if_pos hwrap, if_pos hwrap, if_pos ⟨rfl, hwrap⟩, State.fld_addWrap_place _ _ _ (by decide),
        s.setPos_pos n (by decide), State.fld_addWrap_same, State.setPos_rev]
      exact ⟨rfl, rfl⟩
    · rw [if_neg hwrap, if_neg hwrap, if_neg fun h => hwrap h.2, s.setPos_pos n (by omega), State.setPos_rev]
      exact ⟨rfl, rfl⟩

/-- R190 to R192, R197: an edge counted, before it tells a direction, a tick or a lock. -/
def State.travelled : State :=
  let v := (s.stampEdge n t).countPos n rev
  v.updAng n (qualify (v.fld (pANG n) ANG_STOPTIME_TIME * 1000) t rev)

/-- The fields of a counted edge. -/
def travelFields : List Fld := stampFields ++ countFields

theorem State.travelled_changes :
    Changes s (s.travelled n t rev) [.ang, .msi] (fields (pageKeys (pANG n) travelFields)) := by
  refine Changes.updAng (by decide) (Changes.trans ?_ (((s.stampEdge n t).countPos_changes n rev).mono (by decide)
    (pageKeys_mono _ (by decide))))
  exact (s.stampEdge_changes n t).mono (fun _ h => h) (pageKeys_mono _ (by decide))

theorem State.travelled_fld {f : Fld} (h : ∀ g ∈ travelFields, f.place ≠ g.place) :
    (s.travelled n t rev).fld (pANG n) f = s.fld (pANG n) f :=
  (s.travelled_changes n t rev).fld_eq (pageKeys_other _ h)

theorem State.travelled_bit {f : Fld} (h : ∀ g ∈ travelFields, f.place ≠ g.place) :
    (s.travelled n t rev).bit (pANG n) f = s.bit (pANG n) f :=
  State.bit_congr (s.travelled_fld n t rev h)

theorem State.travelled_frm : (s.travelled n t rev).frm = s.frm :=
  ((s.travelled_changes n t rev).mono (qs := [.ang, .msi, .free]) (by decide) fun _ h => h).unit_frm

theorem State.travelled_angu : (s.travelled n t rev).angu n =
    qualify (s.fld (pANG n) ANG_STOPTIME_TIME * 1000) t rev ((s.angu n).stamped t) := by
  have hstop : ((s.stampEdge n t).countPos n rev).fld (pANG n) ANG_STOPTIME_TIME = s.fld (pANG n) ANG_STOPTIME_TIME :=
    s.travelled_fld n t rev (by decide)
  rw [State.travelled, State.angu_updAng_same, State.countPos_angu, (s.stampEdge_angu n t).1, hstop]

theorem State.travelled_angu_ne {m : Nat} (h : m ≠ n) : (s.travelled n t rev).angu m = s.angu m := by
  rw [State.travelled, State.angu_updAng_ne _ _ _ h, State.countPos_angu, (s.stampEdge_angu n t).2 m h]

theorem State.travelled_tslast : (s.travelled n t rev).fld (pANG n) ANG_TSLAST_LO_TS = t % 2 ^ 32 ∧
    (s.travelled n t rev).fld (pANG n) ANG_TSLAST_HI_TS = t / 2 ^ 32 % 2 ^ 32 := by
  have hcount := (s.stampEdge n t).countPos_changes n rev
  rw [← (s.stampEdge_tslast n t).1, ← (s.stampEdge_tslast n t).2]
  exact ⟨hcount.fld_eq (pageKeys_other _ (by decide)), hcount.fld_eq (pageKeys_other _ (by decide))⟩

theorem State.travelled_moves (hcpr : s.fld (pANG n) ANG_CPR_VALUE < 2 ^ 20)
    (hpos : s.fld (pANG n) ANG_POS_POS < s.cpr n) :
    s.movedOne (s.travelled n t rev) n rev := by
  have hkeep {f : Fld} (h : ∀ g ∈ stampFields, f.place ≠ g.place) :
      (s.stampEdge n t).fld (pANG n) f = s.fld (pANG n) f := (s.stampEdge_changes n t).fld_eq (pageKeys_other _ h)
  have hmoves := (s.stampEdge n t).countPos_moves n rev
  simp only [State.movedOne, State.cpr, hkeep (f := ANG_CPR_VALUE) (by decide), hkeep (f := ANG_POS_POS) (by decide),
    hkeep (f := ANG_REV_REV) (by decide)] at hmoves
  exact hmoves hcpr hpos

end

/-! ## Ticks (R14, R193, R195, R196) -/

section
variable (s : State) (n t : Nat)

theorem State.nearest_free (num den : Nat) : Changes s (s.nearest num den).2 [.free] noField := by
  unfold State.nearest
  dsimp only
  split
  · exact Changes.refl _ _ _
  split
  · exact Changes.refl _ _ _
  · exact (Changes.refl _ _ _).takeFree (n := 1) (by decide)

theorem State.setTpd_changes :
    Changes s (s.setTpd n t) [.ang, .free] (fields (pageKeys (pANG n) [ANG_TPD_TPD])) := by
  have hmem : fields (pageKeys (pANG n) [ANG_TPD_TPD]) (fldKey (pANG n) ANG_TPD_TPD) = true := pageKeys_mem _ (by decide)
  have hnear (num den : Nat) : Changes s (s.nearest num den).2 [.ang, .free] (fields (pageKeys (pANG n) [ANG_TPD_TPD])) :=
    (s.nearest_free num den).mono (by decide) fun _ _ => rfl
  unfold State.setTpd
  dsimp only
  split
  · exact ((hnear _ _).setFld hmem).updAng (by decide)
  · exact Changes.ite (fun _ => (Changes.refl _ _ _).setFld hmem) fun _ => ((hnear _ _).setFld hmem).updAng (by decide)

theorem State.nearest_angu (num den : Nat) : (s.nearest num den).2.angu = s.angu :=
  ((s.nearest_free num den).mono (qs := [.frm, .free]) (by decide) fun _ h => h).tick_angu

/-- R196: the speed at a tick changes of the units' records at most the time of that unit's latest tick. -/
theorem State.setTpd_angu : (s.setTpd n t).angu n = { s.angu n with tickAt := ((s.setTpd n t).angu n).tickAt } ∧
    ∀ m, m ≠ n → (s.setTpd n t).angu m = s.angu m := by
  unfold State.setTpd
  dsimp only
  split
  · refine ⟨?_, fun m hm => ?_⟩
    · rw [State.angu_updAng_same, State.setFld_angu, State.nearest_angu]
    · rw [State.angu_updAng_ne _ _ _ hm, State.setFld_angu, State.nearest_angu]
  · split
    · exact ⟨rfl, fun _ _ => rfl⟩
    · refine ⟨?_, fun m hm => ?_⟩
      · rw [State.angu_updAng_same, State.setFld_angu, State.nearest_angu]
      · rw [State.angu_updAng_ne _ _ _ hm, State.setFld_angu, State.nearest_angu]

/-- R14, R195: a tick of a unit is registered 4 ns after its edge, where the frame controller takes it. -/
theorem State.issueTick_unit (hsrc : s.fld pFRM FRM_STAT_SRCACT = 0) (hang : s.fld pFRM FRM_STAT_ANGACT = n) :
    s.issueTick 0 n t = s.updFrm fun f => { f with issued := f.issued ++ [⟨t, 0, n, 4⟩] } :=
  if_pos ⟨hsrc, fun _ => hang⟩

theorem State.issueTick_angu (src unit : Nat) : (s.issueTick src unit t).angu = s.angu :=
  (s.issueTick_changes src unit t).tick_angu

/-- R193, R196: a unit that has noted its tick. -/
def State.tickNoted (s : State) (n t : Nat) : State :=
  (s.setTpd n t).updAng n fun g => { g with lastDiv := s.angDiv n, lastTick := some t }

theorem State.angTick_eq : s.angTick n t = (s.tickNoted n t).issueTick 0 n t := rfl

theorem State.tickNoted_changes :
    Changes s (s.tickNoted n t) [.ang, .free] (fields (pageKeys (pANG n) [ANG_TPD_TPD])) :=
  (s.setTpd_changes n t).updAng (by decide)

theorem State.angTick_changes :
    Changes s (s.angTick n t) [.ang, .frm, .free] (fields (pageKeys (pANG n) [ANG_TPD_TPD])) :=
  ((s.tickNoted_changes n t).mono (by decide) fun _ h => h).trans
    (((s.tickNoted n t).issueTick_changes 0 n t).mono (by decide) fun _ _ => rfl)

theorem State.angTick_angu : (s.angTick n t).angu n =
      { s.angu n with tickAt := ((s.setTpd n t).angu n).tickAt, lastDiv := s.angDiv n, lastTick := some t } ∧
    ∀ m, m ≠ n → (s.angTick n t).angu m = s.angu m := by
  obtain ⟨hown, hothers⟩ := s.setTpd_angu n t
  rw [State.angTick_eq, State.issueTick_angu, State.tickNoted]
  refine ⟨?_, fun m hm => ?_⟩
  · rw [State.angu_updAng_same, hown]
  · rw [State.angu_updAng_ne _ _ _ hm, hothers m hm]

theorem State.angTick_frm (hsrc : s.fld pFRM FRM_STAT_SRCACT = 0) (hang : s.fld pFRM FRM_STAT_ANGACT = n) :
    (s.angTick n t).frm = { s.frm with issued := s.frm.issued ++ [⟨t, 0, n, 4⟩] } := by
  have hnoted := s.tickNoted_changes n t
  have hkeep {f : Fld} (hf : f.place < 131072) : (s.tickNoted n t).fld pFRM f = s.fld pFRM f :=
    hnoted.fld_eq (pageKeys_frm n (by decide) hf)
  rw [State.angTick_eq, State.issueTick_unit _ _ _ ((hkeep (by decide)).trans hsrc) ((hkeep (by decide)).trans hang),
    State.updFrm_frm, (hnoted.mono (qs := [.ang, .msi, .free]) (by decide) fun _ h => h).unit_frm]

end

/-! ## Direction, locking, and what follows the count of an edge (R193, R194, R197) -/

/-- What the accepted edges alone have told a unit (R189, R191, R197). -/
def Ang.edges (g : Ang) : (Bool × Bool) × Option Time × Option Time × List Time × Bool :=
  ((g.a, g.b), g.lastAt, g.prevAt, g.four, g.fourRev)

/-- The fields that a direction, a tick or a lock changes. -/
def settleFields : List Fld :=
  [ANG_STAT_DIR, ANG_TPD_TPD, ANG_STAT_STATE, ANG_STAT_LOCKED, ANG_STAT_COAST, HDR_PG_IRQST_ST]

/-- From `s` to `u` unit `n` has found its direction, ticked or locked after an edge: the count, the edges and the other
units are as they were. -/
structure Settles (s u : State) (n : Nat) : Prop where
  changes : Changes s u [.ang, .msi, .frm, .free] (fields (pageKeys (pANG n) settleFields))
  edges : (u.angu n).edges = (s.angu n).edges
  others : ∀ m, m ≠ n → u.angu m = s.angu m

section
variable {s u w : State} {n : Nat}

theorem Settles.refl (s : State) (n : Nat) : Settles s s n := ⟨Changes.refl _ _ _, rfl, fun _ _ => rfl⟩

theorem Settles.trans (h : Settles s u n) (h' : Settles u w n) : Settles s w n :=
  ⟨h.changes.trans h'.changes, h'.edges.trans h.edges, fun m hm => (h'.others m hm).trans (h.others m hm)⟩

/-- A unit's own record may change, but for what the edges have told. -/
theorem Settles.updAng {h : Ang → Ang} (hs : Settles s u n) (hh : ∀ g, (h g).edges = g.edges) :
    Settles s (u.updAng n h) n :=
  ⟨hs.changes.updAng (by decide), by rw [State.angu_updAng_same, hh, hs.edges],
    fun m hm => (State.angu_updAng_ne _ _ _ hm).trans (hs.others m hm)⟩

theorem Settles.setFld {v : Nat} {f : Fld} (hs : Settles s u n) (hf : f ∈ settleFields) :
    Settles s (u.setFld (pANG n) f v) n :=
  ⟨hs.changes.setFld (pageKeys_mem _ hf), hs.edges, hs.others⟩

theorem Settles.fld (h : Settles s u n) {f : Fld} (hf : ∀ g ∈ settleFields, f.place ≠ g.place) :
    u.fld (pANG n) f = s.fld (pANG n) f :=
  h.changes.fld_eq (pageKeys_other _ hf)

end

section
variable (s : State) (n t : Nat) (rev : Bool)

/-- R194: an edge along DIR ends a run against it. -/
theorem State.trackDir_along (h : rev = s.bit (pANG n) ANG_STAT_DIR) :
    (s.trackDir n t rev).2 = s.updAng n fun g => { g with run := 0, refN := g.refN + 1 } := by
  rw [State.trackDir, if_pos h]

/-- R194: an edge against DIR, within the hysteresis. -/
theorem State.trackDir_against (h : rev ≠ s.bit (pANG n) ANG_STAT_DIR)
    (hrun : (s.angu n).run + 1 < s.fld (pANG n) ANG_CTRL_REVHYS) :
    (s.trackDir n t rev).2 = s.updAng n fun g => { g with run := g.run + 1, refN := g.refN + 1 } := by
  rw [State.trackDir, if_neg h, if_neg (Nat.not_le.mpr hrun)]

/-- R194: an edge tells the direction, which it may change, and moves no other record of the edges. -/
theorem State.trackDir_cases : ∃ h : Ang → Ang, (∀ g, (h g).edges = g.edges) ∧
    ((s.trackDir n t rev).2 = s.updAng n h ∨
      (s.trackDir n t rev).2 = (s.setBit (pANG n) ANG_STAT_DIR rev).updAng n h) := by
  unfold State.trackDir
  dsimp only
  split
  · exact ⟨fun g => { g with run := 0, refN := g.refN + 1 }, fun _ => rfl, .inl rfl⟩
  split
  · exact ⟨fun g => { g with run := 0, refAt := t, refN := 0, tickAt := none }, fun _ => rfl, .inr rfl⟩
  · exact ⟨fun g => { g with run := g.run + 1, refN := g.refN + 1 }, fun _ => rfl, .inl rfl⟩

theorem State.trackDir_changes :
    Changes s (s.trackDir n t rev).2 [.ang] (fields (pageKeys (pANG n) [ANG_STAT_DIR])) := by
  obtain ⟨h, -, hsame | hturn⟩ := s.trackDir_cases n t rev
  · rw [hsame]
    exact (Changes.refl _ _ _).updAng (by decide)
  · rw [hturn]
    exact ((Changes.refl _ _ _).setBit (pageKeys_mem _ (by decide))).updAng (by decide)

theorem State.trackDir_settles : Settles s (s.trackDir n t rev).2 n := by
  obtain ⟨h, hedges, hsame | hturn⟩ := s.trackDir_cases n t rev
  · rw [hsame]
    exact (Settles.refl s n).updAng hedges
  · rw [hturn]
    exact ((Settles.refl s n).setFld (by decide)).updAng hedges

theorem State.angTick_settles : Settles s (s.angTick n t) n := by
  obtain ⟨hown, hothers⟩ := s.angTick_angu n t
  exact ⟨(s.angTick_changes n t).mono (by decide) (pageKeys_mono _ (by decide)), by rw [hown]; rfl, hothers⟩

/-- R197: the state that a unit in LOCKED starts with, its four edges' first being `first`. -/
def State.locked (s : State) (n first : Nat) : State :=
  let v := (s.setAngState n 2).setBit (pANG n) ANG_STAT_DIR (s.angu n).fourRev
  let d := v.angDiv n
  (v.updAng n fun g => { g with run := 0, refAt := first, refN := 3, tickAt := none, lastDiv := d }).irq (pANG n)
    ANG_E_LOCKDONE

theorem State.tryLock_locks {x y z first : Nat} (hfour : (s.angu n).four = [x, y, z, first])
    (hst : s.angState n = 1 ∨ s.angState n = 3)
    (hhomed : s.bit (pANG n) ANG_STAT_HOMED = true ∨ s.bit (pANG n) ANG_CTRL_NEEDHOME = false) :
    s.tryLock n = s.locked n first := by
  have hhome : (s.bit (pANG n) ANG_STAT_HOMED || !s.bit (pANG n) ANG_CTRL_NEEDHOME) = true := by simpa using hhomed
  simp only [State.tryLock, hfour]
  exact if_pos ⟨hst, hhome⟩

theorem State.locked_settles (first : Nat) : Settles s (s.locked n first) n := by
  have hst : Settles s ((s.setAngState n 2).setBit (pANG n) ANG_STAT_DIR (s.angu n).fourRev) n :=
    ((((Settles.refl s n).setFld (by decide)).setFld (by decide)).setFld (by decide)).setFld (by decide)
  obtain ⟨hchanges, hedges, hothers⟩ := hst.updAng (h := fun g => { g with
    run := 0, refAt := first, refN := 3, tickAt := none
    lastDiv := ((s.setAngState n 2).setBit (pANG n) ANG_STAT_DIR (s.angu n).fourRev).angDiv n }) fun _ => rfl
  refine ⟨hchanges.irq (by decide) (pageKeys_mem _ (by decide)), ?_, ?_⟩
  · rw [State.locked, State.irq_angu, hedges]
  · rw [State.locked, State.irq_angu]
    exact hothers

/-- R197: what the entry to LOCKED sets. -/
theorem State.locked_spec (first : Nat) : let u := s.locked n first
    u.angState n = 2 ∧ u.fld (pANG n) ANG_STAT_LOCKED = 1 ∧ u.fld (pANG n) ANG_STAT_DIR = (s.angu n).fourRev.toNat ∧
    (u.angu n).refAt = first ∧ (u.angu n).refN = 3 ∧ u.frm = s.frm := by
  intro u
  have hdir : (s.angu n).fourRev.toNat % 2 = (s.angu n).fourRev.toNat := Nat.mod_eq_of_lt (Bool.toNat_lt _)
  refine ⟨?_, ?_, ?_, ?_, ?_, ?_⟩
  · simp (disch := decide) [u, State.angState, State.locked, State.setAngState, State.fld_irq_place,
      State.fld_setBit_place, State.fld_setFld_place, ANG_STAT_STATE]
  · simp (disch := decide) [u, State.locked, State.setAngState, State.fld_irq_place,
      State.fld_setBit_place, State.fld_setFld_place, ANG_STAT_LOCKED]
  · dsimp only [u]
    rw [State.locked, State.fld_irq_place _ _ _ (by decide), State.updAng_fld, State.fld_setBit_same]
    exact hdir
  · simp [u, State.locked]
  · simp [u, State.locked]
  · exact State.irq_frm _ _ _

theorem State.tryLock_settles : Settles s (s.tryLock n) n := by
  unfold State.tryLock
  dsimp only
  split
  · split
    · exact s.locked_settles n _
    · exact Settles.refl s n
  · exact Settles.refl s n

/-- R190 to R194: an edge counted and its direction told. -/
def State.directed : State := ((s.travelled n t rev).trackDir n t rev).2

theorem State.directed_settles : Settles (s.travelled n t rev) (s.directed n t rev) n :=
  State.trackDir_settles _ n t rev

theorem State.directed_fld {f : Fld} (h : ∀ g ∈ travelFields, f.place ≠ g.place) (hdir : f.place ≠ ANG_STAT_DIR.place) :
    (s.directed n t rev).fld (pANG n) f = s.fld (pANG n) f :=
  ((s.travelled n t rev).trackDir_changes n t rev).fld_eq (pageKeys_other _ (by simpa using hdir)) |>.trans
    (s.travelled_fld n t rev h)

theorem State.directed_bit {f : Fld} (h : ∀ g ∈ travelFields, f.place ≠ g.place) (hdir : f.place ≠ ANG_STAT_DIR.place) :
    (s.directed n t rev).bit (pANG n) f = s.bit (pANG n) f :=
  State.bit_congr (s.directed_fld n t rev h hdir)

theorem State.directed_frm : (s.directed n t rev).frm = s.frm :=
  (((s.travelled n t rev).trackDir_changes n t rev).mono (qs := [.ang, .msi, .free]) (by decide) fun _ h => h).unit_frm
    |>.trans (s.travelled_frm n t rev)

theorem State.directed_frmFld {f : Fld} (hf : f.place < 131072) : (s.directed n t rev).fld pFRM f = s.fld pFRM f :=
  (((s.travelled n t rev).trackDir_changes n t rev).fld_eq (pageKeys_frm n (by decide) hf)).trans
    ((s.travelled_changes n t rev).fld_eq (pageKeys_frm n (by decide) hf))

theorem State.directed_state : (s.directed n t rev).angState n = s.angState n :=
  s.directed_fld n t rev (by decide) (by decide)

theorem State.countEdge_locked (h : s.angState n = 2) : s.countEdge n t rev =
    if (s.directed n t rev).bit (pANG n) ANG_STAT_DIR = rev ∧
        (s.directed n t rev).angDiv n ≠ ((s.directed n t rev).angu n).lastDiv then
      (s.directed n t rev).angTick n t
    else s.directed n t rev :=
  if_pos ((s.directed_state n t rev).trans h)

theorem State.countEdge_unlocked (h : s.angState n ≠ 2) : s.countEdge n t rev = (s.directed n t rev).tryLock n :=
  if_neg fun hlocked => h ((s.directed_state n t rev).symm.trans hlocked)

theorem State.countEdge_settles : Settles (s.travelled n t rev) (s.countEdge n t rev) n := by
  have hdirected := s.directed_settles n t rev
  by_cases h : s.angState n = 2
  · rw [s.countEdge_locked n t rev h]
    split
    · exact hdirected.trans (State.angTick_settles _ n t)
    · exact hdirected
  · rw [s.countEdge_unlocked n t rev h]
    exact hdirected.trans (State.tryLock_settles _ n)

/-- R190 to R192: what every counted edge does. -/
theorem State.countEdge_counts (hcpr : s.fld (pANG n) ANG_CPR_VALUE < 2 ^ 20)
    (hpos : s.fld (pANG n) ANG_POS_POS < s.cpr n) : let u := s.countEdge n t rev
    s.movedOne u n rev ∧
    u.fld (pANG n) ANG_TSLAST_LO_TS = t % 2 ^ 32 ∧ u.fld (pANG n) ANG_TSLAST_HI_TS = t / 2 ^ 32 % 2 ^ 32 ∧
    (u.angu n).a = (s.angu n).a ∧ (u.angu n).b = (s.angu n).b ∧ (u.angu n).lastAt = some t ∧
    (u.angu n).prevAt = (s.angu n).lastAt ∧ ∀ m, m ≠ n → u.angu m = s.angu m := by
  intro u
  have hsettles := s.countEdge_settles n t rev
  obtain ⟨hlo, hhi⟩ := s.travelled_tslast n t rev
  obtain ⟨hmoved, hturned⟩ := s.travelled_moves n t rev hcpr hpos
  have hedges : (u.angu n).edges = (qualify (s.fld (pANG n) ANG_STOPTIME_TIME * 1000) t rev ((s.angu n).stamped t)).edges := by
    rw [← s.travelled_angu n t rev, hsettles.edges]
  rw [qualify_eq] at hedges
  simp only [Ang.edges, Ang.stamped, Prod.mk.injEq] at hedges
  obtain ⟨⟨ha, hb⟩, hlast, hprev, -⟩ := hedges
  exact ⟨⟨(hsettles.fld (by decide)).trans hmoved, (hsettles.fld (by decide)).trans hturned⟩,
    (hsettles.fld (by decide)).trans hlo, (hsettles.fld (by decide)).trans hhi, ha, hb, hlast, hprev,
    fun m hm => (hsettles.others m hm).trans (s.travelled_angu_ne n t rev hm)⟩

/-- R193, R194: a count leaves the run against DIR and the division of the last tick. -/
theorem State.travelled_run : ((s.travelled n t rev).angu n).run = (s.angu n).run ∧
    ((s.travelled n t rev).angu n).lastDiv = (s.angu n).lastDiv := by
  rw [s.travelled_angu n t rev, qualify_eq]
  exact ⟨rfl, rfl⟩

/-- R193, R194: an edge along DIR, counted. -/
theorem State.directed_along (h : s.bit (pANG n) ANG_STAT_DIR = rev) : s.directed n t rev =
    (s.travelled n t rev).updAng n fun g => { g with run := 0, refN := g.refN + 1 } :=
  State.trackDir_along _ n t rev ((s.travelled_bit n t rev (by decide)).trans h).symm

/-- R194: an edge against DIR within the hysteresis, counted. -/
theorem State.directed_against (h : s.bit (pANG n) ANG_STAT_DIR = !rev)
    (hrun : (s.angu n).run + 1 < s.fld (pANG n) ANG_CTRL_REVHYS) : s.directed n t rev =
    (s.travelled n t rev).updAng n fun g => { g with run := g.run + 1, refN := g.refN + 1 } := by
  refine State.trackDir_against _ n t rev ?_ ?_
  · rw [s.travelled_bit n t rev (by decide), h]
    exact (Bool.not_ne_self rev).symm
  · rwa [(s.travelled_run n t rev).1, s.travelled_fld n t rev (by decide)]

/-- R193: the division that a forward edge within the turn enters. -/
theorem State.directed_angDiv (hdir : s.bit (pANG n) ANG_STAT_DIR = false) (hcpr : s.fld (pANG n) ANG_CPR_VALUE < 2 ^ 20)
    (hpos : s.fld (pANG n) ANG_POS_POS + 1 < s.cpr n) :
    (s.directed n t false).angDiv n = s.divOf n (s.fld (pANG n) ANG_POS_POS + 1) := by
  have hmoved : (s.directed n t false).fld (pANG n) ANG_POS_POS = s.fld (pANG n) ANG_POS_POS + 1 := by
    rw [s.directed_along n t false hdir, State.updAng_fld, (s.travelled_moves n t false hcpr (by omega)).1,
      if_neg Bool.false_ne_true, if_neg (by omega)]
  rw [State.angDiv, hmoved, State.divOf_congr n (s.directed_fld n t false (by decide) (by decide))
    (s.directed_fld n t false (by decide) (by decide))]

/-- R193, R195: an edge along DIR into another division ticks. -/
theorem State.countEdge_ticks (hst : s.angState n = 2) (hdir : s.bit (pANG n) ANG_STAT_DIR = false)
    (hcpr : s.fld (pANG n) ANG_CPR_VALUE < 2 ^ 20) (hpos : s.fld (pANG n) ANG_POS_POS + 1 < s.cpr n)
    (hdiv : s.divOf n (s.fld (pANG n) ANG_POS_POS + 1) ≠ (s.angu n).lastDiv)
    (hsrc : s.fld pFRM FRM_STAT_SRCACT = 0) (hang : s.fld pFRM FRM_STAT_ANGACT = n) : let u := s.countEdge n t false
    u.frm = { s.frm with issued := s.frm.issued ++ [⟨t, 0, n, 4⟩] } ∧
    (u.angu n).lastDiv = s.divOf n (s.fld (pANG n) ANG_POS_POS + 1) ∧ (u.angu n).lastTick = some t := by
  intro u
  have halong := s.directed_along n t false hdir
  have hentered := s.directed_angDiv n t hdir hcpr hpos
  have hdir' : (s.directed n t false).bit (pANG n) ANG_STAT_DIR = false := by
    rw [halong, State.updAng_bit, s.travelled_bit n t false (by decide), hdir]
  have hlast : ((s.directed n t false).angu n).lastDiv = (s.angu n).lastDiv := by
    rw [halong, State.angu_updAng_same]
    exact (s.travelled_run n t false).2
  have htick : u = (s.directed n t false).angTick n t :=
    (s.countEdge_locked n t false hst).trans (if_pos ⟨hdir', by rwa [hentered, hlast]⟩)
  rw [htick, State.angTick_frm _ n t ((s.directed_frmFld n t false (by decide)).trans hsrc)
    ((s.directed_frmFld n t false (by decide)).trans hang), (State.angTick_angu _ n t).1, hentered,
    s.directed_frm n t false]
  exact ⟨rfl, rfl, rfl⟩

/-- R193, R194: an edge against DIR, within the hysteresis, issues no tick. -/
theorem State.countEdge_against (hst : s.angState n = 2) (hdir : s.bit (pANG n) ANG_STAT_DIR = true)
    (hrun : (s.angu n).run + 1 < s.fld (pANG n) ANG_CTRL_REVHYS) : let u := s.countEdge n t false
    u.frm = s.frm ∧ u.bit (pANG n) ANG_STAT_DIR = true ∧ (u.angu n).run = (s.angu n).run + 1 := by
  intro u
  have hagainst := s.directed_against n t false hdir hrun
  have hdir' : (s.directed n t false).bit (pANG n) ANG_STAT_DIR = true := by
    rw [hagainst, State.updAng_bit, s.travelled_bit n t false (by decide), hdir]
  have hend : u = s.directed n t false :=
    (s.countEdge_locked n t false hst).trans (if_neg fun h => Bool.false_ne_true (h.1.symm.trans hdir'))
  refine ⟨?_, ?_, ?_⟩
  · rw [hend, s.directed_frm n t false]
  · rw [hend, hdir']
  · rw [hend, hagainst, State.angu_updAng_same]
    exact congrArg (· + 1) (s.travelled_run n t false).1

/-- R197: the fourth qualifying edge locks the unit. -/
theorem State.countEdge_locks {t1 t2 t3 : Time} (hst : s.angState n = 1 ∨ s.angState n = 3)
    (hfour : (s.angu n).four = [t3, t2, t1]) (hrev : (s.angu n).fourRev = false)
    (ht : t ≤ t3 + s.fld (pANG n) ANG_STOPTIME_TIME * 1000)
    (hhomed : s.bit (pANG n) ANG_STAT_HOMED = true ∨ s.bit (pANG n) ANG_CTRL_NEEDHOME = false) :
    let u := s.countEdge n t false
    u.angState n = 2 ∧ u.fld (pANG n) ANG_STAT_LOCKED = 1 ∧ u.fld (pANG n) ANG_STAT_DIR = 0 ∧
    (u.angu n).refAt = t1 ∧ (u.angu n).refN = 3 ∧ u.frm = s.frm := by
  intro u
  obtain ⟨hqfour, hqrev⟩ := qualify_fourth (g := (s.angu n).stamped t) hfour hrev ht
  have hedges := (s.directed_settles n t false).edges
  rw [s.travelled_angu n t false] at hedges
  simp only [Ang.edges, Prod.mk.injEq, hqfour, hqrev] at hedges
  obtain ⟨-, -, -, hfour', hrev'⟩ := hedges
  have hst' := s.directed_state n t false
  have hlocked : u = (s.directed n t false).locked n t1 := by
    refine (s.countEdge_unlocked n t false (by omega)).trans (State.tryLock_locks _ n hfour' (by omega) ?_)
    rwa [s.directed_bit n t false (by decide) (by decide), s.directed_bit n t false (by decide) (by decide)]
  obtain ⟨hstate, hlockbit, hdir, href, hcount, hfrm⟩ := (s.directed n t false).locked_spec n t1
  rw [hrev'] at hdir
  rw [hlocked]
  exact ⟨hstate, hlockbit, hdir, href, hcount, hfrm.trans (s.directed_frm n t false)⟩

end

/-! ## A step of two phases (R190, R197) -/

section
variable (s : State) (n : Nat)

/-- R190: a quadrature error counted, reported and logged, and the run of qualifying edges ended. -/
def State.quadNoted : State :=
  let v := ((s.addSat (pANG n) ANG_ERRCNT_QERR 1).err (pANG n) ANG_E_QERR).contained
  (v.log (pANG n) 0x070 3 (v.fld (pANG n) ANG_ERRCNT_QERR)).updAng n fun g => { g with four := [] }

theorem State.quadNoted_fld {f : Fld} (hf : f.place < 131072) (h : f.place ≠ HDR_PG_ERR_ERR.place)
    (h' : f.place ≠ HDR_PG_IRQST_ST.place) :
    (s.quadNoted n).fld (pANG n) f = (s.addSat (pANG n) ANG_ERRCNT_QERR 1).fld (pANG n) f := by
  rw [State.quadNoted, State.updAng_fld, State.log_unitFld _ _ _ _ _ _ hf, State.contained_unitFld _ _ hf,
    State.fld_err_place _ _ _ h h']

theorem State.quadNoted_count :
    (s.quadNoted n).fld (pANG n) ANG_ERRCNT_QERR = Nat.min (s.fld (pANG n) ANG_ERRCNT_QERR + 1) 65535 := by
  rw [s.quadNoted_fld n (by decide) (by decide) (by decide), State.fld_addSat_same]
  rfl

theorem State.quadNoted_other {f : Fld} (hf : f.place < 131072)
    (h : ∀ g ∈ [ANG_ERRCNT_QERR, HDR_PG_ERR_ERR, HDR_PG_IRQST_ST], f.place ≠ g.place) :
    (s.quadNoted n).fld (pANG n) f = s.fld (pANG n) f := by
  obtain ⟨hq, he, hi, -⟩ : _ ∧ _ ∧ _ ∧ _ := by simpa only [List.forall_mem_cons] using h
  rw [s.quadNoted_fld n hf he hi, State.fld_addSat_place _ _ _ hq]

theorem State.quadNoted_frm : (s.quadNoted n).frm = s.frm := by
  simp [State.quadNoted, State.addSat]

/-- R197: the unit loses its position. -/
def State.lost (s : State) (n : Nat) : State :=
  (((s.setAngState n 1).setFld (pANG n) ANG_STAT_HOMED 0).err (pANG n) ANG_E_LOST).contained

theorem State.lost_fld {f : Fld} (hf : f.place < 131072)
    (h : ∀ g ∈ [ANG_STAT_STATE, ANG_STAT_LOCKED, ANG_STAT_COAST, ANG_STAT_HOMED, HDR_PG_ERR_ERR, HDR_PG_IRQST_ST],
      f.place ≠ g.place) : (s.lost n).fld (pANG n) f = s.fld (pANG n) f := by
  obtain ⟨hst, hl, hc, hh, he, hi, -⟩ : _ ∧ _ ∧ _ ∧ _ ∧ _ ∧ _ ∧ _ := by simpa only [List.forall_mem_cons] using h
  rw [State.lost, State.contained_unitFld _ _ hf, State.fld_err_place _ _ _ he hi, State.fld_setFld_place _ _ _ hh,
    State.setAngState, State.fld_setFld_place _ _ _ hc, State.fld_setBit_place _ _ _ hl, State.fld_setFld_place _ _ _ hst]

theorem State.lost_state : (s.lost n).angState n = 1 ∧ (s.lost n).fld (pANG n) ANG_STAT_HOMED = 0 := by
  refine ⟨?_, ?_⟩
  · rw [State.angState, State.lost, State.contained_unitFld _ _ (by decide), State.fld_err_place _ _ _ (by decide) (by decide),
      State.fld_setFld_place _ _ _ (by decide), State.setAngState, State.fld_setFld_place _ _ _ (by decide),
      State.fld_setBit_place _ _ _ (by decide), State.fld_setFld_same]
    rfl
  · rw [State.lost, State.contained_unitFld _ _ (by decide), State.fld_err_place _ _ _ (by decide) (by decide),
      State.fld_setFld_same]
    rfl

theorem State.lost_frm : (s.lost n).frm = s.frm := by
  rw [State.lost, State.contained_frm, State.err_frm]
  rfl

theorem State.lost_angu : (s.lost n).angu = s.angu := by
  refine State.angu_congr ?_
  rw [State.lost, State.contained_ang, State.err_ang]
  rfl

theorem State.quadError_eq : s.quadError n =
    if s.angState n = 2 ∧ s.bit (pANG n) ANG_CTRL_NEEDHOME = true then (s.quadNoted n).lost n else s.quadNoted n := by
  have hst : (s.quadNoted n).angState n = s.angState n := s.quadNoted_other n (by decide) (by decide)
  have hneed : (s.quadNoted n).bit (pANG n) ANG_CTRL_NEEDHOME = s.bit (pANG n) ANG_CTRL_NEEDHOME :=
    State.bit_congr (s.quadNoted_other n (by decide) (by decide))
  rw [← hst, ← hneed]
  rfl

/-- R190, R197: what a step of two phases does. -/
theorem State.quadError_spec : let u := s.quadError n
    u.fld (pANG n) ANG_POS_POS = s.fld (pANG n) ANG_POS_POS ∧
    u.fld (pANG n) ANG_ERRCNT_QERR = Nat.min (s.fld (pANG n) ANG_ERRCNT_QERR + 1) 65535 ∧
    (u.angu n).four = [] ∧ u.frm = s.frm ∧
    (s.angState n = 2 → s.bit (pANG n) ANG_CTRL_NEEDHOME = true →
      u.angState n = 1 ∧ u.fld (pANG n) ANG_STAT_HOMED = 0) ∧
    (s.angState n = 2 → s.bit (pANG n) ANG_CTRL_NEEDHOME = false → u.angState n = 2) := by
  intro u
  have hpos : (s.quadNoted n).fld (pANG n) ANG_POS_POS = s.fld (pANG n) ANG_POS_POS :=
    s.quadNoted_other n (by decide) (by decide)
  have hfour : ((s.quadNoted n).angu n).four = [] := by rw [State.quadNoted, State.angu_updAng_same]
  by_cases h : s.angState n = 2 ∧ s.bit (pANG n) ANG_CTRL_NEEDHOME = true
  · have hlost : u = (s.quadNoted n).lost n := (s.quadError_eq n).trans (if_pos h)
    rw [hlost, State.lost_fld _ _ (by decide) (by decide), State.lost_fld _ _ (by decide) (by decide)]
    rw [State.lost_angu, State.lost_frm]
    exact ⟨hpos, s.quadNoted_count n, hfour, s.quadNoted_frm n, fun _ _ => State.lost_state _ n,
      fun _ hneed => absurd (hneed.symm.trans h.2) Bool.false_ne_true⟩
  · have hkept : u = s.quadNoted n := (s.quadError_eq n).trans (if_neg h)
    rw [hkept]
    exact ⟨hpos, s.quadNoted_count n, hfour, s.quadNoted_frm n, fun hst hneed => absurd ⟨hst, hneed⟩ h,
      fun hst _ => (s.quadNoted_other n (by decide) (by decide)).trans hst⟩

end

/-! ## ENCODER_EDGE (R189, R190) -/

section
variable (s : State) (t : Time) (n : Unit8) (a b : Bool) (stable : Time)

/-- R190: the phases that the unit's inputs have moved on, of four. -/
def State.phases (s : State) (n : Nat) (a b : Bool) : Nat := (quadIndex a b + 4 - quadIndex (s.angu n).a (s.angu n).b) % 4

/-- R189, R205: the filter has accepted the levels of A and B. -/
def State.accepted (s : State) (t : Time) (n : Nat) (a b : Bool) : State :=
  (s.at_ t).updAng n fun g => { g with a := a, b := b, stopT := s.fld (pANG n) ANG_STOPTIME_TIME }

/-- R190: an accepted step of `k` phases. -/
def State.movedBy (s : State) (n t k : Nat) (swap : Bool) : State :=
  match k with
  | 0 => s
  | 2 => s.quadError n
  | k => s.countEdge n t (decide (k = 3) != swap)

theorem State.movedBy_zero (k : Nat) (swap : Bool) : s.movedBy k t 0 swap = s := rfl
theorem State.movedBy_two (k : Nat) (swap : Bool) : s.movedBy k t 2 swap = s.quadError k := rfl

theorem State.movedBy_one_or_three {j : Nat} (k : Nat) (swap : Bool) (h : j = 1 ∨ j = 3) :
    s.movedBy k t j swap = s.countEdge k t (decide (j = 3) != swap) := by
  rcases h with rfl | rfl
  · rfl
  · rfl

theorem State.accepted_angu (k : Nat) : (s.accepted t k a b).angu k =
      { s.angu k with a := a, b := b, stopT := s.fld (pANG k) ANG_STOPTIME_TIME } ∧
    ∀ m, m ≠ k → (s.accepted t k a b).angu m = s.angu m :=
  ⟨State.angu_updAng_same _ _ _, fun _ hm => State.angu_updAng_ne _ _ _ hm⟩

theorem State.accepted_changes (k : Nat) : Changes (s.at_ t) (s.accepted t k a b) [.ang] noField :=
  (Changes.refl _ _ _).updAng (by decide)

theorem State.atTime_angOn : (s.at_ t).angOn n.val = s.angOn n.val := by
  rw [State.angOn, s.atTime_clkOn t _ (by rw [pgClass_pANG]; decide)]
  rfl

theorem encoderEdge_filtered (h : stable < s.fld (pANG n.val) ANG_CTRL_FILT * 2) :
    exec (.encoderEdge t n (a, b) stable) s = .next (s.at_ t) := by
  have hfilter : (s.at_ t).filterPasses n.val stable = false := decide_eq_false (Nat.not_le.mpr h)
  exact congrArg Host.Outcome.next (if_pos (by rw [hfilter]; rfl))

section
variable (hpass : s.fld (pANG n.val) ANG_CTRL_FILT * 2 ≤ stable)
include hpass

theorem exec_encoderEdge : exec (.encoderEdge t n (a, b) stable) s = .next (
    if !s.angOn n.val then s.accepted t n.val a b
    else (s.accepted t n.val a b).movedBy n.val t (s.phases n.val a b) (s.bit (pANG n.val) ANG_CTRL_SWAPAB)) := by
  rw [← s.atTime_angOn t n]
  have hfilter : (s.at_ t).filterPasses n.val stable = true := decide_eq_true hpass
  exact congrArg Host.Outcome.next (if_neg (by rw [hfilter]; decide))

theorem encoderEdge_off (hoff : s.angOn n.val = false) :
    exec (.encoderEdge t n (a, b) stable) s = .next (s.accepted t n.val a b) :=
  (exec_encoderEdge s t n a b stable hpass).trans (congrArg Host.Outcome.next (if_pos (by rw [hoff]; rfl)))

section
variable (hon : s.angOn n.val = true)
include hon

theorem exec_encoderEdge_on : exec (.encoderEdge t n (a, b) stable) s =
    .next ((s.accepted t n.val a b).movedBy n.val t (s.phases n.val a b) (s.bit (pANG n.val) ANG_CTRL_SWAPAB)) :=
  (exec_encoderEdge s t n a b stable hpass).trans (congrArg Host.Outcome.next (if_neg (by rw [hon]; decide)))

theorem encoderEdge_still (h : s.phases n.val a b = 0) :
    exec (.encoderEdge t n (a, b) stable) s = .next (s.accepted t n.val a b) := by
  rw [exec_encoderEdge_on s t n a b stable hpass hon, h, State.movedBy_zero]

theorem encoderEdge_error (h : s.phases n.val a b = 2) :
    exec (.encoderEdge t n (a, b) stable) s = .next ((s.accepted t n.val a b).quadError n.val) := by
  rw [exec_encoderEdge_on s t n a b stable hpass hon, h, State.movedBy_two]

theorem encoderEdge_counts (h : s.phases n.val a b = 1 ∨ s.phases n.val a b = 3) :
    exec (.encoderEdge t n (a, b) stable) s = .next ((s.accepted t n.val a b).countEdge n.val t
      (decide (s.phases n.val a b = 3) != s.bit (pANG n.val) ANG_CTRL_SWAPAB)) := by
  rw [exec_encoderEdge_on s t n a b stable hpass hon, State.movedBy_one_or_three _ _ _ _ h]

/-- A forward edge, with the inputs as they are wired. -/
theorem encoderEdge_forward (h : s.phases n.val a b = 1) (hswap : s.bit (pANG n.val) ANG_CTRL_SWAPAB = false) :
    exec (.encoderEdge t n (a, b) stable) s = .next ((s.accepted t n.val a b).countEdge n.val t false) := by
  rw [encoderEdge_counts s t n a b stable hpass hon (.inl h), h, hswap]
  rfl

end

end

end

/-! ## STOPTIME_EXPIRY and ANG_COAST (R197, R198, R205) -/

section
variable (s : State) (n : Unit8) {t : Time} (hlast : (s.angu n.val).lastAt = some t) (hst : s.angState n.val = 2)
include hlast hst

theorem stoptimeExpiry_stops : let p := pANG n.val
    Completes (.stoptimeExpiry n) s fun u =>
      u.angState n.val = 3 ∧ u.fld p ANG_STAT_LOCKED = 0 ∧ u.time = s.timeAt (t + (s.angu n.val).stopT * 1000) ∧
      u.fld p HDR_PG_ERR_ERR = (s.fld p HDR_PG_ERR_ERR ||| 2 ^ ANG_E_STOP) % 2 ^ 32 ∧ u.ang = s.ang ∧
      Changes s u [.time, .msi]
        (fields ([(p, ANG_STAT_STATE), (p, ANG_STAT_LOCKED), (p, ANG_STAT_COAST)] ++ errFields p)) := by
  intro p
  have hexec : exec (.stoptimeExpiry n) s =
      .next (((s.at_ (t + (s.angu n.val).stopT * 1000)).setAngState n.val 3).err p ANG_E_STOP) := by
    show execStoptimeExpiry n s = _
    simp only [execStoptimeExpiry, hlast, hst, if_true]
    rfl
  refine ⟨_, hexec, ?_, ?_, State.err_time _ _ _, ?_, State.err_ang _ _ _, ?_⟩
  · simp (disch := decide) [p, State.angState, State.setAngState, State.fld_err_place, State.fld_setFld_place,
      State.fld_setBit_place, ANG_STAT_STATE]
  · simp (disch := decide) [p, State.setAngState, State.fld_err_place, State.fld_setFld_place]
  · rw [State.fld_err_err]
    simp (disch := decide) [p, State.setAngState, State.fld_setFld_place, State.fld_setBit_place]
  · have hmem {f : Fld} (h : (p, f) ∈ [(p, ANG_STAT_STATE), (p, ANG_STAT_LOCKED), (p, ANG_STAT_COAST)] ++ errFields p) :=
      fields_mem h
    refine Changes.err (by decide) (hmem (by simp [errFields])) (hmem (by simp [errFields])) ?_
    exact (((((Changes.refl _ _ _).atTime (by decide)).setFld (hmem (by simp))).setBit (hmem (by simp))).setFld
      (hmem (by simp)))

theorem angCoast_shows {q : Time} (hprev : (s.angu n.val).prevAt = some q) : let p := pANG n.val
    Completes (.angCoast n) s fun u =>
      u.fld p ANG_STAT_COAST = 1 ∧ u.time = s.timeAt (t + 4 * (t - q) + 2) ∧
      Changes s u [.time] (fields [(p, ANG_STAT_COAST)]) := by
  intro p
  have hexec : exec (.angCoast n) s = .next ((s.at_ (t + 4 * (t - q) + 2)).setFld p ANG_STAT_COAST 1) := by
    show execAngCoast n s = _
    simp only [execAngCoast, hlast, hprev, hst, if_true]
    rfl
  exact ⟨_, hexec, State.fld_setFld_same _ _ _ _, rfl,
    ((Changes.refl _ _ _).atTime (by decide)).setFld (fields_mem (by simp))⟩

end

/-! ## The statement -/

/-- Settles O27: an accepted edge moves its unit by the phases between the levels, and what it then does follows from
the state and the direction of the unit. -/
theorem edgesAndTicks : Obligations.EdgesAndTicks := by
  refine ⟨fun s t n a b stable => ⟨fun h => ⟨_, encoderEdge_filtered s t n a b stable h, rfl⟩, fun hpass hoff =>
    ⟨_, encoderEdge_off s t n a b stable hpass hoff, (s.accepted_angu t a b n.val).1, s.accepted_changes t a b n.val⟩,
    fun hpass hon hcpr hpos => ⟨fun hstep => ?_, fun hstep => ?_, fun hstep => ?_⟩⟩,
    fun s n => ⟨fun t a b stable hpass hon hst hstep hswap hcpr hpos => ⟨fun hdir hdiv hsrc hang => ?_, fun hdir hrun => ?_⟩,
      fun t a b stable t1 t2 t3 hpass hon hst hstep hswap hfour hrev ht hhomed => ?_, fun t hlast hst => ?_,
      fun t q hlast hprev hst => ?_⟩⟩
  · obtain ⟨hown, hothers⟩ := s.accepted_angu t a b n.val
    obtain ⟨⟨hmoved, hturned⟩, hlo, hhi, ha, hb, hlast, hprev, hkept⟩ := (s.accepted t n.val a b).countEdge_counts n.val t
      (decide (s.phases n.val a b = 3) != s.bit (pANG n.val) ANG_CTRL_SWAPAB) hcpr hpos
    rw [hown] at ha hb hprev
    exact ⟨_, encoderEdge_counts s t n a b stable hpass hon hstep, hmoved, hturned, hlo, hhi, ha, hb, hlast, hprev,
      fun m hm => (hkept m hm).trans (hothers m hm)⟩
  · exact ⟨_, encoderEdge_still s t n a b stable hpass hon hstep, (s.accepted_angu t a b n.val).1,
      s.accepted_changes t a b n.val⟩
  · exact ⟨_, encoderEdge_error s t n a b stable hpass hon hstep, (s.accepted t n.val a b).quadError_spec n.val⟩
  · refine ⟨_, encoderEdge_forward s t n a b stable hpass hon hstep hswap, ?_⟩
    refine (s.accepted t n.val a b).countEdge_ticks n.val t hst hdir hcpr hpos ?_ hsrc hang
    rw [(s.accepted_angu t a b n.val).1]
    exact hdiv
  · refine ⟨_, encoderEdge_forward s t n a b stable hpass hon hstep hswap, ?_⟩
    have hagainst := (s.accepted t n.val a b).countEdge_against n.val t hst hdir
    rw [(s.accepted_angu t a b n.val).1] at hagainst
    exact hagainst hrun
  · refine ⟨_, encoderEdge_forward s t n a b stable hpass hon hstep hswap, ?_⟩
    have hlocks := (s.accepted t n.val a b).countEdge_locks n.val t (t1 := t1) (t2 := t2) (t3 := t3) hst
    rw [(s.accepted_angu t a b n.val).1] at hlocks
    exact hlocks hfour hrev ht hhomed
  · exact stoptimeExpiry_stops s n hlast hst
  · exact angCoast_shows s n hlast hst hprev

end Sys2Proof.Machine

/-! # Counted errors of a region, and RAM blocks (R212 to R217, R371) -/

namespace Sys2Proof.Machine

/-! ## A counted error of a region -/

/-- A field stands apart from PG_ERR and PG_IRQST. -/
abbrev Fld.aside (f : Fld) : Prop :=
  f.place < 131072 ∧ f.place ≠ HDR_PG_ERR_ERR.place ∧ f.place ≠ HDR_PG_IRQST_ST.place

section
variable (s : State) {r : Nat} (hr : r < 64)

/-- R371, R415: a region counts an event of one of its counters and reports it as a contained error. -/
def State.regionError (s : State) (r : Nat) (f : Fld) (b : Nat) : State :=
  ((s.addSat (pRGN r) f 1).err (pRGN r) b).contained

/-- What the error changes. -/
def regionErrorFields (r : Nat) (f : Fld) : List (Nat × Fld) :=
  (pERR, ERR_CLASSCNT_CONTAINED) :: (pRGN r, f) :: errFields (pRGN r)

theorem State.regionError_changes (f : Fld) (b : Nat) :
    Changes s (s.regionError r f b) [.msi] (fields (regionErrorFields r f)) :=
  (((Changes.refl _ _ _).addSat (fields_mem (by simp [regionErrorFields]))).err (by decide)
    (fields_mem (by simp [regionErrorFields, errFields])) (fields_mem (by simp [regionErrorFields, errFields]))).contained
    (fields_mem (by simp [regionErrorFields]))

theorem State.regionError_jer (f : Fld) (b : Nat) : (s.regionError r f b).jer = s.jer := by
  rw [State.regionError, State.contained_jer, State.err_jer, State.addSat_jer]

theorem State.regionError_fab (f : Fld) (b : Nat) : (s.regionError r f b).fab = s.fab := by
  rw [State.regionError, State.contained_fab, State.err_fab, State.addSat_fab]

theorem State.regionError_time (f : Fld) (b : Nat) : (s.regionError r f b).time = s.time := by
  rw [State.regionError, State.contained_time, State.err_time, State.addSat_time]

include hr

theorem State.contained_regionFld {f : Fld} (hf : f.place < 131072) : s.contained.fld (pRGN r) f = s.fld (pRGN r) f :=
  s.fld_addSat_ne _ _ _ _ _ (fldKey_page_ne _ _ _ _ (by decide) hf (by unfold pRGN pERR; omega))

theorem State.regionError_reports {f : Fld} (hf : f.aside) (b : Nat) :
    s.counts (s.regionError r f b) (pRGN r) f ∧ s.flags (s.regionError r f b) (pRGN r) b := by
  obtain ⟨hplace, herr, hirq⟩ := hf
  refine ⟨?_, ?_⟩
  · rw [State.counts, State.regionError, State.contained_regionFld _ hr hplace, State.fld_err_place _ _ _ herr hirq,
      State.fld_addSat_same]
  · rw [State.flags, State.regionError, State.contained_regionFld _ hr (by decide), State.fld_err_err,
      State.fld_addSat_place _ _ _ herr.symm]

end

/-! ## The two ports of a block in one cycle -/

section
variable (s : State)

/-- R214: what a port of a block shows at its outputs, without a parity error; nothing new where it makes no access. -/
def State.shown (s : State) (n : Nat) : Option (BitVec 20) → State
  | none => s
  | some q => s.updFab fun f => { f with ramQ := SMap.put 0 f.ramQ n q.toNat, perr := SMap.put false f.perr n false }

/-- R215: COLLIDE of a block. -/
def State.collided (s : State) (b : Nat) (v : Bool) : State :=
  s.updFab fun f => { f with collide := SMap.put false f.collide b v }

/-- R214, R217: the outputs of a port whose access found good parity. -/
theorem State.ramOut_sound (b : Nat) (portB : Bool) (old new : BitVec 20) (wrote rdNew : Bool) :
    s.ramOut b portB old new false wrote rdNew =
      s.shown (2 * b + portB.toNat) (some (if (wrote && rdNew) = true then new else old)) := by
  simp only [State.ramOut, Bool.false_and, Nat.mul_comm b 2]
  rfl

/-- R213: the value that an access makes of the word, if it writes. -/
def ramMade (c : RamCfg) (old : BitVec 20) (x : Option (RamOp × BitVec 20)) : Option (BitVec 20) :=
  x.bind fun y => if ramWrites y.1 then some (ramApply y.1 old (ramCut c y.2)) else none

theorem ramMade_writes (c : RamCfg) (old : BitVec 20) {op : RamOp} (h : ramWrites op = true) (d : BitVec 20) :
    ramMade c old (some (op, d)) = some (ramApply op old (ramCut c d)) := if_pos h

theorem ramWrites_of_ne_read {op : RamOp} (h : op ≠ .read) : ramWrites op = true := by
  cases op with
  | read => exact absurd rfl h
  | write | set | clear => rfl

/-- R213 to R217: a cycle in which port A writes a word of good parity; what port B makes of it is lost. -/
theorem State.ramPorts_writeA {c : RamCfg} {b k : Nat} {x y : Option (RamOp × BitVec 20)} {new : BitVec 20}
    (hsound : s.ramSound k) (hnew : ramMade c (SMap.get 0 s.fab.ram k) x = some new) :
    s.ramPorts c b k x y =
      (((s.ramStore k new).shown (2 * b) (some (if c.rdNewA = true then new else SMap.get 0 s.fab.ram k))).shown (2 * b + 1)
        (y.map fun _ => SMap.get 0 s.fab.ram k)).collided b (ramMade c (SMap.get 0 s.fab.ram k) y).isSome := by
  obtain ⟨hlo, hhi⟩ := hsound
  unfold ramMade at hnew
  cases x with
  | none => cases hnew
  | some x => cases y <;>
      simp only [State.ramPorts, hnew, hlo, hhi, State.ramOut_sound, Bool.and_false, Bool.or_false, Option.isSome_some,
        Option.isSome_none, Bool.true_and, Bool.false_and, if_true, if_false, Bool.false_eq_true] <;> rfl

/-- R213 to R217: a cycle in which port B writes a word of good parity, and port A reads it or makes no access. -/
theorem State.ramPorts_writeB {c : RamCfg} {b k : Nat} {x y : Option (RamOp × BitVec 20)} {new : BitVec 20}
    (hsound : s.ramSound k) (hx : ramMade c (SMap.get 0 s.fab.ram k) x = none)
    (hnew : ramMade c (SMap.get 0 s.fab.ram k) y = some new) :
    s.ramPorts c b k x y =
      (((s.ramStore k new).shown (2 * b) (x.map fun _ => SMap.get 0 s.fab.ram k)).shown (2 * b + 1)
        (some (if c.rdNewB = true then new else SMap.get 0 s.fab.ram k))).collided b false := by
  obtain ⟨hlo, hhi⟩ := hsound
  unfold ramMade at hx hnew
  cases y with
  | none => cases hnew
  | some y => cases x <;>
      simp only [State.ramPorts, hx, hnew, hlo, hhi, State.ramOut_sound, Bool.and_false, Bool.or_false, Option.isSome_some,
        Option.isSome_none, Bool.false_or, Bool.true_and, Bool.false_and, if_true, if_false, Bool.false_eq_true] <;> rfl

/-- R217: the word at `k` has bad parity as a block of this configuration sees it. -/
def State.ramBadAt (s : State) (c : RamCfg) (k : Nat) : Bool :=
  c.parity && (SMap.get false s.fab.ramBad (2 * k) || (c.wide && SMap.get false s.fab.ramBad (2 * k + 1)))

/-- R214, R217: a cycle in which one port reads and the other makes no access. -/
theorem State.ramPorts_read (c : RamCfg) (b k : Nat) (portB : Bool) (d : BitVec 20) :
    s.ramPorts c b k (if portB then none else some (.read, d)) (if portB then some (.read, d) else none) =
      (s.ramOut b portB (SMap.get 0 s.fab.ram k) (SMap.get 0 s.fab.ram k) (s.ramBadAt c k) false
        (if portB then c.rdNewB else c.rdNewA)).collided b false := by
  cases portB <;> rfl

/-! ## What a cycle leaves -/

theorem State.shown_fab (n : Nat) (q : Option (BitVec 20)) :
    (s.shown n q).fab = { s.fab with ramQ := (s.shown n q).fab.ramQ, perr := (s.shown n q).fab.perr } := by
  cases q <;> rfl

theorem State.shown_same (n : Nat) (q : BitVec 20) : SMap.get 0 (s.shown n (some q)).fab.ramQ n = q.toNat ∧
    SMap.get false (s.shown n (some q)).fab.perr n = false :=
  ⟨SMap.get_put_same .., SMap.get_put_same false s.fab.perr n false⟩

theorem State.shown_ne (n : Nat) (q : Option (BitVec 20)) {j : Nat} (h : j ≠ n ∨ q = none) :
    SMap.get 0 (s.shown n q).fab.ramQ j = SMap.get 0 s.fab.ramQ j ∧
    SMap.get false (s.shown n q).fab.perr j = SMap.get false s.fab.perr j := by
  cases q with
  | none => exact ⟨rfl, rfl⟩
  | some q =>
    obtain hne | hnone := h
    · exact ⟨SMap.get_put_ne _ _ _ _ _ _ hne, SMap.get_put_ne false false s.fab.perr n j false hne⟩
    · cases hnone

theorem Changes.shown {s u : State} {ps : List Piece} {K : Nat → Bool} {n : Nat} {q : Option (BitVec 20)}
    (ha : Piece.fab ∈ ps) (h : Changes s u ps K) : Changes s (u.shown n q) ps K := by
  cases q with
  | none => exact h
  | some q => exact h.updFab ha

/-- What both ports show after a cycle that left the word at `k` as `new`. -/
def State.ramCycle (s : State) (b k : Nat) (new : BitVec 20) (qa qb : Option (BitVec 20)) (collide : Bool) : State :=
  (((s.ramStore k new).shown (2 * b) qa).shown (2 * b + 1) qb).collided b collide

theorem State.ramCycle_fab (b k : Nat) (new : BitVec 20) (qa qb : Option (BitVec 20)) (collide : Bool) :
    let u := s.ramCycle b k new qa qb collide
    u.fab = { s.fab with
      ram := SMap.put 0 s.fab.ram k new
      ramBad := SMap.put false (SMap.put false s.fab.ramBad (2 * k) false) (2 * k + 1) false
      ramQ := u.fab.ramQ, perr := u.fab.perr, collide := SMap.put false s.fab.collide b collide } := by
  cases qa <;> cases qb <;> rfl

/-- R214: what each port shows after it. -/
theorem State.ramCycle_shows (b k : Nat) (new : BitVec 20) (qa qb : Option (BitVec 20)) (collide port : Bool) {q : BitVec 20}
    (h : (if port then qb else qa) = some q) : let u := s.ramCycle b k new qa qb collide
    SMap.get 0 u.fab.ramQ (2 * b + port.toNat) = q.toNat ∧ SMap.get false u.fab.perr (2 * b + port.toNat) = false := by
  cases port with
  | false =>
    obtain rfl : qa = some q := h
    obtain ⟨hq, hperr⟩ := ((s.ramStore k new).shown (2 * b) (some q)).shown_ne (2 * b + 1) qb (j := 2 * b) (.inl (by omega))
    obtain ⟨hq', hperr'⟩ := (s.ramStore k new).shown_same (2 * b) q
    exact ⟨hq.trans hq', hperr.trans hperr'⟩
  | true =>
    obtain rfl : qb = some q := h
    exact ((s.ramStore k new).shown (2 * b) qa).shown_same (2 * b + 1) q

/-- R214: the outputs of a port that makes no access, and of every other block, are as they were. -/
theorem State.ramCycle_keeps (b k : Nat) (new : BitVec 20) (qa qb : Option (BitVec 20)) (collide : Bool) {j : Nat}
    (h : ∀ port : Bool, j = 2 * b + port.toNat → (if port then qb else qa) = none) :
    let u := s.ramCycle b k new qa qb collide
    SMap.get 0 u.fab.ramQ j = SMap.get 0 s.fab.ramQ j ∧ SMap.get false u.fab.perr j = SMap.get false s.fab.perr j := by
  have hportA : j ≠ 2 * b ∨ qa = none := (ne_or_eq j (2 * b)).imp id (h false)
  have hportB : j ≠ 2 * b + 1 ∨ qb = none := (ne_or_eq j (2 * b + 1)).imp id (h true)
  obtain ⟨hq, hperr⟩ := ((s.ramStore k new).shown (2 * b) qa).shown_ne (2 * b + 1) qb hportB
  obtain ⟨hq', hperr'⟩ := (s.ramStore k new).shown_ne (2 * b) qa hportA
  exact ⟨hq.trans hq', hperr.trans hperr'⟩

/-- R212 to R217: such a cycle is what the access of a port is to leave, where that port shows `q`. -/
theorem State.ramCycle_done (x : RamAcc) (k : Nat) (new : BitVec 20) (qa qb : Option (BitVec 20)) (collide : Bool)
    {q : BitVec 20} {alone : Bool} (hmine : (if x.portB then qb else qa) = some q)
    (halone : alone = true → (if x.portB then qa else qb) = none) :
    s.ramDone (s.ramCycle (x.region.val * 40 + x.block.val) k new qa qb collide) x k new q collide alone := by
  obtain ⟨hq, hperr⟩ := s.ramCycle_shows (x.region.val * 40 + x.block.val) k new qa qb collide x.portB hmine
  refine ⟨s.ramCycle_fab _ k new qa qb collide, hq, hperr, fun j hj hother => s.ramCycle_keeps _ k new qa qb collide
    fun port hport => ?_, ((((Changes.refl _ _ _).updFab (by decide)).shown (by decide)).shown (by decide)).updFab (by decide)⟩
  have hnone := halone (hother.resolve_left (by have := port.toNat_lt; omega))
  obtain rfl : port = !x.portB := Bool.eq_not_of_ne fun h => hj (h ▸ hport)
  cases hx : x.portB <;> rw [hx] at hnone <;> exact hnone

end

/-! ## One access, with that of the other port (R212 to R215) -/

section
variable (s : State) (x : RamAcc) {c : RamCfg} (hdesc : (s.desc x.region.val).rams[x.block.val]? = some c)

/-- R212: the access that the other port makes to the word in the same cycle. -/
def State.ramOther (s : State) (x : RamAcc) (c : RamCfg) : Option (RamOp × BitVec 20) :=
  s.portAccess x.region.val (if x.portB then c.clkA else c.clkB) x.other

theorem State.ramOther_none (h : x.other = none ∨ s.clkRun x.region.val (if x.portB then c.clkA else c.clkB) = false) :
    s.ramOther x c = none := by
  obtain h | h := h <;> simp [State.ramOther, State.portAccess, h]

theorem State.ramOther_runs (h : s.clkRun x.region.val (if x.portB then c.clkA else c.clkB) = true) :
    s.ramOther x c = x.other := if_pos h

include hdesc

/-- R212: a port whose clock is stopped makes no access. -/
theorem State.ramAccess_stopped (op : RamOp)
    (h : s.clkRun x.region.val (if x.portB then c.clkB else c.clkA) = false) : s.ramAccess x op = s := by
  simp only [State.ramAccess, hdesc]
  cases hport : x.portB <;> simp only [hport, if_true, if_false, Bool.false_eq_true] at h <;> simp [State.portAccess, h]

variable (hclk : s.clkRun x.region.val (if x.portB then c.clkB else c.clkA) = true)
include hclk

theorem State.ramAccess_ports (op : RamOp) : s.ramAccess x op =
    s.ramPorts c (x.region.val * 40 + x.block.val) (ramKey c x) (if x.portB then s.ramOther x c else some (op, x.data))
      (if x.portB then some (op, x.data) else s.ramOther x c) := by
  simp only [State.ramAccess, hdesc, State.ramOther]
  cases hport : x.portB <;> simp only [hport, if_true, if_false, Bool.false_eq_true] at hclk <;>
    simp [State.portAccess, hclk]

/-! ### An access that writes -/

section
variable (hsound : s.ramSound (ramKey c x)) {op : RamOp} (hop : ramWrites op = true) {new : BitVec 20}
  (hnew : ramApply op (SMap.get 0 s.fab.ram (ramKey c x)) (ramCut c x.data) = new)
include hsound hop hnew

/-- R213, R214: the write takes effect where the other port does not write. -/
theorem State.ramAccess_alone (hother : ramMade c (SMap.get 0 s.fab.ram (ramKey c x)) (s.ramOther x c) = none) :
    s.ramDone (s.ramAccess x op) x (ramKey c x) new
      (if (if x.portB then c.rdNewB else c.rdNewA) = true then new else SMap.get 0 s.fab.ram (ramKey c x)) false
      (s.ramOther x c).isNone := by
  have hmade := ramMade_writes c (SMap.get 0 s.fab.ram (ramKey c x)) hop x.data
  rw [hnew] at hmade
  rw [s.ramAccess_ports x hdesc hclk op]
  cases hport : x.portB with
  | false =>
    simp only [Bool.false_eq_true, if_false]
    rw [s.ramPorts_writeA hsound hmade, hother]
    exact s.ramCycle_done x _ _ _ _ _ (by rw [hport]; rfl) (by rw [hport]; simp)
  | true =>
    simp only [if_true]
    rw [s.ramPorts_writeB hsound hother hmade]
    exact s.ramCycle_done x _ _ _ _ _ (by rw [hport]; rfl) (by rw [hport]; simp)

/-- R215: where both ports write, port A's operation takes effect. -/
theorem State.ramAccess_wins (hport : x.portB = false) {w : BitVec 20}
    (hother : ramMade c (SMap.get 0 s.fab.ram (ramKey c x)) (s.ramOther x c) = some w) :
    s.ramDone (s.ramAccess x op) x (ramKey c x) new
      (if c.rdNewA = true then new else SMap.get 0 s.fab.ram (ramKey c x)) true false := by
  have hmade := ramMade_writes c (SMap.get 0 s.fab.ram (ramKey c x)) hop x.data
  rw [hnew] at hmade
  rw [s.ramAccess_ports x hdesc hclk op, hport]
  simp only [Bool.false_eq_true, if_false]
  rw [s.ramPorts_writeA hsound hmade, hother]
  exact s.ramCycle_done x _ _ _ _ _ (by rw [hport]; rfl) (by simp)

omit hnew in
/-- R215: port B's is lost, and it reads the old value. -/
theorem State.ramAccess_loses (hport : x.portB = true) {w : BitVec 20}
    (hother : ramMade c (SMap.get 0 s.fab.ram (ramKey c x)) (s.ramOther x c) = some w) :
    s.ramDone (s.ramAccess x op) x (ramKey c x) w (SMap.get 0 s.fab.ram (ramKey c x)) true false := by
  have hmade := ramMade_writes c (SMap.get 0 s.fab.ram (ramKey c x)) hop x.data
  rw [s.ramAccess_ports x hdesc hclk op, hport]
  simp only [if_true]
  rw [s.ramPorts_writeA hsound hother, hmade]
  exact s.ramCycle_done x _ _ _ _ _ (by rw [hport]; rfl) (by simp)

end

/-! ### A read -/

/-- R214, R217: a read by one port alone shows the word, and its parity. -/
theorem State.ramAccess_read (hother : s.ramOther x c = none) : s.ramAccess x .read =
    (s.ramOut (x.region.val * 40 + x.block.val) x.portB (SMap.get 0 s.fab.ram (ramKey c x))
      (SMap.get 0 s.fab.ram (ramKey c x)) (s.ramBadAt c (ramKey c x)) false
      (if x.portB then c.rdNewB else c.rdNewA)).collided (x.region.val * 40 + x.block.val) false := by
  rw [s.ramAccess_ports x hdesc hclk .read, hother]
  exact s.ramPorts_read c _ _ x.portB x.data

end

section
variable (s : State)

/-- R217: bits of the word at `k` turn over, and of no other. -/
theorem State.ramFlip_ram (k : Nat) (flip : BitVec 20) (j : Nat) :
    SMap.get 0 (s.ramFlip k flip).fab.ram j = if j = k then SMap.get 0 s.fab.ram k ^^^ flip else SMap.get 0 s.fab.ram j := by
  show SMap.get 0 (SMap.put 0 s.fab.ram k (SMap.get 0 s.fab.ram k ^^^ flip)) j = _
  split
  · next h => rw [h, SMap.get_put_same]
  · next h => exact SMap.get_put_ne _ _ _ _ _ _ h

/-- R217: the parity of each half of the word turns over with an odd number of its bits. -/
theorem State.ramFlip_bad (k : Nat) (flip : BitVec 20) (h : s.ramSound k) :
    SMap.get false (s.ramFlip k flip).fab.ramBad (2 * k) = decide (ones 10 flip.toNat % 2 = 1) ∧
    SMap.get false (s.ramFlip k flip).fab.ramBad (2 * k + 1) = decide (ones 10 (flip.toNat / 2 ^ 10) % 2 = 1) := by
  obtain ⟨hlo, hhi⟩ := h
  simp only [State.ramFlip, State.updFab_fab]
  refine ⟨?_, ?_⟩
  · rw [SMap.get_put_ne _ _ _ _ _ _ (by omega), Nat.add_zero, SMap.get_put_same, hlo]
    simp
  · rw [SMap.get_put_same, SMap.get_put_ne _ _ _ _ _ _ (by omega), hhi]
    simp

theorem State.ramFlip_zero_sound (c : RamCfg) (k : Nat) (h : s.ramSound k) : (s.ramFlip k 0).ramBadAt c k = false := by
  obtain ⟨hlo, hhi⟩ := s.ramFlip_bad k 0 h
  rw [State.ramBadAt, hlo, hhi]
  cases c.parity <;> cases c.wide <;> decide

theorem State.ramFlip_one_bad (c : RamCfg) (k : Nat) (i : Fin 10) (hpar : c.parity = true) (h : s.ramSound k) :
    (s.ramFlip k (BitVec.ofNat 20 (2 ^ i.val))).ramBadAt c k = true := by
  have hodd : ∀ i : Fin 10, decide (ones 10 (BitVec.ofNat 20 (2 ^ i.val)).toNat % 2 = 1) = true := by decide
  rw [State.ramBadAt, hpar, (s.ramFlip_bad k _ h).1, hodd i]
  rfl

theorem ramCut_low (c : RamCfg) (i : Fin 10) : ramCut c (BitVec.ofNat 20 (2 ^ i.val)) = BitVec.ofNat 20 (2 ^ i.val) := by
  have hlow : ∀ i : Fin 10, BitVec.ofNat 20 (2 ^ i.val) &&& 0x3FF = BitVec.ofNat 20 (2 ^ i.val) := by decide
  unfold ramCut
  split
  · rfl
  · exact hlow i

/-- R217: the first block with a parity error is noted. -/
def State.ramFirst (s : State) (r b : Nat) : State :=
  if s.fld (pRGN r) RGN_RAMPERR_COUNT = 0 then s.setFld (pRGN r) RGN_RAMPERR_FIRST b else s

theorem State.ramFirst_fld {r b : Nat} {f : Fld} (h : f.place ≠ RGN_RAMPERR_FIRST.place) :
    (s.ramFirst r b).fld (pRGN r) f = s.fld (pRGN r) f := by
  unfold State.ramFirst
  split
  · exact s.fld_setFld_place _ _ h
  · rfl

theorem State.ramFirst_fab (r b : Nat) : (s.ramFirst r b).fab = s.fab := by
  unfold State.ramFirst
  split <;> rfl

/-- R217: a read that finds a parity error is counted and reported, and leaves the fabric alone. -/
theorem State.ramParity_reports {r : Nat} (hr : r < 64) (b : Nat) : s.counts (s.ramParity r b) (pRGN r) RGN_RAMPERR_COUNT ∧
    s.flags (s.ramParity r b) (pRGN r) RGN_E_RAMPERR ∧ (s.ramParity r b).fab = s.fab := by
  have hparity : s.ramParity r b = (s.ramFirst r b).regionError r RGN_RAMPERR_COUNT RGN_E_RAMPERR := rfl
  have hreports := (s.ramFirst r b).regionError_reports hr (f := RGN_RAMPERR_COUNT) (by decide) RGN_E_RAMPERR
  rw [State.counts, State.flags, State.ramFirst_fld _ (by decide), State.ramFirst_fld _ (by decide), ← hparity] at hreports
  obtain ⟨hcount, hflag⟩ := hreports
  refine ⟨hcount, hflag, ?_⟩
  rw [hparity, State.regionError_fab, State.ramFirst_fab]

/-- R217: what a port shows of a read that found a parity error. -/
def State.ramOutBad (s : State) (n : Nat) (q : BitVec 20) : State :=
  s.updFab fun f => { f with ramQ := SMap.put 0 f.ramQ n q.toNat, perr := SMap.put false f.perr n true }

theorem State.ramOutBad_same (n : Nat) (q : BitVec 20) : SMap.get 0 (s.ramOutBad n q).fab.ramQ n = q.toNat ∧
    SMap.get false (s.ramOutBad n q).fab.perr n = true :=
  ⟨SMap.get_put_same .., SMap.get_put_same false s.fab.perr n true⟩

theorem State.ramOut_bad (b : Nat) (portB : Bool) (old new : BitVec 20) (rdNew : Bool) :
    s.ramOut b portB old new true false rdNew = (s.ramOutBad (2 * b + portB.toNat) old).ramParity (b / 40) (b % 40) := by
  simp only [State.ramOut, Bool.false_and, Nat.mul_comm b 2]
  rfl

end

section
variable (s : State) (x : RamAcc) {c : RamCfg} (hdesc : (s.desc x.region.val).rams[x.block.val]? = some c)
include hdesc

/-- R212: a read by a port whose clock is stopped. -/
theorem ramRead_stopped (flip : BitVec 20) (h : s.clkRun x.region.val (if x.portB then c.clkB else c.clkA) = false) :
    exec (.ramRead x flip) s = .next s := by
  simp [exec, execRamRead, hdesc, h]

variable (hclk : s.clkRun x.region.val (if x.portB then c.clkB else c.clkA) = true)
include hclk

/-- R214, R217: a read by one port alone, of a word some of whose bits have turned over. -/
theorem ramRead_alone (flip : BitVec 20)
    (hother : x.other = none ∨ s.clkRun x.region.val (if x.portB then c.clkA else c.clkB) = false) :
    let w := s.ramFlip (ramKey c x) (ramCut c flip)
    exec (.ramRead x flip) s = .next ((w.ramOut (x.region.val * 40 + x.block.val) x.portB
      (SMap.get 0 s.fab.ram (ramKey c x) ^^^ ramCut c flip) (SMap.get 0 s.fab.ram (ramKey c x) ^^^ ramCut c flip)
      (w.ramBadAt c (ramKey c x)) false (if x.portB then c.rdNewB else c.rdNewA)).collided
      (x.region.val * 40 + x.block.val) false) := by
  intro w
  have hword : SMap.get 0 w.fab.ram (ramKey c x) = SMap.get 0 s.fab.ram (ramKey c x) ^^^ ramCut c flip :=
    (s.ramFlip_ram _ _ _).trans (if_pos rfl)
  rw [← hword, ← w.ramAccess_read x hdesc hclk (w.ramOther_none x hother)]
  simp [exec, execRamRead, hdesc, hclk, w]

variable (hsound : s.ramSound (ramKey c x))
  (hother : x.other = none ∨ s.clkRun x.region.val (if x.portB then c.clkA else c.clkB) = false)
include hsound hother

/-- R214: a read of a word with good parity shows it and changes nothing. -/
theorem ramRead_good : Completes (.ramRead x 0) s fun u =>
    SMap.get 0 u.fab.ramQ (2 * (x.region.val * 40 + x.block.val) + x.portB.toNat) =
      (SMap.get 0 s.fab.ram (ramKey c x)).toNat ∧
    SMap.get false u.fab.perr (2 * (x.region.val * 40 + x.block.val) + x.portB.toNat) = false ∧
    (∀ j, SMap.get 0 u.fab.ram j = SMap.get 0 s.fab.ram j) ∧ Changes s u [.fab] noField := by
  have hcut : ramCut c 0 = 0 := by unfold ramCut; split <;> rfl
  have hkeep : SMap.get 0 s.fab.ram (ramKey c x) ^^^ 0 = SMap.get 0 s.fab.ram (ramKey c x) := BitVec.xor_zero
  refine ⟨_, ramRead_alone s x hdesc hclk 0 hother, ?_⟩
  rw [hcut, hkeep, s.ramFlip_zero_sound c _ hsound, State.ramOut_sound]
  obtain ⟨hq, hperr⟩ := (s.ramFlip (ramKey c x) 0).shown_same (2 * (x.region.val * 40 + x.block.val) + x.portB.toNat)
    (SMap.get 0 s.fab.ram (ramKey c x))
  refine ⟨hq, hperr, fun j => (s.ramFlip_ram _ _ _).trans ?_,
    (((Changes.refl _ _ _).updFab (by decide)).shown (by decide)).updFab (by decide)⟩
  split
  · next h => rw [h, hkeep]
  · rfl

/-- R217: a read of a word one bit of whose low half has turned over returns it and reports the error. -/
theorem ramRead_bad (i : Fin 10) (hpar : c.parity = true) : Completes (.ramRead x (BitVec.ofNat 20 (2 ^ i.val))) s fun u =>
    SMap.get 0 u.fab.ramQ (2 * (x.region.val * 40 + x.block.val) + x.portB.toNat) =
      (SMap.get 0 s.fab.ram (ramKey c x) ^^^ BitVec.ofNat 20 (2 ^ i.val)).toNat ∧
    SMap.get false u.fab.perr (2 * (x.region.val * 40 + x.block.val) + x.portB.toNat) = true ∧
    s.counts u (pRGN x.region.val) RGN_RAMPERR_COUNT ∧ s.flags u (pRGN x.region.val) RGN_E_RAMPERR ∧
    (∀ j, j ≠ ramKey c x → SMap.get 0 u.fab.ram j = SMap.get 0 s.fab.ram j) := by
  refine ⟨_, ramRead_alone s x hdesc hclk _ hother, ?_⟩
  have hregion : (x.region.val * 40 + x.block.val) / 40 = x.region.val := by omega
  rw [ramCut_low, s.ramFlip_one_bad c _ i hpar hsound, State.ramOut_bad, hregion]
  obtain ⟨hcount, hflag, hfab⟩ := State.ramParity_reports ((s.ramFlip (ramKey c x) (BitVec.ofNat 20 (2 ^ i.val))).ramOutBad
    (2 * (x.region.val * 40 + x.block.val) + x.portB.toNat)
    (SMap.get 0 s.fab.ram (ramKey c x) ^^^ BitVec.ofNat 20 (2 ^ i.val))) x.region.isLt
    ((x.region.val * 40 + x.block.val) % 40)
  simp only [State.collided, State.updFab_fab, hfab]
  obtain ⟨hq, hperr⟩ := (s.ramFlip (ramKey c x) (BitVec.ofNat 20 (2 ^ i.val))).ramOutBad_same
    (2 * (x.region.val * 40 + x.block.val) + x.portB.toNat)
    (SMap.get 0 s.fab.ram (ramKey c x) ^^^ BitVec.ofNat 20 (2 ^ i.val))
  refine ⟨hq, hperr, hcount, hflag, fun j hj => (s.ramFlip_ram _ _ _).trans (if_neg hj)⟩

end

end Sys2Proof.Machine

/-! # Arithmetic blocks (R221, R222) -/

namespace Sys2Proof.Machine

/-! ## The accumulator of a cascade (R222) -/

section
variable (m : SMap (BitVec 30)) (k : Nat)

/-- Values written at consecutive keys: each where it was written, and every other key as it was. -/
theorem SMap.get_putAll {α : Type} [DecidableEq α] (d : α) (m : SMap α) (k : Nat) (vs : List α) (j : Nat) :
    SMap.get d (SMap.putAll d m k vs) j = if k ≤ j ∧ j < k + vs.length then vs.getD (j - k) d else SMap.get d m j := by
  induction vs generalizing m k with
  | nil => simp only [SMap.putAll, List.length_nil]; rw [if_neg (by omega)]
  | cons v vs ih =>
    rw [SMap.putAll, ih, List.length_cons]
    by_cases hj : j = k
    · subst hj
      rw [if_neg (by omega), if_pos (by omega), SMap.get_put_same, Nat.sub_self]
      rfl
    · rw [SMap.get_put_ne _ _ _ _ _ _ hj]
      by_cases hin : k + 1 ≤ j ∧ j < k + 1 + vs.length
      · obtain ⟨i, rfl⟩ : ∃ i, j = k + 1 + i := ⟨j - (k + 1), by omega⟩
        rw [if_pos hin, if_pos (by omega), show k + 1 + i - (k + 1) = i by omega, show k + 1 + i - k = i + 1 by omega]
        rfl
      · rw [if_neg hin, if_neg (by omega)]

theorem putAcc_get (n : Nat) (v : Int) {i : Nat} (h : i < n) :
    SMap.get 0 (putAcc m k n v) (k + i) = BitVec.ofInt 30 (v / 2 ^ (30 * i)) := by
  rw [putAcc, SMap.get_putAll, if_pos (by simp; omega), Nat.add_sub_cancel_left]
  simp [h]

theorem putAcc_get_ne (n : Nat) (v : Int) {j : Nat} (h : j < k ∨ k + n ≤ j) :
    SMap.get 0 (putAcc m k n v) j = SMap.get 0 m j := by
  rw [putAcc, SMap.get_putAll, if_neg (by simp; omega)]

end

/-- The remainder by a product, from the low digit up. -/
theorem emod_mul_eq (x : Int) {a b : Int} (ha : 0 < a) (hb : 0 < b) : x % (a * b) = x % a + a * (x / a % b) := by
  refine ((Int.ediv_emod_unique (q := x / a / b) (Int.mul_pos ha hb)).mpr ⟨?_, ?_, ?_⟩).2
  · calc x % a + a * (x / a % b) + a * b * (x / a / b) = x % a + a * (x / a % b + b * (x / a / b)) := by ring
      _ = x := by rw [Int.emod_add_mul_ediv, Int.emod_add_mul_ediv]
  · exact Int.add_nonneg (Int.emod_nonneg _ ha.ne') (Int.mul_nonneg ha.le (Int.emod_nonneg _ hb.ne'))
  · have hlow : x % a < a := Int.emod_lt_of_pos _ ha
    have hhigh : a * (x / a % b) ≤ a * (b - 1) :=
      Int.mul_le_mul_of_nonneg_left (Int.le_sub_one_of_lt (Int.emod_lt_of_pos _ hb)) ha.le
    rw [Int.mul_sub, Int.mul_one] at hhigh
    omega

/-- The digits of 30 bits of a value, put together again. -/
theorem digits_sum (v : Int) (n : Nat) :
    ((List.range n).map fun i => (BitVec.ofInt 30 (v / 2 ^ (30 * i))).toNat * 2 ^ (30 * i)).sum =
      (v % 2 ^ (30 * n)).toNat := by
  induction n with
  | zero => simp
  | succ n ih =>
    have hpos : (0 : Int) < 2 ^ (30 * n) := by positivity
    have hcast : ((2 : Int) ^ (30 * n)).toNat = 2 ^ (30 * n) := Int.toNat_natCast (2 ^ (30 * n))
    have hlow : 0 ≤ v % 2 ^ (30 * n) := Int.emod_nonneg _ hpos.ne'
    have hdigit : 0 ≤ v / 2 ^ (30 * n) % 2 ^ 30 := Int.emod_nonneg _ (by decide)
    rw [List.range_succ, List.map_append, List.sum_append, ih, Nat.mul_succ, pow_add, emod_mul_eq v hpos (by decide),
      Int.toNat_add hlow (Int.mul_nonneg hpos.le hdigit), Int.toNat_mul hpos.le hdigit, List.map_singleton,
      List.sum_singleton, BitVec.toNat_ofInt, hcast, Nat.mul_comm (2 ^ (30 * n))]
    rfl

/-- The low bits of a value, read signed, are its balanced remainder. -/
theorem readInt_bmod {n : Nat} (hn : 0 < n) (x : Int) : readInt true n (x % 2 ^ n).toNat = x.bmod (2 ^ n) := by
  obtain ⟨n, rfl⟩ : ∃ k, n = k + 1 := ⟨n - 1, by omega⟩
  have hcast : ((2 ^ (n + 1) : Nat) : Int) = 2 ^ (n + 1) := by push_cast; rfl
  have hhalf : 2 ^ (n + 1) = 2 * 2 ^ n := by rw [pow_succ, Nat.mul_comm]
  have hpos : 0 < 2 ^ n := Nat.two_pow_pos n
  have hlow : 0 ≤ x % (2 ^ (n + 1) : Nat) := Int.emod_nonneg _ (by omega)
  have hhigh : x % (2 ^ (n + 1) : Nat) < (2 ^ (n + 1) : Nat) := Int.emod_lt_of_pos _ (by omega)
  rw [Int.bmod_def, readInt, ← hcast]
  generalize x % (2 ^ (n + 1) : Nat) = r at *
  rw [Nat.mod_eq_of_lt (by omega), Nat.add_sub_cancel, hhalf]
  simp only [Bool.true_and, decide_eq_true_eq]
  split <;> split <;> omega

theorem accOf_putAcc (m : SMap (BitVec 30)) (k : Nat) {n : Nat} (hn : 0 < n) {v : Int} (hlo : -2 ^ (30 * n - 1) ≤ v)
    (hhi : v < 2 ^ (30 * n - 1)) : accOf (putAcc m k n v) k n = v := by
  have hwords : (List.range n).map (fun i => (SMap.get 0 (putAcc m k n v) (k + i)).toNat * 2 ^ (30 * i)) =
      (List.range n).map fun i => (BitVec.ofInt 30 (v / 2 ^ (30 * i))).toNat * 2 ^ (30 * i) :=
    List.map_congr_left fun i hi => by rw [putAcc_get m k n v (List.mem_range.mp hi)]
  rw [accOf, hwords, digits_sum]
  rw [readInt_bmod (by omega)]
  obtain ⟨k, hk⟩ : ∃ k, 30 * n = k + 1 := ⟨30 * n - 1, by omega⟩
  rw [hk, Nat.add_sub_cancel] at hlo hhi
  rw [hk]
  exact Int.bmod_eq_of_le (by push_cast; omega) (by push_cast; omega)

/-! ## What the accumulator takes of a sum (R221) -/

/-- R221: what wraps lies within the signed range and is congruent to the sum. -/
theorem wrapInt_range {n : Nat} (hn : 0 < n) (x : Int) :
    -2 ^ (n - 1) ≤ wrapInt n x ∧ wrapInt n x < 2 ^ (n - 1) ∧ (wrapInt n x - x) % (2 * 2 ^ (n - 1)) = 0 := by
  obtain ⟨n, rfl⟩ : ∃ k, n = k + 1 := ⟨n - 1, by omega⟩
  have hlow := Int.le_bmod (x := x) (Nat.two_pow_pos (n + 1))
  have hhigh := Int.bmod_lt (x := x) (Nat.two_pow_pos (n + 1))
  have hcong := Int.emod_eq_zero_of_dvd (Int.dvd_bmod_sub_self (x := x) (m := 2 ^ (n + 1)))
  push_cast [pow_succ'] at hlow hhigh hcong
  rw [wrapInt, readInt_bmod (by omega), Nat.add_sub_cancel, Nat.pow_succ']
  exact ⟨by omega, by omega, hcong⟩

/-- R221: the accumulator wraps or clamps to its signed range, and tells whether the sum lies outside it. -/
theorem accHold_spec (c : Bool) {n : Nat} (hn : 0 < n) (sum : Int) : let lim : Int := 2 ^ (n - 1)
    let q := (accHold c n sum).1
    (-lim ≤ q ∧ q < lim ∧ (c = true → q = clamp (-lim) (lim - 1) sum) ∧ (c = false → (q - sum) % (2 * lim) = 0)) ∧
    (accHold c n sum).2 = decide (sum < -lim ∨ lim ≤ sum) := by
  intro lim q
  have hlim : 0 < lim := by positivity
  have hwrap := wrapInt_range hn sum
  change -lim ≤ _ ∧ _ < lim ∧ _ % (2 * lim) = 0 at hwrap
  by_cases hin : -lim ≤ sum ∧ sum < lim
  · have hq : accHold c n sum = (sum, false) := if_pos hin
    have hout : ¬ (sum < -lim ∨ lim ≤ sum) := by omega
    simp only [q, hq, clamp, decide_eq_false hout, Int.sub_self, Int.zero_emod, and_true, implies_true]
    exact ⟨hin.1, hin.2, fun _ => by omega⟩
  · have hq : accHold c n sum = (if c then (if sum < 0 then -lim else lim - 1) else wrapInt n sum, true) := if_neg hin
    have hout : sum < -lim ∨ lim ≤ sum := by omega
    simp only [q, hq, clamp, decide_eq_true hout, and_true]
    cases c with
    | false => exact ⟨hwrap.1, hwrap.2.1, nofun, fun _ => hwrap.2.2⟩
    | true => refine ⟨?_, ?_, fun _ => ?_, nofun⟩ <;> simp only [if_true] <;> split <;> omega

/-! ## One operation (R221, R222) -/

section
variable (s : State) (x : ArOp) (c : ArCfg) (wa wb : Nat)

/-- R221: what an operation multiplies with its b: its a, or the pre-adder's result. -/
def arFactor : Int :=
  if c.pre then preAdd c.minus (10 * wa) (readInt c.sa (10 * wa) x.a.toNat) (readInt c.sd (10 * wa) x.d.toNat)
  else readInt c.sa (10 * wa) x.a.toNat

/-- R222: the lowest block of the cascade. -/
def arBase : Nat := x.region.val * 20 + (x.top.val + 1 - c.n)

/-- R221: the exact sum that the accumulator takes. -/
def State.arTotal : Int :=
  (if c.accum then accOf s.fab.acc (arBase x c) c.n else 0) + arFactor x c wa * readInt c.sb (10 * wb) x.b.toNat

theorem State.arOp_eq (hcfg : (s.desc x.region.val).ars[x.top.val]? = some c) (hwid : arWidths c.n = some (wa, wb))
    (hlive : s.rgnLive x.region.val = true) (hfit : c.n ≤ x.top.val + 1) : s.arOp x = s.updFab fun f =>
      { f with
        acc := putAcc f.acc (arBase x c) c.n (accHold c.clamp (30 * c.n) (s.arTotal x c wa wb)).1
        satOut := SMap.put false f.satOut (x.region.val * 20 + x.top.val)
          (c.clamp && (accHold c.clamp (30 * c.n) (s.arTotal x c wa wb)).2) } := by
  have hfit' : ¬ x.top.val + 1 < c.n := Nat.not_lt.mpr hfit
  simp only [State.arOp, hcfg, hwid, hlive, Bool.not_true, decide_eq_false hfit', Bool.or_false, Bool.false_eq_true, if_false]
  cases haccum : c.accum <;> simp only [State.arTotal, haccum, if_true, Bool.false_eq_true, if_false, Int.zero_add] <;> rfl

/-- R222: a cascade has at least one block. -/
theorem arWidths_pos {n : Nat} (h : arWidths n = some (wa, wb)) : 0 < n := by
  cases n with
  | zero => cases h
  | succ n => exact Nat.succ_pos n

end

/-- R221, R222: the accumulator takes the sum, and the blocks of the cascade hold it. -/
theorem arithmeticBlock_takes (s : State) (x : ArOp) (c : ArCfg) (wa wb : Nat)
    (hcfg : (s.desc x.region.val).ars[x.top.val]? = some c) (hwid : arWidths c.n = some (wa, wb))
    (hlive : s.rgnLive x.region.val = true) (hfit : c.n ≤ x.top.val + 1) :
    let k := arBase x c
    let sum := s.arTotal x c wa wb
    let lim : Int := 2 ^ (30 * c.n - 1)
    Completes (.arithmeticBlockOperation x) s fun u =>
      (∃ q, accOf u.fab.acc k c.n = q ∧ -lim ≤ q ∧ q < lim ∧ (c.clamp = true → q = clamp (-lim) (lim - 1) sum) ∧
        (c.clamp = false → (q - sum) % (2 * lim) = 0)) ∧
      (∀ j, j < k ∨ k + c.n ≤ j → SMap.get 0 u.fab.acc j = SMap.get 0 s.fab.acc j) ∧
      u.fab = { s.fab with
        acc := u.fab.acc
        satOut := SMap.put false s.fab.satOut (x.region.val * 20 + x.top.val)
          (c.clamp && decide (sum < -lim ∨ lim ≤ sum)) } ∧ Changes s u [.fab] noField := by
  intro k sum lim
  have hpos := arWidths_pos wa wb hwid
  obtain ⟨⟨hlo, hhi, hclamps, hwraps⟩, hout⟩ := accHold_spec c.clamp (n := 30 * c.n) (by omega) sum
  refine ⟨_, congrArg Host.Outcome.next (s.arOp_eq x c wa wb hcfg hwid hlive hfit), ⟨_, ?_, hlo, hhi, hclamps, hwraps⟩,
    fun j hj => putAcc_get_ne _ _ _ _ hj, ?_, (Changes.refl _ _ _).updFab (by decide)⟩
  · exact accOf_putAcc _ _ hpos hlo hhi
  · rw [← hout]
    rfl

/-- Settles O29: one cycle of a block's two ports, and the exact sum that an accumulator takes. -/
theorem ramAndArithmeticBlocks : Obligations.RamAndArithmeticBlocks := by
  refine ⟨fun s x c hdesc => ⟨fun hclk i flip hi => ?_, fun hclk hsound => ⟨fun i new hi => ?_, fun hother => ?_,
    fun i hpar hother => ?_⟩⟩, arithmeticBlock_takes⟩
  · obtain rfl | rfl | rfl | rfl := hi
    · exact ⟨_, rfl, s.ramAccess_stopped x hdesc .write hclk⟩
    · exact ⟨_, rfl, s.ramAccess_stopped x hdesc .set hclk⟩
    · exact ⟨_, rfl, s.ramAccess_stopped x hdesc .clear hclk⟩
    · exact ⟨_, ramRead_stopped s x hdesc flip hclk, rfl⟩
  · obtain ⟨op, hop, hexec, hnew⟩ : ∃ op, ramWrites op = true ∧ exec i s = .next (s.ramAccess x op) ∧
        ramApply op (SMap.get 0 s.fab.ram (ramKey c x)) (ramCut c x.data) = new := by
      obtain ⟨rfl, rfl⟩ | ⟨rfl, rfl⟩ | ⟨rfl, rfl⟩ := hi
      · exact ⟨.write, rfl, rfl, rfl⟩
      · exact ⟨.set, rfl, rfl, rfl⟩
      · exact ⟨.clear, rfl, rfl, rfl⟩
    refine ⟨fun hother => ⟨_, hexec, ?_⟩, fun e hother hruns => ⟨_, hexec, ?_⟩, fun o e hother ho hruns hport => ⟨_, hexec, ?_⟩,
      fun o e w hother hruns hport hw => ⟨_, hexec, ?_⟩⟩
    · have hnone := s.ramOther_none x hother
      have hdone := s.ramAccess_alone x hdesc hclk hsound hop hnew (by rw [hnone]; rfl)
      rwa [hnone] at hdone
    · have hsome := (s.ramOther_runs x hruns).trans hother
      have hdone := s.ramAccess_alone x hdesc hclk hsound hop hnew (by rw [hsome]; rfl)
      rwa [hsome] at hdone
    · have hmade := ramMade_writes c (SMap.get 0 s.fab.ram (ramKey c x)) (ramWrites_of_ne_read ho) e
      rw [← hother, ← s.ramOther_runs x hruns] at hmade
      have hdone := s.ramAccess_wins x hdesc hclk hsound hop hnew hport hmade
      simpa only [hport, Bool.false_eq_true, if_false] using hdone
    · refine s.ramAccess_loses x hdesc hclk hsound hop hport ?_
      rw [s.ramOther_runs x hruns, hother]
      obtain ⟨rfl, rfl⟩ | ⟨rfl, rfl⟩ | ⟨rfl, rfl⟩ := hw <;> rfl
  · exact ramRead_good s x hdesc hclk hsound hother
  · exact ramRead_bad s x hdesc hclk hsound hother i hpar

end Sys2Proof.Machine

/-! # User I/O banks (R234 to R237) -/

namespace Sys2Proof.Machine

/-! ## The banks -/

section
variable (s : State) (b : Nat)

@[simp] theorem State.iob_updIob_same (f : Iob → Iob) : (s.updIob b f).iob b = f (s.iob b) := SMap.get_put_same ..

theorem State.iob_updIob_ne (f : Iob → Iob) {c : Nat} (h : c ≠ b) : (s.updIob b f).iob c = s.iob c :=
  SMap.get_put_ne _ _ _ _ _ _ h

@[simp] theorem State.updIob_fld (f : Iob → Iob) (p : Nat) (g : Fld) : (s.updIob b f).fld p g = s.fld p g := rfl

theorem Changes.updIob {s u : State} {ps : List Piece} {K : Nat → Bool} {b : Nat} {f : Iob → Iob} (ha : Piece.fab ∈ ps)
    (h : Changes s u ps K) : Changes s (u.updIob b f) ps K := h.updFab ha

/-- The banks stand with the part of the state that holds them. -/
theorem State.iob_congr {s u : State} (h : u.fab.iob = s.fab.iob) (b : Nat) : u.iob b = s.iob b := by
  rw [State.iob, h, State.iob]

/-- R417: no boundary scan comes or goes with a change of the fabric or an interrupt. -/
theorem State.scanDrives_congr {s u : State} {K : Nat → Bool} (h : Changes s u [.fab, .msi] K) :
    u.scanDrives = s.scanDrives :=
  show (u.blank [.fab, .msi]).scanDrives = (s.blank [.fab, .msi]).scanDrives by rw [h.1]

/-- R234: a bank whose voltages disagree drives nothing of its own. -/
theorem State.pads_mismatch (hvmis : (s.iob b).vmis = true) (hheld : (s.iob b).held = false) (hscan : s.scanDrives = false) :
    s.pads b = (0, 0) := by
  simp [State.pads, hvmis, hheld, hscan]

/-- A mask takes some of the bits of a bank from a new value, pin by pin. -/
theorem masked_getLsbD (old new m : BitVec 48) {p : Nat} (hp : p < 48) :
    ((old &&& ~~~m) ||| (new &&& m)).getLsbD p = if m.getLsbD p then new.getLsbD p else old.getLsbD p := by
  simp only [BitVec.getLsbD_or, BitVec.getLsbD_and, BitVec.getLsbD_not, decide_eq_true hp, Bool.true_and]
  cases m.getLsbD p <;> simp

theorem fldKey_bank_page {q : Nat} (hq : q < 256) {f g : Fld} (hf : f.place < 131072) (hg : g.place < 131072) :
    fldKey (pIOB b) f ≠ fldKey q g :=
  fldKey_page_ne _ _ _ _ hg hf (by unfold pIOB; omega)

theorem State.contained_bankFld {f : Fld} (hf : f.place < 131072) : s.contained.fld (pIOB b) f = s.fld (pIOB b) f :=
  s.fld_addSat_ne _ _ _ _ _ (fldKey_bank_page b (by decide) hf (by decide))

end

/-! ## The measured voltage (R234) -/

section
variable (s : State) (b : Nat)

/-- R234: the bank after a comparison: whether the voltages are the same, and whether it may drive. -/
def State.compared (s : State) (b : Nat) (vok vmis : Bool) : State :=
  (s.setBit (pIOB b) IOB_STAT_VOK vok).updIob b fun x => { x with vmis := vmis }

/-- R234: a mismatch is reported where there was none before. -/
def State.vmisReported (s : State) (b : Nat) (was : Bool) : State :=
  if was then s else (s.err (pIOB b) IOB_E_VMIS).contained

theorem State.vioCheck_agrees (heq : s.fld (pIOB b) IOB_STAT_VDET = s.fld (pIOB b) IOB_CTRL_VIO)
    (hdet : s.fld (pIOB b) IOB_STAT_VDET ≠ 3) : s.vioCheck b = s.compared b true false := by
  simp only [State.vioCheck, heq, decide_true, Bool.true_and]
  rw [heq] at hdet
  exact if_pos (decide_eq_true hdet)

theorem State.vioCheck_differs (hup : s.pwr.up = true)
    (hne : s.fld (pIOB b) IOB_STAT_VDET ≠ s.fld (pIOB b) IOB_CTRL_VIO ∨ s.fld (pIOB b) IOB_STAT_VDET = 3) :
    s.vioCheck b = (s.compared b (decide (s.fld (pIOB b) IOB_STAT_VDET = s.fld (pIOB b) IOB_CTRL_VIO)) true).vmisReported b
      (s.iob b).vmis := by
  have hcond : (decide (s.fld (pIOB b) IOB_STAT_VDET = s.fld (pIOB b) IOB_CTRL_VIO) &&
      decide (s.fld (pIOB b) IOB_STAT_VDET ≠ 3)) = false := by
    obtain h | h := hne
    · rw [decide_eq_false h, Bool.false_and]
    · rw [decide_eq_false (not_not.mpr h), Bool.and_false]
  have hup' : ∀ v, (s.setBit (pIOB b) IOB_STAT_VOK v).pwr.up = true := fun _ => hup
  simp only [State.vioCheck, hcond, hup', Bool.false_eq_true, if_false, if_true]
  rfl

theorem State.vmisReported_fab (was : Bool) : (s.vmisReported b was).fab = s.fab := by
  unfold State.vmisReported
  split
  · rfl
  · rw [State.contained_fab, State.err_fab]

theorem State.vmisReported_fld (was : Bool) {f : Fld} (hf : f.aside) :
    (s.vmisReported b was).fld (pIOB b) f = s.fld (pIOB b) f := by
  obtain ⟨hplace, herr, hirq⟩ := hf
  unfold State.vmisReported
  split
  · rfl
  · rw [State.contained_bankFld _ _ hplace, State.fld_err_place _ _ _ herr hirq]

theorem State.vmisReported_reports : s.flags (s.vmisReported b false) (pIOB b) IOB_E_VMIS ∧
    s.counts (s.vmisReported b false) pERR ERR_CLASSCNT_CONTAINED := by
  have hkey {g : Fld} (hg : g.place < 131072) : fldKey pERR ERR_CLASSCNT_CONTAINED ≠ fldKey (pIOB b) g :=
    (fldKey_bank_page b (by decide) hg (by decide)).symm
  refine ⟨?_, ?_⟩
  · rw [State.flags, State.vmisReported, if_neg Bool.false_ne_true, State.contained_bankFld _ _ (by decide), State.fld_err_err]
  · rw [State.counts, State.vmisReported, if_neg Bool.false_ne_true, State.contained, State.fld_addSat_same,
      State.fld_err_ne _ _ _ _ _ (hkey (by decide)) (hkey (by decide))]

theorem Changes.vmisReported {s u : State} {ps : List Piece} {K : Nat → Bool} {was : Bool} (ha : Piece.msi ∈ ps)
    (herr : K (fldKey (pIOB b) HDR_PG_ERR_ERR) = true) (hirq : K (fldKey (pIOB b) HDR_PG_IRQST_ST) = true)
    (hcnt : K (fldKey pERR ERR_CLASSCNT_CONTAINED) = true) (h : Changes s u ps K) :
    Changes s (u.vmisReported b was) ps K :=
  Changes.ite (fun _ => h) fun _ => (h.err ha herr hirq).contained hcnt

end

/-- What a measurement of the voltage changes, beside errors. -/
def vioFields (b : Nat) : List (Nat × Fld) := pageKeys (pIOB b) [IOB_STAT_VDET, IOB_STAT_VOK]

/-- R234: this voltage is measured at a bank. -/
def State.vdetSet (s : State) (b v : Nat) : State := s.setFld (pIOB b) IOB_STAT_VDET v

section
variable (s : State) (b : Nat)

theorem State.vdetSet_vdet {v : Nat} (h : v < 4) : (s.vdetSet b v).fld (pIOB b) IOB_STAT_VDET = v :=
  (s.fld_setFld_same _ _ _).trans (Nat.mod_eq_of_lt h)

theorem State.vdetSet_vio (v : Nat) : (s.vdetSet b v).fld (pIOB b) IOB_CTRL_VIO = s.fld (pIOB b) IOB_CTRL_VIO :=
  s.fld_setFld_place _ _ (by decide)

/-- R234: what the bank and its STAT hold after a comparison. -/
theorem State.compared_spec (v : Nat) (vok vmis : Bool) : let u := (s.vdetSet b v).compared b vok vmis
    u.fld (pIOB b) IOB_STAT_VDET = (s.vdetSet b v).fld (pIOB b) IOB_STAT_VDET ∧ u.fld (pIOB b) IOB_STAT_VOK = vok.toNat ∧
    u.iob b = { s.iob b with vmis := vmis } ∧ (∀ c, c ≠ b → u.iob c = s.iob c) ∧
    Changes s u [.fab] (fields (vioFields b)) := by
  refine ⟨State.fld_setFld_place _ _ _ (by decide), ?_, State.iob_updIob_same _ _ _, fun c hc => State.iob_updIob_ne _ _ _ hc,
    (((Changes.refl _ _ _).setFld (pageKeys_mem _ (by decide))).setBit (pageKeys_mem _ (by decide))).updIob (by decide)⟩
  rw [State.compared, State.updIob_fld, State.fld_setBit_same]
  exact Nat.mod_eq_of_lt vok.toNat_lt

/-- R234: a voltage that the bank does not declare, or none detected, is measured. -/
theorem State.vioCheck_mismatch (hup : s.pwr.up = true) {v : Nat} (hv : v < 4)
    (hne : v ≠ s.fld (pIOB b) IOB_CTRL_VIO ∨ v = 3) : let u := (s.vdetSet b v).vioCheck b
    u.fld (pIOB b) IOB_STAT_VDET = v ∧
    u.fld (pIOB b) IOB_STAT_VOK = (decide (v = s.fld (pIOB b) IOB_CTRL_VIO)).toNat ∧
    u.iob b = { s.iob b with vmis := true } ∧ (∀ c, c ≠ b → u.iob c = s.iob c) ∧
    ((s.iob b).held = false → s.scanDrives = false → u.pads b = (0, 0)) ∧
    ((s.iob b).vmis = false → s.flags u (pIOB b) IOB_E_VMIS ∧ s.counts u pERR ERR_CLASSCNT_CONTAINED) ∧
    Changes s u [.fab, .msi] (fields (vioFields b ++ (pERR, ERR_CLASSCNT_CONTAINED) :: errFields (pIOB b))) := by
  have hvdet := s.vdetSet_vdet b hv
  have hvio := s.vdetSet_vio b v
  have hcheck : (s.vdetSet b v).vioCheck b = ((s.vdetSet b v).compared b (decide (v = s.fld (pIOB b) IOB_CTRL_VIO))
      true).vmisReported b (s.iob b).vmis := by
    have hdiffers := (s.vdetSet b v).vioCheck_differs b hup (by rwa [hvdet, hvio])
    rwa [hvdet, hvio] at hdiffers
  obtain ⟨hvd, hvok, hbank, hothers, hframe⟩ := s.compared_spec b v (decide (v = s.fld (pIOB b) IOB_CTRL_VIO)) true
  rw [hcheck]
  generalize (s.vdetSet b v).compared b _ true = w at *
  have hiob := State.iob_congr (congrArg Fab.iob (w.vmisReported_fab b (s.iob b).vmis))
  have hchanges : Changes s (w.vmisReported b (s.iob b).vmis) [.fab, .msi]
      (fields (vioFields b ++ (pERR, ERR_CLASSCNT_CONTAINED) :: errFields (pIOB b))) :=
    (hframe.mono (by decide) fun _ hk => (fields_append_false hk).1).vmisReported b (by decide)
      (fields_mem (by simp [errFields])) (fields_mem (by simp [errFields])) (fields_mem (by simp))
  refine ⟨?_, ?_, ?_, fun c hc => ?_, fun hheld hscan => ?_, fun hwas => ?_, hchanges⟩
  · rw [State.vmisReported_fld _ _ _ (by decide), hvd, hvdet]
  · rw [State.vmisReported_fld _ _ _ (by decide), hvok]
  · rw [hiob, hbank]
  · rw [hiob, hothers c hc]
  · exact State.pads_mismatch _ _ (by rw [hiob, hbank]) (by rw [hiob, hbank]; exact hheld)
      ((State.scanDrives_congr hchanges).trans hscan)
  · have hreports := w.vmisReported_reports b
    rw [State.flags, State.counts, hframe.fld_eq (pageKeys_other _ (by decide)),
      hframe.fld_eq (pageKeys_false _ fun g hg => (fldKey_bank_page b (by decide) (by revert g; decide) (by decide)).symm)] at hreports
    rwa [hwas]

/-- R234: the voltage that the bank declares is measured. -/
theorem State.vioCheck_agreement (hv : s.fld (pIOB b) IOB_CTRL_VIO < 3) :
    let u := (s.vdetSet b (s.fld (pIOB b) IOB_CTRL_VIO)).vioCheck b
    u.fld (pIOB b) IOB_STAT_VDET = s.fld (pIOB b) IOB_CTRL_VIO ∧ u.fld (pIOB b) IOB_STAT_VOK = 1 ∧
    u.iob b = { s.iob b with vmis := false } ∧ (∀ c, c ≠ b → u.iob c = s.iob c) ∧
    Changes s u [.fab] (fields (vioFields b)) := by
  have hvdet := s.vdetSet_vdet b (v := s.fld (pIOB b) IOB_CTRL_VIO) (by omega)
  have hspec := s.compared_spec b (s.fld (pIOB b) IOB_CTRL_VIO) true false
  rw [hvdet] at hspec
  rw [State.vioCheck_agrees _ _ (hvdet.trans (s.vdetSet_vio b _).symm) (by omega)]
  exact hspec

end

/-! ## The levels of the pins (R236, R237) -/

section
variable (s : State) (b t stable : Nat)

/-- A mask put together bit by bit. -/
theorem maskSum_testBit (f : Nat → Bool) (n : Nat) :
    ((List.range n).map fun i => (f i).toNat * 2 ^ i).sum < 2 ^ n ∧
    ∀ p, ((List.range n).map fun i => (f i).toNat * 2 ^ i).sum.testBit p = (decide (p < n) && f p) := by
  induction n with
  | zero => simp
  | succ n ih =>
    obtain ⟨hlt, hbits⟩ := ih
    rw [List.range_succ, List.map_append, List.sum_append, List.map_singleton, List.sum_singleton]
    rw [Nat.mul_comm, Nat.add_comm]
    refine ⟨?_, fun p => ?_⟩
    · have hle : 2 ^ n * (f n).toNat ≤ 2 ^ n * 1 := Nat.mul_le_mul_left _ (f n).toNat_le
      rw [Nat.pow_succ]
      omega
    · rw [Nat.testBit_two_pow_mul_add _ hlt, hbits]
      by_cases hlow : p < n
      · rw [if_pos hlow, decide_eq_true hlow, decide_eq_true (by omega)]
      · rw [if_neg hlow]
        by_cases hp : p = n
        · subst hp
          rw [Nat.sub_self, decide_eq_true (Nat.lt_succ_self p)]
          cases f p <;> rfl
        · rw [decide_eq_false (by omega : ¬ p < n + 1), Bool.false_and]
          exact Nat.testBit_eq_false_of_lt (Nat.lt_of_lt_of_le (f n).toNat_lt (Nat.le_self_pow (by omega) 2))

theorem State.accepting_getLsbD {p : Nat} (hp : p < 48) : (s.accepting b t stable).getLsbD p = s.filterAccepts b t stable p := by
  rw [State.accepting, BitVec.getLsbD_ofNat, (maskSum_testBit _ 48).2, decide_eq_true hp, Bool.true_and, Bool.true_and]

/-- R225: the first cycle of a reserved phase from a time on is one of the next eight. -/
theorem nextPhase_spec (phases : List Nat) (n : Nat) (h : ∃ f ∈ phases, f < 8) : n ≤ nextPhase phases n ∧
    nextPhase phases n ≤ n + 16 ∧ nextPhase phases n % 2 = 0 ∧ (nextPhase phases n / 2 % 8) ∈ phases := by
  obtain ⟨f, hf, hlt⟩ := h
  have hsome : (((List.range 8).map ((n + 1) / 2 + ·)).find? fun k => phases.contains (k % 8)).isSome = true := by
    rw [List.find?_isSome]
    refine ⟨(n + 1) / 2 + (f + 8 - (n + 1) / 2 % 8) % 8, List.mem_map.mpr ⟨_, List.mem_range.mpr (by omega), rfl⟩, ?_⟩
    have hphase : ((n + 1) / 2 + (f + 8 - (n + 1) / 2 % 8) % 8) % 8 = f := by omega
    rw [hphase]
    exact List.contains_iff_mem.mpr hf
  obtain ⟨k, hk⟩ := Option.isSome_iff_exists.mp hsome
  have hphase := List.find?_some hk
  obtain ⟨i, hi, rfl⟩ := List.mem_map.mp (List.mem_of_find?_eq_some hk)
  rw [List.mem_range] at hi
  simp only [nextPhase, hk, Option.getD_some]
  refine ⟨by omega, by omega, by omega, ?_⟩
  rw [Nat.mul_div_cancel_left _ (by decide)]
  exact List.contains_iff_mem.mp hphase

end
section
variable (s : State) (t : Time) (b : IoBank) (levels : BitVec 48) (stable : Time)

theorem State.atTime_clkBank : (s.at_ t).clkOn (pIOB b.val) = s.clkOn (pIOB b.val) :=
  s.atTime_clkOn t _ (by revert b; decide)

/-- R236: the levels of a bank once those that a mask accepts have been taken. -/
def State.levelsAfter (s : State) (b : Nat) (levels m : BitVec 48) : BitVec 48 :=
  ((s.iob b).level &&& ~~~m) ||| (levels &&& m)

/-- R236: the bank takes its levels. -/
def State.levelled (s : State) (b : Nat) (new : BitVec 48) : State := s.updIob b fun x => { x with level := new }

/-- R237: where a level changes while the clock of the bank runs, they go out on the streams from the bank. -/
theorem exec_iobInputChange :
    let m := if (s.at_ t).clkOn (pIOB b.val) then (s.at_ t).accepting b.val t stable else BitVec.allOnes 48
    let new := (s.at_ t).levelsAfter b.val levels m
    let u := (s.at_ t).levelled b.val new
    exec (.iobInputChange t b ⟨levels, stable⟩) s =
      .next (if u.clkOn (pIOB b.val) && new != (s.iob b.val).level then u.sendFrom (0x230 + b.val) t (new.setWidth 80) else u) :=
  rfl

theorem iobInputChange_off (hclk : s.clkOn (pIOB b.val) = false) :
    Completes (.iobInputChange t b ⟨levels, stable⟩) s fun u =>
      u.iob b.val = { s.iob b.val with level := levels } ∧ u.fab = { s.fab with iob := u.fab.iob } ∧
      Changes (s.at_ t) u [.fab] noField := by
  have hoff : (s.at_ t).clkOn (pIOB b.val) = false := (s.atTime_clkBank t b).trans hclk
  have hoff' : ∀ new, ((s.at_ t).levelled b.val new).clkOn (pIOB b.val) = false := fun _ => hoff
  have hall : (s.at_ t).levelsAfter b.val levels (BitVec.allOnes 48) = levels := by
    rw [State.levelsAfter, BitVec.not_allOnes, BitVec.and_zero, BitVec.and_allOnes, BitVec.zero_or]
  refine ⟨_, exec_iobInputChange s t b levels stable, ?_⟩
  simp only [hoff, hoff', Bool.false_eq_true, if_false, Bool.false_and, hall]
  exact ⟨State.iob_updIob_same _ _ _, rfl, (Changes.refl _ _ _).updIob (by decide)⟩

/-- R237: what goes out on streams changes no bank. -/
theorem State.sendFrom_iob (src n : Nat) (flit : Flit) (c : Nat) : (s.sendFrom src n flit).iob c = s.iob c := by
  rw [State.sendFrom_eq]
  rfl

theorem Changes.sendFrom {s u : State} {ps : List Piece} {K : Nat → Bool} {src n : Nat} {flit : Flit}
    (ha : Piece.fab ∈ ps) (h : Changes s u ps K) : Changes s (u.sendFrom src n flit) ps K := by
  rw [State.sendFrom_eq]
  exact h.updFab ha

/-- R237: a port that one stream names. -/
theorem State.sendFrom_one {src n : Nat} {flit : Flit} {x : Stream} (h : (s.fab.streams.filter fun y => y.src = src) = [x]) :
    (s.sendFrom src n flit).fab.flights = launched x (nextPhase x.phases n) flit s.fab.flights := by
  simp only [State.sendFrom_eq, h, State.updFab_fab, List.foldl_cons, List.foldl_nil]

theorem iobInputChange_on (hclk : s.clkOn (pIOB b.val) = true) :
    let new := s.levelsAfter b.val levels (s.accepting b.val t stable)
    Completes (.iobInputChange t b ⟨levels, stable⟩) s fun u =>
      u.iob b.val = { s.iob b.val with level := new } ∧ (∀ c, c ≠ b.val → u.iob c = s.iob c) ∧
      (new = (s.iob b.val).level → u.fab.flights = s.fab.flights) ∧
      (∀ x, new ≠ (s.iob b.val).level → (s.fab.streams.filter fun y => y.src = 0x230 + b.val) = [x] →
        u.fab.flights = launched x (nextPhase x.phases t) (new.setWidth 80) s.fab.flights) ∧
      Changes (s.at_ t) u [.fab] noField := by
  intro new
  have hon : (s.at_ t).clkOn (pIOB b.val) = true := (s.atTime_clkBank t b).trans hclk
  have hon' : ∀ new, ((s.at_ t).levelled b.val new).clkOn (pIOB b.val) = true := fun _ => hon
  have hnew : (s.at_ t).levelsAfter b.val levels ((s.at_ t).accepting b.val t stable) = new := rfl
  have hbank : ((s.at_ t).levelled b.val new).iob b.val = { s.iob b.val with level := new } := State.iob_updIob_same _ _ _
  have hothers : ∀ c, c ≠ b.val → ((s.at_ t).levelled b.val new).iob c = s.iob c := fun c hc => State.iob_updIob_ne _ _ _ hc
  have hframe : Changes (s.at_ t) ((s.at_ t).levelled b.val new) [.fab] noField := (Changes.refl _ _ _).updIob (by decide)
  refine ⟨_, exec_iobInputChange s t b levels stable, ?_⟩
  simp only [hon, hon', if_true, Bool.true_and, hnew, bne_iff_ne]
  by_cases hsame : new = (s.iob b.val).level
  · rw [if_neg (not_not.mpr hsame)]
    exact ⟨hbank, hothers, fun _ => rfl, fun x hne => absurd hsame hne, hframe⟩
  · rw [if_pos hsame]
    exact ⟨(State.sendFrom_iob _ _ _ _ _).trans hbank, fun c hc => (State.sendFrom_iob _ _ _ _ _).trans (hothers c hc),
      fun h => absurd h hsame, fun x _ hone => State.sendFrom_one _ hone, hframe.sendFrom (by decide)⟩

/-- R236: a pin's filter accepts. -/
theorem State.filterAccepts_eq (p : Nat) : s.filterAccepts b.val t stable p =
    decide (IOB_PINCFG_FILT.of (s.pincfg b.val p) = 0 ∨ IOB_PINCFG_FILT.of (s.pincfg b.val p) * 20 + 6 ≤
      Nat.min stable (t - SMap.get 0 s.fab.filtAt (b.val * 48 + p))) := by
  rw [State.filterAccepts, Bool.decide_or]

end

/-! ## The settings of the pins (R235) -/

section
variable (s : State)

/-- R235: the settings of the pin named, with the reserved bits at 0, and of no other. -/
theorem State.setPincfg_pincfg (b pin v : Nat) : (s.setPincfg b pin v).pincfg b pin = v &&& 0xFE0003FF ∧
    ∀ c p, c * 48 + p ≠ b * 48 + pin → (s.setPincfg b pin v).pincfg c p = s.pincfg c p :=
  ⟨SMap.get_put_same .., fun _ _ h => SMap.get_put_ne _ _ _ _ _ _ h⟩

/-- R235: the filter of the pin restarts. -/
theorem State.setPincfg_filtAt (b pin v : Nat) : SMap.get 0 (s.setPincfg b pin v).fab.filtAt (b * 48 + pin) = s.time :=
  SMap.get_put_same ..

theorem pincfgWrite_sets (t : Time) (b : IoBank) (v : Dword) (hopen : (s.at_ t).writeOpen (pIOB b.val * 4096 + 0x4C) = true) :
    Completes (.pincfgWrite t b v) s fun u =>
      u.pincfg b.val (s.fld (pIOB b.val) IOB_PINIDX_PIN) = v.toNat &&& 0xFE0003FF ∧
      (∀ c p, c * 48 + p ≠ b.val * 48 + s.fld (pIOB b.val) IOB_PINIDX_PIN → u.pincfg c p = s.pincfg c p) ∧
      SMap.get 0 u.fab.filtAt (b.val * 48 + s.fld (pIOB b.val) IOB_PINIDX_PIN) = s.timeAt t ∧
      Changes (s.arrive t (pIOB b.val * 4096 + 0x4C) v.toNat) u [.fab] noField := by
  refine Completes.write hopen rfl ?_
  rw [State.doPincfg, State.arrive_fld]
  obtain ⟨hpin, hothers⟩ := (s.arrive t (pIOB b.val * 4096 + 0x4C) v.toNat).setPincfg_pincfg b.val
    (s.fld (pIOB b.val) IOB_PINIDX_PIN) v.toNat
  refine ⟨hpin, fun c p h => (hothers c p h).trans ?_, ?_, (Changes.refl _ _ _).updFab (by decide)⟩
  · rw [State.pincfg, State.arrive_fab, State.pincfg]
  · rw [State.setPincfg_filtAt, State.arrive_time]

end

/-- Settles O32: a bank's comparison of voltages, the levels that its filters accept, and the settings of its pins. -/
theorem userPins : Obligations.UserPins := by
  refine fun s t b => ⟨fun hclk => ⟨fun v hne hup => ?_, fun hvio => ?_⟩, fun hclk => ⟨?_, fun v => ?_⟩,
    fun levels stable => ⟨fun hclk => ?_, iobInputChange_off s t b levels stable⟩, nextPhase_spec, pincfgWrite_sets s t b⟩
  · exact ⟨_, congrArg Host.Outcome.next (if_pos ((s.atTime_clkBank t b).trans hclk)),
      (s.at_ t).vioCheck_mismatch b.val hup v.isLt hne⟩
  · exact ⟨_, congrArg Host.Outcome.next (if_pos ((s.atTime_clkBank t b).trans hclk)),
      (s.at_ t).vioCheck_agreement b.val hvio⟩
  · have hoff : ¬ (s.at_ t).clkOn (pIOB b.val) = true := by rw [s.atTime_clkBank t b, hclk]; exact Bool.false_ne_true
    exact ⟨_, congrArg Host.Outcome.next (if_neg hoff), rfl⟩
  · have hoff : ¬ (s.at_ t).clkOn (pIOB b.val) = true := by rw [s.atTime_clkBank t b, hclk]; exact Bool.false_ne_true
    exact ⟨_, congrArg Host.Outcome.next (if_neg hoff), rfl⟩
  · obtain ⟨u, hexec, hbank, hothers, hquiet, hsent, hframe⟩ := iobInputChange_on s t b levels stable hclk
    have hlevel := congrArg Iob.level hbank
    refine ⟨u, hexec, fun p hp => ?_, hbank.trans ?_, hothers, ?_, fun x => ?_, hframe⟩
    · rw [hlevel]
      refine (masked_getLsbD _ _ _ hp).trans ?_
      rw [s.accepting_getLsbD b.val t stable hp, s.filterAccepts_eq t b stable p]
    · rw [hlevel]
    · rw [hlevel]; exact hquiet
    · rw [hlevel]; exact hsent x

end Sys2Proof.Machine

/-! # Streams, FCALL responses and the fabric window (R219, R225 to R233) -/

namespace Sys2Proof.Machine

/-! ## Flits that a port offers (R225, R226, R232) -/

section
variable (s : State) (t : Time)

/-- The latest of some presentations, and of a time. -/
theorem foldl_max_due (fs : List Flight) (n : Nat) : n ≤ fs.foldl (fun n y => Nat.max n y.due) n ∧
    ∀ y ∈ fs, y.due ≤ fs.foldl (fun n y => Nat.max n y.due) n := by
  induction fs generalizing n with
  | nil => exact ⟨Nat.le_refl n, nofun⟩
  | cons z fs ih =>
    obtain ⟨hstart, hall⟩ := ih (Nat.max n z.due)
    refine ⟨Nat.le_trans (Nat.le_max_left _ _) hstart, fun y hy => ?_⟩
    obtain rfl | hy := List.mem_cons.mp hy
    · exact Nat.le_trans (Nat.le_max_right _ _) hstart
    · exact hall y hy

/-- R232: a best-effort flit is on its way, behind those sent before it to the same port. -/
theorem State.sendBest_spec (src : Nat) (flit : Flit) : let u := s.sendBest src t flit
    let dst := (s.portOf src).peer
    (∃ due, u.fab = { s.fab with flights := s.fab.flights ++ [⟨src, dst, due, flit, true⟩] } ∧
      t + 2 * (1 + hops (src / 8) ((portRouter dst).getD 0)) ≤ due ∧
      (∀ y ∈ s.fab.flights, y.be = true → y.src = src → y.dst = dst → y.due ≤ due)) ∧
    Changes s u [.fab, .free] noField := by
  intro u dst
  obtain ⟨hsoon, hbehind⟩ := foldl_max_due (s.fab.flights.filter fun y => y.be && decide (y.src = src ∧ y.dst = dst))
    (t + 2 * (1 + hops (src / 8) ((portRouter dst).getD 0)) + 2 * (s.takeFree 64).1)
  refine ⟨⟨_, rfl, Nat.le_trans (Nat.le_add_right _ _) hsoon, fun y hy hbe hsrc hdst => hbehind y ?_⟩,
    ((Changes.refl _ _ _).takeFree (by decide)).updFab (by decide)⟩
  exact List.mem_filter.mpr ⟨hy, by rw [hbe, decide_eq_true ⟨hsrc, hdst⟩]; rfl⟩

theorem State.atTime_clkTul : (s.at_ t).clkOn pTUL = s.clkOn pTUL := s.atTime_clkOn t pTUL (by decide)

variable (src : BitVec 10) (flit : Flit)

theorem streamFlitAccept_off (hclk : s.clkOn pTUL = false) : exec (.streamFlitAccept t src flit) s = .next (s.at_ t) := by
  simp only [exec, execStreamFlitAccept, s.atTime_clkTul t, hclk, Bool.not_false, if_true]

theorem streamFlitAccept_best (hclk : s.clkOn pTUL = true) (hsrc : src.toNat < 0x200)
    (hkind : (s.portOf src.toNat).kind = 4) :
    exec (.streamFlitAccept t src flit) s = .next ((s.at_ t).sendBest src.toNat t flit) := by
  have hbest : src.toNat < 0x200 ∧ ((s.at_ t).portOf src.toNat).kind = 4 := ⟨hsrc, hkind⟩
  simp only [exec, execStreamFlitAccept, s.atTime_clkTul t, hclk, Bool.not_true, Bool.false_eq_true, if_false, if_pos hbest]

/-- R225: a flit goes on the one stream that names its port, in a reserved phase. -/
theorem streamFlitAccept_stream (hclk : s.clkOn pTUL = true) (hport : 0x200 ≤ src.toNat ∨ (s.portOf src.toNat).kind ≠ 4)
    {x : Stream} (hone : (s.fab.streams.filter fun y => y.src = src.toNat) = [x]) :
    exec (.streamFlitAccept t src flit) s = .next (if t % 2 = 0 ∧ t / 2 % 8 ∈ x.phases then (s.at_ t).send x t flit
      else s.at_ t) := by
  have hnot : ¬ (src.toNat < 0x200 ∧ ((s.at_ t).portOf src.toNat).kind = 4) := fun ⟨hsrc, hkind⟩ =>
    hport.elim (Nat.not_le.mpr hsrc) fun hne => hne hkind
  have hreserved : (s.fab.streams.filter fun y => y.src = src.toNat ∧ t % 2 = 0 ∧ y.phases.contains (t / 2 % 8)) =
      [x].filter fun y => t % 2 = 0 ∧ y.phases.contains (t / 2 % 8) := by
    rw [← hone, List.filter_filter]
    exact List.filter_congr fun y _ => by rw [← Bool.decide_and]; exact decide_eq_decide.mpr and_comm
  simp only [exec, execStreamFlitAccept, s.atTime_clkTul t, hclk, Bool.not_true, Bool.false_eq_true, if_false, if_neg hnot,
    State.atTime_fab, hreserved, List.filter_singleton]
  by_cases hphase : t % 2 = 0 ∧ t / 2 % 8 ∈ x.phases
  · have hopen : t % 2 = 0 ∧ x.phases.contains (t / 2 % 8) = true := hphase.imp id List.contains_iff_mem.mpr
    rw [if_pos hphase, decide_eq_true hopen]
    rfl
  · have hshut : ¬ (t % 2 = 0 ∧ x.phases.contains (t / 2 % 8) = true) := fun h => hphase (h.imp id List.contains_iff_mem.mp)
    rw [if_neg hphase, decide_eq_false hshut]
    rfl

end

/-! ## The next flit due (R226) -/

theorem firstDue_none {fs : List Flight} (h : firstDue fs = none) : fs = [] := by
  cases fs with
  | nil => rfl
  | cons z fs =>
    rw [firstDue] at h
    split at h
    · split at h <;> cases h
    · cases h

theorem firstDue_spec {fs : List Flight} {x : Flight} (h : firstDue fs = some x) : x ∈ fs ∧ ∀ y ∈ fs, x.due ≤ y.due := by
  induction fs generalizing x with
  | nil => cases h
  | cons z fs ih =>
    cases hrest : firstDue fs with
    | none =>
      obtain rfl : z = x := by simpa [firstDue, hrest] using h
      obtain rfl := firstDue_none hrest
      exact ⟨List.mem_singleton_self z, fun y hy => by rw [List.mem_singleton.mp hy]⟩
    | some w =>
      obtain ⟨hw, hleast⟩ := ih hrest
      by_cases hlt : w.due < z.due
      · obtain rfl : w = x := by simpa [firstDue, hrest, hlt] using h
        exact ⟨List.mem_cons_of_mem _ hw, List.forall_mem_cons.mpr ⟨Nat.le_of_lt hlt, hleast⟩⟩
      · obtain rfl : z = x := by simpa [firstDue, hrest, hlt] using h
        exact ⟨List.mem_cons_self, List.forall_mem_cons.mpr ⟨Nat.le_refl _, fun y hy =>
          Nat.le_trans (Nat.not_lt.mp hlt) (hleast y hy)⟩⟩

/-! ### At a bank (R237) -/

/-- The bits of a flit from `lo` on, 24 of them, at the lower or the upper pins of a bank. -/
theorem halfBits_getLsbD (flit : Flit) (lo sh : Nat) {p : Nat} (hp : p < 48) :
    (BitVec.ofNat 48 (bitsN flit.toNat lo 24 * 2 ^ sh)).getLsbD p =
      (decide (sh ≤ p ∧ p < sh + 24) && flit.getLsbD (lo + (p - sh))) := by
  rw [BitVec.getLsbD_ofNat, decide_eq_true hp, Bool.true_and, bitsN, Nat.testBit_mul_two_pow, Nat.testBit_mod_two_pow,
    Nat.testBit_div_two_pow]
  have hrange : (decide (sh ≤ p) && decide (p - sh < 24)) = decide (sh ≤ p ∧ p < sh + 24) := by
    rw [← Bool.decide_and]
    exact decide_eq_decide.mpr (by omega)
  rw [← Bool.and_assoc, hrange, Nat.add_comm (p - sh) lo]
  rfl

/-- R237: the pins that the mask of an output flit names take its values, and no other. -/
theorem outFlit_pin (flit : Flit) (x : Iob) {p : Nat} (hp : p < 48) :
    let h := if flit.getLsbD 72 then 24 else 0
    let named := decide (h ≤ p ∧ p < h + 24) && flit.getLsbD (48 + (p - h))
    (outFlit flit x).oe.getLsbD p = (if named then flit.getLsbD (24 + (p - h)) else x.oe.getLsbD p) ∧
    (outFlit flit x).out.getLsbD p = (if named then flit.getLsbD (p - h) else x.out.getLsbD p) := by
  intro h named
  have hsh : (if flit.toNat.testBit 72 then 24 else 0) = h := rfl
  have hmask := halfBits_getLsbD flit 48 h hp
  simp only [outFlit, hsh, masked_getLsbD _ _ _ hp, hmask]
  rw [halfBits_getLsbD flit 24 h hp, halfBits_getLsbD flit 0 h hp]
  change (if named then _ else _) = _ ∧ (if named then _ else _) = _
  cases hnamed : named with
  | false => exact ⟨rfl, rfl⟩
  | true =>
    have hrange : decide (h ≤ p ∧ p < h + 24) = true := (Bool.and_eq_true_iff.mp hnamed).1
    simp only [hrange, Bool.true_and, if_true, Nat.zero_add, and_self]

/-! ### At the port of pattern RAM (R219) -/

section
variable (s : State) (op : RamOp) (y : PatReq)

/-- R219: what an access of the fabric port leaves alone. -/
theorem State.patAccess_keeps : let u := s.patAccess op y
    u.time = s.time ∧ u.fab.shown = s.fab.shown ∧ u.fab.iob = s.fab.iob := by
  simp only [State.patAccess]
  split
  · exact ⟨rfl, rfl, rfl⟩
  · split
    · rw [State.sendFrom_eq]
      exact ⟨rfl, rfl, rfl⟩
    · exact ⟨rfl, rfl, rfl⟩

/-- R219: a read answers with the word and the tag of the request. -/
theorem State.patAccess_answers (h : s.patOn = true) : (s.patAccess .read y).jer = s.jer ∧
    ∃ z : Flit, (s.patAccess .read y).fab.patQ = some z ∧
      flitBits z 0 10 = (SMap.get 0 s.jer.pat y.addr.toNat).toNat ∧ flitBits z 10 8 = y.tag.toNat := by
  rw [s.patAccess_read y h, State.sendFrom_eq]
  exact ⟨rfl, _, rfl, patAnswer_bits _ _⟩

theorem patReqOf_bits (flit : Flit) : (patReqOf flit).2.addr.toNat = flitBits flit 20 20 ∧
    (patReqOf flit).2.data = BitVec.ofNat 10 (flitBits flit 0 10) ∧ (patReqOf flit).2.tag.toNat = flitBits flit 10 8 := by
  refine ⟨Nat.mod_eq_of_lt ?_, rfl, Nat.mod_eq_of_lt ?_⟩ <;> exact Nat.mod_lt _ (by decide)

/-- R219: OP of a request. -/
def patOpOf (n : Nat) : RamOp :=
  match n with
  | 0 => .read
  | 1 => .write
  | 2 => .set
  | _ => .clear

theorem patReqOf_op (flit : Flit) : (patReqOf flit).1 = patOpOf (flitBits flit 78 2) := rfl

end

/-! ### The presentation (R219, R226, R237) -/

section
variable (s : State)

/-- R226: device time comes to a flit, which leaves its stream for its destination. -/
def State.presented (s : State) (x : Flight) : State :=
  (s.at_ x.due).updFab fun f => { f with flights := f.flights.erase x, shown := (x.dst, x.flit) :: f.shown }

theorem streamFlitPresent_off (hclk : s.clkOn pTUL = false) : exec .streamFlitPresent s = .next s := by
  simp only [exec, execStreamFlitPresent, hclk, Bool.not_false, if_true]

/-- R219, R237: what its destination makes of it. -/
def State.delivered (s : State) (x : Flight) : State :=
  if 0x230 ≤ x.dst ∧ x.dst < 0x238 then (s.presented x).updIob (x.dst - 0x230) (outFlit x.flit)
  else if x.dst = 0x222 then (s.presented x).patAccess (patReqOf x.flit).1 (patReqOf x.flit).2
  else s.presented x

theorem streamFlitPresent_due (hclk : s.clkOn pTUL = true) {x : Flight} (hdue : firstDue s.fab.flights = some x) :
    exec .streamFlitPresent s = .next (s.delivered x) := by
  simp only [exec, execStreamFlitPresent, hclk, hdue, Bool.not_true, Bool.false_eq_true, if_false, State.delivered,
    State.presented]

theorem State.presented_changes (x : Flight) : Changes s (s.presented x) [.time, .fab] noField :=
  ((Changes.refl _ _ _).atTime (by decide)).updFab (by decide)

theorem State.presented_patOn (x : Flight) (h : s.patOn = true) : (s.presented x).patOn = true := by
  have hje : (s.at_ x.due).clkOn (pJE 0) = s.clkOn (pJE 0) := s.atTime_clkOn _ _ (by decide)
  have hpat : (s.at_ x.due).patOn = s.patOn := by rw [State.patOn, hje, s.atTime_clkTul, State.patOn]; rfl
  exact hpat.trans h

theorem State.delivered_bank {x : Flight} (hlo : 0x230 ≤ x.dst) (hhi : x.dst < 0x238) :
    s.delivered x = (s.presented x).updIob (x.dst - 0x230) (outFlit x.flit) := if_pos ⟨hlo, hhi⟩

theorem State.delivered_pattern {x : Flight} (h : x.dst = 0x222) :
    s.delivered x = (s.presented x).patAccess (patReqOf x.flit).1 (patReqOf x.flit).2 := by
  rw [State.delivered, if_neg (by omega), if_pos h]

theorem State.delivered_other {x : Flight} (hbank : ¬ (0x230 ≤ x.dst ∧ x.dst < 0x238)) (hpat : x.dst ≠ 0x222) :
    s.delivered x = s.presented x := by
  rw [State.delivered, if_neg hbank, if_neg hpat]

/-- R226: every destination is shown the flit, and only a bank's pins change. -/
theorem State.delivered_shown (x : Flight) : (s.delivered x).time = s.timeAt x.due ∧
    (s.delivered x).fab.shown = (x.dst, x.flit) :: s.fab.shown ∧
    (x.dst < 0x230 ∨ 0x238 ≤ x.dst → (s.delivered x).fab.iob = s.fab.iob) := by
  by_cases hbank : 0x230 ≤ x.dst ∧ x.dst < 0x238
  · rw [s.delivered_bank hbank.1 hbank.2]
    exact ⟨rfl, rfl, fun h => by omega⟩
  · by_cases hpat : x.dst = 0x222
    · rw [s.delivered_pattern hpat]
      obtain ⟨htime, hshown, hiob⟩ := (s.presented x).patAccess_keeps (patReqOf x.flit).1 (patReqOf x.flit).2
      exact ⟨htime, hshown, fun _ => hiob⟩
    · rw [s.delivered_other hbank hpat]
      exact ⟨rfl, rfl, fun _ => rfl⟩

/-- R226: a flit that goes elsewhere than to pattern RAM changes the fabric alone. -/
theorem State.delivered_fabric {x : Flight} (hpat : x.dst ≠ 0x222) :
    (s.delivered x).fab.flights = s.fab.flights.erase x ∧ Changes s (s.delivered x) [.time, .fab] noField := by
  by_cases hbank : 0x230 ≤ x.dst ∧ x.dst < 0x238
  · rw [s.delivered_bank hbank.1 hbank.2]
    exact ⟨rfl, (s.presented_changes x).updIob (by decide)⟩
  · rw [s.delivered_other hbank hpat]
    exact ⟨rfl, s.presented_changes x⟩

/-- R237: the pins of the bank that it goes to. -/
theorem State.delivered_pin {x : Flight} (hlo : 0x230 ≤ x.dst) (hhi : x.dst < 0x238) {p : Nat} (hp : p < 48) :
    let h := if x.flit.getLsbD 72 then 24 else 0
    let named := decide (h ≤ p ∧ p < h + 24) && x.flit.getLsbD (48 + (p - h))
    ((s.delivered x).iob (x.dst - 0x230)).oe.getLsbD p =
      (if named then x.flit.getLsbD (24 + (p - h)) else (s.iob (x.dst - 0x230)).oe.getLsbD p) ∧
    ((s.delivered x).iob (x.dst - 0x230)).out.getLsbD p =
      (if named then x.flit.getLsbD (p - h) else (s.iob (x.dst - 0x230)).out.getLsbD p) := by
  rw [s.delivered_bank hlo hhi, State.iob_updIob_same]
  exact outFlit_pin x.flit (s.iob (x.dst - 0x230)) hp

/-- R219: a read of pattern RAM that a flit asks for. -/
theorem State.delivered_read {x : Flight} (hpat : x.dst = 0x222) (hon : s.patOn = true) (hop : flitBits x.flit 78 2 = 0) :
    (s.delivered x).jer = s.jer ∧ ∃ y : Flit, (s.delivered x).fab.patQ = some y ∧
      flitBits y 0 10 = (SMap.get 0 s.jer.pat (flitBits x.flit 20 20)).toNat ∧
      flitBits y 10 8 = flitBits x.flit 10 8 := by
  obtain ⟨haddr, -, htag⟩ := patReqOf_bits x.flit
  rw [s.delivered_pattern hpat, patReqOf_op, hop, ← haddr, ← htag]
  exact (s.presented x).patAccess_answers (patReqOf x.flit).2 (s.presented_patOn x hon)

/-- R219: an access that changes a word. -/
theorem State.delivered_write {x : Flight} (hpat : x.dst = 0x222) (hon : s.patOn = true)
    (hop : patOpOf (flitBits x.flit 78 2) ≠ .read) :
    (s.delivered x).jer = { s.jer with
      pat := SMap.put 0 s.jer.pat (flitBits x.flit 20 20) (ramApply (patOpOf (flitBits x.flit 78 2))
        (SMap.get 0 s.jer.pat (flitBits x.flit 20 20)) (BitVec.ofNat 10 (flitBits x.flit 0 10))) } ∧
    (s.delivered x).fab.flights = s.fab.flights.erase x ∧ Changes s (s.delivered x) [.time, .fab, .jer] noField := by
  obtain ⟨haddr, hdata, -⟩ := patReqOf_bits x.flit
  rw [s.delivered_pattern hpat, patReqOf_op, State.patAccess_writes _ _ _ (s.presented_patOn x hon) hop, haddr, hdata]
  exact ⟨rfl, rfl, ((s.presented_changes x).mono (by decide) fun _ hk => hk).updJer (by decide)⟩

end

/-! ## FCALL responses (R229) -/

section
variable (s : State) (t : Time) (e : Engine) (r : Region) (w0 w1 : Word)

theorem State.atTime_clkRgn : (s.at_ t).clkOn (pRGN r.val) = s.clkOn (pRGN r.val) :=
  s.atTime_clkOn t _ (by revert r; decide)

/-- R229: the request is no longer outstanding. -/
def State.fcTaken (s : State) (q : FcReq) : State := s.updJer fun j => { j with fcOut := j.fcOut.erase q }

theorem fcallResponse_off (hclk : s.clkOn (pRGN r.val) = false) : exec (.fcallResponse t e r w0 w1) s = .next (s.at_ t) := by
  simp only [exec, execFcallResponse, s.atTime_clkRgn t r, hclk, Bool.not_false, if_true]

/-- R229: a response that finds no request is counted and discarded. -/
theorem fcallResponse_stray (hclk : s.clkOn (pRGN r.val) = true) (hnone : s.fcOpen t e.val r.val = none) :
    exec (.fcallResponse t e r w0 w1) s = .next ((s.at_ t).regionError r.val RGN_FCERR_COUNT RGN_E_FCERR) := by
  have hnone' : (s.at_ t).fcOpen t e.val r.val = none := hnone
  simp only [exec, execFcallResponse, s.atTime_clkRgn t r, hclk, hnone', Bool.not_true, Bool.false_eq_true, if_false,
    State.fcerr, State.regionError]

variable {q : FcReq} (hclk : s.clkOn (pRGN r.val) = true) (hopen : s.fcOpen t e.val r.val = some q)
include hclk hopen

theorem fcallResponse_dropped (hdrop : q.dropped = true) :
    exec (.fcallResponse t e r w0 w1) s = .next ((s.at_ t).fcTaken q) := by
  have hopen' : (s.at_ t).fcOpen t e.val r.val = some q := hopen
  simp only [exec, execFcallResponse, s.atTime_clkRgn t r, hclk, hopen', hdrop, Bool.not_true, Bool.false_eq_true, if_false,
    if_true, State.fcTaken]

theorem fcallResponse_late (hdrop : q.dropped = false) (hlate : q.shownAt + 2 * (s.portOf q.port).turn < t) :
    exec (.fcallResponse t e r w0 w1) s =
      .next (((s.at_ t).fcTaken q).regionError r.val RGN_FCERR_COUNT RGN_E_FCERR) := by
  have hopen' : (s.at_ t).fcOpen t e.val r.val = some q := hopen
  have hlate' : (s.at_ t).fcLate t q = true := decide_eq_true hlate
  simp only [exec, execFcallResponse, s.atTime_clkRgn t r, hclk, hopen', hdrop, hlate', Bool.not_true, Bool.false_eq_true,
    if_false, if_true, State.fcerr, State.regionError, State.fcTaken]

/-- R229: a timely response reaches the visit that waits for it. -/
theorem fcallResponse_timely (hdrop : q.dropped = false) (htime : t ≤ q.shownAt + 2 * (s.portOf q.port).turn) {v : Visit}
    (hvisit : (s.engine e.val).visit = some v) (hwait : v.fc = some none) :
    exec (.fcallResponse t e r w0 w1) s = .next (((s.at_ t).fcTaken q).updEng e.val fun g =>
      { g with visit := some { v with fc := some (some (w0, w1)) } }) := by
  have hopen' : (s.at_ t).fcOpen t e.val r.val = some q := hopen
  have hlate' : (s.at_ t).fcLate t q = false := decide_eq_false (Nat.not_lt.mpr htime)
  have hvisit' : (((s.at_ t).updJer fun j => { j with fcOut := j.fcOut.erase q }).engine e.val).visit = some v := hvisit
  simp only [exec, execFcallResponse, s.atTime_clkRgn t r, hclk, hopen', hdrop, hlate', hvisit', hwait, Bool.not_true,
    Bool.false_eq_true, if_false, State.fcTaken]

end

/-! ## The fabric window (R233) -/

/-- The fields of BELAST. -/
def belastFields : List Fld := [TUL_BELAST_VALID, TUL_BELAST_WRITE, TUL_BELAST_FREE, TUL_BELAST_REGION, TUL_BELAST_ADDR]

/-- What the record of an access in BELAST changes. -/
def belastKeys : List (Nat × Fld) := pageKeys pTUL (belastFields ++ [HDR_PG_ERR_ERR, HDR_PG_IRQST_ST])

section
variable (s : State) (x : HpAcc) (free : Bool)

/-- R233: BELAST holds an access. -/
def State.belastSet (s : State) (x : HpAcc) (free : Bool) : State :=
  ((((s.setFld pTUL TUL_BELAST_VALID 1).setBit pTUL TUL_BELAST_WRITE x.write).setBit pTUL
    TUL_BELAST_FREE free).setFld pTUL TUL_BELAST_REGION x.region).setFld pTUL TUL_BELAST_ADDR x.addr

theorem State.belast_kept (h : s.bit pTUL TUL_BELAST_VALID = true) : s.belast x free = s.err pTUL TUL_E_BETO := by
  rw [State.belast, if_pos h]

theorem State.belast_first (h : s.bit pTUL TUL_BELAST_VALID = false) :
    s.belast x free = (s.belastSet x free).err pTUL TUL_E_BETO := by
  rw [State.belast, if_neg (by rw [h]; exact Bool.false_ne_true)]
  rfl

theorem State.belastSet_changes : Changes s (s.belastSet x free) [] (fields (pageKeys pTUL belastFields)) :=
  (((((Changes.refl _ _ _).setFld (pageKeys_mem _ (by decide))).setBit (pageKeys_mem _ (by decide))).setBit
    (pageKeys_mem _ (by decide))).setFld (pageKeys_mem _ (by decide))).setFld (pageKeys_mem _ (by decide))

theorem State.belast_changes : Changes s (s.belast x free) [.msi] (fields belastKeys) := by
  cases h : s.bit pTUL TUL_BELAST_VALID with
  | true =>
    rw [s.belast_kept x free h]
    exact (Changes.refl _ _ _).err (by decide) (pageKeys_mem _ (by decide)) (pageKeys_mem _ (by decide))
  | false =>
    rw [s.belast_first x free h]
    exact ((s.belastSet_changes x free).mono (by decide) (pageKeys_mono _ (by decide))).err (by decide)
      (pageKeys_mem _ (by decide)) (pageKeys_mem _ (by decide))

theorem State.belast_fab : (s.belast x free).fab = s.fab := by
  cases h : s.bit pTUL TUL_BELAST_VALID with
  | true => rw [s.belast_kept x free h, State.err_fab]
  | false => rw [s.belast_first x free h, State.err_fab]; rfl

theorem State.belast_time : (s.belast x free).time = s.time :=
  show ((s.belast x free).blank [.msi]).time = (s.blank [.msi]).time by rw [(s.belast_changes x free).1]

theorem State.belastSet_fields (hregion : x.region < 64) (haddr : x.addr < 2 ^ 17) :
    (s.belastSet x free).fld pTUL TUL_BELAST_FREE = free.toNat ∧
    (s.belastSet x free).fld pTUL TUL_BELAST_WRITE = x.write.toNat ∧
    (s.belastSet x free).fld pTUL TUL_BELAST_REGION = x.region ∧ (s.belastSet x free).fld pTUL TUL_BELAST_ADDR = x.addr := by
  unfold State.belastSet
  refine ⟨?_, ?_, ?_, ?_⟩
  · rw [State.fld_setFld_place _ _ _ (by decide), State.fld_setFld_place _ _ _ (by decide), State.fld_setBit_same]
    exact Nat.mod_eq_of_lt free.toNat_lt
  · rw [State.fld_setFld_place _ _ _ (by decide), State.fld_setFld_place _ _ _ (by decide),
      State.fld_setBit_place _ _ _ (by decide), State.fld_setBit_same]
    exact Nat.mod_eq_of_lt x.write.toNat_lt
  · rw [State.fld_setFld_place _ _ _ (by decide), State.fld_setFld_same]
    exact Nat.mod_eq_of_lt hregion
  · rw [State.fld_setFld_same]
    exact Nat.mod_eq_of_lt haddr

/-- R233: the access is reported, and an access stands in BELAST. -/
theorem State.belast_reports : s.flags (s.belast x free) pTUL TUL_E_BETO ∧
    (s.belast x free).bit pTUL TUL_BELAST_VALID = true := by
  rw [State.flags, State.bit]
  cases h : s.bit pTUL TUL_BELAST_VALID with
  | true =>
    rw [s.belast_kept x free h, State.fld_err_err, State.fld_err_place _ _ _ (by decide) (by decide)]
    exact ⟨rfl, h⟩
  | false =>
    have hvalid : (s.belastSet x free).fld pTUL TUL_BELAST_VALID = 1 := by
      rw [State.belastSet, State.fld_setFld_place _ _ _ (by decide), State.fld_setFld_place _ _ _ (by decide),
        State.fld_setBit_place _ _ _ (by decide), State.fld_setBit_place _ _ _ (by decide), State.fld_setFld_same]
      rfl
    rw [s.belast_first x free h, State.fld_err_err, State.fld_err_place _ _ _ (by decide) (by decide), hvalid,
      (s.belastSet_changes x free).fld_eq (pageKeys_other _ (by decide))]
    exact ⟨rfl, rfl⟩

theorem State.belast_holds (h : s.bit pTUL TUL_BELAST_VALID = false) (hregion : x.region < 64) (haddr : x.addr < 2 ^ 17) :
    (s.belast x free).fld pTUL TUL_BELAST_FREE = free.toNat ∧ (s.belast x free).fld pTUL TUL_BELAST_WRITE = x.write.toNat ∧
    (s.belast x free).fld pTUL TUL_BELAST_REGION = x.region ∧ (s.belast x free).fld pTUL TUL_BELAST_ADDR = x.addr := by
  obtain ⟨hfree, hwrite, hreg, had⟩ := s.belastSet_fields x free hregion haddr
  rw [s.belast_first x free h]
  refine ⟨?_, ?_, ?_, ?_⟩ <;> rw [State.fld_err_place _ _ _ (by decide) (by decide)] <;> assumption

end

/-! ### The accesses -/

section
variable (s : State)

/-- R233: an access to the window of a FREE region. -/
theorem State.fabricAccess_free (write : Bool) (off data : Nat) (h : (s.region (off / 0x40000)).state = 0) :
    s.fabricAccess write off data = (s.belast ⟨off / 0x40000, write, off % 0x40000 / 2, data % 1024, s.time⟩ true).answer
      (if write then [] else [0]) := if_pos h

/-- R233: an access that waits. -/
theorem State.fabricAccess_waits (write : Bool) (off data : Nat) (h : (s.region (off / 0x40000)).state ≠ 0) :
    s.fabricAccess write off data = (s.updFab fun f => { f with
      hp := f.hp ++ [⟨off / 0x40000, write, off % 0x40000 / 2, data % 1024, s.time⟩] }).answer [] := if_neg h

/-- R352: a window that is not forwarded. -/
theorem State.arrive2_kept (t : Time) (ws : List (Nat × Nat)) : s.arrive2 t false ws = s.at_ t :=
  if_neg fun h => nomatch h.2

/-- R233: what an access to the window of a FREE region reads and records. -/
theorem State.fabricAccess_records (write : Bool) {off : Nat} (data : Nat) (hoff : off < 2 ^ 24)
    (h : (s.region (off / 0x40000)).state = 0) : let u := s.fabricAccess write off data
    u.hst.rdata = (if write then [] else [0]) ∧ u.fab = s.fab ∧ s.flags u pTUL TUL_E_BETO ∧
    u.bit pTUL TUL_BELAST_VALID = true ∧ (s.bit pTUL TUL_BELAST_VALID = false → u.fld pTUL TUL_BELAST_FREE = 1 ∧
      u.fld pTUL TUL_BELAST_WRITE = write.toNat ∧ u.fld pTUL TUL_BELAST_REGION = off / 0x40000 ∧
      u.fld pTUL TUL_BELAST_ADDR = off % 0x40000 / 2) := by
  rw [s.fabricAccess_free write off data h]
  obtain ⟨hflag, hvalid⟩ := s.belast_reports ⟨off / 0x40000, write, off % 0x40000 / 2, data % 1024, s.time⟩ true
  exact ⟨rfl, s.belast_fab _ true, hflag, hvalid, fun hfirst => s.belast_holds
    ⟨off / 0x40000, write, off % 0x40000 / 2, data % 1024, s.time⟩ true hfirst (by simp only; omega) (by simp only; omega)⟩

variable (t : Time) (off : BitVec 24) (data : Half)

theorem fabricWindow_read (hup : (s.at_ t).hostUp = true) (hnp : s.npNow < 32) :
    exec (.fabricWindowAccess t false off data) s = .next ((s.at_ t).noteNp.fabricAccess false off.toNat data.toNat) :=
  congrArg Host.Outcome.next (s.hostRead2_open t (pg := pSYS) (0x3000000 + off.toNat)
    (fun w => w.fabricAccess false off.toNat data.toNat) hup hnp rfl)

theorem fabricWindow_write (hopen : (s.at_ t).writeOpen2 pSYS false = true) :
    exec (.fabricWindowAccess t true off data) s = .next ((s.at_ t).fabricAccess true off.toNat data.toNat) := by
  refine (congrArg Host.Outcome.next (s.hostWrite2_open t false [] (0x3000000 + off.toNat) _ hopen)).trans ?_
  rw [s.arrive2_kept]

/-- R233: the oldest access has waited BETO µs. -/
def State.hpTimedOut (s : State) (x : HpAcc) (xs : List HpAcc) : State :=
  ((s.at_ (x.at_ + s.fld pTUL TUL_CTRL_BETO * 1000)).updFab fun f => { f with hp := xs }).regionError x.region
    RGN_HOSTTO_COUNT RGN_E_HOSTTO

theorem fabricWindowTimeout_eq {x : HpAcc} {xs : List HpAcc} (h : s.fab.hp = x :: xs) : exec .fabricWindowTimeout s =
    .next (((s.hpTimedOut x xs).belast x false).answer (if x.write then [] else [0])) := by
  simp only [exec, execFabricWindowTimeout, h, State.hpTimedOut, State.regionError]

/-- A region's error leaves the fields of other pages. -/
theorem State.regionError_fld_ne {r p : Nat} {f g : Fld} (b : Nat) (hf : f.place < 131072) (hg : g.place < 131072)
    (hp : p ≠ pERR) (hr : p ≠ pRGN r) : (s.regionError r f b).fld p g = s.fld p g := by
  have herr : fields [(pERR, ERR_CLASSCNT_CONTAINED)] (fldKey p g) = false :=
    pageKeys_false (fs := [ERR_CLASSCNT_CONTAINED]) _ fun h hh => fldKey_page_ne _ _ _ _ (by revert h; decide) hg hp
  have hown : fields (pageKeys (pRGN r) [f, HDR_PG_ERR_ERR, HDR_PG_IRQST_ST]) (fldKey p g) = false :=
    pageKeys_false _ fun h hh => fldKey_page_ne _ _ _ _ (by
      obtain rfl | rfl | rfl : h = f ∨ h = HDR_PG_ERR_ERR ∨ h = HDR_PG_IRQST_ST := by simpa using hh
      · exact hf
      · decide
      · decide) hg hr
  exact (s.regionError_changes f b).fld_eq (Bool.or_eq_false_iff.mpr ⟨by simpa [fields] using herr, hown⟩)

theorem fabricWindowTimeout_reports {x : HpAcc} {xs : List HpAcc} (h : s.fab.hp = x :: xs) (hr : x.region < 64) :
    Completes .fabricWindowTimeout s fun u =>
      u.fab = { s.fab with hp := xs } ∧ u.time = s.timeAt (x.at_ + s.fld pTUL TUL_CTRL_BETO * 1000) ∧
      u.hst.rdata = (if x.write then [] else [0]) ∧ s.counts u (pRGN x.region) RGN_HOSTTO_COUNT ∧
      s.flags u (pRGN x.region) RGN_E_HOSTTO ∧ s.flags u pTUL TUL_E_BETO ∧ u.bit pTUL TUL_BELAST_VALID = true := by
  refine ⟨_, fabricWindowTimeout_eq s h, ?_⟩
  have hregion (f : Fld) (hf : f.place < 131072) : fields belastKeys (fldKey (pRGN x.region) f) = false :=
    pageKeys_false _ fun g hg => fldKey_page_ne _ _ _ _ (by revert g; decide) hf (by unfold pRGN pTUL; omega)
  obtain ⟨hcount, hflag⟩ := ((s.at_ (x.at_ + s.fld pTUL TUL_CTRL_BETO * 1000)).updFab fun f =>
    { f with hp := xs }).regionError_reports hr (f := RGN_HOSTTO_COUNT) (by decide) RGN_E_HOSTTO
  obtain ⟨hbeto, hvalid⟩ := (s.hpTimedOut x xs).belast_reports x false
  have hframe := (s.hpTimedOut x xs).belast_changes x false
  have htul : (s.hpTimedOut x xs).fld pTUL HDR_PG_ERR_ERR = s.fld pTUL HDR_PG_ERR_ERR :=
    State.regionError_fld_ne _ _ (by decide) (by decide) (by decide) (by unfold pTUL pRGN; omega)
  refine ⟨(State.belast_fab _ _ _).trans (State.regionError_fab _ _ _), ?_, rfl,
    (hframe.fld_eq (hregion _ (by decide))).trans hcount, (hframe.fld_eq (hregion _ (by decide))).trans hflag, ?_, hvalid⟩
  · rw [State.answer_time, State.belast_time]
    exact State.regionError_time _ _ _
  · rw [State.flags, htul] at hbeto
    exact hbeto

theorem fabricWindowResponse_eq (r : Region) {x : HpAcc} (h : s.fab.hp.find? (fun x => x.region = r.val) = some x) :
    exec (.fabricWindowResponse t r data) s = .next
      (if s.rgnLive r.val = true ∧ t ≤ x.at_ + s.fld pTUL TUL_CTRL_BETO * 1000 then
        ((s.at_ t).updFab fun f => { f with hp := f.hp.erase x }).answer (if x.write then [] else [data.toNat % 1024])
      else s.at_ t) := by
  have hlive : (s.at_ t).rgnLive r.val = s.rgnLive r.val := by rw [State.rgnLive, s.atTime_clkRgn t r]; rfl
  have hfind : (s.at_ t).fab.hp.find? (fun x => x.region = r.val) = some x := h
  simp only [exec, execFabricWindowResponse, hfind, hlive]
  by_cases hin : s.rgnLive r.val = true ∧ t ≤ x.at_ + s.fld pTUL TUL_CTRL_BETO * 1000
  · rw [if_pos hin]
    exact congrArg Host.Outcome.next (if_pos (Bool.and_eq_true_iff.mpr ⟨hin.1, decide_eq_true hin.2⟩))
  · rw [if_neg hin]
    exact congrArg Host.Outcome.next (if_neg fun h => hin ⟨(Bool.and_eq_true_iff.mp h).1,
      of_decide_eq_true (Bool.and_eq_true_iff.mp h).2⟩)

end

/-- Settles O31: flits from their port to their destination, and what answers FCALLs and accesses of the fabric window. -/
theorem streamsAndResponses : Obligations.StreamsAndResponses := by
  refine ⟨fun s => ⟨fun t src flit => ⟨fun hclk => ⟨_, streamFlitAccept_off s t src flit hclk, rfl⟩, fun hclk hsrc hkind =>
      ⟨_, streamFlitAccept_best s t src flit hclk hsrc hkind, (s.at_ t).sendBest_spec t src.toNat flit⟩,
      fun x hclk hport hone => ⟨fun heven hphase => ?_, fun hnot => ?_⟩⟩,
      fun hclk => ⟨_, streamFlitPresent_off s hclk, rfl⟩, fun x hclk hdue => ?_⟩,
    fun s => ⟨fun t e r w0 w1 => ⟨fun hclk => ⟨_, fcallResponse_off s t e r w0 w1 hclk, rfl⟩, fun hclk => ⟨fun hnone => ?_,
      fun q hq => ⟨fun hdrop => ?_, fun hdrop htime v hvisit hwait => ?_, fun hdrop hlate => ?_⟩⟩⟩,
      fun t off data => ⟨fun hfree => ⟨fun hup hnp => ?_, fun hopen => ?_⟩, fun hheld => ⟨fun hup hnp => ?_, fun hopen => ?_⟩⟩,
      fun x xs hhp hr => fabricWindowTimeout_reports s hhp hr, fun t r data x hfind => ⟨fun hlive htime => ?_, fun hnot => ?_⟩⟩⟩
  · refine ⟨_, (streamFlitAccept_stream s t src flit hclk hport hone).trans (congrArg _ (if_pos ⟨heven, hphase⟩)), rfl, ?_⟩
    exact (Changes.refl _ _ _).updFab (by decide)
  · refine ⟨_, (streamFlitAccept_stream s t src flit hclk hport hone).trans (congrArg _ (if_neg fun h => ?_)), rfl⟩
    exact hnot.elim (fun hodd => hodd h.1) fun hphase => hphase h.2
  · obtain ⟨hmem, hleast⟩ := firstDue_spec hdue
    obtain ⟨htime, hshown, hiob⟩ := s.delivered_shown x
    refine ⟨hmem, hleast, _, streamFlitPresent_due s hclk hdue, htime, hshown, s.delivered_fabric, hiob,
      fun hlo hhi p hp => s.delivered_pin hlo hhi hp, fun hpat hon => ⟨s.delivered_read hpat hon, fun new hnew => ?_⟩⟩
    have hwrite := s.delivered_write hpat hon
    obtain ⟨hop, rfl⟩ | ⟨hop, rfl⟩ | ⟨hop, rfl⟩ := hnew <;> rw [hop] at hwrite <;> exact hwrite (by decide)
  · obtain ⟨hcount, hflag⟩ := (s.at_ t).regionError_reports r.isLt (f := RGN_FCERR_COUNT) (by decide) RGN_E_FCERR
    exact ⟨_, fcallResponse_stray s t e r w0 w1 hclk hnone, hcount, hflag, State.regionError_jer _ _ _⟩
  · exact ⟨_, fcallResponse_dropped s t e r w0 w1 hclk hq hdrop, rfl, (Changes.refl _ _ _).updJer (by decide)⟩
  · refine ⟨_, fcallResponse_timely s t e r w0 w1 hclk hq hdrop htime hvisit hwait, ?_, rfl,
      ((Changes.refl _ _ _).updJer (by decide)).updEng (by decide)⟩
    rw [State.engine_updEng_same]
  · obtain ⟨hcount, hflag⟩ := ((s.at_ t).fcTaken q).regionError_reports r.isLt (f := RGN_FCERR_COUNT) (by decide) RGN_E_FCERR
    exact ⟨_, fcallResponse_late s t e r w0 w1 hclk hq hdrop hlate, hcount, hflag, State.regionError_jer _ _ _⟩
  · obtain ⟨hdata, hfab, hflag, hvalid, hfirst⟩ :=
      (s.at_ t).noteNp.fabricAccess_records false data.toNat off.isLt hfree
    rw [State.flags, State.noteNp_fld_ne _ (by decide)] at hflag
    rw [State.bit_congr (State.noteNp_fld_ne _ (by decide))] at hfirst
    exact ⟨_, fabricWindow_read s t off data hup hnp, hdata, hfab, hflag, hvalid, hfirst⟩
  · obtain ⟨-, hfab, hflag, hvalid, -⟩ := (s.at_ t).fabricAccess_records true data.toNat off.isLt hfree
    exact ⟨_, fabricWindow_write s t off data hopen, hfab, hflag, hvalid⟩
  · refine ⟨_, (fabricWindow_read s t off data hup hnp).trans (congrArg _ (State.fabricAccess_waits _ _ _ _ hheld)), rfl, ?_⟩
    exact (((Changes.refl _ _ _).raiseTo (by decide)).updFab (by decide)).answer (by decide)
  · refine ⟨_, (fabricWindow_write s t off data hopen).trans (congrArg _ (State.fabricAccess_waits _ _ _ _ hheld)), rfl, ?_⟩
    exact ((Changes.refl _ _ _).updFab (by decide)).answer (by decide)
  · refine ⟨_, (fabricWindowResponse_eq s t data r hfind).trans (congrArg _ (if_pos ⟨hlive, htime⟩)), rfl, rfl, ?_⟩
    exact ((Changes.refl _ _ _).updFab (by decide)).answer (by decide)
  · refine ⟨_, (fabricWindowResponse_eq s t data r hfind).trans (congrArg _ (if_neg fun h => ?_)), rfl⟩
    obtain hdead | hlate := hnot
    · rw [hdead] at h
      exact Bool.false_ne_true h.1
    · exact Nat.not_le.mpr hlate h.2

end Sys2Proof.Machine

/-! # The plane check, and the arming of an activation set (R154, R231, R242, R256 to R258) -/

namespace Sys2Proof.Machine

/-! ## The plane check (R242) -/

section
variable (s : State)

/-- R242: the check moves on to the next frame. -/
def State.frameRead : State := s.updCfg fun c => { c with chk := (c.chk + 1) % 4096 }

/-- R242: the first bad frame stands in PLCHK until a read clears it. -/
def State.badFrameHeld (k : Nat) : State :=
  if s.bit pCFG CFG_PLCHK_VALID then s
  else ((s.setFld pCFG CFG_PLCHK_VALID 1).setFld pCFG CFG_PLCHK_REGION (k / 64)).setFld pCFG CFG_PLCHK_FRAME (k % 64)

/-- R242: frame `k` does not match its CRC. -/
def State.badFrame (k : Nat) : State :=
  ((((s.badFrameHeld k).addSat pCFG CFG_PLCNT_COUNT 1).err pCFG CFG_E_PLCRC).contained).log pCFG 0x080 3
    (k / 64 * 256 + k % 64)

theorem exec_planeCheck (t : Time) (bad : Bool) (hup : s.pwr.up = true) (hclk : s.clkOn pCFG = true)
    (hen : s.bit pCFG HDR_PG_CTRL_EN = true) : exec (.planeCheck t bad) s =
      .next (if bad then (s.at_ t).frameRead.badFrame s.cfg.chk else (s.at_ t).frameRead) := by
  have hclk' : (s.at_ t).clkOn pCFG = true := (s.atTime_clkOn t pCFG (by decide)).trans hclk
  have hruns : ((s.at_ t).pwr.up && (s.at_ t).clkOn pCFG && (s.at_ t).bit pCFG HDR_PG_CTRL_EN) = true := by
    rw [hclk']
    exact Bool.and_eq_true_iff.mpr ⟨Bool.and_eq_true_iff.mpr ⟨hup, rfl⟩, hen⟩
  exact congrArg _ (if_pos hruns)

/-- The fields in which PLCHK holds a bad frame. -/
def plchkFields : List (Nat × Fld) := [(pCFG, CFG_PLCHK_VALID), (pCFG, CFG_PLCHK_REGION), (pCFG, CFG_PLCHK_FRAME)]

theorem State.badFrameHeld_changes (k : Nat) : Changes s (s.badFrameHeld k) [] (fields plchkFields) :=
  Changes.ite (fun _ => Changes.refl _ _ _) fun _ =>
    (((Changes.refl _ _ _).setFld (by decide)).setFld (by decide)).setFld (by decide)

theorem State.badFrameHeld_valid (k : Nat) : (s.badFrameHeld k).bit pCFG CFG_PLCHK_VALID = true := by
  unfold State.badFrameHeld
  split
  · assumption
  · rw [State.bit, State.fld_setFld_ne _ _ _ _ _ _ (by decide), State.fld_setFld_ne _ _ _ _ _ _ (by decide),
      State.fld_setFld_same]
    rfl

theorem State.badFrameHeld_first (k : Nat) (h : s.bit pCFG CFG_PLCHK_VALID = false) :
    (s.badFrameHeld k).fld pCFG CFG_PLCHK_REGION = k / 64 % 64 ∧ (s.badFrameHeld k).fld pCFG CFG_PLCHK_FRAME = k % 64 := by
  rw [State.badFrameHeld, h]
  refine ⟨?_, (State.fld_setFld_same _ _ _ _).trans (Nat.mod_mod _ _)⟩
  exact (State.fld_setFld_ne _ _ _ _ _ _ (by decide)).trans (State.fld_setFld_same _ _ _ _)

/-- What is reported of a bad frame leaves the fields of PLCHK. -/
theorem State.badFrame_plchk (k : Nat) {f : Fld} (hf : (pCFG, f) ∈ plchkFields) :
    (s.badFrame k).fld pCFG f = (s.badFrameHeld k).fld pCFG f := by
  have hreport : Changes (s.badFrameHeld k) (s.badFrame k) [.msi, .ring]
      (andLog ([(pCFG, CFG_PLCNT_COUNT), (pERR, ERR_CLASSCNT_CONTAINED)] ++ errFields pCFG)) :=
    ((((Changes.refl _ _ _).addSat (by decide)).err (by decide) (by decide) (by decide)).contained (by decide)).log
      (by decide) (by decide) (by decide)
  refine hreport.fld_eq ?_
  simp only [plchkFields, List.mem_cons, Prod.mk.injEq, true_and, List.not_mem_nil, or_false] at hf
  obtain rfl | rfl | rfl := hf <;> decide

theorem State.badFrame_counts (k : Nat) : s.counts (s.badFrame k) pCFG CFG_PLCNT_COUNT := by
  rw [State.counts, State.badFrame, State.fld_log_ne _ _ _ _ _ _ _ (by decide), State.contained,
    State.fld_addSat_ne _ _ _ _ _ _ (by decide), State.fld_err_ne _ _ _ _ _ (by decide) (by decide),
    State.fld_addSat_same, (s.badFrameHeld_changes k).fld_eq (by decide)]

theorem State.badFrame_flags (k : Nat) : s.flags (s.badFrame k) pCFG CFG_E_PLCRC := by
  rw [State.flags, State.badFrame, State.fld_log_ne _ _ _ _ _ _ _ (by decide), State.contained,
    State.fld_addSat_ne _ _ _ _ _ _ (by decide), State.fld_err_err, State.fld_addSat_ne _ _ _ _ _ _ (by decide),
    (s.badFrameHeld_changes k).fld_eq (by decide)]

/-- R242: the check touches no plane and no region's logic. -/
theorem State.badFrame_keeps (k : Nat) : (s.badFrame k).cfg = s.cfg ∧ (s.badFrame k).fab = s.fab := by
  have hheld := (s.badFrameHeld_changes k).1
  constructor
  · rw [State.badFrame, State.log_cfg, State.contained_cfg, State.err_cfg, State.addSat_cfg]
    exact show ((s.badFrameHeld k).blank []).cfg = (s.blank []).cfg by rw [hheld]
  · rw [State.badFrame, State.log_fab, State.contained_fab, State.err_fab, State.addSat_fab]
    exact show ((s.badFrameHeld k).blank []).fab = (s.blank []).fab by rw [hheld]

theorem planeCheck_good (t : Time) (hup : s.pwr.up = true) (hclk : s.clkOn pCFG = true)
    (hen : s.bit pCFG HDR_PG_CTRL_EN = true) : Completes (.planeCheck t false) s fun u =>
      u.cfg = { s.cfg with chk := (s.cfg.chk + 1) % 4096 } ∧ Changes (s.at_ t) u [.cfg] noField :=
  ⟨_, exec_planeCheck s t false hup hclk hen, rfl, (Changes.refl _ _ _).updCfg (by decide)⟩

theorem planeCheck_bad (t : Time) (hup : s.pwr.up = true) (hclk : s.clkOn pCFG = true)
    (hen : s.bit pCFG HDR_PG_CTRL_EN = true) : Completes (.planeCheck t true) s fun u =>
      u.cfg = { s.cfg with chk := (s.cfg.chk + 1) % 4096 } ∧ s.counts u pCFG CFG_PLCNT_COUNT ∧
      s.flags u pCFG CFG_E_PLCRC ∧ u.bit pCFG CFG_PLCHK_VALID = true ∧
      (s.bit pCFG CFG_PLCHK_VALID = false → u.fld pCFG CFG_PLCHK_REGION = s.cfg.chk / 64 % 64 ∧
        u.fld pCFG CFG_PLCHK_FRAME = s.cfg.chk % 64) ∧ u.fab = s.fab := by
  let v := (s.at_ t).frameRead
  have hplchk : ∀ {f : Fld}, (pCFG, f) ∈ plchkFields →
      (v.badFrame s.cfg.chk).fld pCFG f = (v.badFrameHeld s.cfg.chk).fld pCFG f := v.badFrame_plchk s.cfg.chk
  obtain ⟨hcfg, hfab⟩ := v.badFrame_keeps s.cfg.chk
  refine ⟨_, exec_planeCheck s t true hup hclk hen, hcfg, v.badFrame_counts _, v.badFrame_flags _,
    (State.bit_congr (hplchk (by decide))).trans (v.badFrameHeld_valid _), fun hfree => ?_, hfab⟩
  obtain ⟨hregion, hframe⟩ := v.badFrameHeld_first s.cfg.chk hfree
  exact ⟨(hplchk (by decide)).trans hregion, (hplchk (by decide)).trans hframe⟩

end

/-! ## A set that is refused (R154, R257) -/

section
variable {s u : State}

/-- The planes stand with the configuration controller. -/
theorem State.voile_congr (h : u.cfg.voile = s.cfg.voile) : u.voile = s.voile := by
  funext r
  rw [State.voile, State.voile, h]

/-- R154, R257: what a refusal reports. -/
def State.refusalReported (s : State) (result : Nat) : State :=
  ((s.setFld pCFG CFG_ASSTAT_RESULT result).err pCFG CFG_E_ASREF).log pCFG 0x083 2 (result * 256)

/-- R154: the PENDING regions that a refused set gives up: those of its members' allocations, and of the
allocation of boot loads its members alone. -/
def State.givenUp (s : State) (members : Nat) : List Nat :=
  let ids := (inMask members).filterMap fun r => if (s.region r).state = 1 then some (s.region r).id else none
  (List.range 64).filter fun r => (s.region r).state = 1 ∧
    (if (s.region r).id = 1 then members.testBit r else ids.contains (s.region r).id)

theorem State.asRefuse_eq (s : State) (members result : Nat) : s.asRefuse members result =
    ((((s.refusalReported result).released ((s.refusalReported result).givenUp members)).setFld pCFG CFG_ASSTAT_STATE 0).setFld
      pCFG CFG_ASSTAT_WAIT 0).updCfg fun c => { c with as := none } := rfl

theorem mem_inMask {m r : Nat} : r ∈ inMask m ↔ r < 64 ∧ m.testBit r = true := by
  rw [inMask, List.mem_filter, List.mem_range]

theorem State.mem_givenUp {members r : Nat} (hr : r < 64) (hm : members.testBit r = true) (hst : (s.region r).state = 1) :
    r ∈ s.givenUp members := by
  have hid : (s.region r).id ∈ (inMask members).filterMap fun r =>
      if (s.region r).state = 1 then some (s.region r).id else none :=
    List.mem_filterMap.mpr ⟨r, mem_inMask.mpr ⟨hr, hm⟩, if_pos hst⟩
  refine List.mem_filter.mpr ⟨List.mem_range.mpr hr, decide_eq_true ⟨hst, ?_⟩⟩
  split
  · exact hm
  · exact List.contains_iff_mem.mpr hid

theorem State.state_of_mem_givenUp {members r : Nat} (h : r ∈ s.givenUp members) : (s.region r).state = 1 :=
  (of_decide_eq_true (List.mem_filter.mp h).2).1

theorem State.refusalReported_fields (s : State) (result : Nat) :
    (s.refusalReported result).fld pCFG CFG_ASSTAT_RESULT = result % 2 ^ 4 ∧
    s.flags (s.refusalReported result) pCFG CFG_E_ASREF := by
  constructor
  · rw [State.refusalReported, State.fld_log_ne _ _ _ _ _ _ _ (by decide),
      State.fld_err_ne _ _ _ _ _ (by decide) (by decide), State.fld_setFld_same]
    rfl
  · rw [State.flags, State.refusalReported, State.fld_log_ne _ _ _ _ _ _ _ (by decide), State.fld_err_err,
      State.fld_setFld_ne _ _ _ _ _ _ (by decide)]

theorem State.refusalReported_keeps (s : State) (result : Nat) : (s.refusalReported result).cfg = s.cfg ∧
    (s.refusalReported result).fab = s.fab ∧ (s.refusalReported result).plc = s.plc := by
  refine ⟨?_, ?_, ?_⟩
  · rw [State.refusalReported, State.log_cfg, State.err_cfg, State.setFld_cfg]
  · rw [State.refusalReported, State.log_fab, State.err_fab, State.setFld_fab]
  · rw [State.refusalReported, State.log_plc, State.err_plc, State.setFld_plc]

theorem State.released_keeps (s : State) (rs : List Nat) : (s.released rs).cfg = s.cfg ∧ (s.released rs).fab = s.fab ∧
    ∀ p f, (s.released rs).fld p f = s.fld p f := by
  have h := s.released_changes rs
  exact ⟨show ((s.released rs).blank [.plc]).cfg = (s.blank [.plc]).cfg by rw [h.1],
    show ((s.released rs).blank [.plc]).fab = (s.blank [.plc]).fab by rw [h.1], fun p f => h.fld_eq rfl⟩

/-- R257: the set is gone once its refusal is reported and its PENDING members are given up. -/
theorem State.refusedSet_of_reported {w : State} {result members : Nat} (hcfg : w.cfg = s.cfg) (hfab : w.fab = s.fab)
    (hresult : w.fld pCFG CFG_ASSTAT_RESULT = result) (hflag : s.flags w pCFG CFG_E_ASREF)
    (hmember : ∀ r < 64, members.testBit r = true → (s.region r).state = 1 → w.region r = RgnAlloc.free)
    (hother : ∀ r, (s.region r).state ≠ 1 → w.region r = s.region r) :
    s.refusedSet (((w.setFld pCFG CFG_ASSTAT_STATE 0).setFld pCFG CFG_ASSTAT_WAIT 0).updCfg fun c => { c with as := none })
      result members := by
  refine ⟨rfl, ?_, ?_, ?_, (congrArg Cfg.act hcfg : w.cfg.act = s.cfg.act),
    (congrArg Cfg.voile hcfg : w.cfg.voile = s.cfg.voile), hfab, hmember, hother⟩
  · rw [State.updCfg_fld, State.fld_setFld_ne _ _ _ _ _ _ (by decide), State.fld_setFld_ne _ _ _ _ _ _ (by decide), hresult]
  · rw [State.updCfg_fld, State.fld_setFld_ne _ _ _ _ _ _ (by decide), State.fld_setFld_same]
    rfl
  · rw [State.flags, State.updCfg_fld, State.fld_setFld_ne _ _ _ _ _ _ (by decide),
      State.fld_setFld_ne _ _ _ _ _ _ (by decide), hflag]

/-- R154, R257: a refused set is gone, its result is told, and its PENDING members are FREE. -/
theorem State.asRefuse_refuses (s : State) (members : Nat) {result : Nat} (hlt : result < 16) :
    s.refusedSet (s.asRefuse members result) result members := by
  obtain ⟨hresult, hflag⟩ := s.refusalReported_fields result
  obtain ⟨hvcfg, hvfab, hvplc⟩ := s.refusalReported_keeps result
  rw [State.asRefuse_eq]
  generalize s.refusalReported result = v at *
  have hregion : v.region = s.region := State.region_congr hvplc
  obtain ⟨hcfg, hfab, hfld⟩ := v.released_keeps (v.givenUp members)
  refine State.refusedSet_of_reported (hcfg.trans hvcfg) (hfab.trans hvfab) ?_ ((hfld _ _).trans hflag) ?_ ?_
  · rw [hfld, hresult]
    exact Nat.mod_eq_of_lt hlt
  · intro r hr hm hst
    rw [← hregion] at hst
    rw [State.region_released, if_pos (State.mem_givenUp hr hm hst)]
  · intro r hst
    rw [← hregion] at hst
    rw [State.region_released, if_neg fun h => hst (State.state_of_mem_givenUp h), hregion]

/-- A refusal is known by the fields, the regions, the planes and the fabric of the state that it starts from. -/
theorem State.refusedSet_congr {w : State} {result members : Nat} (hfld : ∀ p f, u.fld p f = s.fld p f)
    (hplc : u.plc = s.plc) (hact : u.cfg.act = s.cfg.act) (hvoile : u.cfg.voile = s.cfg.voile) (hfab : u.fab = s.fab)
    (h : u.refusedSet w result members) : s.refusedSet w result members := by
  rw [State.refusedSet, State.flags, hfld, hact, hvoile, hfab, State.region_congr hplc] at h
  exact h

end

/-! ## A set that passes its checks (R258) -/

section
variable {s : State}

/-- The regions of a list, as a mask. -/
def maskOf (rs : List Nat) : Nat := rs.foldl (fun m r => m ||| 2 ^ r) 0

theorem testBit_foldl_or (rs : List Nat) (m k : Nat) :
    (rs.foldl (fun m r => m ||| 2 ^ r) m).testBit k = (m.testBit k || decide (k ∈ rs)) := by
  induction rs generalizing m with
  | nil => simp
  | cons r rs ih =>
    rw [List.foldl_cons, ih, Nat.testBit_or, Nat.testBit_two_pow]
    simp [Bool.or_assoc, eq_comm]

theorem testBit_maskOf (rs : List Nat) (k : Nat) : (maskOf rs).testBit k = decide (k ∈ rs) := by
  rw [maskOf, testBit_foldl_or, Nat.zero_testBit, Bool.false_or]

/-- The allocation states of regions of which some take a new state and keep their allocations. -/
theorem State.region_restated (s : State) (k : Nat) (rs : List Nat) (n : Nat) :
    (rs.foldl (fun s r => s.setRegion r ⟨k, (s.region r).id⟩) s).region n =
      if n ∈ rs then ⟨k, (s.region n).id⟩ else s.region n := by
  induction rs generalizing s with
  | nil => simp
  | cons r rs ih =>
    rw [List.foldl_cons, ih, State.region_setRegion]
    by_cases hr : n = r
    · subst hr; simp
    · simp [hr]

/-- R258: the LOADED members of a set. -/
def State.liveMembers (s : State) (members : Nat) : List Nat := (inMask members).filter fun r => (s.region r).state = 2

theorem State.mem_liveMembers {members r : Nat} (hr : r < 64) :
    r ∈ s.liveMembers members ↔ members.testBit r = true ∧ (s.region r).state = 2 := by
  simp [State.liveMembers, List.mem_filter, mem_inMask, hr]

/-- R258: SWAP_PENDING of the members of a set, -/
theorem State.testBit_swapPending {members r : Nat} (hr : r < 64) : (maskOf (s.liveMembers members)).testBit r =
    (members.testBit r && decide ((s.region r).state = 2)) := by
  simp only [testBit_maskOf, State.mem_liveMembers hr, Bool.decide_and, Bool.decide_eq_true]

/-- and the members that count as acknowledged from the start. -/
theorem State.testBit_acknowledged {members r : Nat} (hr : r < 64) : (members ^^^ maskOf (s.liveMembers members)).testBit r =
    (members.testBit r && decide ((s.region r).state ≠ 2)) := by
  rw [Nat.testBit_xor, State.testBit_swapPending hr]
  cases members.testBit r <;> by_cases h : (s.region r).state = 2 <;> simp [h]

/-- R258: the set as it waits for the acknowledgement of its LOADED members. -/
def AsSet.armed (a : AsSet) (live : List Nat) : AsSet :=
  { a with checking := false, acked := (a.swap ||| a.unld) ^^^ maskOf live }

/-- R258: an armed set has its LOADED members SWAPPING, with SWAP_PENDING high. -/
theorem State.asArmed_arms (s : State) (a : AsSet) (has : s.cfg.as = some a) (hct : a.ct = false) :
    let live := s.liveMembers (a.swap ||| a.unld)
    s.asArmed.cfg = { s.cfg with as := some (a.armed live), swapPend := maskOf live } ∧
    (∀ n, s.asArmed.region n = if n ∈ live then ⟨3, (s.region n).id⟩ else s.region n) ∧ s.asArmed.fab = s.fab := by
  intro live
  let v := live.foldl (fun s r => s.setRegion r ⟨3, (s.region r).id⟩) s
  let w := (v.updCfg fun c => { c with swapPend := maskOf live }).updAs fun a =>
    { a with checking := false, acked := (a.swap ||| a.unld) ^^^ maskOf live }
  let x := (if w.role = 1 then w.parcel .actSet else w).asShow
  have harmed : s.asArmed = if x.windowOpen then x.asPrepare else x := by
    rw [State.asArmed, has]
    rfl
  have hx : Changes w x [.twn] (fields armedFields) :=
    Changes.asShow (Changes.ite (fun _ => (Changes.refl _ _ _).parcel (by decide)) fun _ => Changes.refl _ _ _)
  have hwcfg : w.cfg = { s.cfg with as := some (a.armed live), swapPend := maskOf live } := by
    have hvcfg : v.cfg = s.cfg := State.setRegions_cfg _ _ _
    simp only [w, State.updAs, State.updCfg_cfg, hvcfg, has]
    rfl
  have hxcfg : x.cfg = w.cfg := show (x.blank [.twn]).cfg = (w.blank [.twn]).cfg by rw [hx.1]
  have hfresh : x.asStale (a.armed live) = false := by rw [State.asStale, AsSet.armed, hct]; rfl
  have hstay : s.asArmed = x ∨ s.asArmed = x.setFld pCFG CFG_ASSTAT_STATE 3 := by
    rw [harmed]
    split
    · exact x.asPrepare_verified _ (by rw [hxcfg, hwcfg]) hfresh
    · exact .inl rfl
  have hparts : s.asArmed.cfg = x.cfg ∧ s.asArmed.plc = x.plc ∧ s.asArmed.fab = x.fab := by
    obtain h | h := hstay <;> rw [h] <;> exact ⟨rfl, rfl, rfl⟩
  obtain ⟨hcfg, hplc, hfab⟩ := hparts
  have hxplc : x.plc = v.plc := show (x.blank [.twn]).plc = (w.blank [.twn]).plc by rw [hx.1]
  have hxfab : x.fab = v.fab := show (x.blank [.twn]).fab = (w.blank [.twn]).fab by rw [hx.1]
  have hv : Changes s v [.plc] noField := Changes.foldl (fun _ _ hv => hv.updPlc (by decide)) (Changes.refl _ _ _)
  refine ⟨hcfg.trans (hxcfg.trans hwcfg), fun n => ?_,
    (hfab.trans hxfab).trans (show (v.blank [.plc]).fab = (s.blank [.plc]).fab by rw [hv.1])⟩
  rw [State.region_congr (hplc.trans hxplc)]
  exact s.region_restated 3 live n

end

/-! ## What the checks of a set see (R231, R257) -/

section
variable {s u : State}

/-- R231: the Tulle checks read the fields, the Voile planes, the allocations and the fabric. -/
theorem State.tulle_congr (hfld : ∀ p f, u.fld p f = s.fld p f) (hvoile : u.voile = s.voile) (hplc : u.plc = s.plc)
    (hfab : u.fab = s.fab) (hjer : u.jer = s.jer) : u.tulle = s.tulle := by
  have hdesc : u.descAfter = s.descAfter := by
    funext swap unld r
    simp only [State.descAfter, State.baseOf, State.desc, hvoile, State.region_congr hplc, hplc, hfab]
  have htargets : u.targetsAfter = s.targetsAfter := by
    funext ct
    have hbit : ∀ p f, u.bit p f = s.bit p f := fun p f => State.bit_congr (hfld p f)
    simp only [State.targetsAfter, hbit, hfld, hjer]
  funext swap unld ct
  simp only [State.tulle, hdesc, htargets, hfab]

theorem State.badMember_congr (hplc : u.plc = s.plc) : u.badMember = s.badMember := by
  funext swap unld ct
  simp only [State.badMember, State.region_congr hplc]

end

/-! ## The write of ARM (R256, R257) -/

section
variable (s : State) (mode : Bool)

theorem State.doAscmd_arm : s.doAscmd (1 + 16 * mode.toNat) = s.doArm mode.toNat := by
  cases mode <;> rfl

/-- R259: ARM clears what an earlier set has forced. -/
def State.unforced (s : State) : State := s.updCfg fun c => { c with forced := 0 }

/-- R256: the set of these planes that ARM makes, with the Tulle schedule that it brings. -/
def State.newSet (s : State) (mode swap unld : Nat) (xs : List Stream) : AsSet :=
  ⟨mode, s.asFn, swap, unld, false, 0, s.time, false, !s.mirrors, xs⟩

theorem State.doArm_taken (m : Nat) (h : s.cfg.as.isSome = true) : s.doArm m = s.err pCFG CFG_E_ASCMDERR := by
  rw [State.doArm, h]
  rfl

variable {s} (hnone : s.cfg.as = none) (hen : s.bit pCFG HDR_PG_CTRL_EN = true)
include hnone hen

theorem State.doArm_badMember (m : Nat) (h : s.badMember s.asSwap s.asUnld (s.bit pCFG CFG_ASOPT_CT) = true) :
    s.doArm m = s.unforced.asRefuse (s.asSwap ||| s.asUnld) 2 := by
  rw [State.doArm, hnone, hen]
  exact if_pos h

theorem State.doArm_notLoaded (m : Nat) (h : s.badMember s.asSwap s.asUnld (s.bit pCFG CFG_ASOPT_CT) = false)
    (hvoile : ∃ r < 64, s.asSwap.testBit r = true ∧ (s.voile r).state ≠ 2) :
    s.doArm m = s.unforced.asRefuse (s.asSwap ||| s.asUnld) 3 := by
  obtain ⟨r, hr, hm, hst⟩ := hvoile
  rw [State.doArm, hnone, hen]
  exact (if_neg (Bool.eq_false_iff.mp h)).trans
    (if_pos (List.any_eq_true.mpr ⟨r, mem_inMask.mpr ⟨hr, hm⟩, decide_eq_true hst⟩))

omit hnone hen in
/-- Every region that is to be swapped holds an image in its Voile plane. -/
theorem State.voile_loaded (h : ∀ r < 64, s.asSwap.testBit r = true → (s.voile r).state = 2) :
    ¬ ((inMask s.asSwap).any fun r => decide ((s.voile r).state ≠ 2)) = true := by
  rw [List.any_eq_true]
  rintro ⟨r, hr, hst⟩
  obtain ⟨hlt, hm⟩ := mem_inMask.mp hr
  exact of_decide_eq_true hst (h r hlt hm)

theorem State.doArm_unverified (m : Nat) (h : s.badMember s.asSwap s.asUnld (s.bit pCFG CFG_ASOPT_CT) = false)
    (hvoile : ∀ r < 64, s.asSwap.testBit r = true → (s.voile r).state = 2) (hct : s.bit pCFG CFG_ASOPT_CT = true)
    (hver : s.bit (pJE 0) JE_CTSTAT_VERIFIED = false) :
    s.doArm m = s.unforced.asRefuse (s.asSwap ||| s.asUnld) 4 := by
  rw [State.doArm, hnone, hen]
  refine (if_neg (Bool.eq_false_iff.mp h)).trans ((if_neg (State.voile_loaded hvoile)).trans (if_pos ?_))
  exact Bool.and_eq_true_iff.mpr ⟨hct, by rw [Bool.not_eq_true']; exact hver⟩

/-- R257, R258: a set of planes that passes every check is armed at once. -/
theorem State.doArm_passes (m : Nat) (xs : List Stream) (h : s.badMember s.asSwap s.asUnld false = false)
    (hct : s.bit pCFG CFG_ASOPT_CT = false) (hvoile : ∀ r < 64, s.asSwap.testBit r = true → (s.voile r).state = 2)
    (htulle : s.tulle s.asSwap s.asUnld false = .inl xs) :
    s.doArm m = (s.unforced.updCfg fun c => { c with as := some (s.unforced.newSet m s.asSwap s.asUnld xs) }).asArmed := by
  have htulle' : s.unforced.tulle s.asSwap s.asUnld false = .inl xs :=
    (congrFun (congrFun (congrFun (State.tulle_congr (fun _ _ => rfl) (State.voile_congr rfl) rfl rfl rfl) _) _) _).trans htulle
  have hbad' : s.unforced.badMember s.asSwap s.asUnld false = false := by rwa [State.badMember_congr rfl]
  have hvoile' : ¬ ((inMask s.asSwap).any fun r => decide ((s.unforced.voile r).state ≠ 2)) = true :=
    by rw [State.voile_congr (show s.unforced.cfg.voile = s.cfg.voile from rfl)]; exact State.voile_loaded hvoile
  rw [State.doArm, hnone, hen, hct]
  simp only [Option.isSome_none, Bool.not_true, Bool.or_self, Bool.false_eq_true, if_false, Bool.false_and]
  rw [← State.unforced, hbad', if_neg Bool.false_ne_true, if_neg hvoile', htulle']
  rfl

end

/-- R258: what ARM makes of a set that has passed its checks. -/
theorem State.newSet_arms (v : State) (m swap unld : Nat) (xs : List Stream) :
    let u := (v.unforced.updCfg fun c => { c with as := some (v.unforced.newSet m swap unld xs) }).asArmed
    (∃ a, u.cfg.as = some a ∧ a.mode = m ∧ a.fn = v.asFn ∧ a.swap = swap ∧ a.unld = unld ∧ a.ct = false ∧
      a.checking = false ∧ a.sched = xs ∧ a.armAt = v.time ∧
      (∀ r < 64, a.acked.testBit r = ((swap ||| unld).testBit r && decide ((v.region r).state ≠ 2)))) ∧
    (∀ r < 64, u.region r = if (swap ||| unld).testBit r ∧ (v.region r).state = 2 then ⟨3, (v.region r).id⟩ else v.region r) ∧
    (∀ r < 64, u.cfg.swapPend.testBit r = ((swap ||| unld).testBit r && decide ((v.region r).state = 2))) ∧
    u.cfg.act = v.cfg.act ∧ u.cfg.voile = v.cfg.voile ∧ u.fab = v.fab := by
  let w := v.unforced.updCfg fun c => { c with as := some (v.unforced.newSet m swap unld xs) }
  have hregion : w.region = v.region := State.region_congr rfl
  have hfn : v.unforced.asFn = v.asFn := by simp only [State.asFn, State.unforced, State.updCfg_fld]
  obtain ⟨hcfg, huregion, hfab⟩ := w.asArmed_arms _ rfl rfl
  refine ⟨⟨_, congrArg Cfg.as hcfg, rfl, hfn, rfl, rfl, rfl, rfl, rfl, rfl, fun r hr => ?_⟩, fun r hr => ?_, fun r hr => ?_,
    (congrArg Cfg.act hcfg).trans rfl, (congrArg Cfg.voile hcfg).trans rfl, hfab⟩
  · rw [← hregion]
    exact State.testBit_acknowledged hr
  · rw [← hregion]
    exact (huregion r).trans (if_congr (State.mem_liveMembers hr) rfl rfl)
  · rw [← hregion]
    exact (congrFun (congrArg Nat.testBit (congrArg Cfg.swapPend hcfg)) r).trans (State.testBit_swapPending hr)

/-! ## AS_ARM (R256 to R258) -/

section
variable {s : State} {t : Time} {mode : Bool}

/-- What ARM acts on. -/
abbrev State.armArrives (s : State) (t : Time) (mode : Bool) : State :=
  s.arrive t (pCFG * 4096 + 0x4C) (1 + 16 * mode.toNat)

theorem asArm_acts {P : State → Prop} (hopen : (s.at_ t).writeOpen (pCFG * 4096 + 0x4C) = true)
    (h : P ((s.armArrives t mode).doArm mode.toNat)) : Completes (.asArm t mode) s P :=
  Completes.write hopen rfl (by rw [State.doAscmd_arm]; exact h)

/-- ARM finds the registers, planes and regions as they were before the write. -/
structure State.SameSet (s v : State) : Prop where
  as : v.cfg.as = s.cfg.as
  bit : ∀ p f, v.bit p f = s.bit p f
  swap : v.asSwap = s.asSwap
  unld : v.asUnld = s.asUnld
  fn : v.asFn = s.asFn
  voile : v.voile = s.voile
  region : v.region = s.region
  badMember : v.badMember = s.badMember
  tulle : v.tulle = s.tulle

theorem State.arrive_sameSet (s : State) (t : Time) (off v : Nat) : s.SameSet (s.arrive t off v) where
  as := congrArg Cfg.as (s.arrive_cfg t off v)
  bit := s.arrive_bit t off v
  swap := by simp only [State.asSwap, State.arrive_fld]
  unld := by simp only [State.asUnld, State.arrive_fld]
  fn := by simp only [State.asFn, State.arrive_fld]
  voile := State.voile_congr (congrArg Cfg.voile (s.arrive_cfg t off v))
  region := State.region_congr (s.arrive_plc t off v)
  badMember := State.badMember_congr (s.arrive_plc t off v)
  tulle := State.tulle_congr (s.arrive_fld t off v) (State.voile_congr (congrArg Cfg.voile (s.arrive_cfg t off v)))
    (s.arrive_plc t off v) (s.arrive_fab t off v) (s.arrive_jer t off v)

theorem asArm_refuses {result : Nat} (hopen : (s.at_ t).writeOpen (pCFG * 4096 + 0x4C) = true) (hresult : result < 16)
    (h : (s.armArrives t mode).doArm mode.toNat =
      (s.armArrives t mode).unforced.asRefuse (s.asSwap ||| s.asUnld) result) :
    Completes (.asArm t mode) s fun u => s.refusedSet u result (s.asSwap ||| s.asUnld) := by
  refine asArm_acts hopen ?_
  rw [h]
  have hcfg := s.arrive_cfg t (pCFG * 4096 + 0x4C) (1 + 16 * mode.toNat)
  exact State.refusedSet_congr (u := (s.armArrives t mode).unforced) (s.arrive_fld t _ _) (s.arrive_plc t _ _)
    (congrArg Cfg.act hcfg : (s.armArrives t mode).cfg.act = _)
    (congrArg Cfg.voile hcfg : (s.armArrives t mode).cfg.voile = _) (s.arrive_fab t _ _) (State.asRefuse_refuses _ _ hresult)

/-- R256: an ARM while a set is there changes nothing but ASCMDERR. -/
theorem asArm_taken (hopen : (s.at_ t).writeOpen (pCFG * 4096 + 0x4C) = true) (h : s.cfg.as.isSome = true) :
    Completes (.asArm t mode) s fun u => RaisesOnly (s.armArrives t mode) u pCFG CFG_E_ASCMDERR := by
  refine asArm_acts hopen ?_
  rw [State.doArm_taken _ _ (by rw [State.arrive_cfg]; exact h)]
  exact State.err_raises _ _ _

variable (hopen : (s.at_ t).writeOpen (pCFG * 4096 + 0x4C) = true) (hnone : s.cfg.as = none)
  (hen : s.bit pCFG HDR_PG_CTRL_EN = true)
include hopen hnone hen

theorem asArm_badMember (h : s.badMember s.asSwap s.asUnld (s.bit pCFG CFG_ASOPT_CT) = true) :
    Completes (.asArm t mode) s fun u => s.refusedSet u 2 (s.asSwap ||| s.asUnld) := by
  have v := s.arrive_sameSet t (pCFG * 4096 + 0x4C) (1 + 16 * mode.toNat)
  refine asArm_refuses hopen (by decide) ?_
  rw [State.doArm_badMember (v.as.trans hnone) ((v.bit _ _).trans hen) _ (by rwa [v.badMember, v.swap, v.unld, v.bit]),
    v.swap, v.unld]

theorem asArm_notLoaded (h : s.badMember s.asSwap s.asUnld (s.bit pCFG CFG_ASOPT_CT) = false)
    (hvoile : ∃ r < 64, s.asSwap.testBit r = true ∧ (s.voile r).state ≠ 2) :
    Completes (.asArm t mode) s fun u => s.refusedSet u 3 (s.asSwap ||| s.asUnld) := by
  have v := s.arrive_sameSet t (pCFG * 4096 + 0x4C) (1 + 16 * mode.toNat)
  refine asArm_refuses hopen (by decide) ?_
  rw [State.doArm_notLoaded (v.as.trans hnone) ((v.bit _ _).trans hen) _ (by rwa [v.badMember, v.swap, v.unld, v.bit])
    (by rwa [v.swap, v.voile]), v.swap, v.unld]

theorem asArm_unverified (h : s.badMember s.asSwap s.asUnld (s.bit pCFG CFG_ASOPT_CT) = false)
    (hvoile : ∀ r < 64, s.asSwap.testBit r = true → (s.voile r).state = 2) (hct : s.bit pCFG CFG_ASOPT_CT = true)
    (hver : s.bit (pJE 0) JE_CTSTAT_VERIFIED = false) :
    Completes (.asArm t mode) s fun u => s.refusedSet u 4 (s.asSwap ||| s.asUnld) := by
  have v := s.arrive_sameSet t (pCFG * 4096 + 0x4C) (1 + 16 * mode.toNat)
  refine asArm_refuses hopen (by decide) ?_
  rw [State.doArm_unverified (v.as.trans hnone) ((v.bit _ _).trans hen) _ (by rwa [v.badMember, v.swap, v.unld, v.bit])
    (by rwa [v.swap, v.voile]) ((v.bit _ _).trans hct) ((v.bit _ _).trans hver), v.swap, v.unld]

theorem asArm_passes (xs : List Stream) (h : s.badMember s.asSwap s.asUnld false = false)
    (hct : s.bit pCFG CFG_ASOPT_CT = false)
    (hvoile : ∀ r < 64, s.asSwap.testBit r = true → (s.voile r).state = 2)
    (htulle : s.tulle s.asSwap s.asUnld false = .inl xs) : Completes (.asArm t mode) s fun u =>
      (∃ a, u.cfg.as = some a ∧ a.mode = mode.toNat ∧ a.fn = s.asFn ∧ a.swap = s.asSwap ∧ a.unld = s.asUnld ∧
        a.ct = false ∧ a.checking = false ∧ a.sched = xs ∧ a.armAt = s.timeAt t ∧
        (∀ r < 64, a.acked.testBit r = ((s.asSwap ||| s.asUnld).testBit r && decide ((s.region r).state ≠ 2)))) ∧
      (∀ r < 64, u.region r = if (s.asSwap ||| s.asUnld).testBit r ∧ (s.region r).state = 2 then
        ⟨3, (s.region r).id⟩ else s.region r) ∧
      (∀ r < 64, u.cfg.swapPend.testBit r =
        ((s.asSwap ||| s.asUnld).testBit r && decide ((s.region r).state = 2))) ∧
      u.cfg.act = s.cfg.act ∧ u.cfg.voile = s.cfg.voile ∧ u.fab = s.fab := by
  have hv := s.arrive_sameSet t (pCFG * 4096 + 0x4C) (1 + 16 * mode.toNat)
  refine asArm_acts hopen ?_
  rw [State.doArm_passes (hv.as.trans hnone) ((hv.bit _ _).trans hen) _ xs (by rwa [hv.badMember, hv.swap, hv.unld])
    ((hv.bit _ _).trans hct) (by rwa [hv.swap, hv.voile]) (by rwa [hv.tulle, hv.swap, hv.unld]), hv.swap, hv.unld]
  have harms := (s.armArrives t mode).newSet_arms mode.toNat s.asSwap s.asUnld xs
  rw [hv.fn, hv.region, State.arrive_time, State.arrive_cfg, State.arrive_fab] at harms
  exact harms

end

/-- Settles O33: a bad frame is counted and recorded and touches no plane; ARM refuses what fails a check with its result,
and arms what passes. -/
theorem planeCheckAndArm : Obligations.PlaneCheckAndArm := fun s t =>
  ⟨fun _ hup hclk hen => ⟨fun hgood => hgood ▸ planeCheck_good s t hup hclk hen, fun hbad => hbad ▸ planeCheck_bad s t hup hclk hen⟩,
    fun _ hopen hnone hen => ⟨fun h => asArm_badMember hopen hnone hen h, fun h => asArm_notLoaded hopen hnone hen h,
      fun h => asArm_unverified hopen hnone hen h,
      fun xs h hct _ hvoile htulle => asArm_passes hopen hnone hen xs h hct hvoile htulle⟩,
    fun _ hopen h => asArm_taken hopen h⟩

end Sys2Proof.Machine

/-! # A set that takes effect late (R261, R415) -/

namespace Sys2Proof.Machine

/-! ## A set that takes effect late (R261, R415) -/

/-- A set of mode 1 for frame 0, which unloads region 0 and whose only member has acknowledged. -/
def lateSet : AsSet :=
  { mode := 1, fn := 0, swap := 0, unld := 1, ct := false, acked := 1, armAt := 0, checking := false, mirrored := true,
    sched := [] }

/-- In STOP after reset, with region 0 SWAPPING and that set READY: its frame is past, since the next frame is number 1. -/
def lateState : State :=
  (State.reset.updPlc fun p => { p with rgn := [(0, ⟨3, 2⟩)] }).updCfg fun c => { c with as := some lateSet }

/-- The set takes effect, and PG_IRQST of the configuration controller shows ASLATE beside ASDONE. -/
theorem lateSet_takes_effect : ∃ u, exec (.asInternalBoundary 0) lateState = .next u ∧
    u.bit pCFG CFG_ASSTAT_LATE = true ∧ u.fld pCFG HDR_PG_IRQST_ST = 2 ^ CFG_E_ASDONE + 2 ^ CFG_E_ASLATE :=
  ⟨_, rfl, by decide +kernel, by decide +kernel⟩

/-- Refutes O34: the statement has a set that takes effect raise ASDONE and no other bit of PG_IRQST, but one that is LATE
raises ASLATE as well, which is an error (R415) and so sets its bit there too. -/
theorem not_activationSets : ¬ Obligations.ActivationSets := by
  rintro ⟨-, h⟩
  obtain ⟨-, -, htakes⟩ := h lateState 0 lateSet rfl (by decide +kernel)
  obtain ⟨u, hu, -, -, -, -, -, -, -, -, -, -, hdone, -, -⟩ := htakes (by decide) (.inr (Nat.zero_le _)) rfl rfl
  obtain ⟨v, hv, -, hirq⟩ := lateSet_takes_effect
  obtain rfl : u = v := Host.Outcome.next.inj (hu.symm.trans hv)
  have hclear : lateState.fld pCFG HDR_PG_IRQST_ST = 0 := by decide +kernel
  rw [State.asserts, hirq, hclear] at hdone
  exact absurd hdone (by decide)

end Sys2Proof.Machine

/-! # Entries of the slot directory (R249) -/

namespace Sys2Proof.Machine

/-! ## Numbers and their bytes -/

/-- Bytes as numbers. -/
def bytesOk (bs : List Nat) : Prop := ∀ b ∈ bs, b < 256

theorem length_leBytes (n v : Nat) : (leBytes n v).length = n := by
  induction n generalizing v with
  | zero => rfl
  | succ n ih => rw [leBytes, List.length_cons, ih]

theorem bytesOk_leBytes (n v : Nat) : bytesOk (leBytes n v) := by
  induction n generalizing v with
  | zero => exact fun _ h => nomatch h
  | succ n ih => exact List.forall_mem_cons.mpr ⟨Nat.mod_lt _ (by decide), ih _⟩

theorem leNum_leBytes (n v : Nat) : leNum (leBytes n v) = v % 256 ^ n := by
  induction n generalizing v with
  | zero => rw [Nat.pow_zero, Nat.mod_one]; rfl
  | succ n ih => rw [leBytes, leNum, ih, Nat.pow_succ', Nat.mod_mul]

theorem leNum_lt {bs : List Nat} (h : bytesOk bs) : leNum bs < 256 ^ bs.length := by
  induction bs with
  | nil => exact Nat.one_pos
  | cons b bs ih =>
    obtain ⟨hb, hbs⟩ := List.forall_mem_cons.mp h
    have := ih hbs
    rw [leNum, List.length_cons, Nat.pow_succ']
    omega

theorem beNum_reverse (bs : List Nat) : beNum bs.reverse = leNum bs := by
  induction bs with
  | nil => rfl
  | cons b bs ih =>
    have hlast : beNum (bs.reverse ++ [b]) = beNum bs.reverse * 256 + b := by
      rw [beNum, List.foldl_append]
      rfl
    rw [List.reverse_cons, hlast, ih, leNum]
    omega

theorem beNum_lt {bs : List Nat} (h : bytesOk bs) : beNum bs < 256 ^ bs.length := by
  have hlt := leNum_lt (bs := bs.reverse) fun b hb => h b (List.mem_reverse.mp hb)
  rwa [← beNum_reverse, List.reverse_reverse, List.length_reverse] at hlt

theorem bytesOk_slice {bs : List Nat} (h : bytesOk bs) (off n : Nat) : bytesOk ((bs.drop off).take n) :=
  fun b hb => h b (List.mem_of_mem_drop (List.mem_of_mem_take hb))

theorem leNum_slice_lt {bs : List Nat} (h : bytesOk bs) (off n : Nat) : hdr bs off n < 256 ^ n :=
  Nat.lt_of_lt_of_le (leNum_lt (bytesOk_slice h off n))
    (Nat.pow_le_pow_right (by decide) (List.length_take_le n (bs.drop off)))

theorem beNum_slice_lt {bs : List Nat} (h : bytesOk bs) (off n : Nat) : beNum ((bs.drop off).take n) < 256 ^ n :=
  Nat.lt_of_lt_of_le (beNum_lt (bytesOk_slice h off n))
    (Nat.pow_le_pow_right (by decide) (List.length_take_le n (bs.drop off)))

/-- Bytes of the die read back as the numbers that they are. -/
theorem map_toNat_ofNat {bs : List Nat} (h : bytesOk bs) : (bs.map (BitVec.ofNat 8)).map BitVec.toNat = bs := by
  rw [List.map_map]
  exact (List.map_congr_left fun b hb => Nat.mod_eq_of_lt (h b hb)).trans (List.map_id bs)

theorem bytesOk_map_toNat (xs : List Byte) : bytesOk (xs.map BitVec.toNat) := by
  intro b hb
  obtain ⟨x, -, rfl⟩ := List.mem_map.mp hb
  exact x.isLt

/-! ## CRC-32 -/

theorem crc32Step_lt {c : Nat} (h : c < 2 ^ 32) : crc32Step c < 2 ^ 32 := by
  unfold crc32Step
  split
  · exact Nat.xor_lt_two_pow (by omega) (by decide)
  · omega

/-- A bound that every step of a fold keeps. -/
theorem foldl_lt {α : Type} {f : Nat → α → Nat} {n : Nat} (hf : ∀ c x, c < n → f c x < n) (xs : List α) {c : Nat}
    (hc : c < n) : xs.foldl f c < n := by
  induction xs generalizing c with
  | nil => exact hc
  | cons x xs ih => exact ih (hf c x hc)

theorem crc32Byte_lt {c : Nat} (b : Nat) (h : c < 2 ^ 32) : crc32Byte c b < 2 ^ 32 :=
  foldl_lt (fun _ _ hx => crc32Step_lt hx) _ (Nat.xor_lt_two_pow h (by omega))

theorem crc32_lt (bs : List Nat) : crc32 bs < 2 ^ 32 :=
  Nat.xor_lt_two_pow (foldl_lt (fun _ b hc => crc32Byte_lt b hc) bs (by decide)) (by decide)

/-! ## An entry and its bytes (R249) -/

/-- R249: an entry whose values fit the fields of its 64 bytes. -/
structure DirEnt.Fits (e : DirEnt) : Prop where
  seq : e.seq < 256 ^ 4
  slot : e.slot < 256 ^ 1
  typ : e.typ < 256 ^ 1
  length : e.length < 256 ^ 4
  digest : e.digest < 256 ^ 32
  ver : e.ver < 256 ^ 4

section
variable (e : DirEnt)

/-- The fields of an entry before its digest, and after it. -/
def DirEnt.front : List Nat :=
  leBytes 4 0xA5C30F1E ++ leBytes 4 e.seq ++ [e.slot % 256, e.image.toNat, e.typ % 256, 0] ++ leBytes 4 e.length

def DirEnt.digestBytes : List Nat := (leBytes 32 e.digest).reverse

def DirEnt.back : List Nat := leBytes 4 e.ver ++ List.replicate 8 0

theorem DirEnt.body_eq : e.body = e.front ++ (e.digestBytes ++ e.back) := by
  rw [DirEnt.body, DirEnt.front, DirEnt.digestBytes, DirEnt.back]
  simp only [List.append_assoc]

theorem DirEnt.length_digestBytes : e.digestBytes.length = 32 := by
  rw [DirEnt.digestBytes, List.length_reverse, length_leBytes]

theorem DirEnt.length_body : e.body.length = 60 := by
  rw [DirEnt.body_eq, List.length_append, List.length_append, e.length_digestBytes]
  rfl

theorem DirEnt.bytesOk_body : bytesOk e.body := by
  intro b hb
  simp only [DirEnt.body, List.mem_append, List.mem_cons, List.not_mem_nil, or_false, List.mem_reverse,
    List.mem_replicate] at hb
  have himage : e.image.toNat < 256 := by cases e.image <;> decide
  obtain (((((h | h) | h | h | h | h) | h) | h) | h) | ⟨-, h⟩ := hb
  · exact bytesOk_leBytes _ _ b h
  · exact bytesOk_leBytes _ _ b h
  · omega
  · omega
  · omega
  · omega
  · exact bytesOk_leBytes _ _ b h
  · exact bytesOk_leBytes _ _ b h
  · exact bytesOk_leBytes _ _ b h
  · omega

/-- The bytes of an entry with its CRC-32. -/
def DirEnt.sealed : List Nat := e.body ++ leBytes 4 (crc32 e.body)

theorem DirEnt.bytes_toNat : e.bytes.map BitVec.toNat = e.sealed :=
  map_toNat_ofNat (bs := e.sealed) fun b hb =>
    (List.mem_append.mp hb).elim (e.bytesOk_body b) (bytesOk_leBytes _ _ b)

/-- The bytes after the fields before the digest. -/
theorem DirEnt.sealed_eq : e.sealed = e.front ++ (e.digestBytes ++ (e.back ++ leBytes 4 (crc32 e.body))) := by
  rw [DirEnt.sealed, DirEnt.body_eq]
  simp only [List.append_assoc]

/-- What the fields of an entry's bytes hold. -/
theorem DirEnt.sealed_fields : hdr e.sealed 0 4 = 0xA5C30F1E ∧ hdr e.sealed 4 4 = e.seq % 256 ^ 4 ∧
    hdr e.sealed 8 1 = e.slot % 256 ^ 1 ∧ hdr e.sealed 9 1 = e.image.toNat ∧ hdr e.sealed 10 1 = e.typ % 256 ^ 1 ∧
    hdr e.sealed 12 4 = e.length % 256 ^ 4 := by
  rw [DirEnt.sealed_eq, DirEnt.front]
  exact ⟨(leNum_leBytes 4 0xA5C30F1E).trans (by decide), leNum_leBytes 4 e.seq, Nat.add_zero _, Nat.add_zero _,
    Nat.add_zero _, leNum_leBytes 4 e.length⟩

theorem DirEnt.sealed_digest : beNum ((e.sealed.drop 16).take 32) = e.digest % 256 ^ 32 := by
  have hdrop : e.sealed.drop 16 = e.digestBytes ++ (e.back ++ leBytes 4 (crc32 e.body)) := by
    rw [DirEnt.sealed_eq]
    exact List.drop_left' rfl
  rw [hdrop, List.take_left' e.length_digestBytes, DirEnt.digestBytes, beNum_reverse, leNum_leBytes]

theorem DirEnt.sealed_ver : hdr e.sealed 48 4 = e.ver % 256 ^ 4 := by
  have hdrop : e.sealed.drop 48 = e.back ++ leBytes 4 (crc32 e.body) := by
    rw [DirEnt.sealed_eq, ← List.append_assoc]
    exact List.drop_left' (by rw [List.length_append, e.length_digestBytes]; rfl)
  rw [hdr, hdrop]
  exact leNum_leBytes 4 e.ver

/-- R249: the CRC-32 of an entry's bytes checks. -/
theorem DirEnt.sealed_crc : hdr e.sealed 60 4 = crc32 (e.sealed.take 60) := by
  have htake : e.sealed.take 60 = e.body := List.take_left' e.length_body
  have hdrop : e.sealed.drop 60 = leBytes 4 (crc32 e.body) := List.drop_left' e.length_body
  rw [htake, hdr, hdrop, List.take_of_length_le (Nat.le_of_eq (length_leBytes _ _)), leNum_leBytes]
  exact Nat.mod_eq_of_lt (crc32_lt _)

theorem decide_toNat_eq_one (b : Bool) : decide (b.toNat = 1) = b := by cases b <;> rfl

/-- R249: an entry reads back from its bytes. -/
theorem dirEntryOf_bytes (h : e.Fits) : dirEntryOf e.bytes = some e := by
  obtain ⟨hmark, hseq, hslot, himage, htyp, hlength⟩ := e.sealed_fields
  rw [dirEntryOf, e.bytes_toNat]
  rw [if_pos ⟨hmark, e.sealed_crc⟩, hseq, hslot, himage, htyp, hlength, e.sealed_digest, e.sealed_ver,
    Nat.mod_eq_of_lt h.seq, Nat.mod_eq_of_lt h.slot, Nat.mod_eq_of_lt h.typ, Nat.mod_eq_of_lt h.length,
    Nat.mod_eq_of_lt h.digest, Nat.mod_eq_of_lt h.ver, decide_toNat_eq_one]

end

/-- R249: what the bytes of an entry say fits its fields. -/
theorem dirEntryOf_fits {xs : List Byte} {e : DirEnt} (h : dirEntryOf xs = some e) : e.Fits := by
  have hbytes := bytesOk_map_toNat xs
  unfold dirEntryOf at h
  dsimp only at h
  split at h
  · obtain rfl := Option.some.inj h
    exact ⟨leNum_slice_lt hbytes 4 4, leNum_slice_lt hbytes 8 1, leNum_slice_lt hbytes 10 1, leNum_slice_lt hbytes 12 4,
      beNum_slice_lt hbytes 16 32, leNum_slice_lt hbytes 48 4⟩
  · cases h

/-! ## A new entry of the directory (R249, R290) -/

section
variable (s : State) (e : DirEnt)

/-- R249: a new entry takes the place of its slot's older ones. -/
theorem State.entries_addEntryDir (h : e.Fits) :
    (s.addEntryDir e).entries = (s.entries.filter fun x => decide (x.slot ≠ e.slot)) ++ [e] := by
  have hkept : ∀ ds : List (List Byte), (ds.filter fun bs => (dirEntryOf bs).any fun x => decide (x.slot ≠ e.slot)).filterMap
      dirEntryOf = (ds.filterMap dirEntryOf).filter fun x => decide (x.slot ≠ e.slot) := by
    intro ds
    rw [List.filterMap_filter, List.filter_filterMap]
    congr 1
    funext bs
    cases dirEntryOf bs with
    | none => rfl
    | some x => rfl
  show List.filterMap dirEntryOf (List.filter _ s.fls.dir ++ [e.bytes]) = _
  rw [List.filterMap_append, hkept, List.filterMap_cons, dirEntryOf_bytes e h]
  rfl

theorem State.newestEntry_addEntryDir_same (h : e.Fits) : (s.addEntryDir e).newestEntry e.slot = some e := by
  have hold : (s.entries.filter fun x => decide (x.slot ≠ e.slot)).filter (fun x => decide (x.slot = e.slot)) = [] := by
    rw [List.filter_filter, List.filter_eq_nil_iff]
    intro x _
    simp
  rw [State.newestEntry, State.entries_addEntryDir s e h, List.filter_append, hold]
  simp

theorem State.newestEntry_addEntryDir_ne (h : e.Fits) {k : Nat} (hk : k ≠ e.slot) :
    (s.addEntryDir e).newestEntry k = s.newestEntry k := by
  have hold : (s.entries.filter fun x => decide (x.slot ≠ e.slot)).filter (fun x => decide (x.slot = k)) =
      s.entries.filter fun x => decide (x.slot = k) := by
    rw [List.filter_filter]
    refine List.filter_congr fun x _ => ?_
    by_cases hx : x.slot = k
    · simp [hx, hk]
    · simp [hx]
  rw [State.newestEntry, State.entries_addEntryDir s e h, List.filter_append, hold]
  simp [Ne.symm hk, State.newestEntry]

/-- R249: the newest entry of a slot stands in the directory. -/
theorem State.mem_of_newestEntry {slot : Nat} (h : s.newestEntry slot = some e) : e ∈ s.entries := by
  have hfold : ∀ (es : List DirEnt) (b : Option DirEnt), (es.foldl (fun best e => match best with
      | none => some e
      | some b => if b.seq < e.seq then some e else some b) b) = some e → e ∈ es ∨ b = some e := by
    intro es
    induction es with
    | nil => exact fun b hb => .inr hb
    | cons x es ih =>
      intro b hb
      obtain hmem | hbest := ih _ hb
      · exact .inl (List.mem_cons_of_mem _ hmem)
      · cases b with
        | none => exact .inl (by rw [Option.some.inj hbest]; exact List.mem_cons_self)
        | some b =>
          dsimp only at hbest
          split at hbest
          · exact .inl (by rw [Option.some.inj hbest]; exact List.mem_cons_self)
          · exact .inr hbest
  obtain hmem | hnone := hfold _ _ h
  · exact (List.mem_filter.mp hmem).1
  · cases hnone

theorem State.slotImage_fits {slot : Nat} (h : s.slotImage slot = some e) : e.Fits ∧ e.image = true := by
  obtain ⟨hnewest, himage⟩ := Option.filter_eq_some_iff.mp h
  obtain ⟨bs, -, hbs⟩ := List.mem_filterMap.mp (s.mem_of_newestEntry e hnewest)
  exact ⟨dirEntryOf_fits hbs, himage⟩

theorem State.nextSeq_lt : s.nextSeq < 2 ^ 32 := by
  unfold State.nextSeq
  dsimp only
  split
  · omega
  · exact Nat.mod_lt _ (by decide)

theorem State.slotImage_addEntryDir (h : e.Fits) :
    (s.addEntryDir e).slotImage e.slot = if e.image then some e else none := by
  rw [State.slotImage, State.newestEntry_addEntryDir_same s e h]
  rfl

end

end Sys2Proof.Machine

/-! # Routines of the service sequencer: how they go on, ask for data and end (R251, R269 to R271) -/

namespace Sys2Proof.Machine

/-! ## The routine that runs (R269, R271) -/

section
variable {s : State} {t : Time} {code step : Nat} {r : Run}

/-- R271: a routine that runs within its limit goes on. -/
theorem State.routine_runs (f : Run → State → State) (h : s.runs t code step r) (hstep : step ≠ 1) :
    s.routine t code f = f r (s.at_ t) := by
  obtain ⟨hrun, hcode, hat, htime, hpfw, -⟩ := h
  have hover : r.over (s.at_ t).time = false := decide_eq_false fun hlate => Nat.not_lt.mpr htime hlate.2
  have hopen : (!(s.at_ t).pwr.pfwBlock) = true := by rw [State.atTime_pwr, hpfw]; rfl
  unfold State.routine
  dsimp only
  rw [State.atTime_fls, hrun]
  exact if_pos ⟨hcode, hat ▸ hstep, hopen, by rw [hover]; rfl⟩

theorem State.runs_inScrap (h : s.runs t code step r) : (s.at_ t).inScrap = false := by
  obtain ⟨-, -, -, -, -, hlcs⟩ := h
  exact decide_eq_false hlcs

end

/-! ## What the sequencer holds of its requests -/

section
variable {s u : State}

/-- R269, R270: the requests queued and running, and the completions owed. -/
def State.seqOf (s : State) : List Req × List Cpl × Option Req := (s.fls.queue, s.fls.cpls, s.fls.run.map Run.req)

theorem State.seqOf_congr (h : u.fls = s.fls) : u.seqOf = s.seqOf := by
  rw [State.seqOf, State.seqOf, h]

variable (s)

@[simp] theorem State.irq_seqOf (p b : Nat) : (s.irq p b).seqOf = s.seqOf := State.seqOf_congr (s.irq_fls p b)
@[simp] theorem State.err_seqOf (p b : Nat) : (s.err p b).seqOf = s.seqOf := State.seqOf_congr (s.err_fls p b)
@[simp] theorem State.contained_seqOf : s.contained.seqOf = s.seqOf := rfl
@[simp] theorem State.log_seqOf (p c v a : Nat) : (s.log p c v a).seqOf = s.seqOf := State.seqOf_congr (s.log_fls p c v a)

end

/-! ## How a routine ends (R270, R372) -/

/-- The fields that show the sequencer. -/
def seqFields : List (Nat × Fld) :=
  [(pSVC, SVC_ACTIVE_STATUS), (pSVC, SVC_ACTIVE_TAG), (pSVC, SVC_ACTIVE_CODE), (pFLS, FLS_STAT_BGSTATUS),
   (pFLS, FLS_STAT_BGOP), (pFLS, FLS_STAT_BGBLOCK)]

/-- The fields that the end of a routine changes. -/
def endFields : List (Nat × Fld) :=
  [(pCFG, CFG_STGSTAT_REQ), (pERR, ERR_CLASSCNT_CONTAINED)] ++ errFields pSVC ++ seqFields

section
variable (s : State)

theorem State.showSeq_changes : Changes s s.showSeq [] (fields seqFields) := by
  have hactive : ∀ a b c, Changes s (((s.setFld pSVC SVC_ACTIVE_STATUS a).setFld pSVC SVC_ACTIVE_TAG b).setFld pSVC
      SVC_ACTIVE_CODE c) [] (fields seqFields) := fun _ _ _ =>
    (((Changes.refl _ _ _).setFld (by decide)).setFld (by decide)).setFld (by decide)
  have hbg : ∀ {v : State} a b c, Changes s v [] (fields seqFields) → Changes s (((v.setFld pFLS FLS_STAT_BGSTATUS a).setFld
      pFLS FLS_STAT_BGOP b).setFld pFLS FLS_STAT_BGBLOCK c) [] (fields seqFields) := fun _ _ _ h =>
    ((h.setFld (by decide)).setFld (by decide)).setFld (by decide)
  unfold State.showSeq
  dsimp only
  split <;> split <;> exact hbg _ _ _ (hactive _ _ _)

theorem State.showSeq_fls : s.showSeq.fls = s.fls :=
  show (s.showSeq.blank []).fls = (s.blank []).fls by rw [s.showSeq_changes.1]

/-- R270: the next request starts where one is queued and nothing runs. -/
theorem State.startRoutine_spec (h : s.fls.run = none) : Changes s s.startRoutine [.fls] (fields seqFields) ∧
    ∃ q r, s.startRoutine.fls = { s.fls with queue := q, run := r } ∧ (s.fls.queue = [] → r = none) := by
  have hidle : Changes s s.showSeq [.fls] (fields seqFields) := s.showSeq_changes.mono (by simp) fun _ hk => hk
  unfold State.startRoutine
  split
  case h_1 r rs _ _ hqueue =>
    refine ⟨((Changes.refl _ _ _).updFls (by decide)).trans ((State.showSeq_changes _).mono (by simp) fun _ hk => hk),
      _, _, State.showSeq_fls _, fun hempty => ?_⟩
    rw [hempty] at hqueue
    cases hqueue
  case h_2 => exact ⟨hidle, _, _, s.showSeq_fls, fun _ => h⟩

/-- R270: the completion of the running routine is posted. -/
def State.completed (r : Run) (st res : Nat) : State :=
  ((s.updFls fun f => { f with run := none, cpls := f.cpls ++ [⟨r.req.code, r.req.tag, st % 256, res % 2 ^ 32⟩] }).setFld
    pCFG CFG_STGSTAT_REQ 0).irq pSVC SVC_E_CPL

/-- R270, R372: a status of failure is reported. -/
def State.endReported (st : Nat) : State :=
  let u := if st = stOK ∨ st = stESLOW ∨ st = stMWEAK then s else s.err pSVC SVC_E_RTFAIL
  if st = stVERIFY ∨ st = stTIMEOUT then u.contained else u

theorem State.endRoutine_eq {r : Run} (h : s.fls.run = some r) (st res : Nat) :
    s.endRoutine st res = ((s.completed r st res).endReported st).startRoutine := by
  rw [State.endRoutine, h]
  rfl

theorem State.completed_changes (r : Run) (st res : Nat) : Changes s (s.completed r st res) [.fls, .msi] (fields endFields) :=
  (((Changes.refl _ _ _).updFls (by decide)).setFld (by decide)).irq (by decide) (by decide)

theorem State.endReported_changes (st : Nat) : Changes s (s.endReported st) [.msi] (fields endFields) := by
  have herr : Changes s (if st = stOK ∨ st = stESLOW ∨ st = stMWEAK then s else s.err pSVC SVC_E_RTFAIL) [.msi]
      (fields endFields) := Changes.ite (fun _ => Changes.refl _ _ _) fun _ =>
    (Changes.refl _ _ _).err (by decide) (by decide) (by decide)
  exact Changes.ite (fun _ => herr.contained (by decide)) fun _ => herr

theorem State.endReported_fls (st : Nat) : (s.endReported st).fls = s.fls :=
  show ((s.endReported st).blank [.msi]).fls = (s.blank [.msi]).fls by rw [(s.endReported_changes st).1]

/-- A bit of a field that another is or-ed into. -/
theorem testBit_or_field {x y w b : Nat} (hb : b < w) (h : x.testBit b = true ∨ y.testBit b = true) :
    ((x ||| y) % 2 ^ w).testBit b = true := by
  rw [Nat.testBit_mod_two_pow, Nat.testBit_or, decide_eq_true hb]
  obtain h | h := h <;> simp [h]

/-- R415: an interrupt bit that an event sets stands until it is cleared. -/
theorem State.irq_testBit {p b : Nat} (hb : b < 32) : ((s.irq p b).fld p HDR_PG_IRQST_ST).testBit b = true := by
  rw [State.fld_irq_st]
  exact testBit_or_field hb (.inr (by rw [Nat.testBit_two_pow_self]))

theorem State.err_keeps_irq {p b c : Nat} (hc : c < 32) (h : (s.fld p HDR_PG_IRQST_ST).testBit c = true) :
    ((s.err p b).fld p HDR_PG_IRQST_ST).testBit c = true := by
  rw [State.fld_err_st]
  exact testBit_or_field hc (.inl h)

theorem State.endReported_keeps_irq (st : Nat) {c : Nat} (hc : c < 32)
    (h : (s.fld pSVC HDR_PG_IRQST_ST).testBit c = true) : ((s.endReported st).fld pSVC HDR_PG_IRQST_ST).testBit c = true := by
  unfold State.endReported
  dsimp only
  have herr : ((if st = stOK ∨ st = stESLOW ∨ st = stMWEAK then s else s.err pSVC SVC_E_RTFAIL).fld pSVC
      HDR_PG_IRQST_ST).testBit c = true := by
    split
    · exact h
    · exact s.err_keeps_irq hc h
  split
  · rw [State.contained, State.fld_addSat_ne _ _ _ _ _ _ (by decide)]
    exact herr
  · exact herr

/-- R270: a routine ends: its completion stands behind those owed, and nothing runs where nothing was queued. -/
theorem State.endRoutine_spec {r : Run} (h : s.fls.run = some r) (st res : Nat) :
    Changes s (s.endRoutine st res) [.fls, .msi] (fields endFields) ∧
    ((s.endRoutine st res).fld pSVC HDR_PG_IRQST_ST).testBit SVC_E_CPL = true ∧
    ∃ q ru, (s.endRoutine st res).fls = { s.fls with
      queue := q, run := ru, cpls := s.fls.cpls ++ [⟨r.req.code, r.req.tag, st % 256, res % 2 ^ 32⟩] } ∧
      (s.fls.queue = [] → ru = none) := by
  let v := (s.completed r st res).endReported st
  have hv : Changes s v [.fls, .msi] (fields endFields) :=
    (s.completed_changes r st res).trans ((State.endReported_changes _ st).mono (by simp) fun _ hk => hk)
  have hvfls : v.fls = { s.fls with
      run := none, cpls := s.fls.cpls ++ [⟨r.req.code, r.req.tag, st % 256, res % 2 ^ 32⟩] } :=
    (State.endReported_fls _ st).trans (State.irq_fls _ _ _)
  obtain ⟨hstart, q, ru, hfls, hempty⟩ := v.startRoutine_spec (by rw [hvfls])
  rw [State.endRoutine_eq s h]
  refine ⟨hv.trans (hstart.mono (by simp) fun k hk => ?_), ?_, q, ru, by rw [hfls, hvfls], fun hq => hempty (by rw [hvfls]; exact hq)⟩
  · simp only [endFields, fields, List.any_append, Bool.or_eq_false_iff] at hk ⊢
    exact hk.2
  · rw [hstart.fld_eq (by decide)]
    exact State.endReported_keeps_irq _ st (by decide) (State.irq_testBit _ (by decide))

/-- A routine that ends with a RESULT that the manual leaves open. -/
theorem State.endOpen_eq (st : Nat) :
    s.endOpen st = (s.takeFree 32).2.endRoutine st (s.takeFree 32).1 := rfl

/-- The end of a routine changes nothing of the flash but the sequencer, and nothing of the planes. -/
theorem State.endOpen_keeps (st : Nat) : (s.endOpen st).fls.dir = s.fls.dir ∧ (s.endOpen st).fls.mem = s.fls.mem ∧
    (s.endOpen st).cfg = s.cfg := by
  rw [State.endOpen_eq]
  cases hrun : (s.takeFree 32).2.fls.run with
  | none => rw [State.endRoutine, hrun]; exact ⟨rfl, rfl, rfl⟩
  | some r =>
    obtain ⟨hchanges, -, q, ru, hfls, -⟩ := State.endRoutine_spec _ hrun st (s.takeFree 32).1
    rw [hfls]
    refine ⟨rfl, rfl, ?_⟩
    exact show (State.blank _ [.fls, .msi]).cfg = ((s.takeFree 32).2.blank [.fls, .msi]).cfg by rw [hchanges.1]

end

section
variable {s v : State} {r : Run}

/-- R270: a routine whose requests stand as they were posts its completion as it ends. -/
theorem State.endRoutine_posts (hrun : s.fls.run = some r) (hseq : v.seqOf = s.seqOf) {st res : Nat} (hst : st < 256)
    {P : Nat → Prop} (hres : P (res % 2 ^ 32)) : s.posts (v.endRoutine st res) r st P := by
  obtain ⟨hqueue, hrest⟩ := Prod.mk.inj hseq
  obtain ⟨hcpls, hreq⟩ := Prod.mk.inj hrest
  rw [hrun] at hreq
  obtain ⟨q, hq, hqreq⟩ := Option.map_eq_some_iff.mp hreq
  obtain ⟨-, hirq, queue, ru, hfls, hempty⟩ := v.endRoutine_spec hq st res
  refine ⟨⟨_, hres, ?_⟩, hirq, fun h => ?_⟩
  · rw [hfls, ← hcpls, ← hqreq, Nat.mod_eq_of_lt hst]
  · rw [hfls]
    exact hempty (hqueue.trans h)

theorem State.endOpen_posts (hrun : s.fls.run = some r) (hseq : v.seqOf = s.seqOf) {st : Nat} (hst : st < 256) :
    s.posts (v.endOpen st) r st anyResult :=
  State.endRoutine_posts (v := (v.takeFree 32).2) (res := (v.takeFree 32).1) hrun hseq hst trivial

end

/-! ## A chunk that a routine asks for (R251 step 1) -/

section
variable {s v : State} {r : Run} {t slot n : Nat}

theorem State.askChunk_asks (hrun : v.fls.run = some r) (hcpls : v.fls.cpls = s.fls.cpls) :
    s.asksChunk (v.askChunk t slot n) r slot n := by
  refine ⟨?_, ?_, ?_, ⟨r.warn, ?_⟩, State.irq_testBit _ (by decide), ?_⟩
  · rw [State.askChunk, State.fld_irq_ne _ _ _ _ _ (by decide), State.updFls_fld, State.updCfg_fld,
      State.fld_setFld_ne _ _ _ _ _ _ (by decide), State.fld_setFld_ne _ _ _ _ _ _ (by decide), State.fld_setFld_same]
    rfl
  · rw [State.askChunk, State.fld_irq_ne _ _ _ _ _ (by decide), State.updFls_fld, State.updCfg_fld,
      State.fld_setFld_ne _ _ _ _ _ _ (by decide), State.fld_setFld_same]
  · rw [State.askChunk, State.fld_irq_ne _ _ _ _ _ (by decide), State.updFls_fld, State.updCfg_fld, State.fld_setFld_same]
  · rw [State.askChunk, State.irq_fls]
    exact congrArg (Option.map _) hrun
  · rw [State.askChunk, State.irq_fls]
    exact hcpls

theorem State.askChunk_keeps : (v.askChunk t slot n).fls.dir = v.fls.dir ∧ (v.askChunk t slot n).fls.mem = v.fls.mem := by
  rw [State.askChunk, State.irq_fls]
  exact ⟨rfl, rfl⟩

end

end Sys2Proof.Machine

/-! # Images: how they are checked, installed, selected and loaded (R244 to R255) -/

namespace Sys2Proof.Machine

/-! ## Values of an image's header (R244, R247) -/

section
variable (s : State)

theorem State.bytesOk_imageBytes (slot len : Nat) : bytesOk (s.imageBytes slot len) := by
  intro b hb
  obtain ⟨i, -, rfl⟩ := List.mem_map.mp hb
  exact BitVec.isLt (SMap.get (0xFF : Byte) s.fls.mem _)

theorem State.headStatus_lt (bs : List Nat) : s.headStatus bs < 256 := by
  unfold State.headStatus
  split
  · decide
  · split <;> decide

theorem State.loadStatus_lt (bs : List Nat) (badHead bad : Bool) : s.loadStatus bs badHead bad < 256 := by
  unfold State.loadStatus
  split
  · decide
  split
  · exact s.headStatus_lt bs
  split
  · decide
  split
  · decide
  split <;> decide

/-- R276: where no sector is uncorrectable, none of an image is. -/
theorem State.badSectors_none {env : FlashEnv} (h : env.unc = []) (slot len : Nat) :
    s.badSectors env slot len = (false, false) := by
  simp only [State.badSectors, h, List.any_nil, Prod.mk.injEq, true_and]
  exact List.any_eq_false.mpr fun _ _ => Bool.false_ne_true

end

/-! ## Entries of a directory that stands -/

section
variable {s u : State}

theorem State.newestEntry_congr (h : u.fls.dir = s.fls.dir) : u.newestEntry = s.newestEntry := by
  funext k
  rw [State.newestEntry, State.newestEntry, State.entries, State.entries, h]

theorem State.slotImage_congr (h : u.fls.dir = s.fls.dir) : u.slotImage = s.slotImage := by
  funext k
  rw [State.slotImage, State.slotImage, State.newestEntry_congr h]

end

/-! ## What the work on a block leaves of the sequencer (R252, R277, R279, R280) -/

section
variable (s : State) (env : FlashEnv)

theorem State.pendGone_seqOf (was : State) : (State.pendGone was s).seqOf = s.seqOf := by
  unfold State.pendGone
  split
  · exact s.irq_seqOf _ _
  · rfl

theorem State.poolCheck_seqOf : s.poolCheck.seqOf = s.seqOf := by
  unfold State.poolCheck
  split
  · exact s.err_seqOf _ _
  · rfl

theorem State.mapTo_seqOf (b p : Nat) : (s.mapTo b p).seqOf = s.seqOf := rfl

/-- What is noted of a retired block leaves the requests. -/
theorem State.retireNoted_seqOf (p : Nat) (x : BadEnt) : (((s.updFls fun f => blankBlock f p).updFls fun f =>
    { f with bad := f.bad ++ [x] }).journal 1).seqOf = s.seqOf := rfl

theorem State.retireBlock_seqOf (b p : Nat) : (s.retireBlock b p).1.seqOf = s.seqOf := by
  unfold State.retireBlock
  dsimp only
  rw [State.poolCheck_seqOf, State.log_seqOf, State.contained_seqOf, State.err_seqOf]
  split
  · exact (State.mapTo_seqOf _ _ _).trans (s.retireNoted_seqOf _ _)
  · exact s.retireNoted_seqOf _ _

theorem State.erase_seqOf (b : Nat) : (s.erase env b).1.seqOf = s.seqOf := by
  unfold State.erase
  dsimp only
  split
  · rw [State.pendGone_seqOf, State.retireBlock_seqOf]
    rfl
  split
  · rw [State.err_seqOf, State.pendGone_seqOf]
    rfl
  split
  · rw [State.err_seqOf, State.pendGone_seqOf]
    rfl
  · rw [State.pendGone_seqOf]
    rfl

theorem State.programPage_seqOf (pg : Nat) (data : List Nat) (ok : Bool) : (s.programPage pg data ok).seqOf = s.seqOf := rfl

theorem State.program_seqOf (bad : List Nat) (p first : Nat) (pages : List (List Nat)) (n : Nat) :
    (s.program bad p first pages n).1.seqOf = s.seqOf := by
  induction pages generalizing s n with
  | nil => rfl
  | cons d ds ih =>
    rw [State.program]
    split
    · rfl
    dsimp only
    split
    · exact s.programPage_seqOf _ d false
    · exact (ih _ _).trans (s.programPage_seqOf _ d true)

/-- What an install gathers of warnings leaves its request. -/
theorem State.warned_seqOf (w : Nat) : (s.updFls fun f => { f with run := f.run.map fun r =>
    { r with warn := r.warn ||| w } }).seqOf = s.seqOf := by
  simp only [State.seqOf, State.updFls_fls, Option.map_map]
  rfl

theorem State.installBlock_seqOf (slot len n : Nat) : (s.installBlock env slot len n).1.seqOf = s.seqOf := by
  generalize hout : s.installBlock env slot len n = out
  unfold State.installBlock at hout
  extract_lets b at hout
  have herase := s.erase_seqOf env b
  generalize s.erase env b = erased at herase hout
  split at hout
  next u st pulses replaced =>
  split at hout
  · subst hout
    exact herase
  extract_lets bytes p at hout
  have hprogram := (u.program_seqOf env.progBad p 0 (pagesOfData bytes) 0).trans herase
  generalize u.program env.progBad p 0 (pagesOfData bytes) 0 = programmed at hprogram hout
  split at hout
  split at hout
  · subst hout
    exact hprogram
  extract_lets m weak at hout
  split at hout
  · subst hout
    exact hprogram
  next v w _ =>
  subst hout
  refine (State.warned_seqOf v w).trans ?_
  unfold v
  split
  · exact (State.err_seqOf _ _ _).trans hprogram
  · exact hprogram

theorem State.installBlocks_seqOf (slot len : Nat) (ns : List Nat) : (s.installBlocks env slot len ns).1.seqOf = s.seqOf := by
  induction ns generalizing s with
  | nil => rfl
  | cons n ns ih =>
    have hblock := s.installBlock_seqOf env slot len n
    rw [State.installBlocks]
    generalize s.installBlock env slot len n = done at hblock ⊢
    obtain ⟨u, st⟩ := done
    cases st with
    | some st => exact hblock
    | none => exact (ih u).trans hblock

end

/-! ## The entries that IMG_INSTALL writes (R252) -/

section
variable (s : State)

/-- R252 step 3: the entry that empties a slot. -/
def State.emptyEntry (s : State) (slot : Nat) : DirEnt := ⟨s.nextSeq, slot, false, 0, 0, 0, 0⟩

theorem State.emptyEntry_fits {slot : Nat} (h : slot < 8) : (s.emptyEntry slot).Fits where
  seq := s.nextSeq_lt
  slot := Nat.lt_of_lt_of_le h (by decide)
  typ := Nat.pow_pos (by decide)
  length := Nat.pow_pos (by decide)
  digest := Nat.pow_pos (by decide)
  ver := Nat.pow_pos (by decide)

/-- R252 step 6: the entry of an image that has been installed. -/
def State.imageEntry (s : State) (slot len : Nat) : DirEnt :=
  let bs := s.imageBytes slot len
  ⟨s.nextSeq, slot, true, imgType bs, len, imgDigest bs, imgVer bs⟩

theorem State.imageEntry_fits {slot len : Nat} (h : slot < 8) (hlen : len < 2 ^ 32) : (s.imageEntry slot len).Fits where
  seq := s.nextSeq_lt
  slot := Nat.lt_of_lt_of_le h (by decide)
  typ := leNum_slice_lt (s.bytesOk_imageBytes slot len) 6 1
  length := Nat.lt_of_lt_of_le hlen (by decide)
  digest := beNum_slice_lt (s.bytesOk_imageBytes slot len) 0x40 32
  ver := leNum_slice_lt (s.bytesOk_imageBytes slot len) 16 4

/-- R252 step 2: a chunk 0 whose header fails its checks ends the install, -/
theorem State.installHead_bad {slot len : Nat} (h : s.headStatus (s.bufBytes 0 512) ≠ stOK) :
    s.installHead slot len = (s, some (s.headStatus (s.bufBytes 0 512))) := if_pos h

/-- and one that passes them empties the slot. -/
theorem State.installHead_good {slot len : Nat} (h : s.headStatus (s.bufBytes 0 512) = stOK)
    (hlen : imgLength (s.bufBytes 0 512) = len) (htyp : typeFits slot (imgType (s.bufBytes 0 512)) = true) :
    s.installHead slot len = (s.addEntryDir (s.emptyEntry slot), none) := by
  have hfits : ¬ (imgLength (s.bufBytes 0 512) ≠ len ∨ (!typeFits slot (imgType (s.bufBytes 0 512))) = true) := by
    rw [htyp]
    rintro (hne | hne)
    · exact hne hlen
    · cases hne
  exact (if_neg (not_not.mpr h)).trans (if_neg hfits)

/-- R252 step 6: the end of an install whose image checks, -/
theorem State.installEnd_good {env : FlashEnv} {slot len : Nat} (warn : Nat) (hbad : s.badSectors env slot len = (false, false))
    (h : s.bodyStatus (s.imageBytes slot len) false = stOK) :
    ∃ st, s.installEnd env slot len warn = (s.addEntryDir (s.imageEntry slot len)).endOpen st := by
  rw [State.installEnd, hbad]
  exact ⟨_, if_neg (not_not.mpr h)⟩

/-- and of one whose image does not. -/
theorem State.installEnd_bad {env : FlashEnv} {slot len : Nat} (warn : Nat) (hbad : s.badSectors env slot len = (false, false))
    (h : s.bodyStatus (s.imageBytes slot len) false ≠ stOK) : s.installEnd env slot len warn = s.endOpen stSIGFAIL := by
  rw [State.installEnd, hbad]
  exact if_pos h

end

/-! ## IMG_INSTALL (R251, R252) -/

section
variable {s : State} {t : Time} {env : FlashEnv} {r : Run}

theorem exec_imgInstall_refused (h : s.runs t 0x10 0 r) (hargs : s.installArgs (r.arg 0) (r.arg 1) = false) :
    exec (.imgInstall t env) s = .next ((s.at_ t).endOpen stBADARG) := by
  have hscrap := State.runs_inScrap h
  have hstep : r.step = 0 := h.2.2.1
  have hargs' : (s.at_ t).installArgs (r.arg 0) (r.arg 1) = false := hargs
  show Host.Outcome.next (s.routine t 0x10 _) = _
  rw [State.routine_runs _ h (by decide)]
  dsimp only
  rw [if_pos hstep, hscrap, hargs']
  rfl

theorem exec_imgInstall_asks (h : s.runs t 0x10 0 r) (hargs : s.installArgs (r.arg 0) (r.arg 1) = true)
    (hblocks : ∀ b ∈ imageBlocks (r.arg 0) (r.arg 1), s.protectedBlock b = false ∧ s.retiredBlock b = false) :
    exec (.imgInstall t env) s = .next ((s.at_ t).askChunk (s.at_ t).time (r.arg 0) 0) := by
  have hscrap := State.runs_inScrap h
  have hstep : r.step = 0 := h.2.2.1
  have hargs' : (s.at_ t).installArgs (r.arg 0) (r.arg 1) = true := hargs
  have hprotected : (imageBlocks (r.arg 0) (r.arg 1)).any (s.at_ t).protectedBlock = false :=
    List.any_eq_false.mpr fun b hb => Bool.eq_false_iff.mp (hblocks b hb).1
  have hretired : (imageBlocks (r.arg 0) (r.arg 1)).any (s.at_ t).retiredBlock = false :=
    List.any_eq_false.mpr fun b hb => Bool.eq_false_iff.mp (hblocks b hb).2
  show Host.Outcome.next (s.routine t 0x10 _) = _
  rw [State.routine_runs _ h (by decide)]
  dsimp only
  rw [if_pos hstep, hscrap, hargs', hprotected, hretired]
  rfl

/-- R252: an install that takes chunk 0 judges its header first. -/
def State.headTaken (s : State) (r : Run) : State × Option Nat :=
  if r.chunk = 0 then s.installHead (r.arg 0) (r.arg 1) else (s, none)

theorem exec_imgInstall_head {v : State} {st : Nat} (h : s.runs t 0x10 2 r) (hhead : (s.at_ t).headTaken r = (v, some st)) :
    exec (.imgInstall t env) s = .next (v.endOpen st) := by
  have hstep : ¬ r.step = 0 := by rw [h.2.2.1]; decide
  unfold State.headTaken at hhead
  show Host.Outcome.next (s.routine t 0x10 _) = _
  rw [State.routine_runs _ h (by decide)]
  dsimp only
  rw [if_neg hstep, hhead]

theorem exec_imgInstall_next {v : State} (h : s.runs t 0x10 2 r) (hhead : (s.at_ t).headTaken r = (v, none))
    (hlast : r.chunk + 1 ≠ chunkCount (r.arg 1)) (hgroup : r.chunk % 4 ≠ 3) :
    exec (.imgInstall t env) s = .next (v.askChunk v.time (r.arg 0) (r.chunk + 1)) := by
  have hstep : ¬ r.step = 0 := by rw [h.2.2.1]; decide
  unfold State.headTaken at hhead
  show Host.Outcome.next (s.routine t 0x10 _) = _
  rw [State.routine_runs _ h (by decide)]
  dsimp only
  rw [if_neg hstep, hhead, decide_eq_false hlast, decide_eq_false hgroup]
  rfl

theorem exec_imgInstall_last {w v : State} (h : s.runs t 0x10 2 r) (hhead : (s.at_ t).headTaken r = (w, none))
    (hlast : r.chunk + 1 = chunkCount (r.arg 1))
    (hblocks : w.installBlocks env (r.arg 0) (r.arg 1) (groupChunks r.chunk) = (v, none)) :
    ∃ warn, exec (.imgInstall t env) s = .next (v.installEnd env (r.arg 0) (r.arg 1) warn) := by
  have hstep : ¬ r.step = 0 := by rw [h.2.2.1]; decide
  unfold State.headTaken at hhead
  refine ⟨(v.fls.run.map (·.warn)).getD 0, ?_⟩
  show Host.Outcome.next (s.routine t 0x10 _) = _
  rw [State.routine_runs _ h (by decide)]
  dsimp only
  rw [if_neg hstep, hhead, decide_eq_true hlast]
  dsimp only
  rw [if_pos (Bool.true_or _), hblocks]
  rfl

theorem imgInstall_refused (h : s.runs t 0x10 0 r) (hargs : s.installArgs (r.arg 0) (r.arg 1) = false) :
    Completes (.imgInstall t env) s fun u => s.posts u r stBADARG anyResult ∧ u.fls.dir = s.fls.dir ∧ u.fls.mem = s.fls.mem := by
  obtain ⟨hdir, hmem, -⟩ := (s.at_ t).endOpen_keeps stBADARG
  exact ⟨_, exec_imgInstall_refused h hargs, State.endOpen_posts (v := s.at_ t) h.1 rfl (by decide), hdir, hmem⟩

theorem imgInstall_asks (h : s.runs t 0x10 0 r) (hargs : s.installArgs (r.arg 0) (r.arg 1) = true)
    (hblocks : ∀ b ∈ imageBlocks (r.arg 0) (r.arg 1), s.protectedBlock b = false ∧ s.retiredBlock b = false) :
    Completes (.imgInstall t env) s fun u => s.asksChunk u r (r.arg 0) 0 ∧ u.fls.dir = s.fls.dir ∧ u.fls.mem = s.fls.mem := by
  obtain ⟨hdir, hmem⟩ := State.askChunk_keeps (v := s.at_ t) (t := (s.at_ t).time) (slot := r.arg 0) (n := 0)
  exact ⟨_, exec_imgInstall_asks h hargs hblocks, State.askChunk_asks h.1 rfl, hdir, hmem⟩

theorem State.headTaken_first (hchunk : r.chunk = 0) : s.headTaken r = s.installHead (r.arg 0) (r.arg 1) := if_pos hchunk

theorem imgInstall_badHead (h : s.runs t 0x10 2 r) (hchunk : r.chunk = 0) (hhead : s.headStatus (s.bufBytes 0 512) ≠ stOK) :
    Completes (.imgInstall t env) s fun u => s.posts u r (s.headStatus (s.bufBytes 0 512)) anyResult ∧
      u.fls.dir = s.fls.dir ∧ u.fls.mem = s.fls.mem := by
  obtain ⟨hdir, hmem, -⟩ := (s.at_ t).endOpen_keeps (s.headStatus (s.bufBytes 0 512))
  refine ⟨_, exec_imgInstall_head h ((State.headTaken_first hchunk).trans ((s.at_ t).installHead_bad hhead)), ?_, hdir, hmem⟩
  exact State.endOpen_posts (v := s.at_ t) h.1 rfl (s.headStatus_lt _)

theorem imgInstall_empties (h : s.runs t 0x10 2 r) (hchunk : r.chunk = 0) (hslot : r.arg 0 < 8)
    (hhead : s.headStatus (s.bufBytes 0 512) = stOK) (hlen : imgLength (s.bufBytes 0 512) = r.arg 1)
    (htyp : typeFits (r.arg 0) (imgType (s.bufBytes 0 512)) = true) (hmore : 1 < chunkCount (r.arg 1)) :
    Completes (.imgInstall t env) s fun u => s.asksChunk u r (r.arg 0) 1 ∧ u.slotImage (r.arg 0) = none ∧
      (∀ k, k ≠ r.arg 0 → u.newestEntry k = s.newestEntry k) ∧ u.fls.mem = s.fls.mem := by
  let e := (s.at_ t).emptyEntry (r.arg 0)
  let v := (s.at_ t).addEntryDir e
  have hfits : e.Fits := (s.at_ t).emptyEntry_fits hslot
  have htaken : (s.at_ t).headTaken r = (v, none) :=
    (State.headTaken_first hchunk).trans ((s.at_ t).installHead_good hhead hlen htyp)
  obtain ⟨hdir, hmem⟩ := State.askChunk_keeps (v := v) (t := v.time) (slot := r.arg 0) (n := 1)
  have hnext := exec_imgInstall_next (env := env) h htaken (by omega) (by omega)
  rw [hchunk, Nat.zero_add] at hnext
  refine ⟨_, hnext, State.askChunk_asks h.1 rfl, ?_, fun k hk => ?_, hmem⟩
  · rw [State.slotImage_congr hdir]
    exact (s.at_ t).slotImage_addEntryDir e hfits
  · rw [State.newestEntry_congr hdir]
    exact (s.at_ t).newestEntry_addEntryDir_ne e hfits hk

theorem imgInstall_ends {v : State} (h : s.runs t 0x10 2 r) (hlast : r.chunk + 1 = chunkCount (r.arg 1)) (hslot : r.arg 0 < 8)
    (hlen : r.arg 1 < 2 ^ 32) (hhead : r.chunk = 0 → s.headStatus (s.bufBytes 0 512) = stOK ∧
      imgLength (s.bufBytes 0 512) = r.arg 1 ∧ typeFits (r.arg 0) (imgType (s.bufBytes 0 512)) = true)
    (hblocks : (if r.chunk = 0 then ((s.at_ t).installHead (r.arg 0) (r.arg 1)).1 else s.at_ t).installBlocks env (r.arg 0)
      (r.arg 1) (groupChunks r.chunk) = (v, none)) (hbad : v.badSectors env (r.arg 0) (r.arg 1) = (false, false)) :
    Completes (.imgInstall t env) s fun u => u.fls.mem = v.fls.mem ∧
      if v.bodyStatus (v.imageBytes (r.arg 0) (r.arg 1)) false = stOK then
        ∃ e, u.slotImage (r.arg 0) = some e ∧ e.seq = v.nextSeq ∧ e.length = r.arg 1 ∧
          e.digest = imgDigest (v.imageBytes (r.arg 0) (r.arg 1)) ∧ e.typ = imgType (v.imageBytes (r.arg 0) (r.arg 1))
      else s.posts u r stSIGFAIL anyResult ∧ u.fls.dir = v.fls.dir := by
  obtain ⟨w, hw, hwseq, htaken⟩ : ∃ w, (if r.chunk = 0 then ((s.at_ t).installHead (r.arg 0) (r.arg 1)).1 else s.at_ t) = w ∧
      w.seqOf = s.seqOf ∧ (s.at_ t).headTaken r = (w, none) := by
    unfold State.headTaken
    split
    · next hchunk =>
      obtain ⟨hstatus, hfits, htyp⟩ := hhead hchunk
      rw [(s.at_ t).installHead_good hstatus hfits htyp]
      exact ⟨_, rfl, rfl, rfl⟩
    · exact ⟨_, rfl, rfl, rfl⟩
  rw [hw] at hblocks
  have hseq : v.seqOf = s.seqOf := by
    have hv := w.installBlocks_seqOf env (r.arg 0) (r.arg 1) (groupChunks r.chunk)
    rw [hblocks] at hv
    exact hv.trans hwseq
  obtain ⟨warn, hexec⟩ := exec_imgInstall_last h htaken hlast hblocks
  by_cases hbody : v.bodyStatus (v.imageBytes (r.arg 0) (r.arg 1)) false = stOK
  · obtain ⟨st, hend⟩ := v.installEnd_good warn hbad hbody
    obtain ⟨hdir, hmem, -⟩ := (v.addEntryDir (v.imageEntry (r.arg 0) (r.arg 1))).endOpen_keeps st
    refine ⟨_, hexec.trans (congrArg _ hend), hmem, ?_⟩
    rw [if_pos hbody, State.slotImage_congr hdir]
    exact ⟨_, v.slotImage_addEntryDir _ (v.imageEntry_fits hslot hlen), rfl, rfl, rfl, rfl⟩
  · obtain ⟨hdir, hmem, -⟩ := v.endOpen_keeps stSIGFAIL
    refine ⟨_, hexec.trans (congrArg _ (v.installEnd_bad warn hbad hbody)), hmem, ?_⟩
    rw [if_neg hbody]
    exact ⟨State.endOpen_posts h.1 hseq (by decide), hdir⟩

end

/-! ## IMG_SELECT (R253) -/

section
variable {s : State} {t : Time} {env : FlashEnv} {r : Run}

theorem exec_imgSelect_none (h : s.runs t 0x11 0 r) (hnone : s.slotImage (r.arg 0) = none) :
    exec (.imgSelect t env) s = .next ((s.at_ t).endOpen stBADARG) := by
  have hscrap := State.runs_inScrap h
  have hnone' : (s.at_ t).slotImage (r.arg 0) = none := hnone
  show Host.Outcome.next (s.routine t 0x11 _) = _
  rw [State.routine_runs _ h (by decide)]
  simp only [hscrap, hnone', Bool.false_eq_true, if_false, Option.filter_none]

/-- R253: a select of a factory image that may be used checks the whole of it. -/
theorem exec_imgSelect_judges {e : DirEnt} (h : s.runs t 0x11 0 r) (he : s.slotImage (r.arg 0) = some e) (hslot : r.arg 0 < 4)
    (htyp : e.typ = 1) (hstop : s.imageStop (r.arg 0) e.length = none)
    (hclass : classOk s.pwr.lcs (s.imageBytes (r.arg 0) e.length) = true) (hunc : env.unc = []) :
    exec (.imgSelect t env) s =
      .next (if (s.at_ t).bodyStatus ((s.at_ t).imageBytes (r.arg 0) e.length) false ≠ stOK then (s.at_ t).endOpen stSIGFAIL
        else ((s.at_ t).addEntryDir { e with seq := (s.at_ t).nextSeq }).endOpen stOK) := by
  have hscrap := State.runs_inScrap h
  have he' : ((s.at_ t).slotImage (r.arg 0)).filter (fun e => decide (r.arg 0 < 4 ∧ e.typ = 1)) = some e := by
    rw [show (s.at_ t).slotImage (r.arg 0) = some e from he, Option.filter_some, decide_eq_true ⟨hslot, htyp⟩]
    rfl
  have hstop' : (s.at_ t).imageStop (r.arg 0) e.length = none := hstop
  have hclass' : classOk (s.at_ t).pwr.lcs ((s.at_ t).imageBytes (r.arg 0) e.length) = true := hclass
  refine congrArg Host.Outcome.next ((State.routine_runs _ h (by decide)).trans ?_)
  -- the kernel is kept from evaluating `imageStop`
  obtain ⟨stops, hstops⟩ := exists_eq' (a' := (s.at_ t).imageStop)
  rw [hstops] at hstop' ⊢
  simp only [hscrap, he', hstop', (s.at_ t).badSectors_none hunc, hclass', Bool.false_eq_true, if_false, Bool.not_true,
    Bool.or_self]

theorem imgSelect_none (h : s.runs t 0x11 0 r) (hnone : s.slotImage (r.arg 0) = none) :
    Completes (.imgSelect t env) s fun u => s.posts u r stBADARG anyResult ∧ u.fls.dir = s.fls.dir := by
  obtain ⟨hdir, -, -⟩ := (s.at_ t).endOpen_keeps stBADARG
  exact ⟨_, exec_imgSelect_none h hnone, State.endOpen_posts (v := s.at_ t) h.1 rfl (by decide), hdir⟩

section
variable {e : DirEnt} (h : s.runs t 0x11 0 r) (he : s.slotImage (r.arg 0) = some e) (hslot : r.arg 0 < 4)
  (htyp : e.typ = 1) (hstop : s.imageStop (r.arg 0) e.length = none)
  (hclass : classOk s.pwr.lcs (s.imageBytes (r.arg 0) e.length) = true) (hunc : env.unc = [])
include h he hslot htyp hstop hclass hunc

theorem imgSelect_selects (hat : e.slot = r.arg 0) (hbody : s.bodyStatus (s.imageBytes (r.arg 0) e.length) false = stOK) :
    Completes (.imgSelect t env) s fun u => s.posts u r stOK anyResult ∧
      u.slotImage (r.arg 0) = some { e with seq := s.nextSeq } ∧
      (∀ k, k ≠ r.arg 0 → u.newestEntry k = s.newestEntry k) := by
  have hbody' : (s.at_ t).bodyStatus ((s.at_ t).imageBytes (r.arg 0) e.length) false = stOK := hbody
  let f : DirEnt := { e with seq := (s.at_ t).nextSeq }
  obtain ⟨hfits, himage⟩ := s.slotImage_fits e he
  have hf : f.Fits := { hfits with seq := s.nextSeq_lt }
  obtain ⟨hdir, -, -⟩ := ((s.at_ t).addEntryDir f).endOpen_keeps stOK
  refine ⟨_, (exec_imgSelect_judges h he hslot htyp hstop hclass hunc).trans (congrArg _ (if_neg (not_not.mpr hbody'))),
    State.endOpen_posts (v := (s.at_ t).addEntryDir f) h.1 rfl (by decide), ?_, fun k hk => ?_⟩
  · rw [State.slotImage_congr hdir, ← hat]
    exact ((s.at_ t).slotImage_addEntryDir f hf).trans (if_pos himage)
  · rw [State.newestEntry_congr hdir]
    exact (s.at_ t).newestEntry_addEntryDir_ne f hf (hat ▸ hk)

theorem imgSelect_bad (hbody : s.bodyStatus (s.imageBytes (r.arg 0) e.length) false ≠ stOK) :
    Completes (.imgSelect t env) s fun u => s.posts u r stSIGFAIL anyResult ∧ u.fls.dir = s.fls.dir := by
  have hbody' : (s.at_ t).bodyStatus ((s.at_ t).imageBytes (r.arg 0) e.length) false ≠ stOK := hbody
  obtain ⟨hdir, -, -⟩ := (s.at_ t).endOpen_keeps stSIGFAIL
  exact ⟨_, (exec_imgSelect_judges h he hslot htyp hstop hclass hunc).trans (congrArg _ (if_pos hbody')),
    State.endOpen_posts (v := s.at_ t) h.1 rfl (by decide), hdir⟩

end

end

/-! ## Planes that a load writes (R155, R254) -/

section
variable (s : State) {α : Type}

theorem State.voile_setVoile (k : Nat) (p : Plane) (n : Nat) :
    (s.setVoile k p).voile n = if n = k then p else s.voile n := by
  by_cases h : n = k
  · rw [if_pos h, h]
    exact SMap.get_put_same _ _ _ _
  · rw [if_neg h]
    exact SMap.get_put_ne _ _ _ _ _ _ h

/-- A step of a load writes one Voile plane, and no active plane and nothing of the sequencer. -/
structure WritesPlane (f : State → α → State) (key : α → Nat) (val : State → α → Plane) : Prop where
  voile : ∀ v x n, (f v x).voile n = if n = key x then val v x else v.voile n
  act : ∀ v x, (f v x).cfg.act = v.cfg.act
  fls : ∀ v x, (f v x).fls = v.fls

variable {f : State → α → State} {key : α → Nat} {val : State → α → Plane} (hf : WritesPlane f key val)
include hf

theorem WritesPlane.foldl_act (xs : List α) : (xs.foldl f s).cfg.act = s.cfg.act := by
  induction xs generalizing s with
  | nil => rfl
  | cons x xs ih => exact (ih _).trans (hf.act s x)

theorem WritesPlane.foldl_fls (xs : List α) : (xs.foldl f s).fls = s.fls := by
  induction xs generalizing s with
  | nil => rfl
  | cons x xs ih => exact (ih _).trans (hf.fls s x)

theorem WritesPlane.foldl_absent (xs : List α) {n : Nat} (h : n ∉ xs.map key) : (xs.foldl f s).voile n = s.voile n := by
  induction xs generalizing s with
  | nil => rfl
  | cons x xs ih =>
    rw [List.map_cons, List.mem_cons, not_or] at h
    exact (ih _ h.2).trans ((hf.voile s x n).trans (if_neg h.1))

/-- What every step writes holds of each plane that some step has written. -/
theorem WritesPlane.foldl_mem {P : Nat → Plane → Prop} (xs : List α) (hP : ∀ v, ∀ x ∈ xs, P (key x) (val v x)) {n : Nat}
    (hn : n ∈ xs.map key) : P n ((xs.foldl f s).voile n) := by
  induction xs generalizing s with
  | nil => cases hn
  | cons x xs ih =>
    by_cases hrest : n ∈ xs.map key
    · exact ih _ (fun v y hy => hP v y (List.mem_cons_of_mem _ hy)) hrest
    · obtain rfl | hmem := List.mem_cons.mp hn
      · rw [List.foldl_cons, hf.foldl_absent _ xs hrest, hf.voile, if_pos rfl]
        exact hP s x List.mem_cons_self
      · exact absurd hmem hrest

end

section
variable {s : State}

/-- R254: planes that become LOADING. -/
theorem startLoad_writes (typ : Nat) : WritesPlane
    (fun (s : State) (x : Nat × Nat) =>
      let s := s.setVoile x.1 { s.voile x.1 with state := 1 }
      if typ = 1 ∧ (s.region x.1).state = 0 then s.setRegion x.1 ⟨1, 1⟩ else s)
    (·.1) (fun s x => { s.voile x.1 with state := 1 }) where
  voile v x n := by
    dsimp only
    split
    · exact v.voile_setVoile _ _ n
    · exact v.voile_setVoile _ _ n
  act v x := by dsimp only; split <;> rfl
  fls v x := by dsimp only; split <;> rfl

/-- R155: planes that a load leaves EMPTY as it fails. -/
theorem failLoad_writes (typ : Nat) : WritesPlane
    (fun (s : State) (x : Nat × Nat × Nat) =>
      let s := s.setVoile x.1 Plane.empty
      if typ = 1 ∧ (s.region x.1).state = 1 then s.setRegion x.1 RgnAlloc.free else s)
    (·.1) (fun _ _ => Plane.empty) where
  voile v x n := by
    dsimp only
    split
    · exact v.voile_setVoile _ _ n
    · exact v.voile_setVoile _ _ n
  act v x := by dsimp only; split <;> rfl
  fls v x := by dsimp only; split <;> rfl

/-- R254: planes set one after the other. -/
theorem setVoile_writes {α : Type} (key : α → Nat) (val : α → Plane) :
    WritesPlane (fun s x => s.setVoile (key x) (val x)) key (fun _ x => val x) where
  voile v _ n := v.voile_setVoile _ _ n
  act _ _ := rfl
  fls _ _ := rfl

/-- R254: the planes as a load ends. -/
def State.planesLoaded (s : State) (bs : List Nat) (slot : Nat) (rs : List (Nat × Nat × Nat)) : State :=
  (rs.filter fun x => !s.stillOwn x).foldl (fun s x => s.setVoile x.1 Plane.empty)
    ((rs.filter s.stillOwn).foldl (fun s x => s.setVoile x.1 (planeOf bs slot x.2.1)) s)

theorem State.endLoad_eq (bs : List Nat) (slot : Nat) (rs : List (Nat × Nat × Nat)) : s.endLoad bs slot rs =
    (s.planesLoaded bs slot rs).endOpen (if ∀ x ∈ rs, s.stillOwn x = true then stOK else stBADARG) := by
  have hgone : (rs.filter fun x => !s.stillOwn x).isEmpty = true ↔ ∀ x ∈ rs, s.stillOwn x = true := by
    rw [List.isEmpty_iff, List.filter_eq_nil_iff]
    simp
  rw [State.endLoad]
  exact congrArg _ (if_congr hgone rfl rfl)

theorem State.planesLoaded_keeps (bs : List Nat) (slot : Nat) (rs : List (Nat × Nat × Nat)) :
    (s.planesLoaded bs slot rs).fls = s.fls ∧ (s.planesLoaded bs slot rs).cfg.act = s.cfg.act := by
  have hset := setVoile_writes (fun x : Nat × Nat × Nat => x.1) fun x => planeOf bs slot x.2.1
  have hclear := setVoile_writes (fun x : Nat × Nat × Nat => x.1) fun _ => Plane.empty
  exact ⟨(hclear.foldl_fls _ _).trans (hset.foldl_fls _ _), (hclear.foldl_act _ _).trans (hset.foldl_act _ _)⟩

/-- R254: each plane takes its section where its region is still its allocation's, and is EMPTY where not. -/
theorem State.planesLoaded_voile (bs : List Nat) (slot : Nat) {rs : List (Nat × Nat × Nat)} (hnodup : (rs.map (·.1)).Nodup)
    {x : Nat × Nat × Nat} (hx : x ∈ rs) : (s.planesLoaded bs slot rs).voile x.1 =
      if s.stillOwn x then planeOf bs slot x.2.1 else Plane.empty := by
  have hset := setVoile_writes (fun x : Nat × Nat × Nat => x.1) fun x => planeOf bs slot x.2.1
  have hclear := setVoile_writes (fun x : Nat × Nat × Nat => x.1) fun _ => Plane.empty
  have hsame : ∀ y ∈ rs, y.1 = x.1 → y = x := fun y hy => List.inj_on_of_nodup_map hnodup hy hx
  cases hown : s.stillOwn x with
  | true =>
    have habsent : x.1 ∉ (rs.filter fun x => !s.stillOwn x).map (·.1) := fun hmem => by
      obtain ⟨y, hy, hyx⟩ := List.mem_map.mp hmem
      obtain ⟨hmem, hgone⟩ := List.mem_filter.mp hy
      rw [hsame y hmem hyx, hown] at hgone
      cases hgone
    rw [State.planesLoaded, hclear.foldl_absent _ _ habsent, if_pos rfl]
    refine hset.foldl_mem (P := fun n p => n = x.1 → p = planeOf bs slot x.2.1) _ _ (fun _ y hy hyx => ?_)
      (List.mem_map.mpr ⟨x, List.mem_filter.mpr ⟨hx, hown⟩, rfl⟩) rfl
    rw [hsame y (List.mem_filter.mp hy).1 hyx]
  | false =>
    rw [if_neg Bool.false_ne_true]
    exact hclear.foldl_mem (P := fun _ p => p = Plane.empty) _ _ (fun _ _ _ => rfl)
      (List.mem_map.mpr ⟨x, List.mem_filter.mpr ⟨hx, by rw [hown]; rfl⟩, rfl⟩)

theorem State.failLoad_planes (typ : Nat) (rs : List (Nat × Nat × Nat)) : (s.failLoad typ rs).fls = s.fls ∧
    (s.failLoad typ rs).cfg.act = s.cfg.act ∧ ∀ x ∈ rs, (s.failLoad typ rs).voile x.1 = Plane.empty :=
  ⟨(failLoad_writes typ).foldl_fls _ _, (failLoad_writes typ).foldl_act _ _, fun _ hx =>
    (failLoad_writes typ).foldl_mem (P := fun _ p => p = Plane.empty) _ _ (fun _ _ _ => rfl) (List.mem_map_of_mem hx)⟩

theorem State.startLoad_planes {r : Run} (hrun : s.fls.run = some r) (typ : Nat) (rs : List (Nat × Nat)) :
    let u := s.startLoad typ rs
    (∀ x ∈ rs, (u.voile x.1).state = 1) ∧ (∀ n, n ∉ rs.map (·.1) → u.voile n = s.voile n) ∧
    u.fls.run = some { r with step := 2, dest := rs.map fun x => (x.1, x.2, (u.region x.1).id) } ∧
    u.cfg.act = s.cfg.act := by
  have hfls := (startLoad_writes typ).foldl_fls s rs
  refine ⟨fun x hx => ?_, fun n hn => (startLoad_writes typ).foldl_absent s rs hn, ?_, (startLoad_writes typ).foldl_act s rs⟩
  · exact (startLoad_writes typ).foldl_mem (P := fun _ p => p.state = 1) s rs (fun _ _ _ => rfl) (List.mem_map_of_mem hx)
  · exact congrArg (Option.map fun q : Run =>
      { q with step := 2, dest := rs.map fun x : Nat × Nat => (x.1, x.2, ((s.startLoad typ rs).region x.1).id) })
      ((congrArg Fls.run hfls).trans hrun)

end

/-! ## IMG_LOAD (R254) -/

section
variable {s : State} {t : Time} {env : FlashEnv} {r : Run} {e : DirEnt}

theorem filter_slot (he : s.slotImage (r.arg 0) = some e) (hslot : r.arg 0 < 8) :
    ((s.at_ t).slotImage (r.arg 0)).filter (fun _ => decide (r.arg 0 < 8)) = some e := by
  rw [show (s.at_ t).slotImage (r.arg 0) = some e from he, Option.filter_some, decide_eq_true hslot]
  rfl

/-- R254: a load whose image may be read judges it before it writes anything. -/
theorem exec_imgLoad_starts (h : s.runs t 0x12 0 r) (he : s.slotImage (r.arg 0) = some e) (hslot : r.arg 0 < 8)
    (hstop : s.imageStop (r.arg 0) e.length = none) (hunc : env.unc = []) :
    let bs := s.imageBytes (r.arg 0) e.length
    exec (.imgLoad t env) s = .next (if s.loadStatus bs false false ≠ stOK
      then (s.at_ t).endOpen (s.loadStatus bs false false) else (s.at_ t).loadStart r bs) := by
  have hscrap := State.runs_inScrap h
  have hstep : r.step = 0 := h.2.2.1
  have hstop' : (s.at_ t).imageStop (r.arg 0) e.length = none := hstop
  show Host.Outcome.next (s.routine t 0x12 _) = _
  rw [State.routine_runs _ h (by decide)]
  simp only [hscrap, filter_slot he hslot, hstep, hstop', (s.at_ t).badSectors_none hunc, Bool.false_eq_true, if_false, if_true]
  rfl

/-- R254: a load of planes takes its image, or fails with its tag. -/
theorem exec_imgLoad_goesOn (h : s.runs t 0x12 2 r) (he : s.slotImage (r.arg 0) = some e) (hslot : r.arg 0 < 8)
    (hplanes : s.fls.ctxLoad = false) : let bs := (s.at_ t).imageBytes (r.arg 0) e.length
    (∀ d, (s.at_ t).opened bs = some d → exec (.imgLoad t env) s = .next ((s.at_ t).endLoad d (r.arg 0) r.dest)) ∧
    ((s.at_ t).opened bs = none →
      exec (.imgLoad t env) s = .next (((s.at_ t).failLoad (imgType bs) r.dest).endOpen stSIGFAIL)) := by
  dsimp only
  have hscrap := State.runs_inScrap h
  have hstep : ¬ r.step = 0 := by rw [h.2.2.1]; decide
  have hplanes' : (s.at_ t).fls.ctxLoad = false := hplanes
  -- the kernel is kept from evaluating `imageStop` and `opened`
  obtain ⟨stops, hstops⟩ := exists_eq' (a' := (s.at_ t).imageStop)
  obtain ⟨opened, hopened⟩ := exists_eq' (a' := (s.at_ t).opened)
  rw [hopened]
  refine ⟨fun d hd => ?_, fun hnone => ?_⟩
  · refine congrArg Host.Outcome.next ((State.routine_runs _ h (by decide)).trans ?_)
    rw [hstops, hopened]
    simp only [hscrap, filter_slot he hslot, hstep, hplanes', hd, Bool.false_eq_true, if_false]
  · refine congrArg Host.Outcome.next ((State.routine_runs _ h (by decide)).trans ?_)
    rw [hstops, hopened]
    simp only [hscrap, filter_slot he hslot, hstep, hplanes', hnone, Bool.false_eq_true, if_false]

theorem imgLoad_refused (h : s.runs t 0x12 0 r) (he : s.slotImage (r.arg 0) = some e) (hslot : r.arg 0 < 8)
    (hstop : s.imageStop (r.arg 0) e.length = none) (hunc : env.unc = [])
    (hstatus : s.loadStatus (s.imageBytes (r.arg 0) e.length) false false ≠ stOK) : Completes (.imgLoad t env) s fun u =>
      s.posts u r (s.loadStatus (s.imageBytes (r.arg 0) e.length) false false) anyResult ∧ u.cfg.voile = s.cfg.voile := by
  obtain ⟨-, -, hcfg⟩ := (s.at_ t).endOpen_keeps (s.loadStatus (s.imageBytes (r.arg 0) e.length) false false)
  exact ⟨_, (exec_imgLoad_starts h he hslot hstop hunc).trans (congrArg _ (if_pos hstatus)),
    State.endOpen_posts (v := s.at_ t) h.1 rfl (s.loadStatus_lt _ _ _), congrArg Cfg.voile hcfg⟩

/-- R254: a load of planes whose destination is as required starts. -/
theorem State.loadStart_planes {bs : List Nat} {rs : List (Nat × Nat)} (htyp : imgType bs ≤ 2)
    (hrs : s.loadRegions r (imgType bs) (imgK bs) = some rs) (harmed : ∀ x ∈ rs, s.armedRegion x.1 = false) :
    s.loadStart r bs = s.startLoad (imgType bs) rs := by
  have hnone : ¬ (rs.any fun x => s.armedRegion x.1) = true := by
    rw [Bool.not_eq_true]
    exact List.any_eq_false.mpr fun x hx => Bool.eq_false_iff.mp (harmed x hx)
  rw [State.loadStart]
  dsimp only
  rw [if_pos htyp, hrs]
  exact if_neg hnone

theorem imgLoad_starts {rs : List (Nat × Nat)} (h : s.runs t 0x12 0 r) (he : s.slotImage (r.arg 0) = some e)
    (hslot : r.arg 0 < 8) (hstop : s.imageStop (r.arg 0) e.length = none) (hunc : env.unc = [])
    (hstatus : s.loadStatus (s.imageBytes (r.arg 0) e.length) false false = stOK)
    (htyp : imgType (s.imageBytes (r.arg 0) e.length) ≤ 2)
    (hrs : s.loadRegions r (imgType (s.imageBytes (r.arg 0) e.length)) (imgK (s.imageBytes (r.arg 0) e.length)) = some rs)
    (harmed : ∀ x ∈ rs, s.armedRegion x.1 = false) : Completes (.imgLoad t env) s fun u =>
      (∀ x ∈ rs, (u.voile x.1).state = 1) ∧ (∀ n, n ∉ rs.map (·.1) → u.voile n = s.voile n) ∧
      u.fls.run = some { r with step := 2, dest := rs.map fun x => (x.1, x.2, (u.region x.1).id) } ∧
      u.cfg.act = s.cfg.act := by
  have hload : (s.at_ t).loadStart r (s.imageBytes (r.arg 0) e.length) =
      (s.at_ t).startLoad (imgType (s.imageBytes (r.arg 0) e.length)) rs := State.loadStart_planes htyp hrs harmed
  refine ⟨_, (exec_imgLoad_starts h he hslot hstop hunc).trans (congrArg _ ((if_neg (not_not.mpr hstatus)).trans hload)), ?_⟩
  exact State.startLoad_planes (s := s.at_ t) h.1 _ rs

theorem imgLoad_ends {d : List Nat} (h : s.runs t 0x12 2 r) (he : s.slotImage (r.arg 0) = some e) (hslot : r.arg 0 < 8)
    (hplanes : s.fls.ctxLoad = false) (hnodup : (r.dest.map (·.1)).Nodup)
    (hd : s.opened (s.imageBytes (r.arg 0) e.length) = some d) : Completes (.imgLoad t env) s fun u =>
      s.posts u r (if ∀ x ∈ r.dest, s.stillOwn x = true then stOK else stBADARG) anyResult ∧
      (∀ x ∈ r.dest, u.voile x.1 = if s.stillOwn x then planeOf d (r.arg 0) x.2.1 else Plane.empty) ∧
      u.cfg.act = s.cfg.act := by
  let v := (s.at_ t).planesLoaded d (r.arg 0) r.dest
  let st := if ∀ x ∈ r.dest, s.stillOwn x = true then stOK else stBADARG
  have hst : st < 256 := by unfold st; split <;> decide
  obtain ⟨hfls, hact⟩ := (s.at_ t).planesLoaded_keeps d (r.arg 0) r.dest
  obtain ⟨-, -, hcfg⟩ := v.endOpen_keeps st
  refine ⟨_, ((exec_imgLoad_goesOn h he hslot hplanes).1 d hd).trans (congrArg _ (State.endLoad_eq d (r.arg 0) r.dest)),
    State.endOpen_posts (v := v) h.1 (State.seqOf_congr hfls) hst, fun x hx => ?_, (congrArg Cfg.act hcfg).trans hact⟩
  exact (congrFun (State.voile_congr (congrArg Cfg.voile hcfg)) x.1).trans
    ((s.at_ t).planesLoaded_voile d (r.arg 0) hnodup hx)

theorem imgLoad_fails (h : s.runs t 0x12 2 r) (he : s.slotImage (r.arg 0) = some e) (hslot : r.arg 0 < 8)
    (hplanes : s.fls.ctxLoad = false) (hnone : s.opened (s.imageBytes (r.arg 0) e.length) = none) :
    Completes (.imgLoad t env) s fun u => s.posts u r stSIGFAIL anyResult ∧
      (∀ x ∈ r.dest, u.voile x.1 = Plane.empty) ∧ u.cfg.act = s.cfg.act := by
  let v := (s.at_ t).failLoad (imgType (s.imageBytes (r.arg 0) e.length)) r.dest
  obtain ⟨hfls, hact, hempty⟩ := (s.at_ t).failLoad_planes (imgType (s.imageBytes (r.arg 0) e.length)) r.dest
  obtain ⟨-, -, hcfg⟩ := v.endOpen_keeps stSIGFAIL
  refine ⟨_, (exec_imgLoad_goesOn h he hslot hplanes).2 hnone,
    State.endOpen_posts (v := v) h.1 (State.seqOf_congr hfls) (by decide), fun x hx => ?_, (congrArg Cfg.act hcfg).trans hact⟩
  exact (congrFun (State.voile_congr (congrArg Cfg.voile hcfg)) x.1).trans (hempty x hx)

end

/-- Settles O38: an install empties its slot before it writes and fills it once all is checked, a select makes its image
the newest, and a load fills the planes that are still its own. -/
theorem images : Obligations.Images := fun _ _ _ _ =>
  ⟨fun h hblocks => ⟨fun hargs => imgInstall_asks h hargs hblocks, fun hargs => imgInstall_refused h hargs⟩,
    fun h hchunk hslot => ⟨fun hhead => imgInstall_badHead h hchunk hhead,
      fun hhead hlen htyp hmore => imgInstall_empties h hchunk hslot hhead hlen htyp hmore⟩,
    fun _ h hlast hslot hlen hhead hblocks hbad => imgInstall_ends h hlast hslot hlen hhead hblocks hbad,
    fun h => ⟨fun _ he hslot htyp hat hstop hclass hunc =>
        ⟨fun hbody => imgSelect_selects h he hslot htyp hstop hclass hunc hat hbody,
          fun hbody => imgSelect_bad h he hslot htyp hstop hclass hunc hbody⟩,
      fun hnone => imgSelect_none h hnone⟩,
    fun _ he hslot => ⟨fun h hstop hunc => ⟨fun hstatus => imgLoad_refused h he hslot hstop hunc hstatus,
        fun _ hstatus htyp hrs harmed => imgLoad_starts h he hslot hstop hunc hstatus htyp hrs harmed⟩,
      fun h hplanes hnodup => ⟨fun _ hd => imgLoad_ends h he hslot hplanes hnodup hd,
        fun hnone => imgLoad_fails h he hslot hplanes hnone⟩⟩⟩

end Sys2Proof.Machine
